-- ==== Sys2Proof/Word.lean ====
section
/-!
DEFINITION. The word types of the device: bytes, half words, register words and 64-bit quantities (R4, R5, R8).
-/
namespace Sys2Proof

/-- A byte. -/
abbrev Byte := BitVec 8
/-- A 16-bit field. -/
abbrev Half := BitVec 16
/-- A register word (R8). -/
abbrev Word := BitVec 32
/-- A 64-bit quantity: BEAT_CNT, stamps, scan registers. -/
abbrev DWord := BitVec 64

end Sys2Proof
end

