-- ==== Sys2Proof/Syntax.lean ====
section
/-!
DEFINITION. The commands the device takes from outside and the acts of its own engines, one constructor a row of the
table of operations and events, with the operands each carries: what a host writes, what arrives on a wire, what a
monitor measured.
-/
namespace Sys2Proof

/-- The link that carries an Octah request (R421, PATH of R444: 0, 1, 2). -/
inductive Link where
  | pcie | qspi | eth
deriving DecidableEq, Repr

/-- A host path: each has its own latches (R12, R50), its own error record and its own responses (R421). An Octah
register access goes by the path of its session (R440). -/
inductive HostPath where
  | pcie
  | qspi
  | octah (link : Link) (session : Word)
deriving DecidableEq, Repr

/-- Where an Octah request came from, and so where its response goes (R423, R428). -/
inductive ReqSource where
  /-- slot `n` of the command window, over PCI Express or quad-SPI -/
  | slot (link : Link) (n : Nat)
  /-- an Ethernet datagram from an address and a UDP port -/
  | eth (addr : List Byte) (port : Nat)
  /-- in the standby: a HOST record of the owner's input raft (R388) -/
  | mirror
deriving DecidableEq, Repr

/-- A register field of a scan instruction: g0 to g31 (R156). -/
abbrev SReg := BitVec 5

/-- An Octah request: its source and its packet as received (R429, R430). -/
structure OctahReq where
  /-- where it came from -/
  src : ReqSource
  /-- header, payload with padding, trailer -/
  packet : List Byte
deriving DecidableEq, Repr

/-- The 26 engines (R17). -/
inductive Engine where
  | sc (n : Nat) | se (n : Nat) | le (n : Nat) | de | be (n : Nat) | te | me | ke
deriving DecidableEq, Repr

/-- The areas of the SRAM (R18, R44); of the dispatch area, a channel's cells in the plan table and the candidate plan are
told apart (R237); and of the LPDDR4X, the model-build copy (R233) and the staged update image (R42). -/
inductive MemArea where
  | programCode | programData | loopState | dispatchModel | planTable (ch : Nat) | candidate | tally | system | metering | raft
  | modelCopy | staged
deriving DecidableEq, Repr

/-- A fault as its detector reports it: class of R42, source block, details; an uncorrectable SRAM error names its area
(R44), which gives its source. -/
structure FaultReport where
  /-- class 1 to 12 -/
  cls : Nat
  /-- BLK_ID.TYPE of the source block -/
  srcType : Nat
  /-- BLK_ID.INST of the source block -/
  srcInst : Nat
  /-- class detail -/
  info0 : Word
  /-- class detail -/
  info1 : Word
  /-- the area, for classes SRAM_UE and DRAM_ECC -/
  area : Option MemArea
deriving DecidableEq, Repr

/-- A received Announce message, by its fields (R89, R91). -/
structure PtpAnnounce where
  /-- grandmasterIdentity, 8 octets -/
  gmId : List Byte
  priority1 : Nat
  /-- clockClass, clockAccuracy, offsetScaledLogVariance -/
  quality : Nat × Nat × Nat
  priority2 : Nat
  stepsRemoved : Nat
  /-- sourcePortIdentity: clockIdentity and portNumber -/
  source : List Byte × Nat
  /-- currentUtcOffset -/
  utcOffset : Int
  /-- currentUtcOffsetValid, leap61, leap59 -/
  utcValid : Bool
  leap61 : Bool
  leap59 : Bool
  /-- an ALTERNATE_TIME_OFFSET_INDICATOR TLV: its currentOffset -/
  altOffset : Option Int
deriving DecidableEq, Repr

/-- A received PTP event or general message: port, instance (base), sequenceId, source identity, twoStepFlag, the
message's origin, receive or precise timestamp in ns, its correctionField in ns, and the device-time stamp of its
arrival in units of 0.25 ns of the beat (R77, R93). -/
structure PtpMsg where
  port : Nat
  base : Nat
  seq : Nat
  source : List Byte
  twoStep : Bool
  stampNs : Nat
  corr : Rat
  rxQ : Nat
deriving DecidableEq, Repr

/-- A frame received on an Ethernet port, as its first layer sees it (R427): the port, whether it came without errors, the
VLAN identifier of its tag, and its PRP trailer: source, sequence number, LAN (0 A, 1 B). -/
structure EthFrame where
  port : Nat
  good : Bool
  vid : Option Nat
  prp : Option (List Byte × Nat × Nat)
deriving DecidableEq, Repr

/-- An Octah datagram, or a fragment of one: source address and UDP port, identification, byte offset in the datagram of
8 header bytes and packet, whether more fragments follow, and the bytes. -/
structure EthFragment where
  addr : List Byte
  udp : Nat
  ident : Nat
  ofs : Nat
  more : Bool
  data : List Byte
deriving DecidableEq, Repr

/-- How a quad-SPI READ ended: after all words, early by CS_N, or after 1,024 bytes without the marker (R425). -/
inductive QspiEnd where
  | full | early | noMarker
deriving DecidableEq, Repr

/-- A supply that leaves or returns to its range while VIN_MAIN holds (R527): VIN_BUS, VIN_AFE, VIO bank 1 to 4. -/
inductive Supply where
  | vinBus | vinAfe | vio (k : Nat)
deriving DecidableEq, Repr

/-- What the device finds at a beat boundary: the LIO levels sampled, the ARB_IN level, and the voltages measured. -/
structure BoundaryEnv where
  /-- levels of LIO0–LIO47 at their balls, bit n for line n -/
  lio : Nat
  /-- ARB_IN -/
  arbIn : Bool
  /-- VHOLD in mV -/
  vholdMv : Nat
  /-- VBAT in mV -/
  vbatMv : Nat
  /-- AFE die temperature, REAL32 °C (R309) -/
  afeTemp : Word
deriving DecidableEq, Repr

/-- A bus frame (R250, R255). -/
structure BusFrame where
  ide : Bool
  ident : Nat
  fdf : Bool
  brs : Bool
  esi : Bool
  rtr : Bool
  dlc : Nat
  data : List Byte
deriving DecidableEq, Repr

/-- The errors of ISO 11898-1 a controller detects, and the recessive res bit after FDF (R250). -/
inductive BusErr where
  | bit | stuff | form | ack | crc | res
deriving DecidableEq, Repr


/-- What a unit of a pair learns of its partner over the mirror link beside the fields of the heartbeat: its SAFETY mode is
NORMAL and no raft was late there in the last 16 beats (R407), a base other than PARTNER is LOCKED (R98), a program has a
suspended cycle (R396), its staged package has the digest of this unit's (R143), and the boundary agreed for the timing
role with whether this unit then holds it (R98). -/
structure PeerReport where
  normal : Bool
  raftOk : Bool
  locked : Bool
  suspended : Bool
  staged : Bool
  role : Option (Nat × Bool)
deriving DecidableEq, Repr

/-- The CONTROL messages of the mirror link (R386). -/
inductive Control where
  /-- the exchange beat confirmed (R145) -/
  | exchangeConfirm (beat : Nat)
  /-- the candidate's digest, 32 bytes, and whether the verdict is VERIFIED (R240) -/
  | candidateDigest (digest : List Byte) (verified : Bool)
  | joinRequest
  /-- join ready, with the owner's programs in RUN -/
  | joinReady (run : Nat)
  | handoverNotice (h : Nat)
  | blockResend (region block : Nat)
deriving DecidableEq, Repr

/-- The commands: one constructor a row of the table of operations and events. -/
inductive Instr where
  /-- `REGISTER_WRITE` (R10). A host write to a register field with no behaviour of its own stores the value under its access type, refusing bad widths, protected fields, out-of-range values and unlisted enumerations. -/
  | registerWrite (path : HostPath) (addr : Nat) (width : Nat) (value : Word)
  /-- `LOW_WORD_READ` (R12). A read of the low word of a 64-bit quantity latches its high word, or a wider group, for the host path that read it. -/
  | lowWordRead (path : HostPath) (addr : Nat)
  /-- `FLOG_DATA0_READ` (R50). A read of FLOG_DATA0 latches the whole selected fault-log entry for that host path. -/
  | flogData0Read (path : HostPath)
  /-- `FLOG_SEL_WRITE` (R50). A write of FLOG_SEL selects a fault-log entry and drops the path's latched entry. -/
  | flogSelWrite (path : HostPath) (value : Word)
  /-- `SOFT_RESET` (R31). A write of BLK_CTRL.SOFT_RESET resets the block's RW fields, events, errors and internal state, or is refused with STATE. -/
  | softReset (path : HostPath) (head : Nat) (value : Word)
  /-- `FREEZE` (R30). A write of BLK_CTRL.FREEZE freezes the block's RO registers at the next beat boundary. -/
  | freeze (path : HostPath) (head : Nat) (value : Word)
  /-- `FREEZE_EXPIRE` (R30). FREEZE clears itself 4,000 beats after it was set. -/
  | freezeExpire (head : Nat)
  /-- `BLOCK_ENABLE` (R29). A write of BLK_CTRL.ENABLE starts or stops a block under that block's own enable rules. -/
  | blockEnable (path : HostPath) (head : Nat) (value : Word)
  /-- `BUS_CHANNEL_ENABLE` (R254). A write of ENABLE to a field-bus channel checks the bit timing and the supply, then starts bus integration, or stops the channel. -/
  | busChannelEnable (path : HostPath) (ch : Nat) (value : Word)
  /-- `METER_ENABLE` (R288). A write of METER ENABLE checks the channel and circuit setup and starts metering, or refuses with BAD_ARG. -/
  | meterEnable (path : HostPath) (value : Word)
  /-- `THERM_ENABLE` (R347). A write of THERM ENABLE checks the flow inputs and user tables and starts the thermal meters, or refuses with BAD_ARG. -/
  | thermEnable (path : HostPath) (value : Word)
  /-- `ERR_CLEAR` (R33). A write of ERR_CODE.CLEAR clears ERR_CODE and ERR_INFO. -/
  | errClear (path : HostPath) (head : Nat) (value : Word)
  /-- `PROT_KEY_WRITE` (R34). A write to PROT_KEY advances or breaks the unlock sequence that opens protected fields. -/
  | protKeyWrite (path : HostPath) (head : Nat) (value : Word)
  /-- `EVT_RAW_CLEAR` (R36). A W1C write to EVT_RAW clears event bits and resends the MSI-X message if EVT_PEND stays non-zero. -/
  | evtRawClear (path : HostPath) (head : Nat) (value : Word)
  /-- `EVT_MASK_WRITE` (R36). A write to EVT_MASK changes EVT_PEND and sends the MSI-X message if EVT_PEND is non-zero. -/
  | evtMaskWrite (path : HostPath) (head : Nat) (value : Word)
  /-- `FAULT_DETECTED` (R40). A fault detected by hardware is recorded or merged in the fault log, and its class reaction is applied, up to fail-silent. -/
  | faultDetected (faults : List FaultReport)
  /-- `ENGINE_WATCHDOG_EXPIRE` (R42). An engine's watchdog that is not serviced within a beat expires and raises a WATCHDOG fault. -/
  | engineWatchdogExpire (engine : Engine) (pairId : Bool) (crcOk : Bool) (partsOk : Bool)
  /-- `AUTO_RESTART` (R41). With AUTO_RESTART set and 4,000 beats passed since fail-silent, the block performs a warm start by itself. -/
  | autoRestart (pairId : Bool) (crcOk : Bool) (partsOk : Bool)
  /-- `SAFETY_CTRL_WRITE` (R41). A write of SAFETY_CTRL.AUTO_RESTART while silent and past 4,000 beats starts the warm start at once. -/
  | safetyCtrlWrite (path : HostPath) (value : Word) (pairId : Bool) (crcOk : Bool) (partsOk : Bool)
  /-- `BEAT_BOUNDARY` (R59). At each beat boundary the previous commit takes effect, inputs are sampled, SYNC is launched, and BEAT_CNT advances. -/
  | beatBoundary (env : BoundaryEnv)
  /-- `P0_LATCH` (R55). In P0 the device sets the Tally hold, applies queued host writes, copies inputs into due I sections, snapshots the plan and releases the hold. -/
  | p0Latch (ofs : Nat)
  /-- `P1_COMPUTE` (R57). In P1 the scan engines run due program slices and the loop engines evaluate due loops. -/
  | p1Compute (hung : List Nat)
  /-- `P2_COMMIT` (R58). In P2 the engines post outputs to the output gate, which compares lockstep copies and checks the release twice. -/
  | p2Commit (ofs : Nat)
  /-- `P3_RAFT` (R71). In P3 digests and the heartbeat are sent, the state raft streams, and multi-beat program slices run. -/
  | p3Raft
  /-- `LATCH_LATE` (R56). A latch not complete at 25 µs delays P1, sets LATCH_LATE and counts it. -/
  | latchLate
  /-- `LATCH_TIMEOUT` (R56). A latch not complete at 100 µs raises a WATCHDOG fault, and the beat's work and commit are withheld. -/
  | latchTimeout
  /-- `LOOP_LATE` (R66). Due loops left unevaluated at 200 µs keep their previous output, and LOOP_LATE is set. -/
  | loopLate
  /-- `PROGRAM_DEADLINE` (R64). A program cycle not finished at its deadline posts nothing and is handled under its overrun policy. -/
  | programDeadline (slot : Nat)
  /-- `FRAME_RUN` (R52). A write of FRAME_CTRL.RUN = 1 arms the beat, which starts at the next boundary. -/
  | frameRun (path : HostPath) (value : Word)
  /-- `FRAME_STOP` (R52). A write of FRAME_CTRL.RUN = 0 stops process work at the next boundary, or returns ARMED to STOPPED at once. -/
  | frameStop (path : HostPath) (value : Word)
  /-- `CLR_MAX` (R52). A write of FRAME_CTRL.CLR_MAX zeroes the peak registers at the next boundary. -/
  | clrMax (path : HostPath) (value : Word)
  /-- `BEAT_ALARM_ARM` (R72). A write of BEAT_ALARM_HI arms the beat alarm, which fires at once if the beat has already begun. -/
  | beatAlarmArm (path : HostPath) (value : Word)
  /-- `BEAT_MATCH` (R72). The armed beat alarm fires at its beat's boundary, sets BEAT_MATCH and disarms. -/
  | beatMatch
  /-- `REVERT_HOLD_EXPIRE` (R86). A base earlier in ORDER that has stayed LOCKED for REVERT_HOLD seconds replaces the selected base. -/
  | revertHoldExpire
  /-- `PTP_SYNC` (R89). A received PTP Sync message is timestamped and gives an offset sample to its base. -/
  | ptpSync (m : PtpMsg)
  /-- `PTP_FOLLOW_UP` (R89). A received PTP Follow_Up completes a two-step Sync and gives the offset sample. -/
  | ptpFollowUp (m : PtpMsg)
  /-- `PTP_DELAY_REQ` (R89). A received Delay_Req is answered with a Delay_Resp by an instance in MASTER. -/
  | ptpDelayReq (m : PtpMsg)
  /-- `PTP_DELAY_RESP` (R89). A received Delay_Resp updates the mean path delay of the instance. -/
  | ptpDelayResp (m : PtpMsg)
  /-- `PTP_PDELAY_REQ` (R89). A received Pdelay_Req is answered with Pdelay_Resp and Pdelay_Resp_Follow_Up. -/
  | ptpPdelayReq (m : PtpMsg)
  /-- `PTP_PDELAY_RESP` (R89). A received Pdelay_Resp contributes to the peer delay measurement. -/
  | ptpPdelayResp (m : PtpMsg)
  /-- `PTP_PDELAY_RESP_FOLLOW_UP` (R89). A received Pdelay_Resp_Follow_Up completes the peer delay measurement. -/
  | ptpPdelayRespFollowUp (m : PtpMsg)
  /-- `PTP_ANNOUNCE` (R89). A received Announce feeds the best master clock algorithm and records TLVs such as the UTC offset. -/
  | ptpAnnounce (m : PtpMsg) (a : PtpAnnounce)
  /-- `PTP_MANAGEMENT` (R89). A received management message is not answered. -/
  | ptpManagement (m : PtpMsg)
  /-- `PTP_MASTER_TX` (R92). At each sync interval an instance in MASTER sends Sync, and Announce, from device time. -/
  | ptpMasterTx (base : Nat) (port : Nat)
  /-- `PTP_SOURCE_LOST` (R80). No Sync for three sync intervals puts a LOCKED PTP base in HOLDOVER. -/
  | ptpSourceLost (base : Nat)
  /-- `PPS_IN_EDGE` (R104). A rising edge at PPS_IN is stamped and gives a whole-second sample to the PPS_IN base. -/
  | ppsInEdge (q : Nat)
  /-- `PPS_IN_LOST` (R80). No PPS_IN edge within 1,000,100,000 ns puts the PPS_IN base in HOLDOVER and sets PPS_MISS. -/
  | ppsInLost
  /-- `PPS_OUT_PULSE` (R105). At each whole second of device time PPS_OUT gives a pulse of WIDTH_US, and TCLK_OUT is aligned. -/
  | ppsOutPulse
  /-- `TB_CFG_WRITE` (R88). A write of TB_CFG changes a base's source and PTP options, refused for the selected base or one that would leave no PARTNER base. -/
  | tbCfgWrite (path : HostPath) (base : Nat) (value : Word)
  /-- `TIME_READ` (R109). Returns device time, BEAT_CNT, DT_STATUS and the base offsets. -/
  | timeRead (req : OctahReq)
  /-- `TIME_SET` (R109). Sets device time while FRAME is STOPPED and makes DT_STATUS.VALID 1. -/
  | timeSet (req : OctahReq)
  /-- `TOD_SET` (R109). Gives the seconds count that applies at the next PPS_IN edge. -/
  | todSet (req : OctahReq)
  /-- `BASE_REACQUIRE` (R83). Puts a LOCKED or HOLDOVER base in ACQUIRING so that it steps to its source. -/
  | baseReacquire (req : OctahReq)
  /-- `PTP_DATASET_READ` (R109). Returns a PTP data set of a base with source PTP. -/
  | ptpDatasetRead (req : OctahReq)
  /-- `UTC_SET` (R109). Sets the UTC offset and leap flags when no LOCKED PTP base supplies them. -/
  | utcSet (req : OctahReq)
  /-- `CLOCK_LOSS` (R107). Loss of the 25 MHz reference or PLL lock raises a CLOCK fault, switches to the fallback oscillator and puts every base in FAULT. -/
  | clockLoss
  /-- `RTC_MEASURE` (R108). A write of RTC_CFG.MEASURE = 1 starts a measurement of the 32.768 kHz crystal over GATE_S seconds. -/
  | rtcMeasure (path : HostPath) (value : Word)
  /-- `RTC_MEASURE_DONE` (R108). At the end of the gate the TE writes RTC_ERR, clears MEASURE and sets RTC_DONE. -/
  | rtcMeasureDone (err : Word)
  /-- `RTC_SNAPSHOT` (R108). With SNAP_EN at 1, at each whole second the tick count and device time are captured as one pair. -/
  | rtcSnapshot
  /-- `TIMING` (R95). A mirror-link timing word is stamped on arrival and gives the PARTNER base its sample. -/
  | timing (crcOk : Bool) (t1 : Rat) (t2 : Rat) (t3 : Rat) (t4 : Rat)
  /-- `FOLLOW_DUE` (R272). At 30 µs of a round's first beat the FOLLOW bus frame becomes pending with the timing role's SOF_OFFSET. -/
  | followDue (ch : Nat)
  /-- `FOLLOW_VALUE` (R101). A mirror-link FOLLOW_VALUE message gives the other unit the SOF_OFFSET values for its FOLLOW frames. -/
  | followValue (crcOk : Bool) (values : List (Nat × Int))
  /-- `PROG_LIST` (R149). Returns mode, cause, engine, period and overruns of all 32 program slots. -/
  | progList (req : OctahReq)
  /-- `PROG_START` (R125). Starts programs in STOP at their first scheduled start with the named initialisation. -/
  | progStart (req : OctahReq)
  /-- `PROG_STOP` (R125). Stops programs at the next scheduled start, or with ABORT at the end of the acceptance beat. -/
  | progStop (req : OctahReq)
  /-- `PROG_HOLD` (R125). Puts running programs in HOLD at the next scheduled start. -/
  | progHold (req : OctahReq)
  /-- `PROG_RESUME` (R130). Returns held programs to RUN, continuing a suspended cycle from the next scheduled start. -/
  | progResume (req : OctahReq)
  /-- `PROG_STEP` (R130). Runs one cycle of a held program from the next scheduled start, then returns to HOLD. -/
  | progStep (req : OctahReq)
  /-- `BREAK_SET` (R128). Sets a breakpoint at a code offset of a program. -/
  | breakSet (req : OctahReq)
  /-- `BREAK_CLEAR` (R149). Clears one or all breakpoints of a program. -/
  | breakClear (req : OctahReq)
  /-- `FORCE_SET` (R137). Sets or replaces a force on an I or Q scalar, taking effect from the next beat. -/
  | forceSet (req : OctahReq)
  /-- `FORCE_CLEAR` (R139). Releases one or all forces at the end of the beat. -/
  | forceClear (req : OctahReq)
  /-- `FORCE_LIST` (R149). Returns consecutive force-table entries. -/
  | forceList (req : OctahReq)
  /-- `SYM_READ` (R122). Returns the values of named symbols taken together in P2 of one beat. -/
  | symRead (req : OctahReq)
  /-- `SYM_WRITE` (R120). Queues values for writable M scalars, applied in P0 in arrival order. -/
  | symWrite (req : OctahReq)
  /-- `PROCESS_IMAGE_WRITE` (R120). A host window write to the shared part of M is queued for P0, or refused. -/
  | processImageWrite (path : HostPath) (addr : Nat) (value : Word)
  /-- `SCAN_CTRL_WRITE` (R128). A write of SCAN_CTRL sets the window-write and debug enables, and clearing DEBUG_EN clears every breakpoint. -/
  | scanCtrlWrite (path : HostPath) (value : Word)
  /-- `STAGE_OPEN` (R143). Opens the device-wide staging session for an exchange package. -/
  | stageOpen (req : OctahReq)
  /-- `STAGE_WRITE` (R143). Writes package data at a 256-byte offset, copied to the standby in a pair. -/
  | stageWrite (req : OctahReq)
  /-- `STAGE_CHECK` (R143). Verifies the package digest, base digest, images and migration list, and makes the exchange READY. -/
  | stageCheck (req : OctahReq)
  /-- `EXCHANGE` (R144). Arms an exchange of a program set at a beat b that is a scheduled start of every affected schedule. -/
  | exchange (req : OctahReq)
  /-- `STAGE_DISCARD` (R144). Closes the staging session and cancels an armed exchange before the end of beat b − 2. -/
  | stageDiscard (req : OctahReq)
  /-- `EXCHANGE_STATUS` (R149). Returns the exchange state, beat b and the orphaned force IDs. -/
  | exchangeStatus (req : OctahReq)
  /-- `EXCHANGE_MIGRATE` (R146). In P3 of beat b − 1 the SC migrates variables and swaps the code halves, or the exchange fails with its cause. -/
  | exchangeMigrate
  /-- `LIO_PULSE_EDGE` (R151). A filtered edge on a pulse input increments its forward or reverse counter and stamps it. -/
  | lioPulseEdge (line : Nat) (rising : Bool) (prevNs : Nat) (dir : Bool) (q : Nat)
  /-- `NOP` (R162). Does nothing for 1 cycle. -/
  | opNop (slot : Nat)
  /-- `END` (R165). Ends the program cycle, whose outputs are posted at the deadline. -/
  | opEnd (slot : Nat)
  /-- `RET` (R165). Returns to the offset on top of the return stack, or traps on an empty stack. -/
  | opRet (slot : Nat)
  /-- `TRAP` (R170). Raises the USER trap with an immediate detail. -/
  | opTrap (slot : Nat) (detail : Byte)
  /-- `ILLEGAL_INSTRUCTION` (R157). A word that strict decoding refuses raises the ILLEGAL trap. -/
  | opIllegalInstruction (slot : Nat) (word : Word)
  /-- `ADD` (R162). Integer add of two registers. -/
  | opAdd (slot : Nat) (w : Bool) (d : SReg) (a : SReg) (b : SReg)
  /-- `SUB` (R162). Integer subtract of two registers. -/
  | opSub (slot : Nat) (w : Bool) (d : SReg) (a : SReg) (b : SReg)
  /-- `MUL` (R162). Integer multiply, low half. -/
  | opMul (slot : Nat) (w : Bool) (d : SReg) (a : SReg) (b : SReg)
  /-- `DIV` (R163). Integer divide truncated toward zero, trapping on a zero divisor. -/
  | opDiv (slot : Nat) (w : Bool) (d : SReg) (a : SReg) (b : SReg)
  /-- `REM` (R163). Integer remainder with the sign of the dividend, trapping on a zero divisor. -/
  | opRem (slot : Nat) (w : Bool) (d : SReg) (a : SReg) (b : SReg)
  /-- `ABS` (R162). Integer absolute value. -/
  | opAbs (slot : Nat) (w : Bool) (d : SReg) (a : SReg)
  /-- `MIN` (R162). Signed integer minimum. -/
  | opMin (slot : Nat) (w : Bool) (d : SReg) (a : SReg) (b : SReg)
  /-- `MAX` (R162). Signed integer maximum. -/
  | opMax (slot : Nat) (w : Bool) (d : SReg) (a : SReg) (b : SReg)
  /-- `AND` (R162). Bitwise AND of two registers. -/
  | opAnd (slot : Nat) (w : Bool) (d : SReg) (a : SReg) (b : SReg)
  /-- `OR` (R162). Bitwise OR of two registers. -/
  | opOr (slot : Nat) (w : Bool) (d : SReg) (a : SReg) (b : SReg)
  /-- `XOR` (R162). Bitwise XOR of two registers. -/
  | opXor (slot : Nat) (w : Bool) (d : SReg) (a : SReg) (b : SReg)
  /-- `NOT` (R162). Bitwise NOT of a register. -/
  | opNot (slot : Nat) (w : Bool) (d : SReg) (a : SReg)
  /-- `SHL` (R162). Shift left by a count taken modulo the width. -/
  | opShl (slot : Nat) (w : Bool) (d : SReg) (a : SReg) (b : SReg)
  /-- `SHR` (R162). Logical shift right. -/
  | opShr (slot : Nat) (w : Bool) (d : SReg) (a : SReg) (b : SReg)
  /-- `SAR` (R162). Arithmetic shift right. -/
  | opSar (slot : Nat) (w : Bool) (d : SReg) (a : SReg) (b : SReg)
  /-- `SEL` (R162). Selects one of two registers by a third. -/
  | opSel (slot : Nat) (d : SReg) (a : SReg) (b : SReg) (c : SReg)
  /-- `FADD` (R164). Floating add. -/
  | opFadd (slot : Nat) (w : Bool) (d : SReg) (a : SReg) (b : SReg)
  /-- `FSUB` (R164). Floating subtract. -/
  | opFsub (slot : Nat) (w : Bool) (d : SReg) (a : SReg) (b : SReg)
  /-- `FMUL` (R164). Floating multiply. -/
  | opFmul (slot : Nat) (w : Bool) (d : SReg) (a : SReg) (b : SReg)
  /-- `FDIV` (R164). Floating divide. -/
  | opFdiv (slot : Nat) (w : Bool) (d : SReg) (a : SReg) (b : SReg)
  /-- `FMA` (R164). Fused multiply-add with one rounding. -/
  | opFma (slot : Nat) (w : Bool) (d : SReg) (a : SReg) (b : SReg) (c : SReg)
  /-- `FNEG` (R164). Inverts the sign of a float. -/
  | opFneg (slot : Nat) (w : Bool) (d : SReg) (a : SReg)
  /-- `FABS` (R164). Clears the sign of a float. -/
  | opFabs (slot : Nat) (w : Bool) (d : SReg) (a : SReg)
  /-- `FSQRT` (R164). Floating square root. -/
  | opFsqrt (slot : Nat) (w : Bool) (d : SReg) (a : SReg)
  /-- `FMIN` (R164). Floating minimum under minimumNumber. -/
  | opFmin (slot : Nat) (w : Bool) (d : SReg) (a : SReg) (b : SReg)
  /-- `FMAX` (R164). Floating maximum under maximumNumber. -/
  | opFmax (slot : Nat) (w : Bool) (d : SReg) (a : SReg) (b : SReg)
  /-- `CEQ` (R162). Integer equality compare. -/
  | opCeq (slot : Nat) (w : Bool) (d : SReg) (a : SReg) (b : SReg)
  /-- `CNE` (R162). Integer inequality compare. -/
  | opCne (slot : Nat) (w : Bool) (d : SReg) (a : SReg) (b : SReg)
  /-- `CLT` (R162). Signed less-than compare. -/
  | opClt (slot : Nat) (w : Bool) (d : SReg) (a : SReg) (b : SReg)
  /-- `CLE` (R162). Signed less-or-equal compare. -/
  | opCle (slot : Nat) (w : Bool) (d : SReg) (a : SReg) (b : SReg)
  /-- `FCEQ` (R164). Floating equality compare, 0 for a NaN. -/
  | opFceq (slot : Nat) (w : Bool) (d : SReg) (a : SReg) (b : SReg)
  /-- `FCLT` (R164). Floating less-than compare. -/
  | opFclt (slot : Nat) (w : Bool) (d : SReg) (a : SReg) (b : SReg)
  /-- `FCLE` (R164). Floating less-or-equal compare. -/
  | opFcle (slot : Nat) (w : Bool) (d : SReg) (a : SReg) (b : SReg)
  /-- `FCUN` (R162). Tests whether either operand is a NaN. -/
  | opFcun (slot : Nat) (w : Bool) (d : SReg) (a : SReg) (b : SReg)
  /-- `ITOF` (R162). Converts an integer to a float. -/
  | opItof (slot : Nat) (w : Bool) (dbl : Bool) (d : SReg) (a : SReg)
  /-- `FTOI` (R164). Converts a float to an integer, truncated and saturating. -/
  | opFtoi (slot : Nat) (w : Bool) (dbl : Bool) (d : SReg) (a : SReg)
  /-- `FRND` (R164). Converts a float to an integer, rounded to nearest even. -/
  | opFrnd (slot : Nat) (w : Bool) (dbl : Bool) (d : SReg) (a : SReg)
  /-- `SATW` (R162). Saturates an INT64 to INT32. -/
  | opSatw (slot : Nat) (d : SReg) (a : SReg)
  /-- `FWID` (R162). Widens REAL32 to REAL64. -/
  | opFwid (slot : Nat) (d : SReg) (a : SReg)
  /-- `FNAR` (R162). Narrows REAL64 to REAL32. -/
  | opFnar (slot : Nat) (d : SReg) (a : SReg)
  /-- `ADDIW` (R547). Adds a sign-extended immediate as INT32. -/
  | opAddiw (slot : Nat) (d : SReg) (a : SReg) (imm : BitVec 16)
  /-- `ADDIL` (R547). Adds a sign-extended immediate as INT64. -/
  | opAddil (slot : Nat) (d : SReg) (a : SReg) (imm : BitVec 16)
  /-- `ANDI` (R547). ANDs a zero-extended immediate. -/
  | opAndi (slot : Nat) (d : SReg) (a : SReg) (imm : BitVec 16)
  /-- `ORI` (R547). ORs a zero-extended immediate. -/
  | opOri (slot : Nat) (d : SReg) (a : SReg) (imm : BitVec 16)
  /-- `XORI` (R547). XORs a zero-extended immediate. -/
  | opXori (slot : Nat) (d : SReg) (a : SReg) (imm : BitVec 16)
  /-- `LUI` (R162). Loads an immediate times 65,536. -/
  | opLui (slot : Nat) (d : SReg) (imm : BitVec 16)
  /-- `BTST` (R162). Tests a bit of a register. -/
  | opBtst (slot : Nat) (d : SReg) (a : SReg) (n : BitVec 6)
  /-- `BSET` (R162). Sets a bit of a register. -/
  | opBset (slot : Nat) (d : SReg) (a : SReg) (n : BitVec 6)
  /-- `BCLR` (R162). Clears a bit of a register. -/
  | opBclr (slot : Nat) (d : SReg) (a : SReg) (n : BitVec 6)
  /-- `LDB` (R159). Loads a BOOL from a memory area, normalised to 0 or 1. -/
  | opLdb (slot : Nat) (d : SReg) (a : SReg) (area : BitVec 3) (disp : BitVec 13)
  /-- `LDW` (R159). Loads a sign-extended word from a memory area. -/
  | opLdw (slot : Nat) (d : SReg) (a : SReg) (area : BitVec 3) (disp : BitVec 13)
  /-- `LDD` (R159). Loads a double word from a memory area. -/
  | opLdd (slot : Nat) (d : SReg) (a : SReg) (area : BitVec 3) (disp : BitVec 13)
  /-- `STB` (R159). Stores a BOOL to a writable area. -/
  | opStb (slot : Nat) (d : SReg) (a : SReg) (area : BitVec 3) (disp : BitVec 13)
  /-- `STW` (R159). Stores a word to a writable area. -/
  | opStw (slot : Nat) (d : SReg) (a : SReg) (area : BitVec 3) (disp : BitVec 13)
  /-- `STD` (R159). Stores a double word to a writable area. -/
  | opStd (slot : Nat) (d : SReg) (a : SReg) (area : BitVec 3) (disp : BitVec 13)
  /-- `STFB` (R160). Force-aware BOOL store to Q, leaving a forced variable unchanged. -/
  | opStfb (slot : Nat) (d : SReg) (a : SReg) (area : BitVec 3) (disp : BitVec 13)
  /-- `STFW` (R160). Force-aware word store to Q. -/
  | opStfw (slot : Nat) (d : SReg) (a : SReg) (area : BitVec 3) (disp : BitVec 13)
  /-- `STFD` (R160). Force-aware double-word store to Q. -/
  | opStfd (slot : Nat) (d : SReg) (a : SReg) (area : BitVec 3) (disp : BitVec 13)
  /-- `BR` (R165). Branches by a signed word offset. -/
  | opBr (slot : Nat) (ofs : BitVec 26)
  /-- `CALL` (R165). Pushes the return offset and branches, trapping at depth 16. -/
  | opCall (slot : Nat) (ofs : BitVec 26)
  /-- `BT` (R162). Branches if a register is non-zero. -/
  | opBt (slot : Nat) (d : SReg) (imm : BitVec 16)
  /-- `BF` (R162). Branches if a register is zero. -/
  | opBf (slot : Nat) (d : SReg) (imm : BitVec 16)
  /-- `SPR` (R168). Reads the current value of a plan channel from the cycle's snapshot. -/
  | opSpr (slot : Nat) (d : SReg) (a : SReg) (imm : BitVec 16)
  /-- `SPRA` (R168). Reads a plan channel's value some steps ahead. -/
  | opSpra (slot : Nat) (d : SReg) (a : SReg) (b : SReg)
  /-- `SPS` (R168). Reads a plan channel's status word. -/
  | opSps (slot : Nat) (d : SReg) (a : SReg) (imm : BitVec 16)
  /-- `LIN` (R169). Loads a word of a loop's L record. -/
  | opLin (slot : Nat) (d : SReg) (a : SReg) (imm : BitVec 16)
  /-- `LOUT` (R169). Stores a word of a loop's L record, trapping on loop-engine words. -/
  | opLout (slot : Nat) (d : SReg) (a : SReg) (imm : BitVec 16)
  /-- `TON` (R135). Evaluates an on-delay timer instance. -/
  | opTon (slot : Nat) (d : SReg) (a : SReg) (x : SReg) (vp : Bool) (rs : Bool) (num : BitVec 9)
  /-- `TOF` (R135). Evaluates an off-delay timer instance. -/
  | opTof (slot : Nat) (d : SReg) (a : SReg) (x : SReg) (vp : Bool) (rs : Bool) (num : BitVec 9)
  /-- `TP` (R135). Evaluates a pulse timer instance. -/
  | opTp (slot : Nat) (d : SReg) (a : SReg) (x : SReg) (vp : Bool) (rs : Bool) (num : BitVec 9)
  /-- `CTU` (R135). Evaluates an up counter instance. -/
  | opCtu (slot : Nat) (d : SReg) (a : SReg) (x : SReg) (vp : Bool) (rs : Bool) (num : BitVec 9)
  /-- `CTD` (R135). Evaluates a down counter instance. -/
  | opCtd (slot : Nat) (d : SReg) (a : SReg) (x : SReg) (vp : Bool) (rs : Bool) (num : BitVec 9)
  /-- `CTUD` (R135). Evaluates an up-down counter instance. -/
  | opCtud (slot : Nat) (d : SReg) (a : SReg) (x : SReg) (vp : Bool) (rs : Bool) (num : BitVec 9)
  /-- `R_TRIG` (R135). Evaluates a rising-edge detector instance. -/
  | opRTrig (slot : Nat) (d : SReg) (a : SReg) (x : SReg) (rs : Bool) (num : BitVec 9)
  /-- `F_TRIG` (R135). Evaluates a falling-edge detector instance. -/
  | opFTrig (slot : Nat) (d : SReg) (a : SReg) (x : SReg) (rs : Bool) (num : BitVec 9)
  /-- `LOOP_WINDOW_WRITE` (R200). A host write to a loop block word is queued for P0, or refused. -/
  | loopWindowWrite (path : HostPath) (addr : Nat) (value : Word)
  /-- `LOOP_LIST` (R204). Returns mode, flags and output of consecutive loops. -/
  | loopList (req : OctahReq)
  /-- `LOOP_READ` (R204). Returns a consistent 256-byte loop block. -/
  | loopRead (req : OctahReq)
  /-- `LOOP_MODE` (R192). Selects a loop's mode, applied in the next P0. -/
  | loopMode (req : OctahReq)
  /-- `LOOP_PARAM_SET` (R200). Sets several loop block words together, applied in the next P0. -/
  | loopParamSet (req : OctahReq)
  /-- `LOOP_CLEAR` (R204). Zeroes a loop's sticky flags, overflow and bad-measurement counts. -/
  | loopClear (req : OctahReq)
  /-- `DISP_STATUS` (R246). Returns the dispatch status words. -/
  | dispStatus (req : OctahReq)
  /-- `DISP_PARAM_SET` (R246). Sets solver parameters for the next solve. -/
  | dispParamSet (req : OctahReq)
  /-- `DISP_SCHED_SET` (R221). Sets automatic solve scheduling. -/
  | dispSchedSet (req : OctahReq)
  /-- `DISP_SOLVE` (R221). Schedules a single solve with start and cut-over beats. -/
  | dispSolve (req : OctahReq)
  /-- `DISP_ABORT` (R238). Abandons a solve or aborts a pending candidate up to beat c − 2. -/
  | dispAbort (req : OctahReq)
  /-- `DISP_DATA_WRITE` (R219). Queues host data values, opening or closing host data with FINAL. -/
  | dispDataWrite (req : OctahReq)
  /-- `DISP_DATA_READ` (R246). Returns applied host data values. -/
  | dispDataRead (req : OctahReq)
  /-- `PLAN_READ` (R246). Returns plan or candidate cells and the descriptor. -/
  | planRead (req : OctahReq)
  /-- `DISP_RESULT_READ` (R246). Returns entries of the solver's x, y or z vector. -/
  | dispResultRead (req : OctahReq)
  /-- `DISP_BIND_READ` (R246). Returns bindings and their last snapshot values. -/
  | dispBindRead (req : OctahReq)
  /-- `DISP_LOG_READ` (R247). Returns the records of the last 16 solves. -/
  | dispLogRead (req : OctahReq)
  /-- `SOLVE_START` (R222). At the start beat the binding snapshot is taken and the DE applies bindings, scales and begins iterating. -/
  | solveStart
  /-- `HOST_DATA_OPEN_EXPIRE` (R220). A solve deferred by open host data starts after 400 beats or at c − VERIFY_LEAD − 2. -/
  | hostDataOpenExpire
  /-- `SOLVE_END` (R226). Iterations end at a check or the budget; the DE writes the candidate and enters VERIFYING. -/
  | solveEnd (us : Nat)
  /-- `SOLVE_DEADLINE` (R222). At boundary c − VERIFY_LEAD the DE stops iterating and returns the best iterate, or ABANDONED. -/
  | solveDeadline (iters : Nat) (us : Nat)
  /-- `VERIFY_DONE` (R232). The SC completes verification of a candidate and gives its verdict and digest. -/
  | verifyDone (us : Nat)
  /-- `VERIFY_MISSED` (R233). A candidate not verified or agreed by boundary c − 2 gets verdict MISSED. -/
  | verifyMissed
  /-- `CUTOVER` (R236). At boundary c a VERIFIED candidate becomes the plan table, or the candidate is discarded. -/
  | cutover
  /-- `PLAN_STEP` (R235). The plan advances to its next step at a step boundary. -/
  | planStep
  /-- `PLAN_FALLBACK` (R236). At the boundary where the plan runs out every channel falls back to its safe value. -/
  | planFallback
  /-- `CANDIDATE_DIGEST` (R240). The owner's candidate digest arrives at the standby, which agrees or records a divergence and awaits a copy. -/
  | candidateDigest (crcOk : Bool) (digest : List Byte) (verified : Bool)
  /-- `BUS_FRAME_RX` (R258). A valid bus frame is written to its RX entry or shadow, twin-cancels, or is counted as unmatched, conflict or duplicate. -/
  | busFrameRx (ch : Nat) (f : BusFrame) (sofNs : Nat)
  /-- `TALLY_WINDOW_WRITE` (R261). A host write to HOST_CTRL of a Tally entry is queued for P0, or refused. -/
  | tallyWindowWrite (path : HostPath) (addr : Nat) (value : Word)
  /-- `SLOT_DUE` (R264). At its slot time a scheduled bus frame becomes pending behind the channel's earlier frames. -/
  | slotDue (ch : Nat) (round : Nat) (idx : Nat) (listenOnly : Bool)
  /-- `BUS_FRAME_TX_DONE` (R265). A successful transmission clears TX_FAIL and COLLIDE, stamps the entry and counts it. -/
  | busFrameTxDone (ch : Nat) (sofQ : Nat) (endNs : Nat) (loopNs : Nat)
  /-- `ARBITRATION_LOST` (R265). A frame that loses arbitration is retried or abandoned with ARB_LIMIT. -/
  | arbitrationLost (ch : Nat)
  /-- `BUS_ERROR` (R265). An error frame on an own frame counts an error retry, updates TEC and REC, and may abandon the frame or change error state. -/
  | busError (ch : Nat) (kind : BusErr) (collide : Bool) (dominant : Bool) (exempt : Bool)
  /-- `ALONE_DETECT` (R267). When ALONE_RUN reaches ALONE_COUNT the channel sets EVT_RAW.ALONE. -/
  | aloneDetect (ch : Nat)
  /-- `ROUND_CUTOFF` (R266). A frame that can no longer end by 240 µs of its round's last beat is abandoned with CUTOFF. -/
  | roundCutoff (ch : Nat) (ofs : Nat)
  /-- `BUS_INTEGRATION_DONE` (R254). After 11 recessive bits the enabled channel enters ERROR_ACTIVE. -/
  | busIntegrationDone (ch : Nat)
  /-- `BUS_RECOVERY_DONE` (R254). Completion of the bus-off recovery sequence returns the channel to ERROR_ACTIVE with zero counters. -/
  | busRecoveryDone (ch : Nat)
  /-- `TXD_TIMEOUT` (R251). The integrated transceiver's TXD dominant time-out releases the bus. -/
  | txdTimeout (ch : Nat)
  /-- `CLR_CNT` (R284). A write of FB_CTRL.CLR_CNT zeroes the channel counters except BUSOFF_CNT. -/
  | clrCnt (path : HostPath) (ch : Nat) (value : Word)
  /-- `BUS_STATUS` (R282). Returns a channel's status words. -/
  | busStatus (req : OctahReq)
  /-- `TALLY_READ` (R282). Returns consecutive Tally entries taken consistently in P2. -/
  | tallyRead (req : OctahReq)
  /-- `TALLY_WRITE` (R263). Writes a host-sourced TX entry's data, posted in the next beat. -/
  | tallyWrite (req : OctahReq)
  /-- `CATCH_READ` (R282). Returns and removes the oldest catch-all ring records. -/
  | catchRead (req : OctahReq)
  /-- `BUS_RECOVER` (R254). Starts bus-off recovery of a channel with AUTO_RECOVER 0. -/
  | busRecover (req : OctahReq)
  /-- `SCHED_READ` (R282). Returns a round record and its slot records. -/
  | schedRead (req : OctahReq)
  /-- `TALLY_FIND` (R282). Returns the Tally entry of a key. -/
  | tallyFind (req : OctahReq)
  /-- `AFE_SAMPLES` (R289). A beat's samples arrive over the AFE link and are calibrated, tracked for crossings and accumulated, or lost on a CRC failure. -/
  | afeSamples (crcOk : Bool) (codes : List (List Int)) (clips : List Nat)
  /-- `AFE_LINK_DEGRADE` (R316). After 40 consecutive failed beats accumulation stops and METER enters DEGRADED. -/
  | afeLinkDegrade
  /-- `AFE_LINK_RESUME` (R316). At the first quantum boundary after 4 good beats accumulation resumes and a METER_GAP record is written. -/
  | afeLinkResume
  /-- `NO_SYNC_TIMEOUT` (R294). No valid crossing within 1/42.5 s puts the channel in NO_SYNC with nominal cycle timing. -/
  | noSyncTimeout (ch : Nat)
  /-- `LATCH_PUBLISH` (R305). A circuit's result set is published in P0 of the beat after its quantum, under LATCH_SEQ. -/
  | latchPublish
  /-- `ENERGY_QUANTUM` (R302). At the end of each 1 ms quantum electrical and thermal energy and volume are booked to their registers. -/
  | energyQuantum (rtds : List (Rat × Bool))
  /-- `CAL_TAKE_EFFECT` (R310). An accepted electrical calibration change takes effect at a quantum boundary and is saved to Seam. -/
  | calTakeEffect
  /-- `METER_LATCH_READ` (R319). Returns a circuit's consistent result set. -/
  | meterLatchRead (req : OctahReq)
  /-- `METER_HARM_READ` (R319). Returns harmonic values of the last spectral window. -/
  | meterHarmRead (req : OctahReq)
  /-- `METER_EVENT_READ` (R319). Returns power-quality and gap records from the ring. -/
  | meterEventRead (req : OctahReq)
  /-- `METER_CAL_WRITE` (R310). Requests a user calibration change for a channel. -/
  | meterCalWrite (req : OctahReq)
  /-- `METER_CAL_RESTORE` (R310). Requests restoring factory calibration for named channels. -/
  | meterCalRestore (req : OctahReq)
  /-- `METER_CAL_READ` (R319). Returns factory, user and active calibration. -/
  | meterCalRead (req : OctahReq)
  /-- `METER_SETUP_SAVE` (R319). Writes the metering setup record and commands a Seam store. -/
  | meterSetupSave (req : OctahReq)
  /-- `METER_COPY_SET` (R306). Replaces the meter copy list from the next P0. -/
  | meterCopySet (req : OctahReq)
  /-- `METER_CAPTURE` (R319). Arms a sample capture into LPDDR4X from a start beat. -/
  | meterCapture (req : OctahReq)
  /-- `CAPTURE_DONE` (R319). A capture completes and sets CAPTURE_DONE. -/
  | captureDone
  /-- `METER_CAPTURE_READ` (R319). Returns captured samples of a channel. -/
  | meterCaptureRead (req : OctahReq)
  /-- `FLOW_TIMEOUT` (R327). No counted edge for THP_FLOW_TO seconds sets NO_FLOW and zero flow. -/
  | flowTimeout (meter : Nat)
  /-- `THERM_LATCH_PUBLISH` (R333). A thermal meter's results are published in P0 after its latch boundary. -/
  | thermLatchPublish
  /-- `THERM_CAL_EFFECT` (R335). An accepted RTD offset change takes effect at a quantum boundary and is saved to Seam. -/
  | thermCalEffect
  /-- `BILL_SAVE_TRIGGER` (R337). A periodic, latch or command trigger at a quantum end starts a billing save, or it is skipped. -/
  | billSaveTrigger
  /-- `BILL_SNAPSHOT` (R340). In P0 of beat b + 1 the registers are snapshotted, sealed and written to Seam, and a store is commanded. -/
  | billSnapshot
  /-- `GAP_RECORD` (R343). At the first quantum of resumed accumulation after a cold start a gap record is written and stored. -/
  | gapRecord
  /-- `THERM_LATCH_READ` (R344). Returns a thermal meter's consistent results. -/
  | thermLatchRead (req : OctahReq)
  /-- `THERM_CAL_WRITE` (R335). Requests an RTD offset change. -/
  | thermCalWrite (req : OctahReq)
  /-- `THERM_CAL_READ` (R344). Returns an RTD channel's user offset and calibration count. -/
  | thermCalRead (req : OctahReq)
  /-- `THERM_TABLE_WRITE` (R344). Writes a user medium table. -/
  | thermTableWrite (req : OctahReq)
  /-- `THERM_COPY_SET` (R334). Replaces the thermal copy list from the next P0. -/
  | thermCopySet (req : OctahReq)
  /-- `THERM_SETUP_SAVE` (R344). Writes the thermal setup record and commands a store. -/
  | thermSetupSave (req : OctahReq)
  /-- `BILL_SAVE` (R337). Requests a billing save at the next eligible quantum. -/
  | billSave (req : OctahReq)
  /-- `BILL_READ` (R344). Returns a billing record and its validity. -/
  | billRead (req : OctahReq)
  /-- `GAP_READ` (R344). Returns a gap record. -/
  | gapRead (req : OctahReq)
  /-- `SEAM_WINDOW_WRITE` (R351). A host window write to a writable Seam page takes effect in SRAM at once, or is refused. -/
  | seamWindowWrite (path : HostPath) (addr : Nat) (value : Word)
  /-- `SEAM_CMD_STORE` (R354). A write of SEAM_CMD.STORE requests a store, queued behind a running one. -/
  | seamCmdStore (path : HostPath) (value : Word)
  /-- `SEAM_HOLD_WRITE` (R359). A write of SEAM_HOLD.OPEN opens or closes the host bracket. -/
  | seamHoldWrite (path : HostPath) (value : Word)
  /-- `BRACKET_TIMEOUT` (R359). A bracket open for 1 ms is closed by the device. -/
  | bracketTimeout
  /-- `SEAM_STORE_BEGIN` (R353). A requested store begins once no bracket is open, erasing the target seal and writing the image. -/
  | seamStoreBegin
  /-- `SEAM_STORE_DONE` (R355). A store's read-back completes and the seal is written, or the store fails its verify. -/
  | seamStoreDone (ok : Bool) (page : Nat) (us : Nat)
  /-- `PFI_ACCEPTED` (R361). PFI low for 2 µs, or VIN_MAIN below 2.95 V, closes the gate, writes the power-fail record and prepares the store. -/
  | pfiAccepted (q : Nat)
  /-- `PFI_BRACKET_WAIT_END` (R360). 50 µs after PFI, pages in still-open brackets are marked TORN and the store begins. -/
  | pfiBracketWaitEnd
  /-- `POWER_FAIL_SEAL` (R362). The power-failure store writes its seal and the device is held in reset. -/
  | powerFailSeal (ok : Bool)
  /-- `POWER_RESTORE` (R362). PFI high for 10 ms with supplies in range after a power-failure store leads to a cold start. -/
  | powerRestore (pairId : Bool) (vinBus : Bool)
  /-- `VHOLD_COLLAPSE` (R363). VHOLD falling below 5.0 V before the seal leaves the store unsealed. -/
  | vholdCollapse
  /-- `VHOLD_OK_CHANGE` (R373). VHOLD_OK rises or falls and sets VHOLD_READY or VHOLD_LOW. -/
  | vholdOkChange (ok : Bool)
  /-- `SEAM_STATUS` (R370). Returns the Seam status words. -/
  | seamStatus (req : OctahReq)
  /-- `SEAM_READ` (R370). Returns Seam pages copied in one act. -/
  | seamRead (req : OctahReq)
  /-- `SEAM_WRITE` (R370). Writes Seam pages in one act inside an implicit bracket. -/
  | seamWrite (req : OctahReq)
  /-- `SEAM_STORE` (R370). Commands a store and completes when its seal is written. -/
  | seamStore (req : OctahReq)
  /-- `SEAM_LOCK` (R366). Programs page 0 into the lock OTP and locks it permanently. -/
  | seamLock (req : OctahReq) (otpOk : Bool)
  /-- `SEAM_BANK_INFO` (R370). Returns both bank seals and their validity. -/
  | seamBankInfo (req : OctahReq)
  /-- `GRANT` (R379). A received lease GRANT records the lease and makes the addressed unit owner when its start is reached. -/
  | grant (msg : List Byte)
  /-- `REFUSE` (R383). A received REFUSE ends TAKE requests on HELD, signals a handover transfer, or is kept through QUIET. -/
  | refuse (msg : List Byte)
  /-- `LEASE_EXPIRE` (R377). At the first boundary past both LEASE_END and PARTNER_CONSENT_END the owner enters JOINING. -/
  | leaseExpire
  /-- `BANKSMAN_RENEW` (R382). A banksman extends or grants a lease, or refuses, for a RENEW request. -/
  | banksmanRenew (msg : List Byte)
  /-- `BANKSMAN_TAKE` (R382). A banksman grants a new lease or refuses HELD for a TAKE request. -/
  | banksmanTake (msg : List Byte)
  /-- `BANKSMAN_HANDOVER` (R382). A banksman transfers the lease at beat h, or refuses, for a HANDOVER request. -/
  | banksmanHandover (msg : List Byte)
  /-- `BANKSMAN_RESTART` (R383). A banksman that loses its state enters the quiet period refusing with QUIET. -/
  | banksmanRestart
  /-- `LEASE_RELAY` (R384). A lease message arriving over the mirror link is passed on unchanged. -/
  | leaseRelay (crcOk : Bool) (msg : List Byte)
  /-- `INPUT_SECTION` (R388). The standby writes a received input section in place of its own latch, applying HOST records as accepted. -/
  | inputSection (crcOk : Bool) (kind : Nat) (arg : Nat) (data : List Byte)
  /-- `INPUT_END` (R388). The end of the input raft completes the standby's latch for the beat. -/
  | inputEnd (crcOk : Bool) (beat : Nat) (sections : Nat) (bytes : Nat)
  /-- `INPUT_RAFT_DEADLINE` (R389). A standby lacking the complete input raft at 25 µs latches its own inputs and may enter JOINING. -/
  | inputRaftDeadline
  /-- `STATE_BLOCK` (R391). The standby applies a state raft block unless it has written that block since P2. -/
  | stateBlock (crcOk : Bool) (region : Nat) (block : Nat) (data : List Byte)
  /-- `STATE_END` (R390). The end of a state raft completes the raft of its beat. -/
  | stateEnd (crcOk : Bool) (beat : Nat) (blocks : Nat)
  /-- `RAFT_DEADLINE` (R392). A raft not applied before P2 of the next beat is late; 16 late beats put the standby in JOINING. -/
  | raftDeadline
  /-- `HEARTBEAT` (R393). A partner heartbeat is received, giving consent, state and the digest compared for divergence. -/
  | heartbeat (crcOk : Bool) (data : List Byte) (peer : PeerReport)
  /-- `HEARTBEAT_MISSED` (R393). No heartbeat for beat n by its end counts a miss; HB_MISS misses mean the partner is lost. -/
  | heartbeatMissed
  /-- `JOIN_REQUEST` (R396). A join request makes the owner send every block of regions 0–7 as copy blocks. -/
  | joinRequest (crcOk : Bool)
  /-- `COPY_BLOCK` (R396). A received copy block is applied for a join, candidate copy or staging copy. -/
  | copyBlock (crcOk : Bool) (region : Nat) (block : Nat) (data : List Byte)
  /-- `JOIN_READY` (R397). After join ready the joiner latches from the raft, starts its work and compares digests toward STANDBY. -/
  | joinReady (crcOk : Bool) (run : Nat)
  /-- `EXCHANGE_CONFIRM` (R145). The partner's confirmation of the exchange beat arrives over the mirror link. -/
  | exchangeConfirm (crcOk : Bool) (beat : Nat)
  /-- `HANDOVER_NOTICE` (R401). The partner receives the handover beat and limits its consent to h. -/
  | handoverNotice (crcOk : Bool) (h : Nat)
  /-- `BLOCK_RESEND` (R386). A resend request makes the sender repeat a discarded state or copy block. -/
  | blockResend (crcOk : Bool) (region : Nat) (block : Nat)
  /-- `HANDOVER_BEAT` (R401). At beat h the partner holding the grant becomes owner and the former owner becomes standby. -/
  | handoverBeat
  /-- `HANDOVER_NO_ANSWER` (R401). Without an answer by h − 2 the owner sends RENEW and the partner TAKE from h − 1. -/
  | handoverNoAnswer
  /-- `LAMP_PATTERN` (R404). A lamp test pattern loops back through the partner to test a lane. -/
  | lampPattern (crcOk : Bool) (lane : Nat) (pattern : Nat) (data : List Byte)
  /-- `LAMP_ITEM_DONE` (R406). A lamp check item completes its test, recording a LATENT fault on failure and closing a pass when all are done. -/
  | lampItemDone (item : Nat) (ok : Bool) (coverage : Nat)
  /-- `LISTEN_ONLY_TIMEOUT` (R405). If the owner's frame has not completed within its charge plus 20 µs the standby sends its withheld twin. -/
  | listenOnlyTimeout (ch : Nat)
  /-- `LAMP_FULL_EXPIRE` (R406). LAMP_FULL falls when no full pass has completed in 14,400,000 beats. -/
  | lampFullExpire
  /-- `PAIR_STATUS_READ` (R416). Returns pair status words and the partner's last heartbeat. -/
  | pairStatusRead (req : OctahReq)
  /-- `PAIR_HANDOVER` (R401). Starts a handover of control ownership to the partner at beat h. -/
  | pairHandover (req : OctahReq)
  /-- `PAIR_DETACH` (R416). Holds the unit out of the pair in JOINING. -/
  | pairDetach (req : OctahReq)
  /-- `PAIR_REJOIN` (R416). Clears HELD_OUT so the unit may join again. -/
  | pairRejoin (req : OctahReq)
  /-- `LAMP_READ` (R416). Returns lamp check results and coverage. -/
  | lampRead (req : OctahReq)
  /-- `DIV_LOG_READ` (R416). Returns the divergence log. -/
  | divLogRead (req : OctahReq)
  /-- `CASCADE_STATUS` (R416). Returns the cascade status words. -/
  | cascadeStatus (req : OctahReq)
  /-- `BANKSMAN_STATUS` (R416). Returns a witness's lease state and counts. -/
  | banksmanStatus (req : OctahReq)
  /-- `RING_TRAINING_DONE` (R411). Ring training completes, numbering the extenders. -/
  | ringTrainingDone (position : Nat)
  /-- `RING_BREAK` (R415). A broken ring loses every extender and puts CASCADE in RING_DOWN. -/
  | ringBreak
  /-- `CONFIG_BLOCK` (R413). An extender receives its Tally configuration and cascade records from the master. -/
  | configBlock (crcOk : Bool) (ext : Nat) (tally : List Byte) (recs : List (List Byte)) (progs : List (Nat × Nat × Nat))
  /-- `CASC_TIMING` (R412). A timing message is stamped, forwarded, and steps or steers the extender's device time. -/
  | cascTiming (crcOk : Bool) (ns : Rat) (rxQ : Nat) (delay : Rat)
  /-- `CASC_TIMING_LOST` (R412). Four beats without CASC_TIMING put the extender's TIME in HOLDOVER. -/
  | cascTimingLost
  /-- `EXT_INPUT` (R414). The master writes an extender's input records into I sections. -/
  | extInput (crcOk : Bool) (ext : Nat) (data : List Byte) (ofs : Nat)
  /-- `EXT_INPUT_DEADLINE` (R415). An EXT_INPUT incomplete at 20 µs leaves its I bytes unchanged and counts it; four beats set EXT_LOST. -/
  | extInputDeadline
  /-- `MASTER_OUTPUT` (R414). An extender writes TALLY_OUT bytes into TX shadows and sets LIO_OUT levels. -/
  | masterOutput (crcOk : Bool) (ext : Nat) (data : List Byte)
  /-- `MASTER_OUTPUT_LOST` (R415). Four beats without MASTER_OUTPUT stop the extender's frames and float its LIO outputs. -/
  | masterOutputLost
  /-- `COMMAND_WINDOW_WRITE` (R423). A host write to command-window slot memory is accepted while the slot is FREE. -/
  | commandWindowWrite (path : HostPath) (ofs : Nat) (data : List Byte)
  /-- `SLOT_POST` (R423). A write of SLOT_CTRL.POST hands the slot's request to the device. -/
  | slotPost (path : HostPath) (n : Nat) (value : Word)
  /-- `SLOT_RELEASE` (R423). A write of SLOT_CTRL.RELEASE frees a slot after its response or discard. -/
  | slotRelease (path : HostPath) (n : Nat) (value : Word)
  /-- `QSPI_READ` (R425). A quad-SPI READ returns words after the marker with a CRC, or times out. -/
  | qspiRead (addr : Nat) (count : Nat) (stop : QspiEnd)
  /-- `QSPI_WRITE` (R426). A quad-SPI WRITE is checked at CS_N rise and applied through the write buffer, or discarded. -/
  | qspiWrite (addr : Nat) (count : Nat) (words : List Word) (crcOk : Bool) (busy : Bool)
  /-- `QSPI_STATUS` (R426). A quad-SPI STATUS returns the status byte and clears WERR. -/
  | qspiStatus (busy : Bool)
  /-- `OCTAH_DATAGRAM_RX` (R428). An Octah UDP datagram or fragment arrives and is reassembled. -/
  | octahDatagramRx (f : EthFrame) (g : EthFragment)
  /-- `REASSEMBLY_TIMEOUT` (R428). A reassembly not completed within 1 s is dropped and counted. -/
  | reassemblyTimeout
  /-- `ARP_REQUEST` (R427). An ARP request for the device's address is answered. -/
  | arpRequest (f : EthFrame) (senderMac : List Byte) (senderIp : List Byte) (target : List Byte)
  /-- `ICMP_ECHO` (R427). An ICMP or ICMPv6 echo request is answered. -/
  | icmpEcho (f : EthFrame) (src : List Byte) (target : List Byte) (content : List Byte)
  /-- `NEIGHBOR_DISCOVERY` (R427). An IPv6 Neighbor Discovery message is processed. -/
  | neighborDiscovery (f : EthFrame) (src : List Byte) (target : List Byte)
  /-- `PRP_SUPERVISION` (R427). Every 2 s a PRP supervision frame is sent. -/
  | prpSupervision
  /-- `LINK_CHANGE` (R449). An Ethernet port's link goes up or down. -/
  | linkChange (port : Nat) (up : Bool) (gbit : Bool)
  /-- `OCTAH_UNDEFINED_OPCODE` (R440). A request with an undefined opcode takes an entry and fails with BAD_OPCODE. -/
  | octahUndefinedOpcode (req : OctahReq)
  /-- `DEV_INFO` (R440). Returns part, role, unit, MACs, tags and identity hash. -/
  | devInfo (req : OctahReq)
  /-- `SESSION_OPEN` (R432). Opens an authenticated session with a key slot and derives its key. -/
  | sessionOpen (req : OctahReq)
  /-- `SESSION_CLOSE` (R432). Ends the request's session. -/
  | sessionClose (req : OctahReq)
  /-- `SESSION_TIMEOUT` (R432). A session without a request for 60 s ends. -/
  | sessionTimeout (id : Word)
  /-- `ECHO` (R440). Returns the request payload. -/
  | echo (req : OctahReq)
  /-- `REG_READ` (R440). Reads consecutive register words over Octah. -/
  | regRead (req : OctahReq)
  /-- `REG_WRITE` (R440). Writes consecutive register words over Octah, stopping at the first refusal. -/
  | regWrite (req : OctahReq)
  /-- `JOURNAL_READ` (R444). Returns journal entries of consecutive tags. -/
  | journalRead (req : OctahReq)
  /-- `JOURNAL_RELEASE` (R442). Frees final journal entries named in a mask. -/
  | journalRelease (req : OctahReq)
  /-- `PATH_ERR_CLEAR` (R447). A write of CLEAR to a path error record clears it. -/
  | pathErrClear (path : HostPath) (qspi : Bool) (value : Word)
  /-- `KEY_LIST` (R472). Returns slot descriptors. -/
  | keyList (req : OctahReq)
  /-- `KEY_PUBLIC_READ` (R472). Returns the public key of slot 0, 1 or 2. -/
  | keyPublicRead (req : OctahReq)
  /-- `KEY_UPDATE` (R461). Checks a signed KEY_UPDATE message and applies its operations as one act at a Seam seal. -/
  | keyUpdate (req : OctahReq)
  /-- `ATTEST` (R469). Builds an attestation statement and signs it with a reserved identity leaf. -/
  | attest (req : OctahReq)
  /-- `KEY_MAC` (R470). Computes or verifies a KMAC256 tag with a slot key. -/
  | keyMac (req : OctahReq)
  /-- `KEY_CRYPT` (R470). Encrypts or decrypts with AES-256-GCM under a slot key. -/
  | keyCrypt (req : OctahReq)
  /-- `XMSS_READY` (R467). The rebuild of the XMSS traversal state completes and waiting attestations proceed. -/
  | xmssReady
  /-- `RNG_HEALTH_FAIL` (R468). A failed entropy health test stops the generator and records a LATENT fault. -/
  | rngHealthFail
  /-- `UPDATE_OPEN` (R482). Opens or resumes the unit's update session. -/
  | updateOpen (req : OctahReq)
  /-- `UPDATE_WRITE` (R483). Stages image data at a 256-byte offset. -/
  | updateWrite (req : OctahReq)
  /-- `UPDATE_STATUS` (R484). Returns the session state and a window of the received bitmap. -/
  | updateStatus (req : OctahReq)
  /-- `UPDATE_CLOSE` (R485). Checks the staged image and starts erasing and programming the target slot. -/
  | updateClose (req : OctahReq)
  /-- `UPDATE_CLOSE_DONE` (R485). Programming completes, the slot header is closed and the slot becomes PENDING. -/
  | updateCloseDone
  /-- `UPDATE_ABORT` (R499). Discards the update session. -/
  | updateAbort (req : OctahReq)
  /-- `UPDATE_ORPHAN_TIMEOUT` (R482). An orphaned update session not resumed within 300 s is discarded. -/
  | updateOrphanTimeout
  /-- `ACTIVATE` (R486). Starts a cold start of kind ACTIVATE at the second boundary after acceptance. -/
  | activate (req : OctahReq)
  /-- `SLOT_CANCEL` (R499). Cancels a PENDING slot. -/
  | slotCancel (req : OctahReq)
  /-- `BOOT_INFO` (R499). Returns boot words and both slot headers. -/
  | bootInfo (req : OctahReq)
  /-- `BOOT_RESET` (R499). Starts a warm, cold or stump start at the second boundary after acceptance. -/
  | bootReset (req : OctahReq)
  /-- `COLD_START` (R493). A cold start runs the ROM, Seam recall, self-test, slot verification, loads and bundle steps up to the wait. -/
  | coldStart (pairId : Bool)
  /-- `WARM_START` (R493). A warm start reloads firmware against cached digests and keeps block state, escalating to a cold start on a difference. -/
  | warmStart (pairId : Bool) (crcOk : Bool) (partsOk : Bool)
  /-- `START_ENABLE` (R493). Once VHOLD_OK and DT_STATUS.VALID hold, the start enables blocks, SCAN and FRAME_CTRL.RUN. -/
  | startEnable (ms : Nat)
  /-- `START_CONFIRM` (R490). After 4,000 beats RUNNING the start is confirmed and SVN floors are raised. -/
  | startConfirm
  /-- `RESET_N_RELEASE` (R525). RESET_N rising after a recognised low gives a warm or cold start by its low time. -/
  | resetNRelease (lowUs : Nat) (pairId : Bool) (crcOk : Bool) (partsOk : Bool)
  /-- `POWER_UP` (R524). Supplies and RESET_N coming good release the device from reset into a cold start. -/
  | powerUp (pairId : Bool) (vinBus : Bool)
  /-- `SUPPLY_OUT_OF_RANGE` (R527). VIN_BUS, VIN_AFE or a VIO bank leaving its range releases transceivers, stops samples or floats the bank. -/
  | supplyOutOfRange (supply : Supply)
  /-- `PCIE_RESET` (R539). PERST_N low holds the PCI Express endpoint in reset. -/
  | pcieReset
  /-- `BACKUP_POR` (R504). The backup supply falling below 1.2 V resets every backup field and clears VALID. -/
  | backupPor
  /-- `BK_CNT_SET` (R508). At the tick edge after a BK_CNT_HI write the counter loads, VALID is set and the alarm is judged. -/
  | bkCntSet (wake : Bool)
  /-- `BK_ALARM_ARM` (R510). At the tick edge after a BK_ALARM_HI write the alarm is armed, or fires at once as PAST. -/
  | bkAlarmArm (wake : Bool)
  /-- `BK_ALARM_DISARM` (R510). At the tick edge after a DISARM write the alarm is disarmed. -/
  | bkAlarmDisarm (wake : Bool)
  /-- `ALARM_REACHED` (R512). The count reaches the alarm, which fires, records its cause and may assert PWR_ON. -/
  | alarmReached (wake : Bool)
  /-- `PWR_ASSERT` (R514). A write of BK_PWR.ASSERT asserts PWR_ON with cause HOST at the next tick edge. -/
  | pwrAssert (wake : Bool)
  /-- `PWR_RELEASE` (R514). A write of BK_PWR.RELEASE releases PWR_ON at the next tick edge. -/
  | pwrRelease (wake : Bool)
  /-- `WAKE_IN` (R513). WAKE_IN low for 33 tick edges is recognised and asserts PWR_ON. -/
  | wakeIn
  /-- `PWR_ON_PULSE_END` (R514). In PULSE mode PWR_ON is released PULSE_MS after the last assertion. -/
  | pwrOnPulseEnd
  /-- `XT_STOPPED` (R507). No tick edge for 1 ms sets XT_STOPPED and raises a CLOCK fault with BACKUP as source. -/
  | xtStopped
  /-- `BK_TICK` (R506). At each rising edge of the 32.768 kHz oscillator the backup domain increments BK_CNT, applies backup register writes waiting for their edge, samples WAKE_IN, and leaves XT_FAULT when the crystal runs again. -/
  | bkTick (wake : Bool)
  /-- `TCLK_IN_OK_CHANGE` (R106). The 10 MHz input at TCLK_IN enters or leaves ±50 ppm of nominal, so TCLK_IN_OK changes and a HOLDOVER base under HOLD_REF starts or stops being steered to it. -/
  | tclkInOkChange (ok : Bool) (freq : Int)
  /-- `REFERENCE_CLOCK_RETURN` (R107). The 25 MHz reference comes back within its monitor limits, so REF_OK rises and the PLLs can lock to it again. -/
  | referenceClockReturn
  /-- `SUPPLY_RETURN` (R527). VIN_BUS, VIN_AFE or a VIO bank returns to its range, so the OK flag rises, the transceivers drive again, the AFE resumes samples or the bank's balls work again. -/
  | supplyReturn (supply : Supply)
  /-- `RECEIVE_ERROR` (R250). A protocol error or protocol exception detected while receiving another node's bus frame raises REC, counts the error and may move the channel to ERROR_PASSIVE or into bus integration. -/
  | receiveError (ch : Nat) (kind : BusErr) (eight : Bool)
  /-- `RESET_N_ASSERT` (R525). RESET_N held low for 10 µs is recognised and the device is held in reset while it stays low. -/
  | resetNAssert
  /-- `PCIE_LINK_CHANGE` (R422). The PCI Express link trains up or goes down, changing PCIE_UP, PCIE_WIDTH and PCIE_SPEED. -/
  | pcieLinkChange (up : Bool) (width : Nat) (speed : Nat) (msix : Bool)
  /-- `PTP_ANNOUNCE_TIMEOUT` (R89). A PTP port that receives no Announce within its announce receipt timeout runs the best master clock algorithm again and changes its port state. -/
  | ptpAnnounceTimeout (base : Nat) (port : Nat)
  /-- `PTP_DELAY_REQ_TX` (R89). At each LOG_DELAY interval a slave port sends Delay_Req, or any P2P port sends Pdelay_Req, stamped by the TE. -/
  | ptpDelayReqTx (base : Nat) (port : Nat)
deriving DecidableEq, Repr

end Sys2Proof
end

