-- ==== Sys2Proof/Decode.lean ====
section
/-!
DEFINITION. Words and what they spell. The table of operations and events gives its rows no bits, so no table word spells a
command. The scan engines have words of their own (R155 to R157, R162, R547): `decodeScan` reads an instruction of a program
slot from its word, strictly, and `encodeScan` gives the word of one.
-/
namespace Sys2Proof

/-- The command a table word spells: the rows of the table carry no bits. -/
def decodeTableWord (_nbits _w : Nat) : Option Instr := none

/-- The fields of a scan instruction word by their places (R156). -/
structure ScanFields where
  op : Nat
  d : Nat
  a : Nat
  b : Nat
  w : Bool
  fn : Nat
  c : Nat
  imm : Nat
  low : Nat
deriving DecidableEq, Repr

/-- The fields of a word. -/
def scanFields (x : Word) : ScanFields :=
  let n := x.toNat
  { op := n / 2 ^ 26, d := n / 2 ^ 21 % 32, a := n / 2 ^ 16 % 32, b := n / 2 ^ 11 % 32, w := n / 2 ^ 10 % 2 == 1,
    fn := n / 2 ^ 5 % 32, c := n % 32, imm := n % 2 ^ 16, low := n % 2 ^ 26 }

/-- A register field. -/
def reg (n : Nat) : SReg := BitVec.ofNat 5 n

/-- The input registers of a block instruction, from `a` on, lie within g31 (R166). -/
def inputsFit (kind a vp : Nat) : Bool :=
  decide (a + (if kind = 3 ∨ kind = 4 then 2 else if kind = 5 then 4 else 1) + vp ≤ 32)

/-- An instruction whose unused fields are zero, or an illegal one (R157). -/
def strict (ok : Bool) (slot : Nat) (x : Word) (i : Instr) : Instr := if ok then i else .opIllegalInstruction slot x

/-- The format A instructions of OP 0x01. -/
def decodeOp01 (slot : Nat) (x : Word) (f : ScanFields) : Instr :=
  match f.fn with
  | 0 => strict (f.d == 0 && f.a == 0 && f.b == 0 && !f.w && f.c == 0) slot x (.opNop slot)
  | 1 => strict (f.d == 0 && f.a == 0 && f.b == 0 && !f.w && f.c == 0) slot x (.opEnd slot)
  | 2 => strict (f.d == 0 && f.a == 0 && f.b == 0 && !f.w && f.c == 0) slot x (.opRet slot)
  | _ => .opIllegalInstruction slot x

/-- The format A instructions of OP 0x04. -/
def decodeOp04 (slot : Nat) (x : Word) (f : ScanFields) : Instr :=
  match f.fn with
  | 0 => strict (f.c == 0) slot x (.opAdd slot f.w (reg f.d) (reg f.a) (reg f.b))
  | 1 => strict (f.c == 0) slot x (.opSub slot f.w (reg f.d) (reg f.a) (reg f.b))
  | 2 => strict (f.c == 0) slot x (.opMul slot f.w (reg f.d) (reg f.a) (reg f.b))
  | 3 => strict (f.c == 0) slot x (.opDiv slot f.w (reg f.d) (reg f.a) (reg f.b))
  | 4 => strict (f.c == 0) slot x (.opRem slot f.w (reg f.d) (reg f.a) (reg f.b))
  | 5 => strict (f.b == 0 && f.c == 0) slot x (.opAbs slot f.w (reg f.d) (reg f.a))
  | 6 => strict (f.c == 0) slot x (.opMin slot f.w (reg f.d) (reg f.a) (reg f.b))
  | 7 => strict (f.c == 0) slot x (.opMax slot f.w (reg f.d) (reg f.a) (reg f.b))
  | 8 => strict (f.c == 0) slot x (.opAnd slot f.w (reg f.d) (reg f.a) (reg f.b))
  | 9 => strict (f.c == 0) slot x (.opOr slot f.w (reg f.d) (reg f.a) (reg f.b))
  | 10 => strict (f.c == 0) slot x (.opXor slot f.w (reg f.d) (reg f.a) (reg f.b))
  | 11 => strict (f.b == 0 && f.c == 0) slot x (.opNot slot f.w (reg f.d) (reg f.a))
  | 12 => strict (f.c == 0) slot x (.opShl slot f.w (reg f.d) (reg f.a) (reg f.b))
  | 13 => strict (f.c == 0) slot x (.opShr slot f.w (reg f.d) (reg f.a) (reg f.b))
  | 14 => strict (f.c == 0) slot x (.opSar slot f.w (reg f.d) (reg f.a) (reg f.b))
  | 15 => strict (f.w) slot x (.opSel slot (reg f.d) (reg f.a) (reg f.b) (reg f.c))
  | _ => .opIllegalInstruction slot x

/-- The format A instructions of OP 0x05. -/
def decodeOp05 (slot : Nat) (x : Word) (f : ScanFields) : Instr :=
  match f.fn with
  | 0 => strict (f.c == 0) slot x (.opFadd slot f.w (reg f.d) (reg f.a) (reg f.b))
  | 1 => strict (f.c == 0) slot x (.opFsub slot f.w (reg f.d) (reg f.a) (reg f.b))
  | 2 => strict (f.c == 0) slot x (.opFmul slot f.w (reg f.d) (reg f.a) (reg f.b))
  | 3 => strict (f.c == 0) slot x (.opFdiv slot f.w (reg f.d) (reg f.a) (reg f.b))
  | 4 => strict (true) slot x (.opFma slot f.w (reg f.d) (reg f.a) (reg f.b) (reg f.c))
  | 5 => strict (f.b == 0 && f.c == 0) slot x (.opFneg slot f.w (reg f.d) (reg f.a))
  | 6 => strict (f.b == 0 && f.c == 0) slot x (.opFabs slot f.w (reg f.d) (reg f.a))
  | 7 => strict (f.b == 0 && f.c == 0) slot x (.opFsqrt slot f.w (reg f.d) (reg f.a))
  | 8 => strict (f.c == 0) slot x (.opFmin slot f.w (reg f.d) (reg f.a) (reg f.b))
  | 9 => strict (f.c == 0) slot x (.opFmax slot f.w (reg f.d) (reg f.a) (reg f.b))
  | _ => .opIllegalInstruction slot x

/-- The format A instructions of OP 0x06. -/
def decodeOp06 (slot : Nat) (x : Word) (f : ScanFields) : Instr :=
  match f.fn with
  | 0 => strict (f.c == 0) slot x (.opCeq slot f.w (reg f.d) (reg f.a) (reg f.b))
  | 1 => strict (f.c == 0) slot x (.opCne slot f.w (reg f.d) (reg f.a) (reg f.b))
  | 2 => strict (f.c == 0) slot x (.opClt slot f.w (reg f.d) (reg f.a) (reg f.b))
  | 3 => strict (f.c == 0) slot x (.opCle slot f.w (reg f.d) (reg f.a) (reg f.b))
  | 8 => strict (f.c == 0) slot x (.opFceq slot f.w (reg f.d) (reg f.a) (reg f.b))
  | 9 => strict (f.c == 0) slot x (.opFclt slot f.w (reg f.d) (reg f.a) (reg f.b))
  | 10 => strict (f.c == 0) slot x (.opFcle slot f.w (reg f.d) (reg f.a) (reg f.b))
  | 11 => strict (f.c == 0) slot x (.opFcun slot f.w (reg f.d) (reg f.a) (reg f.b))
  | _ => .opIllegalInstruction slot x

/-- The format A instructions of OP 0x07. -/
def decodeOp07 (slot : Nat) (x : Word) (f : ScanFields) : Instr :=
  match f.fn with
  | 0 => strict (f.b == 0 && f.c / 2 == 0) slot x (.opItof slot f.w (f.c % 2 == 1) (reg f.d) (reg f.a))
  | 1 => strict (f.b == 0 && f.c / 2 == 0) slot x (.opFtoi slot f.w (f.c % 2 == 1) (reg f.d) (reg f.a))
  | 2 => strict (f.b == 0 && f.c / 2 == 0) slot x (.opFrnd slot f.w (f.c % 2 == 1) (reg f.d) (reg f.a))
  | 3 => strict (f.b == 0 && f.w && f.c == 0) slot x (.opSatw slot (reg f.d) (reg f.a))
  | 4 => strict (f.b == 0 && !f.w && f.c == 0) slot x (.opFwid slot (reg f.d) (reg f.a))
  | 5 => strict (f.b == 0 && f.w && f.c == 0) slot x (.opFnar slot (reg f.d) (reg f.a))
  | _ => .opIllegalInstruction slot x

/-- The format A instructions of OP 0x25. -/
def decodeOp25 (slot : Nat) (x : Word) (f : ScanFields) : Instr :=
  match f.fn with
  | 0 => strict (!f.w && f.c == 0) slot x (.opSpra slot (reg f.d) (reg f.a) (reg f.b))
  | _ => .opIllegalInstruction slot x

/-- The instruction a word spells for a program slot (R157). -/
def decodeScan (slot : Nat) (x : Word) : Instr :=
  let f := scanFields x
  match f.op with
  | 0x01 => decodeOp01 slot x f
  | 0x02 => strict (f.d == 0 && f.a == 0 && f.imm / 256 == 0) slot x (.opTrap slot (BitVec.ofNat 8 f.imm))
  | 0x04 => decodeOp04 slot x f
  | 0x05 => decodeOp05 slot x f
  | 0x06 => decodeOp06 slot x f
  | 0x07 => decodeOp07 slot x f
  | 0x08 => .opAddiw slot (reg f.d) (reg f.a) (BitVec.ofNat 16 f.imm)
  | 0x09 => .opAddil slot (reg f.d) (reg f.a) (BitVec.ofNat 16 f.imm)
  | 0x0A => .opAndi slot (reg f.d) (reg f.a) (BitVec.ofNat 16 f.imm)
  | 0x0B => .opOri slot (reg f.d) (reg f.a) (BitVec.ofNat 16 f.imm)
  | 0x0C => .opXori slot (reg f.d) (reg f.a) (BitVec.ofNat 16 f.imm)
  | 0x0D => strict (f.a == 0) slot x (.opLui slot (reg f.d) (BitVec.ofNat 16 f.imm))
  | 0x0E => strict (f.imm / 64 == 0) slot x (.opBtst slot (reg f.d) (reg f.a) (BitVec.ofNat 6 f.imm))
  | 0x0F => strict (f.imm / 64 == 0) slot x (.opBset slot (reg f.d) (reg f.a) (BitVec.ofNat 6 f.imm))
  | 0x10 => strict (f.imm / 64 == 0) slot x (.opBclr slot (reg f.d) (reg f.a) (BitVec.ofNat 6 f.imm))
  | 0x14 => .opLdb slot (reg f.d) (reg f.a) (BitVec.ofNat 3 (f.imm / 8192)) (BitVec.ofNat 13 f.imm)
  | 0x15 => .opLdw slot (reg f.d) (reg f.a) (BitVec.ofNat 3 (f.imm / 8192)) (BitVec.ofNat 13 f.imm)
  | 0x16 => .opLdd slot (reg f.d) (reg f.a) (BitVec.ofNat 3 (f.imm / 8192)) (BitVec.ofNat 13 f.imm)
  | 0x18 => .opStb slot (reg f.d) (reg f.a) (BitVec.ofNat 3 (f.imm / 8192)) (BitVec.ofNat 13 f.imm)
  | 0x19 => .opStw slot (reg f.d) (reg f.a) (BitVec.ofNat 3 (f.imm / 8192)) (BitVec.ofNat 13 f.imm)
  | 0x1A => .opStd slot (reg f.d) (reg f.a) (BitVec.ofNat 3 (f.imm / 8192)) (BitVec.ofNat 13 f.imm)
  | 0x1C => .opStfb slot (reg f.d) (reg f.a) (BitVec.ofNat 3 (f.imm / 8192)) (BitVec.ofNat 13 f.imm)
  | 0x1D => .opStfw slot (reg f.d) (reg f.a) (BitVec.ofNat 3 (f.imm / 8192)) (BitVec.ofNat 13 f.imm)
  | 0x1E => .opStfd slot (reg f.d) (reg f.a) (BitVec.ofNat 3 (f.imm / 8192)) (BitVec.ofNat 13 f.imm)
  | 0x20 => .opBr slot (BitVec.ofNat 26 f.low)
  | 0x21 => .opCall slot (BitVec.ofNat 26 f.low)
  | 0x22 => strict (f.a == 0) slot x (.opBt slot (reg f.d) (BitVec.ofNat 16 f.imm))
  | 0x23 => strict (f.a == 0) slot x (.opBf slot (reg f.d) (BitVec.ofNat 16 f.imm))
  | 0x24 => .opSpr slot (reg f.d) (reg f.a) (BitVec.ofNat 16 f.imm)
  | 0x25 => decodeOp25 slot x f
  | 0x26 => .opSps slot (reg f.d) (reg f.a) (BitVec.ofNat 16 f.imm)
  | 0x27 => .opLin slot (reg f.d) (reg f.a) (BitVec.ofNat 16 f.imm)
  | 0x28 => .opLout slot (reg f.d) (reg f.a) (BitVec.ofNat 16 f.imm)
  | 0x30 => strict (inputsFit 0 f.a (f.imm / 1024 % 2)) slot x (.opTon slot (reg f.d) (reg f.a) (reg f.b) f.w (f.imm / 512 % 2 == 1) (BitVec.ofNat 9 f.imm))
  | 0x31 => strict (inputsFit 1 f.a (f.imm / 1024 % 2)) slot x (.opTof slot (reg f.d) (reg f.a) (reg f.b) f.w (f.imm / 512 % 2 == 1) (BitVec.ofNat 9 f.imm))
  | 0x32 => strict (inputsFit 2 f.a (f.imm / 1024 % 2)) slot x (.opTp slot (reg f.d) (reg f.a) (reg f.b) f.w (f.imm / 512 % 2 == 1) (BitVec.ofNat 9 f.imm))
  | 0x33 => strict (inputsFit 3 f.a (f.imm / 1024 % 2)) slot x (.opCtu slot (reg f.d) (reg f.a) (reg f.b) f.w (f.imm / 512 % 2 == 1) (BitVec.ofNat 9 f.imm))
  | 0x34 => strict (inputsFit 4 f.a (f.imm / 1024 % 2)) slot x (.opCtd slot (reg f.d) (reg f.a) (reg f.b) f.w (f.imm / 512 % 2 == 1) (BitVec.ofNat 9 f.imm))
  | 0x35 => strict (inputsFit 5 f.a (f.imm / 1024 % 2)) slot x (.opCtud slot (reg f.d) (reg f.a) (reg f.b) f.w (f.imm / 512 % 2 == 1) (BitVec.ofNat 9 f.imm))
  | 0x36 => strict (!f.w) slot x (.opRTrig slot (reg f.d) (reg f.a) (reg f.b) (f.imm / 512 % 2 == 1) (BitVec.ofNat 9 f.imm))
  | 0x37 => strict (!f.w) slot x (.opFTrig slot (reg f.d) (reg f.a) (reg f.b) (f.imm / 512 % 2 == 1) (BitVec.ofNat 9 f.imm))
  | _ => .opIllegalInstruction slot x

/-- A word of format A. -/
def fmtA (op : Nat) (d a b : SReg) (w : Bool) (fn c : Nat) : Word :=
  BitVec.ofNat 32 (op * 2 ^ 26 + d.toNat * 2 ^ 21 + a.toNat * 2 ^ 16 + b.toNat * 2 ^ 11 + (if w then 2 ^ 10 else 0) + fn * 2 ^ 5 + c)

/-- A word of format I or M. -/
def fmtI (op : Nat) (d a : SReg) (imm : Nat) : Word :=
  BitVec.ofNat 32 (op * 2 ^ 26 + d.toNat * 2 ^ 21 + a.toNat * 2 ^ 16 + imm)

/-- A word of format K. -/
def fmtK (op : Nat) (d a x : SReg) (vp rs : Bool) (num : Nat) : Word :=
  BitVec.ofNat 32 (op * 2 ^ 26 + d.toNat * 2 ^ 21 + a.toNat * 2 ^ 16 + x.toNat * 2 ^ 11 + (if vp then 2 ^ 10 else 0) +
    (if rs then 2 ^ 9 else 0) + num)

/-- The word of a scan instruction; no other command has one. An illegal instruction is the word it was decoded from. -/
def encodeScan : Instr → Option Word
  | .opIllegalInstruction _ w => some w
  | .opNop _ => some (fmtA 0x01 0 0 0 false 0x00 0)
  | .opEnd _ => some (fmtA 0x01 0 0 0 false 0x01 0)
  | .opRet _ => some (fmtA 0x01 0 0 0 false 0x02 0)
  | .opTrap _ detail => some (fmtI 0x02 0 0 detail.toNat)
  | .opAdd _ w d a b => some (fmtA 0x04 d a b w 0x00 0)
  | .opSub _ w d a b => some (fmtA 0x04 d a b w 0x01 0)
  | .opMul _ w d a b => some (fmtA 0x04 d a b w 0x02 0)
  | .opDiv _ w d a b => some (fmtA 0x04 d a b w 0x03 0)
  | .opRem _ w d a b => some (fmtA 0x04 d a b w 0x04 0)
  | .opAbs _ w d a => some (fmtA 0x04 d a 0 w 0x05 0)
  | .opMin _ w d a b => some (fmtA 0x04 d a b w 0x06 0)
  | .opMax _ w d a b => some (fmtA 0x04 d a b w 0x07 0)
  | .opAnd _ w d a b => some (fmtA 0x04 d a b w 0x08 0)
  | .opOr _ w d a b => some (fmtA 0x04 d a b w 0x09 0)
  | .opXor _ w d a b => some (fmtA 0x04 d a b w 0x0A 0)
  | .opNot _ w d a => some (fmtA 0x04 d a 0 w 0x0B 0)
  | .opShl _ w d a b => some (fmtA 0x04 d a b w 0x0C 0)
  | .opShr _ w d a b => some (fmtA 0x04 d a b w 0x0D 0)
  | .opSar _ w d a b => some (fmtA 0x04 d a b w 0x0E 0)
  | .opSel _ d a b c => some (fmtA 0x04 d a b true 0x0F c.toNat)
  | .opFadd _ w d a b => some (fmtA 0x05 d a b w 0x00 0)
  | .opFsub _ w d a b => some (fmtA 0x05 d a b w 0x01 0)
  | .opFmul _ w d a b => some (fmtA 0x05 d a b w 0x02 0)
  | .opFdiv _ w d a b => some (fmtA 0x05 d a b w 0x03 0)
  | .opFma _ w d a b c => some (fmtA 0x05 d a b w 0x04 c.toNat)
  | .opFneg _ w d a => some (fmtA 0x05 d a 0 w 0x05 0)
  | .opFabs _ w d a => some (fmtA 0x05 d a 0 w 0x06 0)
  | .opFsqrt _ w d a => some (fmtA 0x05 d a 0 w 0x07 0)
  | .opFmin _ w d a b => some (fmtA 0x05 d a b w 0x08 0)
  | .opFmax _ w d a b => some (fmtA 0x05 d a b w 0x09 0)
  | .opCeq _ w d a b => some (fmtA 0x06 d a b w 0x00 0)
  | .opCne _ w d a b => some (fmtA 0x06 d a b w 0x01 0)
  | .opClt _ w d a b => some (fmtA 0x06 d a b w 0x02 0)
  | .opCle _ w d a b => some (fmtA 0x06 d a b w 0x03 0)
  | .opFceq _ w d a b => some (fmtA 0x06 d a b w 0x08 0)
  | .opFclt _ w d a b => some (fmtA 0x06 d a b w 0x09 0)
  | .opFcle _ w d a b => some (fmtA 0x06 d a b w 0x0A 0)
  | .opFcun _ w d a b => some (fmtA 0x06 d a b w 0x0B 0)
  | .opItof _ w dbl d a => some (fmtA 0x07 d a 0 w 0x00 (if dbl then 1 else 0))
  | .opFtoi _ w dbl d a => some (fmtA 0x07 d a 0 w 0x01 (if dbl then 1 else 0))
  | .opFrnd _ w dbl d a => some (fmtA 0x07 d a 0 w 0x02 (if dbl then 1 else 0))
  | .opSatw _ d a => some (fmtA 0x07 d a 0 true 0x03 0)
  | .opFwid _ d a => some (fmtA 0x07 d a 0 false 0x04 0)
  | .opFnar _ d a => some (fmtA 0x07 d a 0 true 0x05 0)
  | .opAddiw _ d a imm => some (fmtI 0x08 d a imm.toNat)
  | .opAddil _ d a imm => some (fmtI 0x09 d a imm.toNat)
  | .opAndi _ d a imm => some (fmtI 0x0A d a imm.toNat)
  | .opOri _ d a imm => some (fmtI 0x0B d a imm.toNat)
  | .opXori _ d a imm => some (fmtI 0x0C d a imm.toNat)
  | .opLui _ d imm => some (fmtI 0x0D d 0 imm.toNat)
  | .opBtst _ d a n => some (fmtI 0x0E d a n.toNat)
  | .opBset _ d a n => some (fmtI 0x0F d a n.toNat)
  | .opBclr _ d a n => some (fmtI 0x10 d a n.toNat)
  | .opLdb _ d a area disp => some (fmtI 0x14 d a (area.toNat * 8192 + disp.toNat))
  | .opLdw _ d a area disp => some (fmtI 0x15 d a (area.toNat * 8192 + disp.toNat))
  | .opLdd _ d a area disp => some (fmtI 0x16 d a (area.toNat * 8192 + disp.toNat))
  | .opStb _ d a area disp => some (fmtI 0x18 d a (area.toNat * 8192 + disp.toNat))
  | .opStw _ d a area disp => some (fmtI 0x19 d a (area.toNat * 8192 + disp.toNat))
  | .opStd _ d a area disp => some (fmtI 0x1A d a (area.toNat * 8192 + disp.toNat))
  | .opStfb _ d a area disp => some (fmtI 0x1C d a (area.toNat * 8192 + disp.toNat))
  | .opStfw _ d a area disp => some (fmtI 0x1D d a (area.toNat * 8192 + disp.toNat))
  | .opStfd _ d a area disp => some (fmtI 0x1E d a (area.toNat * 8192 + disp.toNat))
  | .opBr _ ofs => some (BitVec.ofNat 32 (0x20 * 2 ^ 26 + ofs.toNat))
  | .opCall _ ofs => some (BitVec.ofNat 32 (0x21 * 2 ^ 26 + ofs.toNat))
  | .opBt _ d imm => some (fmtI 0x22 d 0 imm.toNat)
  | .opBf _ d imm => some (fmtI 0x23 d 0 imm.toNat)
  | .opSpr _ d a imm => some (fmtI 0x24 d a imm.toNat)
  | .opSpra _ d a b => some (fmtA 0x25 d a b false 0x00 0)
  | .opSps _ d a imm => some (fmtI 0x26 d a imm.toNat)
  | .opLin _ d a imm => some (fmtI 0x27 d a imm.toNat)
  | .opLout _ d a imm => some (fmtI 0x28 d a imm.toNat)
  | .opTon _ d a x vp rs num => some (fmtK 0x30 d a x vp rs num.toNat)
  | .opTof _ d a x vp rs num => some (fmtK 0x31 d a x vp rs num.toNat)
  | .opTp _ d a x vp rs num => some (fmtK 0x32 d a x vp rs num.toNat)
  | .opCtu _ d a x vp rs num => some (fmtK 0x33 d a x vp rs num.toNat)
  | .opCtd _ d a x vp rs num => some (fmtK 0x34 d a x vp rs num.toNat)
  | .opCtud _ d a x vp rs num => some (fmtK 0x35 d a x vp rs num.toNat)
  | .opRTrig _ d a x rs num => some (fmtK 0x36 d a x false rs num.toNat)
  | .opFTrig _ d a x rs num => some (fmtK 0x37 d a x false rs num.toNat)
  | _ => none

end Sys2Proof
end

