-- ==== Sys2Proof/Machine/Mem.lean ====
section
/-!
DEFINITION. Sparse maps in one canonical form: the device's memories (bytes by address) and its registers (words by
register address). A map is a list of (key, value) pairs with strictly rising keys and no entry equal to what an
unlisted key reads as, so that equal maps are equal lists.
Multi-byte items lie least significant byte first (R6).
-/
namespace Sys2Proof.Machine

/-- The value at a key: the entry's, or what an unlisted key reads as. -/
def amGet {α : Type} (dflt : Nat → α) : List (Nat × α) → Nat → α
  | [], a => dflt a
  | (k, v) :: t, a => if k = a then v else amGet dflt t a

/-- The map without the key. -/
def amErase {α : Type} : List (Nat × α) → Nat → List (Nat × α)
  | [], _ => []
  | (k, v) :: t, a => if k = a then amErase t a else (k, v) :: amErase t a

/-- The map with an entry put at its place; the key is not listed before. -/
def amInsert {α : Type} : List (Nat × α) → Nat → α → List (Nat × α)
  | [], a, v => [(a, v)]
  | (k, w) :: t, a, v => if a < k then (a, v) :: (k, w) :: t else (k, w) :: amInsert t a v

/-- The map after a write; writing what an unlisted key reads as removes the entry. -/
def amPut {α : Type} [DecidableEq α] (dflt : Nat → α) (m : List (Nat × α)) (a : Nat) (v : α) : List (Nat × α) :=
  if v = dflt a then amErase m a else amInsert (amErase m a) a v

/-- The canonical form: keys strictly rising from `lo`, no entry equal to the unlisted value. -/
def amWfFrom {α : Type} [DecidableEq α] (dflt : Nat → α) : Nat → List (Nat × α) → Bool
  | _, [] => true
  | lo, (k, v) :: t => decide (lo ≤ k) && decide (v ≠ dflt k) && amWfFrom dflt (k + 1) t

/-- The canonical form of a map. -/
def amWf {α : Type} [DecidableEq α] (dflt : Nat → α) (m : List (Nat × α)) : Bool := amWfFrom dflt 0 m

/-- A memory: bytes by address. -/
abbrev Mem := List Host.Cell

/-- What a byte that nothing has written reads as (DESIGN CHOICE, notes/assumptions/2.md). -/
def Mem.unlisted (_ : Nat) : Byte := 0

/-- The canonical form of a memory. -/
def Memory.wf (m : Mem) : Bool := amWf Mem.unlisted m

/-- One byte of a memory. -/
def Mem.get (m : Mem) (a : Nat) : Byte := amGet Mem.unlisted m a

/-- A memory with one byte written. -/
def Mem.put (m : Mem) (a : Nat) (b : Byte) : Mem := amPut Mem.unlisted m a b

/-- `n` bytes from an address on. -/
def Mem.getN (m : Mem) (a : Nat) : Nat → List Byte
  | 0 => []
  | n + 1 => m.get a :: Mem.getN m (a + 1) n

/-- A memory with a run of bytes written from an address on. -/
def Mem.putN (m : Mem) (a : Nat) : List Byte → Mem
  | [] => m
  | b :: t => Mem.putN (m.put a b) (a + 1) t

/-- `n` zero bytes written. -/
def Mem.clearN (m : Mem) (a n : Nat) : Mem := m.filter (fun c => decide (c.1 < a ∨ a + n ≤ c.1))

/-- The number a run of bytes spells, least significant byte first (R6). -/
def leNat : List Byte → Nat
  | [] => 0
  | b :: t => b.toNat + 256 * leNat t

/-- The `n` bytes that spell a number, least significant byte first (R6); higher bits are dropped. -/
def leBytes : Nat → Nat → List Byte
  | 0, _ => []
  | n + 1, v => BitVec.ofNat 8 v :: leBytes n (v / 256)

/-- An `n`-byte unsigned item at an address. -/
def Mem.nat (m : Mem) (a n : Nat) : Nat := leNat (m.getN a n)

/-- An `n`-byte item written at an address. -/
def Mem.putNat (m : Mem) (a n v : Nat) : Mem := m.putN a (leBytes n v)

/-- The 32-bit word at an address. -/
def Mem.word (m : Mem) (a : Nat) : Word := BitVec.ofNat 32 (m.nat a 4)

/-- A 32-bit word written at an address. -/
def Mem.putWord (m : Mem) (a : Nat) (w : Word) : Mem := m.putNat a 4 w.toNat

/-- `n` bytes of a byte string from an offset on, zeros where it ends. -/
def bytesAt (bs : List Byte) (ofs n : Nat) : List Byte :=
  let t := (bs.drop ofs).take n
  t ++ List.replicate (n - t.length) 0

/-- An `n`-byte unsigned field of a byte string. -/
def natAt (bs : List Byte) (ofs n : Nat) : Nat := leNat (bytesAt bs ofs n)

/-- A byte string with a run of bytes written at an offset; it keeps its length. -/
def setBytes (bs : List Byte) (ofs : Nat) (xs : List Byte) : List Byte :=
  (bs.take ofs ++ xs ++ bs.drop (ofs + xs.length)).take bs.length

/-- A byte string padded with zeros to a multiple of `k` bytes. -/
def padTo (k : Nat) (bs : List Byte) : List Byte := bs ++ List.replicate ((k - bs.length % k) % k) 0

/-- The bits `hi` down to `lo` of a number (R5). -/
def bits (v hi lo : Nat) : Nat := v / 2 ^ lo % 2 ^ (hi + 1 - lo)

/-- A number with its bits `hi` down to `lo` replaced. -/
def setBits (v hi lo x : Nat) : Nat :=
  v - bits v hi lo * 2 ^ lo + (x % 2 ^ (hi + 1 - lo)) * 2 ^ lo

/-- Bit `n` of a number. -/
def bit (v n : Nat) : Bool := v / 2 ^ n % 2 == 1

/-- The bits `hi` down to `lo` of a register word. -/
def wbits (w : Word) (hi lo : Nat) : Nat := bits w.toNat hi lo

/-- A register word with a field replaced. -/
def wset (w : Word) (hi lo x : Nat) : Word := BitVec.ofNat 32 (setBits w.toNat hi lo x)

/-- A Boolean as a bit. -/
def b2n (b : Bool) : Nat := if b then 1 else 0

/-- The two's complement value of an `n`-bit number (R4). -/
def sext (n v : Nat) : Int := if v % 2 ^ n < 2 ^ (n - 1) then ((v % 2 ^ n : Nat) : Int) else ((v % 2 ^ n : Nat) : Int) - 2 ^ n

/-- The `n`-bit two's complement pattern of an integer. -/
def unsx (n : Nat) (i : Int) : Nat := (i % (2 ^ n : Nat)).toNat

/-- An integer held within the range of an `n`-bit two's complement number. -/
def satS (n : Nat) (i : Int) : Int := if i < -(2 ^ (n - 1) : Nat) then -(2 ^ (n - 1) : Nat) else if (2 ^ (n - 1) : Nat) - 1 < i then (2 ^ (n - 1) : Nat) - 1 else i

/-- A 32-bit counter one higher, saturating at 2^32 − 1. -/
def satInc (w : Word) : Word := if w.toNat + 1 < 2 ^ 32 then BitVec.ofNat 32 (w.toNat + 1) else BitVec.ofNat 32 (2 ^ 32 - 1)

/-- A 32-bit counter higher by `n`, saturating. -/
def satAdd (w : Word) (n : Nat) : Word := if w.toNat + n < 2 ^ 32 then BitVec.ofNat 32 (w.toNat + n) else BitVec.ofNat 32 (2 ^ 32 - 1)

/-- The signed difference of two stamps modulo 2^64 (R76). -/
def stampDiff (a b : Nat) : Int := sext 64 (a + 2 ^ 64 - b % 2 ^ 64)

/-- One step of the reflected CRC-32C register (R352, polynomial 0x82F6_3B78). -/
def crcStep (c : BitVec 32) : Nat → BitVec 32
  | 0 => c
  | n + 1 => crcStep (if c &&& 1 = 1 then (c >>> 1) ^^^ 0x82F63B78 else c >>> 1) n

/-- CRC-32C of a byte string (R352). -/
def crc32c (bs : List Byte) : Word :=
  (bs.foldl (fun c b => crcStep (c ^^^ BitVec.setWidth 32 b) 8) 0xFFFFFFFF) ^^^ 0xFFFFFFFF

/-- A list with its element `n` replaced by a function of it; a list shorter than that is unchanged. -/
def modifyNth {α : Type} (f : α → α) : Nat → List α → List α
  | _, [] => []
  | 0, x :: t => f x :: t
  | n + 1, x :: t => x :: modifyNth f n t

/-- An element put into a list in order, before the first that is not below it. -/
def orderedInsert {α : Type} (le : α → α → Bool) (x : α) : List α → List α
  | [] => [x]
  | y :: t => if le x y then x :: y :: t else y :: orderedInsert le x t

/-- A list put in order; equal elements keep theirs. -/
def inOrder {α : Type} (le : α → α → Bool) (l : List α) : List α := l.foldr (orderedInsert le) []

end Sys2Proof.Machine
end

