-- ==== Sys2Proof/Machine/Float.lean ====
section
/-!
DEFINITION. IEEE 754-2019 binary32 and binary64 as bit patterns (R4): exact values as dyadic numbers, one rounding to
nearest, ties to even, and the operations of R164 over them.
-/
namespace Sys2Proof.Machine

/-- A binary format: stored significand bits and exponent bits. -/
structure Fmt where
  mbits : Nat
  ebits : Nat
deriving DecidableEq, Repr

/-- binary32. -/
def f32 : Fmt := ⟨23, 8⟩
/-- binary64. -/
def f64 : Fmt := ⟨52, 11⟩

/-- Bits of a pattern. -/
def Fmt.width (f : Fmt) : Nat := f.mbits + f.ebits + 1
/-- The exponent of the least significant bit of a subnormal. -/
def Fmt.emin (f : Fmt) : Int := 2 - 2 ^ (f.ebits - 1) - (f.mbits : Int)
/-- The pattern of positive infinity. -/
def Fmt.infBits (f : Fmt) : Nat := (2 ^ f.ebits - 1) * 2 ^ f.mbits
/-- The pattern of the sign bit. -/
def Fmt.signBit (f : Fmt) : Nat := 2 ^ (f.mbits + f.ebits)
/-- The canonical quiet NaN (R164). -/
def Fmt.qnan (f : Fmt) : Nat := f.infBits + 2 ^ (f.mbits - 1)

/-- What a pattern stands for: NaN, an infinity, or the exact value ± m × 2^e. -/
inductive FVal where
  | nan
  | inf (neg : Bool)
  | fin (neg : Bool) (m : Nat) (e : Int)
deriving DecidableEq, Repr

/-- The value of a pattern. -/
def Fmt.decode (f : Fmt) (v : Nat) : FVal :=
  let neg := bit v (f.mbits + f.ebits)
  let ex := bits v (f.mbits + f.ebits - 1) f.mbits
  let fr := v % 2 ^ f.mbits
  if ex = 2 ^ f.ebits - 1 then (if fr = 0 then .inf neg else .nan)
  else if ex = 0 then .fin neg fr f.emin
  else .fin neg (fr + 2 ^ f.mbits) (f.emin + ex - 1)

/-- m / 2^k rounded to nearest, ties to even. -/
def rneShift (m k : Nat) : Nat :=
  let q := m / 2 ^ k
  let r := m % 2 ^ k
  if 2 * r < 2 ^ k then q else if 2 ^ k < 2 * r then q + 1 else q + q % 2

/-- The pattern nearest to ± m × 2^e, ties to even; subnormals are kept and too large a value becomes an infinity. -/
def Fmt.round (f : Fmt) (neg : Bool) (m : Nat) (e : Int) : Nat :=
  let sg := if neg then f.signBit else 0
  if m = 0 then sg else
  let top : Int := e + (Nat.log2 m + 1 : Nat)
  let q : Int := max (top - (f.mbits + 1 : Nat)) f.emin
  let mant := if q ≤ e then m * 2 ^ (e - q).toNat else rneShift m (q - e).toNat
  let body := (q - f.emin).toNat * 2 ^ f.mbits + mant
  sg + (if f.infBits ≤ body then f.infBits else body)

/-- The pattern nearest to a fraction num / den × 2^e, by a quotient with enough bits and a sticky bit. -/
def Fmt.roundQuot (f : Fmt) (neg : Bool) (num den : Nat) (e : Int) : Nat :=
  let k := 2 * f.mbits + 8 + Nat.log2 den
  let q := num * 2 ^ k / den
  let sticky := if num * 2 ^ k % den = 0 then 0 else 1
  f.round neg (2 * q + sticky) (e - (k : Int) - 1)

/-- The exact value of a finite pattern; 0 for an infinity or a NaN, which the readers of this function exclude. -/
def Fmt.toRat (f : Fmt) (v : Nat) : Rat :=
  match f.decode v with
  | .fin neg m e => (if neg then -1 else 1) * (if 0 ≤ e then ((m * 2 ^ e.toNat : Nat) : Rat) else (m : Rat) / ((2 ^ (-e).toNat : Nat) : Rat))
  | _ => 0

/-- A pattern is finite. -/
def Fmt.finite (f : Fmt) (v : Nat) : Bool :=
  match f.decode v with
  | .fin _ _ _ => true
  | _ => false

/-- A pattern is a NaN. -/
def Fmt.isNan (f : Fmt) (v : Nat) : Bool := f.decode v == .nan

/-- The pattern nearest to a rational number; a zero takes the sign given. -/
def Fmt.ofRat (f : Fmt) (r : Rat) (negZero : Bool) : Nat :=
  if r = 0 then (if negZero then f.signBit else 0)
  else f.roundQuot (decide (r < 0)) r.num.natAbs r.den 0

/-- A register word as a REAL32 value. -/
def w2r (w : Word) : Rat := f32.toRat w.toNat

/-! ### The operations of R164 -/

/-- The pattern of an infinity. -/
def Fmt.inf (f : Fmt) (neg : Bool) : Nat := (if neg then f.signBit else 0) + f.infBits
/-- The pattern of a zero. -/
def Fmt.zero (f : Fmt) (neg : Bool) : Nat := if neg then f.signBit else 0

/-- ± m × 2^e as an integer multiple of 2^lo, for lo at most e. -/
def scaled (neg : Bool) (m : Nat) (e lo : Int) : Int := (if neg then -1 else 1) * ((m * 2 ^ (e - lo).toNat : Nat) : Int)

/-- The exact sum of two finite values, rounded once; an exact zero is −0 only where both terms are negative. -/
def Fmt.sum (f : Fmt) (n1 : Bool) (m1 : Nat) (e1 : Int) (n2 : Bool) (m2 : Nat) (e2 : Int) : Nat :=
  let lo := min e1 e2
  let i := scaled n1 m1 e1 lo + scaled n2 m2 e2 lo
  if i = 0 then f.zero (n1 && n2) else f.round (decide (i < 0)) i.natAbs lo

/-- Sum. -/
def Fmt.add (f : Fmt) (x y : Nat) : Nat :=
  match f.decode x, f.decode y with
  | .nan, _ => f.qnan
  | _, .nan => f.qnan
  | .inf a, .inf b => if a = b then f.inf a else f.qnan
  | .inf a, .fin _ _ _ => f.inf a
  | .fin _ _ _, .inf b => f.inf b
  | .fin n1 m1 e1, .fin n2 m2 e2 => f.sum n1 m1 e1 n2 m2 e2

/-- The sign inverted; a NaN becomes the quiet NaN. -/
def Fmt.neg (f : Fmt) (x : Nat) : Nat :=
  if f.isNan x then f.qnan else if bit x (f.width - 1) then x - f.signBit else x + f.signBit

/-- The sign cleared. -/
def Fmt.abs (f : Fmt) (x : Nat) : Nat :=
  if f.isNan x then f.qnan else if bit x (f.width - 1) then x - f.signBit else x

/-- Difference. -/
def Fmt.sub (f : Fmt) (x y : Nat) : Nat := f.add x (f.neg y)

/-- Product. -/
def Fmt.mul (f : Fmt) (x y : Nat) : Nat :=
  match f.decode x, f.decode y with
  | .nan, _ => f.qnan
  | _, .nan => f.qnan
  | .inf a, .inf b => f.inf (a != b)
  | .inf a, .fin n m _ => if m = 0 then f.qnan else f.inf (a != n)
  | .fin n m _, .inf b => if m = 0 then f.qnan else f.inf (n != b)
  | .fin n1 m1 e1, .fin n2 m2 e2 => f.round (n1 != n2) (m1 * m2) (e1 + e2)

/-- Quotient. -/
def Fmt.div (f : Fmt) (x y : Nat) : Nat :=
  match f.decode x, f.decode y with
  | .nan, _ => f.qnan
  | _, .nan => f.qnan
  | .inf _, .inf _ => f.qnan
  | .inf a, .fin n _ _ => f.inf (a != n)
  | .fin n _ _, .inf b => f.zero (n != b)
  | .fin n1 m1 e1, .fin n2 m2 e2 =>
    if m2 = 0 then (if m1 = 0 then f.qnan else f.inf (n1 != n2)) else f.roundQuot (n1 != n2) m1 m2 (e1 - e2)

/-- x × y + z with one rounding. -/
def Fmt.fma (f : Fmt) (x y z : Nat) : Nat :=
  match f.decode x, f.decode y, f.decode z with
  | .fin n1 m1 e1, .fin n2 m2 e2, .fin n3 m3 e3 => f.sum (n1 != n2) (m1 * m2) (e1 + e2) n3 m3 e3
  | .fin _ _ _, .fin _ _ _, .inf c => f.inf c
  | _, _, _ => f.add (f.mul x y) z

/-- The integer square root, bit by bit from bit `k` − 1 down. -/
def isqrtFrom : Nat → Nat → Nat → Nat
  | 0, _, r => r
  | k + 1, n, r => if (r + 2 ^ k) * (r + 2 ^ k) ≤ n then isqrtFrom k n (r + 2 ^ k) else isqrtFrom k n r

/-- The largest integer whose square is at most `n`. -/
def isqrt (n : Nat) : Nat := isqrtFrom (Nat.log2 n / 2 + 1) n 0

/-- Square root. -/
def Fmt.sqrt (f : Fmt) (x : Nat) : Nat :=
  match f.decode x with
  | .nan => f.qnan
  | .inf n => if n then f.qnan else f.inf false
  | .fin n m e =>
    if m = 0 then f.zero n else if n then f.qnan else
    let k := 2 * f.mbits + 8
    let k := if (e - (k : Int)) % 2 = 0 then k else k + 1
    let r := isqrt (m * 2 ^ k)
    f.round false (2 * r + b2n (r * r != m * 2 ^ k)) ((e - (k : Int)) / 2 - 1)

/-- x < y, false where either is a NaN. -/
def Fmt.lt (f : Fmt) (x y : Nat) : Bool :=
  match f.decode x, f.decode y with
  | .nan, _ => false
  | _, .nan => false
  | .inf a, .inf b => a && !b
  | .inf a, .fin _ _ _ => a
  | .fin _ _ _, .inf b => !b
  | .fin n1 m1 e1, .fin n2 m2 e2 => decide (scaled n1 m1 e1 (min e1 e2) < scaled n2 m2 e2 (min e1 e2))

/-- x ≤ y, false where either is a NaN. -/
def Fmt.le (f : Fmt) (x y : Nat) : Bool := !f.isNan x && !f.isNan y && !f.lt y x

/-- x = y, false where either is a NaN; the zeros are equal. -/
def Fmt.eq (f : Fmt) (x y : Nat) : Bool := f.le x y && f.le y x

/-- The smaller; −0 is below +0, and a NaN gives the other operand. -/
def Fmt.min (f : Fmt) (x y : Nat) : Nat :=
  if f.isNan x then (if f.isNan y then f.qnan else y) else if f.isNan y then x
  else if f.lt x y then x else if f.lt y x then y else if bit x (f.width - 1) then x else y

/-- The larger; +0 is above −0, and a NaN gives the other operand. -/
def Fmt.max (f : Fmt) (x y : Nat) : Nat :=
  if f.isNan x then (if f.isNan y then f.qnan else y) else if f.isNan y then x
  else if f.lt x y then y else if f.lt y x then x else if bit x (f.width - 1) then y else x

/-- The nearest float of an integer. -/
def Fmt.ofInt (f : Fmt) (i : Int) : Nat := f.round (decide (i < 0)) i.natAbs 0

/-- The integer of a float, truncated or rounded to nearest with ties to even, held within `n` bits; 0 for a NaN. -/
def Fmt.toInt (f : Fmt) (n : Nat) (nearest : Bool) (x : Nat) : Int :=
  match f.decode x with
  | .nan => 0
  | .inf neg => if neg then -(2 ^ (n - 1) : Nat) else (2 ^ (n - 1) : Nat) - 1
  | .fin neg m e =>
    let q := if 0 ≤ e then m * 2 ^ e.toNat else if nearest then rneShift m (-e).toNat else m / 2 ^ (-e).toNat
    satS n ((if neg then -1 else 1) * (q : Int))

/-- A value of one format in another, rounded once. -/
def Fmt.conv (f g : Fmt) (x : Nat) : Nat :=
  match f.decode x with
  | .nan => g.qnan
  | .inf n => g.inf n
  | .fin n m e => g.round n m e

/-- A finite REAL32 nearest to an exact value. -/
def r2w (r : Rat) : Word := BitVec.ofNat 32 (f32.ofRat r false)

/-- A REAL32 word is finite. -/
def wFinite (w : Word) : Bool := f32.finite w.toNat

end Sys2Proof.Machine
end

