-- ==== Sys2Proof/Config.lean ====
section
/-!
DEFINITION. What an implementation fixes and what the manual leaves open: constants without a body, of which nothing can
be proved but that they are what they are.
-/
namespace Sys2Proof.Config

/-! ### Per module and per firmware values (R13, R29, R449, R474) -/

/-- OPCODE of a publication's header (R446 states every other field of it). -/
opaque publishOpcode : BitVec 16
/-- BLK_REV.FW_MINOR of the block with this head page (R29, "Per firmware"). -/
opaque fwMinor : Nat → Byte
/-- Whether firmware serves the block with this head page (R29, FW_MAJOR). -/
opaque firmwareServed : Nat → Bool
/-- The MAC address of E0 and of E1, six octets (R449). -/
opaque macOctet : Nat → Nat → Byte
/-- Byte k of the identity's public key (R465), "Per module". -/
opaque identityKey : Nat → Byte
/-- Byte k of the vendor trust anchor's public key (R450). -/
opaque vendorKey : Nat → Byte
/-- KU_COUNTER of a new module (R474). -/
opaque kuCounter : DWord
/-- NEXT_LEAF of a new module (R474). -/
opaque nextLeaf : Nat
/-- Byte k of the digest of the boot ROM (R469). -/
opaque romDigest : Nat → Byte

/-! ### The standards the manual names and does not reproduce -/

/-- Byte k of SHAKE256 of a byte string (FIPS 202). -/
opaque shake256 : List Byte → Nat → Byte
/-- Byte k of KMAC256 of a message under a key with a customisation string (SP 800-185). -/
opaque kmac256 : List Byte → List Byte → List Byte → Nat → Byte
/-- Byte k of the AES-256-GCM ciphertext followed by the 16-byte tag, from key, nonce, additional data and plaintext. -/
opaque aesGcm : List Byte → List Byte → List Byte → List Byte → Nat → Byte
/-- The plaintext AES-256-GCM gives for key, nonce, additional data and ciphertext followed by tag; none where the tag
does not verify. -/
opaque aesGcmOpen : List Byte → List Byte → List Byte → List Byte → Option (List Byte)
/-- Whether an XMSS-SHAKE256_20_256 signature over a message verifies under a public key (SP 800-208). -/
opaque xmssVerify : List Byte → List Byte → List Byte → Bool
/-- Byte k of the signature over a message with a leaf of the identity (R465). -/
opaque xmssSign : List Byte → Nat → Nat → Byte
/-- The state of the two ports of an instance after the best master clock algorithm of IEEE 1588-2019, from what the
ports last heard; the result numbers the port states as the standard does (R89). -/
opaque bmcaPortState : Nat → List Byte → Nat → Nat
/-- A data set of a PTP instance in the standard's order and encoding: base, data set, and what the model knows of it. -/
opaque ptpDataset : Nat → Nat → List Byte → List Byte

/-! ### Values a standard or an unstated rounding leaves open -/

/-- A rate as a whole number of 2^−44: the manual does not say how it rounds (R81). -/
opaque roundRate : Rat → Int
/-- A time in ns as a whole number: the manual does not say how it rounds (R77, R84). -/
opaque roundNs : Rat → Int
/-- The sum of products of REAL32 values that the dispatch engine forms in its own fixed order (R228): the manual gives
neither the order nor the rounding. -/
opaque deLin : List (Word × Word) → Word
/-- The dispatch engine's quotient of REAL32 values. -/
opaque deDiv : Word → Word → Word
/-- The sum of products a system core forms in REAL64 (R232), in an order the manual does not give. -/
opaque scDot : List (Rat × Rat) → Rat
/-- A ratio of REAL64 values reported as REAL32 (R233). -/
opaque scQuot : Rat → Rat → Word
/-! ### Metering: factory calibration and signal processing (R289 to R335)

The manual says what the metering engine computes and bounds its error; it gives neither the filters nor the arithmetic.
-/

/-- Factory gain, REAL32, of a channel in a range (R308). -/
opaque factoryGain : Nat → Nat → Word
/-- factory offset, REAL32 V -/
opaque factoryOfs : Nat → Nat → Word
/-- factory phase -/
opaque factoryPhase : Nat → Nat → Int
/-- The correction, REAL32 ppm, that the temperature model gives for a die temperature, REAL32 °C (R309). -/
opaque refCorr : Word → Word
/-- The fractional-delay interpolator: from its state, the trim and a sample, its new state and what it puts out (R290). -/
opaque meDelay : List Rat → Int → Rat → List Rat × Rat
/-- The ROGOWSKI integrator and high-pass: state, corner, tracked period in ns, sample (R292). -/
opaque meRogowski : List Rat → Nat → Nat → Rat → List Rat × Rat
/-- The band-pass: state, tracked period in ns, sample; new state, fundamental, its rms (R293). -/
opaque meBand : List Rat → Nat → Rat → List Rat × Rat × Rat
/-- v⊥: state, tracked period in ns, sample (R297). -/
opaque meQuarter : List Rat → Nat → Rat → List Rat × Rat
/-- ns from the first of two samples of the fundamental to the zero between them (R293). -/
opaque meCrossing : Rat → Rat → Nat
/-- The mean over a period in ns that ends at the first of the samples, newest first (R301, R313). -/
opaque meMean : Nat → List Rat → Rat
/-- The phasor, in rms units, of the fundamental of samples by a single-bin DFT at a period in ns (R297). -/
opaque meDft : Nat → List Rat → Rat × Rat
/-- The REAL32 the engine reports for an exact value. -/
opaque meReal : Rat → Word
/-- The REAL32 for the square root of a value. -/
opaque meRoot : Rat → Word
/-- The REAL32 for the sum of the square roots of values. -/
opaque meRootSum : List Rat → Word
/-- The REAL32 for a value over such a sum. -/
opaque meRootQuot : Rat → List Rat → Word
/-- 100 × negative-sequence over positive-sequence magnitude of phasors (R297). -/
opaque meUnbalance : List (Rat × Rat) → Word
/-- Magnitude, REAL32, of an order of a window of W cycles by a grouping (R299). -/
opaque meHarmonic : Nat → Nat → Nat → List Rat → Word
/-- Its phase, REAL32 degrees, relative to order 1 of a reference window. -/
opaque mePhase : Nat → Nat → Nat → List Rat → List Rat → Word
/-- V_H × I_H × cos(V_PH − I_PH) (R300). -/
opaque meHarmPower : Word → Word → Word → Word → Word
/-- THD over orders 2 to 40 of magnitudes by order (R300). -/
opaque meThd : List Word → Word
/-- Urms in 0.01% of the declared voltage, from the square of their ratio (R314). -/
opaque meExtreme : Rat → Nat
/-- The temperature, REAL64 °C, of an RTD channel of a kind with a resistance in Ω, by the equation of IEC 60751 and the
factory calibration (R326). -/
opaque rtdTheta : Nat → Nat → Rat → Nat
/-- Density, REAL64, of the built-in water table at a temperature, REAL64, and a pressure, REAL32 (R330). -/
opaque waterRho : Nat → Word → Nat
/-- Enthalpy, in the same way. -/
opaque waterH : Nat → Word → Nat

/-- The flow rate, m³/h, from two edges with one stamp, for a volume per pulse: the quotient of R327 is not defined. -/
opaque flowZero : Word → Rat

/-- A free value of 32 bits, by the number of values drawn before it (notes/assumptions/1.md). -/
opaque freeWord : Nat → Word
/-- A free byte string byte, by the number of values drawn before it and its position. -/
opaque freeByte : Nat → Nat → Byte

end Sys2Proof.Config
end

