-- ==== Sys2Proof/Machine/RegTable.lean ====
section
/-!
DEFINITION. The register space of R25 as tables: one list a page of the page map, each entry with its offset, its
number of like registers and their distance, its Reset value and whether a warm start keeps it (R13), and the fields a
host may write that have no behaviour of their own (R10, R11, R34, R111).
A register a table does not list is reserved (R9). The values the registers hold are in the state; these are the rules.
-/
namespace Sys2Proof.Machine

/-- What a written value of a field must meet (R11 for an enumeration, R111 for a range of the Purpose column). -/
inductive FieldCheck where
  /-- every value is accepted -/
  | any
  /-- the values the field's table lists -/
  | oneOf (vs : List Nat)
  /-- the unsigned range; for a REAL32 range the two ends are the binary32 patterns, which are in the order of the values -/
  | range (lo hi : Nat)
  /-- the range of a two's complement field of the given width -/
  | srange (bits : Nat) (lo hi : Int)
deriving DecidableEq, Repr

/-- One host-writable field of a register. -/
structure FieldDef where
  /-- highest bit -/
  hi : Nat
  /-- lowest bit -/
  lo : Nat
  /-- protected under R34 -/
  prot : Bool
  /-- the values accepted -/
  check : FieldCheck
deriving DecidableEq, Repr

/-- One row of a page's register table. -/
structure RegDef where
  /-- the name the chapter gives -/
  name : String
  /-- byte offset of the first such register in its page -/
  off : Nat
  /-- how many like registers -/
  count : Nat
  /-- bytes from one to the next -/
  stride : Nat
  /-- the Reset column -/
  reset : Word
  /-- "kept" (or "backup"): a warm start leaves it unchanged (R13, R505) -/
  kept : Bool
  /-- accepts writes only while its block's ENABLE is 0 (R253, R288, R449) -/
  gated : Bool
  /-- its writable fields -/
  fields : List FieldDef
deriving DecidableEq, Repr

/-- A read-only register row. -/
def RegDef.ro (name : String) (off count stride : Nat) (reset : Word) (kept : Bool) : RegDef :=
  { name := name, off := off, count := count, stride := stride, reset := reset, kept := kept, gated := false, fields := [] }

/-- Registers of The DEV page. -/
def devTable : List RegDef :=
  [ .ro "DEV_PART" 0x40 1 0x4 0x9400 false,
    .ro "DEV_STRAPS" 0x44 1 0x4 0x0 false,
    .ro "DEV_CONFIG" 0x48 1 0x4 0x0 false,
    .ro "PEND_MAP" 0x100 32 0x4 0x0 false ]

/-- Registers of R49. -/
def safetyTable : List RegDef :=
  [ .ro "SAFETY_STATE" 0x40 1 0x4 0x0 true,
    ⟨"SAFETY_CTRL", 0x44, 1, 0x4, 0x0, true, false, [⟨0, 0, true, .any⟩]⟩,
    .ro "FLOG_HEAD" 0x48 1 0x4 0x0 true,
    .ro "FLOG_LOST" 0x4C 1 0x4 0x0 true,
    ⟨"FLOG_SEL", 0x50, 1, 0x4, 0x0, false, false, [⟨7, 0, false, .any⟩]⟩,
    .ro "FLOG_DATA" 0x60 8 0x4 0x0 false,
    .ro "SCRUB_SRAM_PASS" 0x80 1 0x4 0x0 false,
    .ro "SCRUB_DRAM_PASS" 0x84 1 0x4 0x0 false,
    .ro "ECC_CE_COUNT" 0x88 1 0x4 0x0 true,
    .ro "ECC_UE_COUNT" 0x8C 1 0x4 0x0 true ]

/-- Registers of the FRAME page. -/
def frameTable : List RegDef :=
  [ ⟨"FRAME_CTRL", 0x40, 1, 0x4, 0x0, false, false, [⟨0, 0, true, .any⟩]⟩,
    .ro "BEAT_CNT_LO" 0x48 1 0x4 0x0 false,
    .ro "BEAT_CNT_HI" 0x4C 1 0x4 0x0 false,
    .ro "BEAT_PHASE" 0x50 1 0x4 0x0 false,
    ⟨"BEAT_ALARM_LO", 0x58, 1, 0x4, 0x0, false, false, [⟨31, 0, false, .any⟩]⟩,
    ⟨"BEAT_ALARM_HI", 0x5C, 1, 0x4, 0x0, false, false, [⟨31, 0, false, .any⟩]⟩,
    .ro "LATCH_END_MAX" 0x60 1 0x4 0x0 false,
    .ro "COMMIT_END_MAX" 0x64 1 0x4 0x0 false,
    .ro "RAFT_END_MAX" 0x68 1 0x4 0x0 false,
    .ro "LATCH_LATE_CNT" 0x70 1 0x4 0x0 false,
    .ro "LOOP_LATE_CNT" 0x74 1 0x4 0x0 false,
    .ro "OVERRUN_CNT" 0x78 1 0x4 0x0 false,
    .ro "COMMIT_HELD_CNT" 0x7C 1 0x4 0x0 false,
    .ro "SE_PEAK" 0x80 8 0x4 0x0 false,
    .ro "LE_PEAK" 0xA0 8 0x4 0x0 false ]

/-- Registers of the TIME head page. -/
def timeTable : List RegDef :=
  [ .ro "DT_NS_LO" 0x40 1 0x4 0x0 false,
    .ro "DT_NS_HI" 0x44 1 0x4 0x0 false,
    .ro "DT_SEC_LO" 0x48 1 0x4 0x0 false,
    .ro "DT_SEC_HI" 0x4C 1 0x4 0x0 false,
    .ro "DT_NANO" 0x50 1 0x4 0x0 false,
    .ro "DT_FRAC" 0x54 1 0x4 0x0 false,
    .ro "DT_STATUS" 0x58 1 0x4 0x0 false,
    .ro "DT_OFFSET" 0x5C 1 0x4 0x0 false,
    ⟨"SEL_CTRL", 0x60, 1, 0x4, 0x9E4, true, false, [⟨11, 11, true, .any⟩, ⟨10, 9, true, .any⟩, ⟨8, 8, true, .any⟩, ⟨7, 0, true, .any⟩]⟩,
    ⟨"SLEW_MAX", 0x64, 1, 0x4, 0x2710, true, false, [⟨15, 0, false, .range 100 10000⟩]⟩,
    ⟨"DT_GAIN", 0x68, 1, 0x4, 0x3F800000, true, false, [⟨31, 0, false, .range 1008981770 1092616192⟩]⟩,
    ⟨"JUMP_LIMIT", 0x6C, 1, 0x4, 0x3E8, true, false, [⟨31, 0, false, .range 100 1000000⟩]⟩,
    ⟨"REVERT_HOLD", 0x70, 1, 0x4, 0x3C, true, false, [⟨31, 0, false, .range 1 3600⟩]⟩,
    .ro "UTC_OFFSET" 0x74 1 0x4 0x0 false ]

/-- Registers of the base pages 0x031 + n. -/
def baseTable : List RegDef :=
  [ ⟨"TB_CFG", 0x40, 1, 0x4, 0x0, true, false, [⟨22, 22, true, .any⟩, ⟨21, 20, true, .oneOf [0, 1, 2]⟩, ⟨19, 18, true, .oneOf [0, 1]⟩, ⟨17, 16, true, .oneOf [0, 1, 2]⟩, ⟨12, 12, true, .any⟩, ⟨11, 4, true, .range 0 127⟩, ⟨2, 0, true, .oneOf [0, 1, 2, 3, 4]⟩]⟩,
    .ro "TB_STATUS" 0x44 1 0x4 0x0 false,
    .ro "TB_OFFSET" 0x48 1 0x4 0x0 false,
    .ro "TB_FREQ" 0x4C 1 0x4 0x0 false,
    ⟨"TB_KP", 0x50, 1, 0x4, 0x3F000000, true, false, [⟨31, 0, false, .range 1008981770 1092616192⟩]⟩,
    ⟨"TB_KI", 0x54, 1, 0x4, 0x3D4CCCCD, true, false, [⟨31, 0, false, .range 953267991 1092616192⟩]⟩,
    .ro "TB_SAMPLES" 0x58 1 0x4 0x0 false,
    .ro "TB_JUMPS" 0x5C 1 0x4 0x0 true,
    .ro "TB_GM_ID_LO" 0x60 1 0x4 0x0 false,
    .ro "TB_GM_ID_HI" 0x64 1 0x4 0x0 false,
    .ro "TB_NS_LO" 0x68 1 0x4 0x0 false,
    .ro "TB_NS_HI" 0x6C 1 0x4 0x0 false,
    ⟨"TB_COMP", 0x70, 1, 0x4, 0x0, true, false, [⟨31, 0, false, .any⟩]⟩,
    .ro "TB_PATH" 0x74 1 0x4 0x0 false ]

/-- Registers of page 0x035. -/
def ptpTable : List RegDef :=
  [ ⟨"PTP_CLK", 0x40, 1, 0x4, 0xF8808005, true, false, [⟨31, 24, true, .any⟩, ⟨23, 16, true, .any⟩, ⟨15, 8, true, .any⟩, ⟨2, 2, true, .any⟩, ⟨1, 0, true, .oneOf [0, 1, 2]⟩]⟩,
    ⟨"PORT_CFG", 0x80, 2, 0x20, 0x1, true, false, [⟨15, 12, false, .srange 4 (-7) 5⟩, ⟨11, 8, false, .srange 4 (-7) 1⟩, ⟨0, 0, false, .any⟩]⟩,
    .ro "PORT_STATE" 0x84 2 0x20 0x3 false,
    ⟨"PORT_INGRESS_LAT", 0x88, 2, 0x20, 0x0, true, false, [⟨15, 0, false, .any⟩]⟩,
    ⟨"PORT_EGRESS_LAT", 0x8C, 2, 0x20, 0x0, true, false, [⟨15, 0, false, .any⟩]⟩,
    ⟨"PORT_ASYM", 0x90, 2, 0x20, 0x0, true, false, [⟨31, 0, false, .any⟩]⟩,
    .ro "PORT_RX_TS" 0x94 2 0x20 0x0 false,
    .ro "PORT_TX_TS" 0x98 2 0x20 0x0 false ]

/-- Registers of page 0x036. -/
def ppsTable : List RegDef :=
  [ ⟨"PPS_CFG", 0x40, 1, 0x4, 0x186A000, true, false, [⟨27, 8, false, .range 1 500000⟩, ⟨1, 1, false, .any⟩, ⟨0, 0, false, .any⟩]⟩,
    .ro "PPS_IN_LO" 0x44 1 0x4 0x0 false,
    .ro "PPS_IN_HI" 0x48 1 0x4 0x0 false,
    ⟨"TCLK_CFG", 0x4C, 1, 0x4, 0x0, true, false, [⟨1, 1, false, .any⟩, ⟨0, 0, false, .any⟩]⟩,
    .ro "TCLK_IN_FREQ" 0x50 1 0x4 0x0 false,
    ⟨"RTC_CFG", 0x54, 1, 0x4, 0x400, true, false, [⟨16, 16, false, .any⟩, ⟨15, 4, false, .range 1 1024⟩, ⟨0, 0, false, .any⟩]⟩,
    .ro "RTC_ERR" 0x58 1 0x4 0x0 true,
    .ro "RTC_SNAP_TICK_LO" 0x5C 1 0x4 0x0 false,
    .ro "RTC_SNAP_TICK_HI" 0x60 1 0x4 0x0 false,
    .ro "RTC_SNAP_NS_LO" 0x64 1 0x4 0x0 false,
    .ro "RTC_SNAP_NS_HI" 0x68 1 0x4 0x0 false ]

/-- Registers of page 0x037. -/
def syncTable : List RegDef :=
  [ ⟨"SYNC_CFG", 0x40, 8, 0x10, 0x3, true, false, [⟨1, 1, false, .any⟩, ⟨0, 0, false, .any⟩]⟩,
    ⟨"SYNC_RXDLY", 0x44, 8, 0x10, 0x0, true, false, [⟨15, 0, false, .any⟩]⟩,
    .ro "SYNC_LOOP_NS" 0x48 8 0x10 0x0 false,
    .ro "SYNC_RESID" 0x4C 8 0x10 0x0 false ]

/-- Registers of the CLK page. -/
def clkTable : List RegDef :=
  [ .ro "CLK_STATUS" 0x40 1 0x4 0x0 false,
    .ro "REF_FREQ" 0x44 1 0x4 0x0 false,
    .ro "CLK_FAULT_CNT" 0x48 1 0x4 0x0 true ]

/-- Registers of the SCAN head page. -/
def scanTable : List RegDef :=
  [ ⟨"SCAN_CTRL", 0x40, 1, 0x4, 0x0, true, false, [⟨1, 1, false, .any⟩, ⟨0, 0, true, .any⟩]⟩,
    .ro "PROG_RUN_MAP" 0x44 1 0x4 0x0 false,
    .ro "PROG_HOLD_MAP" 0x48 1 0x4 0x0 false,
    .ro "PROG_STOP_MAP" 0x4C 1 0x4 0x0 false,
    .ro "FORCE_COUNT" 0x50 1 0x4 0x0 true,
    .ro "FORCE_ORPHAN_ID" 0x54 1 0x4 0x0 false,
    .ro "EXCH_STATUS" 0x58 1 0x4 0x0 false,
    .ro "EXCH_BEAT_LO" 0x5C 1 0x4 0x0 false,
    .ro "EXCH_BEAT_HI" 0x60 1 0x4 0x0 false,
    .ro "CODE_ACTIVE" 0x64 1 0x4 0x0 false,
    .ro "HOSTQ_REFUSED" 0x68 1 0x4 0x0 false,
    .ro "TRAP_CNT" 0x6C 1 0x4 0x0 true ]

/-- Registers of page 0x081. -/
def progTable : List RegDef :=
  [ .ro "PROG_STATUS" 0x40 32 0x40 0x0 false,
    .ro "PROG_PERIOD" 0x44 32 0x40 0x0 false,
    .ro "PROG_OVERRUNS" 0x48 32 0x40 0x0 true,
    .ro "PROG_CYCLES_LO" 0x4C 32 0x40 0x0 false,
    .ro "PROG_CYCLES_HI" 0x50 32 0x40 0x0 false,
    .ro "PROG_COST_LAST" 0x54 32 0x40 0x0 false,
    .ro "PROG_COST_MAX" 0x58 32 0x40 0x0 false,
    .ro "PROG_INFO" 0x5C 32 0x40 0x0 false,
    .ro "PROG_PC" 0x60 32 0x40 0x0 false,
    .ro "PROG_IMG_TAG" 0x64 32 0x40 0x0 false ]

/-- Registers of the LIO page. -/
def lioTable : List RegDef :=
  [ .ro "LIO_DIR_LO" 0x40 1 0x4 0x0 false,
    .ro "LIO_DIR_HI" 0x44 1 0x4 0x0 false,
    .ro "LIO_IN_LO" 0x48 1 0x4 0x0 false,
    .ro "LIO_IN_HI" 0x4C 1 0x4 0x0 false,
    .ro "LIO_OUT_LO" 0x50 1 0x4 0x0 false,
    .ro "LIO_OUT_HI" 0x54 1 0x4 0x0 false,
    .ro "LIO_PCFG" 0x80 32 0x10 0x0 false,
    .ro "LIO_FWD" 0x84 32 0x10 0x0 false,
    .ro "LIO_REV" 0x88 32 0x10 0x0 false,
    .ro "LIO_PTS" 0x8C 32 0x10 0x0 false ]

/-- Registers of R206. -/
def loopTable : List RegDef :=
  [ ⟨"LOOP_CTRL", 0x40, 1, 0x4, 0x0, true, false, [⟨0, 0, true, .any⟩]⟩,
    .ro "LOOP_ACTIVE" 0x44 1 0x4 0x0 false,
    .ro "LE_FAULT_MAP" 0x48 1 0x4 0x0 true,
    .ro "OVF_TOTAL" 0x4C 1 0x4 0x0 true,
    .ro "OVF_LAST" 0x50 1 0x4 0x0 false,
    .ro "BADPV_TOTAL" 0x54 1 0x4 0x0 true,
    .ro "WINQ_REFUSED" 0x58 1 0x4 0x0 false,
    .ro "LE_SCHED_MAX" 0x60 8 0x4 0x0 false ]

/-- Registers of page 0x0C1. -/
def loopMapTable : List RegDef :=
  [ .ro "SAT_MAP" 0x40 32 0x4 0x0 false,
    .ro "BADPV_MAP" 0xC0 32 0x4 0x0 false,
    .ro "OVF_MAP" 0x140 32 0x4 0x0 true ]

/-- Registers of R249. -/
def dispatchTableA : List RegDef :=
  [ .ro "DISP_SCHED" 0x40 1 0x4 0x0 true,
    .ro "DISP_PERIOD" 0x44 1 0x4 0xFA0 true,
    .ro "DISP_PHASE" 0x48 1 0x4 0x0 true,
    .ro "CUTOVER_DELAY" 0x4C 1 0x4 0xFA0 true,
    .ro "ADMM_MAX" 0x60 1 0x4 0xFA0 true,
    .ro "CG_MAX" 0x64 1 0x4 0x10 true,
    .ro "CHECK_EVERY" 0x68 1 0x4 0x40A true,
    .ro "RHO" 0x6C 1 0x4 0x3E800000 true,
    .ro "SIGMA" 0x70 1 0x4 0x35800000 true,
    .ro "ALPHA" 0x74 1 0x4 0x3FC00000 true,
    .ro "CG_TOL" 0x78 1 0x4 0x3A83126F true,
    .ro "EPS_ABS" 0x7C 1 0x4 0x38D1B717 true,
    .ro "EPS_REL" 0x80 1 0x4 0x38D1B717 true,
    .ro "ACC_ABS" 0x84 1 0x4 0x3A83126F true,
    .ro "ACC_REL" 0x88 1 0x4 0x3A83126F true,
    .ro "ACC_GAP" 0x8C 1 0x4 0x3A83126F true,
    .ro "EPS_INF" 0x90 1 0x4 0x3727C5AC true,
    .ro "VERIFY_LEAD" 0x94 1 0x4 0x50 true,
    .ro "DISP_STALE" 0x98 1 0x4 0x0 true,
    .ro "RHO_EQ" 0x9C 1 0x4 0x43800000 true,
    .ro "SOLVE_STATE" 0xA0 1 0x4 0x0 false,
    .ro "SOLVE_ID" 0xA4 1 0x4 0x0 true,
    .ro "SOLVE_BEAT_LO" 0xA8 1 0x4 0x0 false,
    .ro "SOLVE_BEAT_HI" 0xAC 1 0x4 0x0 false ]

/-- Registers of R249, continued. -/
def dispatchTableB : List RegDef :=
  [ .ro "CUTOVER_BEAT_LO" 0xB0 1 0x4 0x0 false,
    .ro "CUTOVER_BEAT_HI" 0xB4 1 0x4 0x0 false,
    .ro "ADMM_ITERS" 0xB8 1 0x4 0x0 false,
    .ro "CG_ITERS" 0xBC 1 0x4 0x0 false,
    .ro "DE_PRIM" 0xC0 1 0x4 0x0 false,
    .ro "DE_DUAL" 0xC4 1 0x4 0x0 false,
    .ro "VER_PRIM" 0xC8 1 0x4 0x0 false,
    .ro "VER_DUAL" 0xCC 1 0x4 0x0 false,
    .ro "VER_GAP" 0xD0 1 0x4 0x0 false,
    .ro "DISP_INFO" 0xD4 1 0x4 0x0 false,
    .ro "SOLVE_US" 0xD8 1 0x4 0x0 false,
    .ro "VERIFY_US" 0xDC 1 0x4 0x0 false,
    .ro "PLAN_ID" 0xE0 1 0x4 0x0 true,
    .ro "PLAN_ORIGIN_LO" 0xE4 1 0x4 0x0 true,
    .ro "PLAN_ORIGIN_HI" 0xE8 1 0x4 0x0 true,
    .ro "PLAN_POS" 0xEC 1 0x4 0x10000 false,
    .ro "PLAN_STEP_BEATS" 0xF0 1 0x4 0x0 true,
    .ro "CUTOVER_CNT" 0xF4 1 0x4 0x0 true,
    .ro "REJECT_CNT" 0xF8 1 0x4 0x0 true,
    .ro "MISSED_CNT" 0xFC 1 0x4 0x0 true,
    .ro "MODEL_N" 0x100 1 0x4 0x0 true,
    .ro "MODEL_M" 0x104 1 0x4 0x0 true,
    .ro "MODEL_NNZ_A" 0x108 1 0x4 0x0 true,
    .ro "MODEL_NNZ_P" 0x10C 1 0x4 0x0 true ]

/-- Registers of R249, continued. -/
def dispatchTableC : List RegDef :=
  [ .ro "MODEL_INFO" 0x110 1 0x4 0x0 true,
    .ro "MODEL_TAG" 0x114 1 0x4 0x0 true,
    .ro "MODEL_ERR" 0x118 1 0x4 0x0 true,
    .ro "HD_STATUS" 0x120 1 0x4 0x0 false,
    .ro "PLAN_COPY_CNT" 0x128 1 0x4 0x0 true ]

/-- All of them. -/
def dispatchTable : List RegDef := dispatchTableA ++ dispatchTableB ++ dispatchTableC

/-- Registers of R284. -/
def busTableA : List RegDef :=
  [ ⟨"FB_CTRL", 0x40, 1, 0x4, 0x5, true, false, [⟨6, 5, true, .oneOf [0, 1, 2]⟩, ⟨4, 3, true, .oneOf [0, 1]⟩, ⟨2, 2, true, .any⟩, ⟨1, 1, false, .any⟩, ⟨0, 0, false, .any⟩]⟩,
    .ro "FB_ERRCNT" 0x44 1 0x4 0x0 false,
    ⟨"FB_BITTIME", 0x48, 1, 0x4, 0x3E7E3E00, true, true, [⟨31, 25, true, .any⟩, ⟨24, 16, true, .range 0 254⟩, ⟨15, 9, true, .any⟩, ⟨8, 0, true, .any⟩]⟩,
    ⟨"FB_DBITTIME", 0x4C, 1, 0x4, 0x991C0000, true, true, [⟨31, 28, true, .any⟩, ⟨27, 24, true, .any⟩, ⟨20, 16, true, .any⟩, ⟨4, 0, true, .any⟩]⟩,
    ⟨"FB_TDC", 0x50, 1, 0x4, 0x1E01, true, true, [⟨15, 8, true, .any⟩, ⟨0, 0, true, .any⟩]⟩,
    ⟨"FB_RETRY", 0x54, 1, 0x4, 0x210030F, true, false, [⟨27, 24, true, .any⟩, ⟨23, 16, true, .range 1 255⟩, ⟨11, 8, true, .any⟩, ⟨3, 0, true, .any⟩]⟩,
    .ro "FB_SYNC_KEY" 0x58 1 0x4 0x0 true,
    .ro "FB_FOLLOW_KEY" 0x5C 1 0x4 0x0 true,
    .ro "BIT_ERR_CNT" 0x60 1 0x4 0x0 false,
    .ro "STUFF_ERR_CNT" 0x64 1 0x4 0x0 false,
    .ro "FORM_ERR_CNT" 0x68 1 0x4 0x0 false,
    .ro "ACK_ERR_CNT" 0x6C 1 0x4 0x0 false,
    .ro "CRC_ERR_CNT" 0x70 1 0x4 0x0 false,
    .ro "RX_FRAME_CNT" 0x74 1 0x4 0x0 false,
    .ro "TX_FRAME_CNT" 0x78 1 0x4 0x0 false,
    .ro "UNMATCHED_CNT" 0x7C 1 0x4 0x0 false,
    .ro "LOST_TOTAL" 0x80 1 0x4 0x0 false,
    .ro "TX_FAIL_CNT" 0x84 1 0x4 0x0 false,
    .ro "COLLIDE_CNT" 0x88 1 0x4 0x0 false,
    .ro "ID_CONFLICT_CNT" 0x8C 1 0x4 0x0 false,
    .ro "TWIN_CANCEL_CNT" 0x90 1 0x4 0x0 false,
    .ro "TWIN_DUP_CNT" 0x94 1 0x4 0x0 false,
    .ro "SYNC_FAIL_CNT" 0x98 1 0x4 0x0 false,
    .ro "BUSOFF_CNT" 0x9C 1 0x4 0x0 true ]

/-- Registers of R284, continued. -/
def busTableB : List RegDef :=
  [ .ro "ALONE_RUN" 0xA0 1 0x4 0x0 false,
    .ro "LAST_FAIL" 0xA4 1 0x4 0x0 false,
    .ro "TDC_MEAS" 0xA8 1 0x4 0x0 false,
    .ro "FORMAT_DROP_CNT" 0xAC 1 0x4 0x0 false,
    .ro "MISS_TOTAL" 0xB0 1 0x4 0x0 false,
    .ro "WINQ_REFUSED" 0xB4 1 0x4 0x0 false,
    .ro "CATCH_HEAD" 0xB8 1 0x4 0x0 false,
    .ro "CATCH_LOST" 0xBC 1 0x4 0x0 false ]

/-- All of them. -/
def busTable : List RegDef := busTableA ++ busTableB

/-- Registers of R285. -/
def roundTable : List RegDef :=
  [ .ro "RND_CFG" 0x40 32 0x10 0x0 true,
    .ro "RND_LAST_BEAT" 0x44 32 0x10 0x0 false,
    .ro "RND_MISS" 0x48 32 0x10 0x0 false,
    .ro "RND_END_MAX" 0x4C 32 0x10 0x0 false ]

/-- Registers of R321. -/
def meterTable : List RegDef :=
  [ ⟨"METER_CTRL", 0x40, 1, 0x4, 0x0, true, false, [⟨3, 2, false, .oneOf [0, 1]⟩, ⟨1, 1, false, .any⟩, ⟨0, 0, true, .any⟩]⟩,
    .ro "SETUP_TAG" 0x44 1 0x4 0x0 true,
    .ro "CAL_COUNT" 0x48 1 0x4 0x0 true,
    .ro "PQ_HEAD" 0x4C 1 0x4 0x0 true,
    .ro "PQ_LOST" 0x50 1 0x4 0x0 true,
    .ro "TEMP_AFE" 0x54 1 0x4 0x0 false,
    .ro "REF_CORR" 0x58 1 0x4 0x0 false,
    .ro "COPY_ERR" 0x5C 1 0x4 0x0 false,
    ⟨"PQ_THRESH1", 0x60, 1, 0x4, 0x2AF82328, true, false, [⟨31, 16, false, .any⟩, ⟨15, 0, false, .any⟩]⟩,
    ⟨"PQ_THRESH2", 0x64, 1, 0x4, 0xC801F4, true, false, [⟨31, 16, false, .any⟩, ⟨15, 0, false, .any⟩]⟩,
    .ro "SAMPLE_GAP_CNT" 0x68 1 0x4 0x0 true,
    .ro "METER_STATUS_WORD" 0x6C 1 0x4 0x0 false ]

/-- Registers of R322. -/
def channelTable : List RegDef :=
  [ ⟨"CH_CFG", 0x40, 32, 0x20, 0x500, true, true, [⟨12, 8, false, .any⟩, ⟨6, 6, false, .any⟩, ⟨5, 4, false, .any⟩, ⟨3, 1, false, .oneOf [0, 1, 2, 3, 4]⟩, ⟨0, 0, false, .any⟩]⟩,
    ⟨"CH_RATIO", 0x44, 32, 0x20, 0x3F800000, true, true, [⟨31, 0, false, .any⟩]⟩,
    .ro "CH_GAIN_ACT" 0x48 32 0x20 0x0 false,
    .ro "CH_PHASE_ACT" 0x4C 32 0x20 0x0 false,
    .ro "CH_OFFSET_ACT" 0x50 32 0x20 0x0 false,
    .ro "CH_FREQ" 0x54 32 0x20 0x0 false,
    .ro "CH_STATUS" 0x58 32 0x20 0x0 false,
    .ro "CLIP_CNT" 0x5C 32 0x20 0x0 true ]

/-- Registers of R323. -/
def circuitTable : List RegDef :=
  [ ⟨"CIR_CFG", 0x40, 16, 0x40, 0x0, true, true, [⟨7, 6, false, .oneOf [0, 1, 2]⟩, ⟨4, 4, false, .any⟩, ⟨3, 3, false, .any⟩, ⟨2, 1, false, .oneOf [0, 1, 2]⟩, ⟨0, 0, false, .any⟩]⟩,
    ⟨"CIR_MAP", 0x44, 16, 0x40, 0x0, true, true, [⟨28, 24, false, .any⟩, ⟨23, 19, false, .any⟩, ⟨18, 14, false, .any⟩, ⟨13, 9, false, .any⟩, ⟨8, 6, false, .any⟩, ⟨5, 3, false, .any⟩, ⟨2, 0, false, .any⟩]⟩,
    ⟨"CIR_LATCH_N", 0x48, 16, 0x40, 0x32, true, true, [⟨12, 0, false, .any⟩]⟩,
    ⟨"CIR_NOLOAD_P", 0x4C, 16, 0x40, 0x0, true, true, [⟨31, 0, false, .any⟩]⟩,
    ⟨"CIR_NOLOAD_Q", 0x50, 16, 0x40, 0x0, true, true, [⟨31, 0, false, .any⟩]⟩,
    ⟨"CIR_UDIN", 0x54, 16, 0x40, 0x43660000, true, true, [⟨31, 0, false, .any⟩]⟩,
    .ro "CIR_STATUS" 0x58 16 0x40 0x0 false,
    .ro "SPEC_SEQ" 0x5C 16 0x40 0x0 false,
    .ro "SPEC_NS_LO" 0x60 16 0x40 0x0 false,
    .ro "SPEC_NS_HI" 0x64 16 0x40 0x0 false,
    .ro "LATCH_SEQ" 0x68 16 0x40 0x0 false ]

/-- Registers of R346. -/
def thermTable : List RegDef :=
  [ ⟨"THERM_CTRL", 0x40, 1, 0x4, 0x0, true, false, [⟨1, 1, true, .any⟩, ⟨0, 0, true, .any⟩]⟩,
    ⟨"BILL_CFG", 0x44, 1, 0x4, 0x384, true, false, [⟨16, 0, false, .range 0 86400⟩]⟩,
    ⟨"BILL_LATCH", 0x48, 1, 0x4, 0x0, true, false, [⟨19, 16, false, .any⟩, ⟨15, 0, false, .any⟩]⟩,
    ⟨"SEAL_SLOT", 0x4C, 1, 0x4, 0x0, true, false, [⟨7, 0, true, .any⟩]⟩,
    .ro "BILL_SEQ" 0x50 1 0x4 0x0 true,
    .ro "BILL_SAVE_NS_LO" 0x54 1 0x4 0x0 true,
    .ro "BILL_SAVE_NS_HI" 0x58 1 0x4 0x0 true,
    .ro "SAVE_SKIP_CNT" 0x5C 1 0x4 0x0 true,
    .ro "GAP_SEQ" 0x60 1 0x4 0x0 true,
    .ro "THERM_CAL_COUNT" 0x64 1 0x4 0x0 true,
    .ro "COPY_ERR" 0x68 1 0x4 0x0 false,
    .ro "THERM_STATUS_WORD" 0x6C 1 0x4 0x0 false,
    .ro "THERM_SETUP_TAG" 0x70 1 0x4 0x0 true ]

/-- Registers of R347. -/
def thermMeterTable : List RegDef :=
  [ ⟨"THP_CFG", 0x40, 8, 0x20, 0x0, true, true, [⟨12, 8, false, .any⟩, ⟨6, 5, false, .any⟩, ⟨4, 4, false, .any⟩, ⟨3, 3, false, .any⟩, ⟨2, 1, false, .oneOf [0, 1, 2]⟩, ⟨0, 0, false, .any⟩]⟩,
    ⟨"THP_VPP", 0x44, 8, 0x20, 0x3F800000, true, true, [⟨31, 0, false, .range 1 1176256512⟩]⟩,
    ⟨"THP_PRESS", 0x48, 8, 0x20, 0x41800000, true, true, [⟨31, 0, false, .range 1065353216 1103626240⟩]⟩,
    ⟨"THP_DTMIN", 0x4C, 8, 0x20, 0x3D4CCCCD, true, true, [⟨31, 0, false, .range 0 1092616192⟩]⟩,
    ⟨"THP_LATCH_Q", 0x50, 8, 0x20, 0x3E8, true, true, [⟨15, 0, false, .range 1 60000⟩]⟩,
    ⟨"THP_FLOW_TO", 0x54, 8, 0x20, 0xA, true, true, [⟨11, 0, false, .range 1 3600⟩]⟩,
    .ro "THP_STATUS" 0x58 8 0x20 0x0 false ]

/-- Registers of R372. -/
def seamTable : List RegDef :=
  [ ⟨"SEAM_CTRL", 0x40, 1, 0x4, 0x0, true, false, [⟨0, 0, true, .any⟩]⟩,
    .ro "SEAM_CMD" 0x44 1 0x4 0x0 false,
    ⟨"SEAM_HOLD", 0x48, 1, 0x4, 0x0, false, false, [⟨0, 0, false, .any⟩]⟩,
    .ro "SEAM_STATE" 0x4C 1 0x4 0x0 false,
    .ro "GEN_LO" 0x50 1 0x4 0x0 true,
    .ro "GEN_HI" 0x54 1 0x4 0x0 true,
    .ro "STORE_COUNT0" 0x58 1 0x4 0x0 true,
    .ro "STORE_COUNT1" 0x5C 1 0x4 0x0 true,
    .ro "STORE_US_LAST" 0x60 1 0x4 0x0 false,
    .ro "STORE_US_MAX" 0x64 1 0x4 0x0 false,
    .ro "RECALL_INFO" 0x68 1 0x4 0x0 true,
    .ro "VERIFY_FAIL_CNT" 0x6C 1 0x4 0x0 true,
    .ro "HOLD_TIMEOUT_CNT" 0x70 1 0x4 0x0 false,
    .ro "LIVE_CRC" 0x74 1 0x4 0x0 false,
    .ro "TORN_LAST" 0x78 1 0x4 0x0 true ]

/-- Registers of R373. -/
def pwrTable : List RegDef :=
  [ .ro "PWR_STATUS" 0x40 1 0x4 0x0 false,
    .ro "VHOLD_MV" 0x44 1 0x4 0x0 false,
    .ro "VHOLD_LOW_CNT" 0x48 1 0x4 0x0 true ]

/-- Registers of R418. -/
def pairTableA : List RegDef :=
  [ .ro "PAIR_CFG" 0x40 1 0x4 0x0 true,
    .ro "PAIR_NAME_LO" 0x44 1 0x4 0x0 true,
    .ro "PAIR_NAME_HI" 0x48 1 0x4 0x0 true,
    .ro "PAIR_STATUS" 0x4C 1 0x4 0x0 false,
    .ro "LEASE_END_LO" 0x50 1 0x4 0x0 false,
    .ro "LEASE_END_HI" 0x54 1 0x4 0x0 false,
    .ro "LEASE_EPOCH" 0x58 1 0x4 0x0 false,
    .ro "RAFT_FMT" 0x5C 1 0x4 0x0 false,
    .ro "BUNDLE_TAG" 0x60 1 0x4 0x0 false,
    .ro "PEER_BUNDLE_TAG" 0x64 1 0x4 0x0 false,
    .ro "FAILOVER_CNT" 0x68 1 0x4 0x0 true,
    .ro "DIVERGE_CNT" 0x6C 1 0x4 0x0 true,
    .ro "RAFT_LATE_CNT" 0x70 1 0x4 0x0 false,
    .ro "LINK_CRC_CNT" 0x74 1 0x4 0x0 false,
    .ro "JOIN_CNT" 0x78 1 0x4 0x0 true,
    .ro "JOIN_PROGRESS" 0x7C 1 0x4 0x0 false,
    .ro "RAFT_BYTES_LAST" 0x80 1 0x4 0x0 false,
    .ro "RAFT_BYTES_MAX" 0x84 1 0x4 0x0 false,
    .ro "INPUT_RAFT_MAX" 0x88 1 0x4 0x0 false,
    .ro "LAST_CHANGE_BEAT" 0x8C 1 0x4 0x0 true,
    .ro "LAMP_FAIL_LO" 0x90 1 0x4 0x0 true,
    .ro "LAMP_FAIL_HI" 0x94 1 0x4 0x0 true,
    .ro "LAMP_DONE_LO" 0x98 1 0x4 0x0 false,
    .ro "LAMP_DONE_HI" 0x9C 1 0x4 0x0 false ]

/-- Registers of R418, continued. -/
def pairTableB : List RegDef :=
  [ .ro "LAMP_PASS_CNT" 0xA0 1 0x4 0x0 true,
    .ro "LAMP_PASS_BEATS" 0xA4 1 0x4 0x0 false ]

/-- All of them. -/
def pairTable : List RegDef := pairTableA ++ pairTableB

/-- Registers of R420. -/
def cascadeTable : List RegDef :=
  [ .ro "CASC_CFG" 0x40 1 0x4 0x0 true,
    .ro "CASC_STATUS" 0x44 1 0x4 0x0 false,
    .ro "CASC_IN_BYTES_MAX" 0x48 1 0x4 0x0 false,
    .ro "CASC_OUT_BYTES_MAX" 0x4C 1 0x4 0x0 false,
    .ro "CASC_IN_LATE_CNT" 0x50 1 0x4 0x0 false,
    .ro "CASC_LOST_CNT" 0x54 1 0x4 0x0 true,
    .ro "CASC_CRC_CNT" 0x58 1 0x4 0x0 false,
    ⟨"CASC_HOP_COMP", 0x5C, 1, 0x4, 0x0, true, false, [⟨31, 0, true, .any⟩]⟩,
    .ro "CASC_ARRIVE_MAX" 0x60 1 0x4 0x0 false ]

/-- Registers of R448. -/
def hostTable : List RegDef :=
  [ ⟨"HOST_CFG", 0x40, 1, 0x4, 0x0, true, false, [⟨0, 0, true, .any⟩]⟩,
    .ro "HOST_STATUS" 0x44 1 0x4 0x0 false,
    .ro "JSEQ_LAST" 0x48 1 0x4 0x0 false,
    .ro "JOURNAL_USED" 0x4C 1 0x4 0x0 false,
    .ro "PCIE_ERR_ADDR" 0x50 1 0x4 0x0 false,
    .ro "PCIE_ERR_INFO" 0x54 1 0x4 0x0 false,
    .ro "QSPI_ERR_ADDR" 0x58 1 0x4 0x0 false,
    .ro "QSPI_ERR_INFO" 0x5C 1 0x4 0x0 false,
    .ro "CRC_DROP_CNT" 0x60 1 0x4 0x0 false,
    .ro "AUTH_FAIL_CNT" 0x64 1 0x4 0x0 false,
    .ro "BUSY_CNT" 0x68 1 0x4 0x0 false,
    .ro "RX_DROP_CNT" 0x6C 1 0x4 0x0 false,
    .ro "SLOT_DONE_MAP" 0x70 1 0x4 0x0 false ]

/-- Registers of page 0x011. -/
def slotTable : List RegDef :=
  [ .ro "SLOT_CTRL" 0x40 16 0x10 0x0 false,
    .ro "SLOT_STATE" 0x44 16 0x10 0x0 false,
    .ro "SLOT_RLEN" 0x48 16 0x10 0x0 false ]

/-- Registers of R449. -/
def ethTable : List RegDef :=
  [ ⟨"ETH_CFG", 0x40, 1, 0x4, 0x7, true, true, [⟨27, 16, true, .any⟩, ⟨7, 5, true, .any⟩, ⟨4, 4, true, .any⟩, ⟨3, 3, true, .any⟩, ⟨2, 2, true, .any⟩, ⟨1, 1, true, .any⟩, ⟨0, 0, true, .any⟩]⟩,
    .ro "ETH_STATUS" 0x44 1 0x4 0x0 false,
    ⟨"ETH_MTU", 0x48, 1, 0x4, 0x5DC, true, false, [⟨13, 0, false, .range 576 9000⟩]⟩,
    ⟨"OCTAH_PORT", 0x4C, 1, 0x4, 0xB810, true, false, [⟨15, 0, false, .any⟩]⟩,
    ⟨"IPV4_ADDR", 0x50, 1, 0x4, 0x0, true, true, [⟨31, 0, false, .any⟩]⟩,
    ⟨"IPV4_MASK", 0x54, 1, 0x4, 0x0, true, true, [⟨31, 0, false, .any⟩]⟩,
    ⟨"IPV4_GW", 0x58, 1, 0x4, 0x0, true, true, [⟨31, 0, false, .any⟩]⟩,
    ⟨"IPV6_ADDR", 0x60, 4, 0x4, 0x0, true, true, [⟨31, 0, false, .any⟩]⟩,
    ⟨"IPV6_PREFIX", 0x70, 1, 0x4, 0x40, true, true, [⟨7, 0, false, .range 1 128⟩]⟩,
    .ro "MAC0_LO" 0x80 1 0x4 0x0 false,
    .ro "MAC0_HI" 0x84 1 0x4 0x0 false,
    .ro "MAC1_LO" 0x88 1 0x4 0x0 false,
    .ro "MAC1_HI" 0x8C 1 0x4 0x0 false,
    .ro "PRP_DUP_CNT" 0x90 1 0x4 0x0 false,
    .ro "PRP_WRONG_LAN_CNT" 0x94 1 0x4 0x0 false,
    .ro "FRAG_DROP_CNT" 0x98 1 0x4 0x0 false,
    .ro "E0_RX_ERR" 0x9C 1 0x4 0x0 false,
    .ro "E1_RX_ERR" 0xA0 1 0x4 0x0 false ]

/-- Registers of R474. -/
def keysTable : List RegDef :=
  [ .ro "KEYS_STATUS" 0x40 1 0x4 0x0 false,
    .ro "KU_COUNTER_LO" 0x44 1 0x4 0x0 false,
    .ro "KU_COUNTER_HI" 0x48 1 0x4 0x0 false,
    .ro "XMSS_NEXT_LEAF" 0x4C 1 0x4 0x0 false,
    .ro "XMSS_LEFT" 0x50 1 0x4 0x0 false,
    .ro "SLOTS_USED" 0x54 1 0x4 0x0 false,
    .ro "ORPHAN_CNT" 0x58 1 0x4 0x0 false,
    .ro "KU_REJECT_CNT" 0x5C 1 0x4 0x0 true,
    .ro "KEY_FAIL_CNT" 0x60 1 0x4 0x0 true,
    ⟨"LEAF_LOW_MARK", 0x64, 1, 0x4, 0xC350, true, false, [⟨20, 0, false, .range 0 1048576⟩]⟩,
    .ro "ID_HASH" 0x80 8 0x4 0x0 false ]

/-- Registers of R501. -/
def updateTable : List RegDef :=
  [ .ro "UPD_LEN" 0x40 1 0x4 0x0 false,
    .ro "UPD_UNITS_REQ" 0x44 1 0x4 0x0 false,
    .ro "UPD_UNITS_RX" 0x48 1 0x4 0x0 false,
    .ro "UPD_SESSION" 0x4C 1 0x4 0x0 false,
    .ro "UPD_INFO" 0x50 1 0x4 0x0 false,
    .ro "UPD_PROG" 0x54 1 0x4 0x0 false,
    .ro "UPD_MAN_TAG" 0x58 1 0x4 0x0 false ]

/-- Registers of R502. -/
def bootTable : List RegDef :=
  [ .ro "BOOT_CAUSE" 0x40 1 0x4 0x0 false,
    .ro "BOOT_SLOTS" 0x44 1 0x4 0x3C true,
    .ro "BOOT_ATTEMPTS" 0x48 1 0x4 0x0 true,
    .ro "BOOT_SEQ" 0x4C 1 0x4 0x0 true,
    .ro "BOOT_RESULT" 0x50 1 0x4 0x0 true,
    .ro "BOOT_MS" 0x54 1 0x4 0x0 false,
    .ro "FW_TAG" 0x58 1 0x4 0x0 false,
    .ro "MANIFEST_TAG" 0x5C 1 0x4 0x0 false,
    .ro "RAFT_FMT_ACT" 0x60 1 0x4 0x0 false,
    .ro "SET_VERSION" 0x64 1 0x4 0x0 false ]

/-- Registers of R517. -/
def backupTable : List RegDef :=
  [ .ro "BK_STATUS" 0x40 1 0x4 0x40 true,
    ⟨"BK_CNT_LO", 0x44, 1, 0x4, 0x0, true, false, [⟨31, 0, true, .any⟩]⟩,
    ⟨"BK_CNT_HI", 0x48, 1, 0x4, 0x0, true, false, [⟨15, 0, true, .any⟩]⟩,
    ⟨"BK_ALARM_LO", 0x4C, 1, 0x4, 0x0, true, false, [⟨31, 0, false, .any⟩]⟩,
    ⟨"BK_ALARM_HI", 0x50, 1, 0x4, 0x0, true, false, [⟨15, 0, false, .any⟩]⟩,
    ⟨"BK_ALARM_CTRL", 0x54, 1, 0x4, 0x0, true, false, [⟨0, 0, false, .any⟩]⟩,
    ⟨"BK_CHG", 0x58, 1, 0x4, 0x0, true, false, [⟨5, 4, true, .oneOf [0, 1, 2]⟩, ⟨2, 0, true, .oneOf [0, 1, 2, 3, 4]⟩]⟩,
    ⟨"BK_PWR", 0x5C, 1, 0x4, 0x640000, true, false, [⟨25, 16, false, .range 1 1000⟩, ⟨4, 4, false, .any⟩, ⟨3, 3, false, .any⟩]⟩,
    .ro "BK_WAKE_CAUSE" 0x60 1 0x4 0x0 true,
    .ro "VBAT_MV" 0x64 1 0x4 0x0 false,
    ⟨"BK_REG", 0x80, 16, 0x4, 0x0, true, false, [⟨31, 0, false, .any⟩]⟩ ]

/-- Registers of R49, page 0x005. -/
def safetyClassTable : List RegDef :=
  [ ⟨"SAFETY_CLASS_CFG1", 0x40, 1, 0x4, 0x3, false, false, [⟨1, 0, true, .range 3 3⟩]⟩,
    ⟨"SAFETY_CLASS_CFG2", 0x44, 1, 0x4, 0x3, false, false, [⟨1, 0, true, .range 3 3⟩]⟩,
    ⟨"SAFETY_CLASS_CFG3", 0x48, 1, 0x4, 0x2, false, false, [⟨1, 0, true, .range 2 3⟩]⟩,
    ⟨"SAFETY_CLASS_CFG4", 0x4C, 1, 0x4, 0x2, false, false, [⟨1, 0, true, .range 2 3⟩]⟩,
    ⟨"SAFETY_CLASS_CFG5", 0x50, 1, 0x4, 0x0, false, false, [⟨1, 0, true, .range 0 3⟩]⟩,
    ⟨"SAFETY_CLASS_CFG6", 0x54, 1, 0x4, 0x2, false, false, [⟨1, 0, true, .range 2 3⟩]⟩,
    ⟨"SAFETY_CLASS_CFG7", 0x58, 1, 0x4, 0x1, false, false, [⟨1, 0, true, .range 1 3⟩]⟩,
    ⟨"SAFETY_CLASS_CFG8", 0x5C, 1, 0x4, 0x1, false, false, [⟨1, 0, true, .range 1 3⟩]⟩,
    ⟨"SAFETY_CLASS_CFG9", 0x60, 1, 0x4, 0x1, false, false, [⟨1, 0, true, .range 1 3⟩]⟩,
    ⟨"SAFETY_CLASS_CFG10", 0x64, 1, 0x4, 0x2, false, false, [⟨1, 0, true, .range 2 3⟩]⟩,
    ⟨"SAFETY_CLASS_CFG11", 0x68, 1, 0x4, 0x1, false, false, [⟨1, 0, true, .range 1 3⟩]⟩,
    ⟨"SAFETY_CLASS_CFG12", 0x6C, 1, 0x4, 0x1, false, false, [⟨1, 0, true, .range 1 3⟩]⟩ ]

/-- Registers of R419. -/
def lampCovTable : List RegDef :=
  [ .ro "LAMP_COV" 0x40 64 0x4 0x0 false ]

/-- Registers of R347, page 0x1C2. -/
def thermResultTable : List RegDef :=
  [ .ro "THERM_RESULT" 0x40 256 0x4 0x0 true ]

/-- Registers of R324, pages 0x184 and 0x185. -/
def meterResultTable : List RegDef :=
  [ .ro "METER_RESULT" 0x40 512 0x4 0x0 true ]

/-- The register table of a page of the page map (R25, R26); a page it does not name has no register of its own. -/
def pageTable (page : Nat) : List RegDef :=
  if 0x140 ≤ page ∧ page < 0x180 then
    (if (page - 0x140) % 8 = 0 then busTable else if (page - 0x140) % 8 = 1 then roundTable else [])
  else
  match page with
  | 0x0 => devTable
  | 0x1 => clkTable
  | 0x2 => pwrTable
  | 0x3 => bootTable
  | 0x4 => safetyTable
  | 0x10 => hostTable
  | 0x11 => slotTable
  | 0x20 => ethTable
  | 0x30 => timeTable
  | 0x35 => ptpTable
  | 0x36 => ppsTable
  | 0x37 => syncTable
  | 0x40 => frameTable
  | 0x80 => scanTable
  | 0x81 => progTable
  | 0xC0 => loopTable
  | 0xC1 => loopMapTable
  | 0x100 => dispatchTable
  | 0x180 => meterTable
  | 0x181 => channelTable
  | 0x182 => circuitTable
  | 0x1C0 => thermTable
  | 0x1C1 => thermMeterTable
  | 0x1E0 => seamTable
  | 0x1F0 => backupTable
  | 0x200 => pairTable
  | 0x240 => cascadeTable
  | 0x260 => keysTable
  | 0x280 => updateTable
  | 0x290 => lioTable
  | 0x5 => safetyClassTable
  | 0x201 => lampCovTable
  | 0x1C2 => thermResultTable
  | 0x184 => meterResultTable
  | 0x185 => meterResultTable
  | 0x31 => baseTable
  | 0x32 => baseTable
  | 0x33 => baseTable
  | 0x34 => baseTable
  | _ => []

/-- Whether the row covers the byte offset. -/
def RegDef.covers (d : RegDef) (off : Nat) : Bool :=
  d.off ≤ off && (off - d.off) % d.stride == 0 && (off - d.off) / d.stride < d.count

/-- The row of an address of the register space, if the spec gives that address a block-specific register. -/
def regDef? (addr : Nat) : Option RegDef := (pageTable (addr / 0x1000)).find? (fun d => d.covers (addr % 0x1000))

/-- The head pages of the page map (R25). -/
def isHeadPage (page : Nat) : Bool :=
  if 0x140 ≤ page ∧ page < 0x180 then (page - 0x140) % 8 == 0
  else [0x000, 0x001, 0x002, 0x003, 0x004, 0x010, 0x020, 0x030, 0x040, 0x080, 0x0C0, 0x100, 0x180, 0x1C0, 0x1E0, 0x1F0,
        0x200, 0x240, 0x260, 0x280, 0x290].contains page

/-- The Reset column of an address, common layout (R29) included; 0 for a reserved one. -/
def regReset (addr : Nat) : Word :=
  if addr % 0x1000 < 0x40 then (if addr % 0x1000 = 0x01C ∧ isHeadPage (addr / 0x1000) then 0x00800000 else 0)
  else match regDef? addr with
    | some d => d.reset
    | none => 0

/-- Whether a warm start leaves the register unchanged (R13, the marks "kept" and "backup"). -/
def regKept (addr : Nat) : Bool :=
  if addr % 0x1000 < 0x40 then
    addr % 0x1000 == 0x008 || addr % 0x1000 == 0x014 || addr % 0x1000 == 0x01C
  else match regDef? addr with
    | some d => d.kept
    | none => false

namespace Reg
/-- `DEV_PART` -/ abbrev DEV_PART : Nat := 0x40
/-- `DEV_STRAPS` -/ abbrev DEV_STRAPS : Nat := 0x44
/-- `DEV_CONFIG` -/ abbrev DEV_CONFIG : Nat := 0x48
/-- `PEND_MAP` -/ abbrev PEND_MAP (k : Nat) : Nat := 0x100 + 0x4 * k
/-- `SAFETY_STATE` -/ abbrev SAFETY_STATE : Nat := 0x4040
/-- `SAFETY_CTRL` -/ abbrev SAFETY_CTRL : Nat := 0x4044
/-- `FLOG_HEAD` -/ abbrev FLOG_HEAD : Nat := 0x4048
/-- `FLOG_LOST` -/ abbrev FLOG_LOST : Nat := 0x404C
/-- `FLOG_SEL` -/ abbrev FLOG_SEL : Nat := 0x4050
/-- `FLOG_DATA` -/ abbrev FLOG_DATA (k : Nat) : Nat := 0x4060 + 0x4 * k
/-- `SCRUB_SRAM_PASS` -/ abbrev SCRUB_SRAM_PASS : Nat := 0x4080
/-- `SCRUB_DRAM_PASS` -/ abbrev SCRUB_DRAM_PASS : Nat := 0x4084
/-- `ECC_CE_COUNT` -/ abbrev ECC_CE_COUNT : Nat := 0x4088
/-- `ECC_UE_COUNT` -/ abbrev ECC_UE_COUNT : Nat := 0x408C
/-- `FRAME_CTRL` -/ abbrev FRAME_CTRL : Nat := 0x40040
/-- `BEAT_CNT_LO` -/ abbrev BEAT_CNT_LO : Nat := 0x40048
/-- `BEAT_CNT_HI` -/ abbrev BEAT_CNT_HI : Nat := 0x4004C
/-- `BEAT_PHASE` -/ abbrev BEAT_PHASE : Nat := 0x40050
/-- `BEAT_ALARM_LO` -/ abbrev BEAT_ALARM_LO : Nat := 0x40058
/-- `BEAT_ALARM_HI` -/ abbrev BEAT_ALARM_HI : Nat := 0x4005C
/-- `LATCH_END_MAX` -/ abbrev LATCH_END_MAX : Nat := 0x40060
/-- `COMMIT_END_MAX` -/ abbrev COMMIT_END_MAX : Nat := 0x40064
/-- `RAFT_END_MAX` -/ abbrev RAFT_END_MAX : Nat := 0x40068
/-- `LATCH_LATE_CNT` -/ abbrev LATCH_LATE_CNT : Nat := 0x40070
/-- `LOOP_LATE_CNT` -/ abbrev LOOP_LATE_CNT : Nat := 0x40074
/-- `OVERRUN_CNT` -/ abbrev OVERRUN_CNT : Nat := 0x40078
/-- `COMMIT_HELD_CNT` -/ abbrev COMMIT_HELD_CNT : Nat := 0x4007C
/-- `SE_PEAK` -/ abbrev SE_PEAK (k : Nat) : Nat := 0x40080 + 0x4 * k
/-- `LE_PEAK` -/ abbrev LE_PEAK (k : Nat) : Nat := 0x400A0 + 0x4 * k
/-- `DT_NS_LO` -/ abbrev DT_NS_LO : Nat := 0x30040
/-- `DT_NS_HI` -/ abbrev DT_NS_HI : Nat := 0x30044
/-- `DT_SEC_LO` -/ abbrev DT_SEC_LO : Nat := 0x30048
/-- `DT_SEC_HI` -/ abbrev DT_SEC_HI : Nat := 0x3004C
/-- `DT_NANO` -/ abbrev DT_NANO : Nat := 0x30050
/-- `DT_FRAC` -/ abbrev DT_FRAC : Nat := 0x30054
/-- `DT_STATUS` -/ abbrev DT_STATUS : Nat := 0x30058
/-- `DT_OFFSET` -/ abbrev DT_OFFSET : Nat := 0x3005C
/-- `SEL_CTRL` -/ abbrev SEL_CTRL : Nat := 0x30060
/-- `SLEW_MAX` -/ abbrev SLEW_MAX : Nat := 0x30064
/-- `DT_GAIN` -/ abbrev DT_GAIN : Nat := 0x30068
/-- `JUMP_LIMIT` -/ abbrev JUMP_LIMIT : Nat := 0x3006C
/-- `REVERT_HOLD` -/ abbrev REVERT_HOLD : Nat := 0x30070
/-- `UTC_OFFSET` -/ abbrev UTC_OFFSET : Nat := 0x30074
/-- `TB_CFG` -/ abbrev TB_CFG (n : Nat) : Nat := 0x31040 + 0x1000 * n
/-- `TB_STATUS` -/ abbrev TB_STATUS (n : Nat) : Nat := 0x31044 + 0x1000 * n
/-- `TB_OFFSET` -/ abbrev TB_OFFSET (n : Nat) : Nat := 0x31048 + 0x1000 * n
/-- `TB_FREQ` -/ abbrev TB_FREQ (n : Nat) : Nat := 0x3104C + 0x1000 * n
/-- `TB_KP` -/ abbrev TB_KP (n : Nat) : Nat := 0x31050 + 0x1000 * n
/-- `TB_KI` -/ abbrev TB_KI (n : Nat) : Nat := 0x31054 + 0x1000 * n
/-- `TB_SAMPLES` -/ abbrev TB_SAMPLES (n : Nat) : Nat := 0x31058 + 0x1000 * n
/-- `TB_JUMPS` -/ abbrev TB_JUMPS (n : Nat) : Nat := 0x3105C + 0x1000 * n
/-- `TB_GM_ID_LO` -/ abbrev TB_GM_ID_LO (n : Nat) : Nat := 0x31060 + 0x1000 * n
/-- `TB_GM_ID_HI` -/ abbrev TB_GM_ID_HI (n : Nat) : Nat := 0x31064 + 0x1000 * n
/-- `TB_NS_LO` -/ abbrev TB_NS_LO (n : Nat) : Nat := 0x31068 + 0x1000 * n
/-- `TB_NS_HI` -/ abbrev TB_NS_HI (n : Nat) : Nat := 0x3106C + 0x1000 * n
/-- `TB_COMP` -/ abbrev TB_COMP (n : Nat) : Nat := 0x31070 + 0x1000 * n
/-- `TB_PATH` -/ abbrev TB_PATH (n : Nat) : Nat := 0x31074 + 0x1000 * n
/-- `PTP_CLK` -/ abbrev PTP_CLK : Nat := 0x35040
/-- `PORT_CFG` -/ abbrev PORT_CFG (k : Nat) : Nat := 0x35080 + 0x20 * k
/-- `PORT_STATE` -/ abbrev PORT_STATE (k : Nat) : Nat := 0x35084 + 0x20 * k
/-- `PORT_INGRESS_LAT` -/ abbrev PORT_INGRESS_LAT (k : Nat) : Nat := 0x35088 + 0x20 * k
/-- `PORT_EGRESS_LAT` -/ abbrev PORT_EGRESS_LAT (k : Nat) : Nat := 0x3508C + 0x20 * k
/-- `PORT_ASYM` -/ abbrev PORT_ASYM (k : Nat) : Nat := 0x35090 + 0x20 * k
/-- `PORT_RX_TS` -/ abbrev PORT_RX_TS (k : Nat) : Nat := 0x35094 + 0x20 * k
/-- `PORT_TX_TS` -/ abbrev PORT_TX_TS (k : Nat) : Nat := 0x35098 + 0x20 * k
/-- `PPS_CFG` -/ abbrev PPS_CFG : Nat := 0x36040
/-- `PPS_IN_LO` -/ abbrev PPS_IN_LO : Nat := 0x36044
/-- `PPS_IN_HI` -/ abbrev PPS_IN_HI : Nat := 0x36048
/-- `TCLK_CFG` -/ abbrev TCLK_CFG : Nat := 0x3604C
/-- `TCLK_IN_FREQ` -/ abbrev TCLK_IN_FREQ : Nat := 0x36050
/-- `RTC_CFG` -/ abbrev RTC_CFG : Nat := 0x36054
/-- `RTC_ERR` -/ abbrev RTC_ERR : Nat := 0x36058
/-- `RTC_SNAP_TICK_LO` -/ abbrev RTC_SNAP_TICK_LO : Nat := 0x3605C
/-- `RTC_SNAP_TICK_HI` -/ abbrev RTC_SNAP_TICK_HI : Nat := 0x36060
/-- `RTC_SNAP_NS_LO` -/ abbrev RTC_SNAP_NS_LO : Nat := 0x36064
/-- `RTC_SNAP_NS_HI` -/ abbrev RTC_SNAP_NS_HI : Nat := 0x36068
/-- `SYNC_CFG` -/ abbrev SYNC_CFG (k : Nat) : Nat := 0x37040 + 0x10 * k
/-- `SYNC_RXDLY` -/ abbrev SYNC_RXDLY (k : Nat) : Nat := 0x37044 + 0x10 * k
/-- `SYNC_LOOP_NS` -/ abbrev SYNC_LOOP_NS (k : Nat) : Nat := 0x37048 + 0x10 * k
/-- `SYNC_RESID` -/ abbrev SYNC_RESID (k : Nat) : Nat := 0x3704C + 0x10 * k
/-- `CLK_STATUS` -/ abbrev CLK_STATUS : Nat := 0x1040
/-- `REF_FREQ` -/ abbrev REF_FREQ : Nat := 0x1044
/-- `CLK_FAULT_CNT` -/ abbrev CLK_FAULT_CNT : Nat := 0x1048
/-- `SCAN_CTRL` -/ abbrev SCAN_CTRL : Nat := 0x80040
/-- `PROG_RUN_MAP` -/ abbrev PROG_RUN_MAP : Nat := 0x80044
/-- `PROG_HOLD_MAP` -/ abbrev PROG_HOLD_MAP : Nat := 0x80048
/-- `PROG_STOP_MAP` -/ abbrev PROG_STOP_MAP : Nat := 0x8004C
/-- `FORCE_COUNT` -/ abbrev FORCE_COUNT : Nat := 0x80050
/-- `FORCE_ORPHAN_ID` -/ abbrev FORCE_ORPHAN_ID : Nat := 0x80054
/-- `EXCH_STATUS` -/ abbrev EXCH_STATUS : Nat := 0x80058
/-- `EXCH_BEAT_LO` -/ abbrev EXCH_BEAT_LO : Nat := 0x8005C
/-- `EXCH_BEAT_HI` -/ abbrev EXCH_BEAT_HI : Nat := 0x80060
/-- `CODE_ACTIVE` -/ abbrev CODE_ACTIVE : Nat := 0x80064
/-- `HOSTQ_REFUSED` -/ abbrev HOSTQ_REFUSED : Nat := 0x80068
/-- `TRAP_CNT` -/ abbrev TRAP_CNT : Nat := 0x8006C
/-- `PROG_STATUS` -/ abbrev PROG_STATUS (k : Nat) : Nat := 0x81040 + 0x40 * k
/-- `PROG_PERIOD` -/ abbrev PROG_PERIOD (k : Nat) : Nat := 0x81044 + 0x40 * k
/-- `PROG_OVERRUNS` -/ abbrev PROG_OVERRUNS (k : Nat) : Nat := 0x81048 + 0x40 * k
/-- `PROG_CYCLES_LO` -/ abbrev PROG_CYCLES_LO (k : Nat) : Nat := 0x8104C + 0x40 * k
/-- `PROG_CYCLES_HI` -/ abbrev PROG_CYCLES_HI (k : Nat) : Nat := 0x81050 + 0x40 * k
/-- `PROG_COST_LAST` -/ abbrev PROG_COST_LAST (k : Nat) : Nat := 0x81054 + 0x40 * k
/-- `PROG_COST_MAX` -/ abbrev PROG_COST_MAX (k : Nat) : Nat := 0x81058 + 0x40 * k
/-- `PROG_INFO` -/ abbrev PROG_INFO (k : Nat) : Nat := 0x8105C + 0x40 * k
/-- `PROG_PC` -/ abbrev PROG_PC (k : Nat) : Nat := 0x81060 + 0x40 * k
/-- `PROG_IMG_TAG` -/ abbrev PROG_IMG_TAG (k : Nat) : Nat := 0x81064 + 0x40 * k
/-- `LIO_DIR_LO` -/ abbrev LIO_DIR_LO : Nat := 0x290040
/-- `LIO_DIR_HI` -/ abbrev LIO_DIR_HI : Nat := 0x290044
/-- `LIO_IN_LO` -/ abbrev LIO_IN_LO : Nat := 0x290048
/-- `LIO_IN_HI` -/ abbrev LIO_IN_HI : Nat := 0x29004C
/-- `LIO_OUT_LO` -/ abbrev LIO_OUT_LO : Nat := 0x290050
/-- `LIO_OUT_HI` -/ abbrev LIO_OUT_HI : Nat := 0x290054
/-- `LIO_PCFG` -/ abbrev LIO_PCFG (k : Nat) : Nat := 0x290080 + 0x10 * k
/-- `LIO_FWD` -/ abbrev LIO_FWD (k : Nat) : Nat := 0x290084 + 0x10 * k
/-- `LIO_REV` -/ abbrev LIO_REV (k : Nat) : Nat := 0x290088 + 0x10 * k
/-- `LIO_PTS` -/ abbrev LIO_PTS (k : Nat) : Nat := 0x29008C + 0x10 * k
/-- `LOOP_CTRL` -/ abbrev LOOP_CTRL : Nat := 0xC0040
/-- `LOOP_ACTIVE` -/ abbrev LOOP_ACTIVE : Nat := 0xC0044
/-- `LE_FAULT_MAP` -/ abbrev LE_FAULT_MAP : Nat := 0xC0048
/-- `OVF_TOTAL` -/ abbrev OVF_TOTAL : Nat := 0xC004C
/-- `OVF_LAST` -/ abbrev OVF_LAST : Nat := 0xC0050
/-- `BADPV_TOTAL` -/ abbrev BADPV_TOTAL : Nat := 0xC0054
/-- `WINQ_REFUSED` -/ abbrev WINQ_REFUSED : Nat := 0xC0058
/-- `LE_SCHED_MAX` -/ abbrev LE_SCHED_MAX (k : Nat) : Nat := 0xC0060 + 0x4 * k
/-- `SAT_MAP` -/ abbrev SAT_MAP (k : Nat) : Nat := 0xC1040 + 0x4 * k
/-- `BADPV_MAP` -/ abbrev BADPV_MAP (k : Nat) : Nat := 0xC10C0 + 0x4 * k
/-- `OVF_MAP` -/ abbrev OVF_MAP (k : Nat) : Nat := 0xC1140 + 0x4 * k
/-- `DISP_SCHED` -/ abbrev DISP_SCHED : Nat := 0x100040
/-- `DISP_PERIOD` -/ abbrev DISP_PERIOD : Nat := 0x100044
/-- `DISP_PHASE` -/ abbrev DISP_PHASE : Nat := 0x100048
/-- `CUTOVER_DELAY` -/ abbrev CUTOVER_DELAY : Nat := 0x10004C
/-- `ADMM_MAX` -/ abbrev ADMM_MAX : Nat := 0x100060
/-- `CG_MAX` -/ abbrev CG_MAX : Nat := 0x100064
/-- `CHECK_EVERY` -/ abbrev CHECK_EVERY : Nat := 0x100068
/-- `RHO` -/ abbrev RHO : Nat := 0x10006C
/-- `SIGMA` -/ abbrev SIGMA : Nat := 0x100070
/-- `ALPHA` -/ abbrev ALPHA : Nat := 0x100074
/-- `CG_TOL` -/ abbrev CG_TOL : Nat := 0x100078
/-- `EPS_ABS` -/ abbrev EPS_ABS : Nat := 0x10007C
/-- `EPS_REL` -/ abbrev EPS_REL : Nat := 0x100080
/-- `ACC_ABS` -/ abbrev ACC_ABS : Nat := 0x100084
/-- `ACC_REL` -/ abbrev ACC_REL : Nat := 0x100088
/-- `ACC_GAP` -/ abbrev ACC_GAP : Nat := 0x10008C
/-- `EPS_INF` -/ abbrev EPS_INF : Nat := 0x100090
/-- `VERIFY_LEAD` -/ abbrev VERIFY_LEAD : Nat := 0x100094
/-- `DISP_STALE` -/ abbrev DISP_STALE : Nat := 0x100098
/-- `RHO_EQ` -/ abbrev RHO_EQ : Nat := 0x10009C
/-- `SOLVE_STATE` -/ abbrev SOLVE_STATE : Nat := 0x1000A0
/-- `SOLVE_ID` -/ abbrev SOLVE_ID : Nat := 0x1000A4
/-- `SOLVE_BEAT_LO` -/ abbrev SOLVE_BEAT_LO : Nat := 0x1000A8
/-- `SOLVE_BEAT_HI` -/ abbrev SOLVE_BEAT_HI : Nat := 0x1000AC
/-- `CUTOVER_BEAT_LO` -/ abbrev CUTOVER_BEAT_LO : Nat := 0x1000B0
/-- `CUTOVER_BEAT_HI` -/ abbrev CUTOVER_BEAT_HI : Nat := 0x1000B4
/-- `ADMM_ITERS` -/ abbrev ADMM_ITERS : Nat := 0x1000B8
/-- `CG_ITERS` -/ abbrev CG_ITERS : Nat := 0x1000BC
/-- `DE_PRIM` -/ abbrev DE_PRIM : Nat := 0x1000C0
/-- `DE_DUAL` -/ abbrev DE_DUAL : Nat := 0x1000C4
/-- `VER_PRIM` -/ abbrev VER_PRIM : Nat := 0x1000C8
/-- `VER_DUAL` -/ abbrev VER_DUAL : Nat := 0x1000CC
/-- `VER_GAP` -/ abbrev VER_GAP : Nat := 0x1000D0
/-- `DISP_INFO` -/ abbrev DISP_INFO : Nat := 0x1000D4
/-- `SOLVE_US` -/ abbrev SOLVE_US : Nat := 0x1000D8
/-- `VERIFY_US` -/ abbrev VERIFY_US : Nat := 0x1000DC
/-- `PLAN_ID` -/ abbrev PLAN_ID : Nat := 0x1000E0
/-- `PLAN_ORIGIN_LO` -/ abbrev PLAN_ORIGIN_LO : Nat := 0x1000E4
/-- `PLAN_ORIGIN_HI` -/ abbrev PLAN_ORIGIN_HI : Nat := 0x1000E8
/-- `PLAN_POS` -/ abbrev PLAN_POS : Nat := 0x1000EC
/-- `PLAN_STEP_BEATS` -/ abbrev PLAN_STEP_BEATS : Nat := 0x1000F0
/-- `CUTOVER_CNT` -/ abbrev CUTOVER_CNT : Nat := 0x1000F4
/-- `REJECT_CNT` -/ abbrev REJECT_CNT : Nat := 0x1000F8
/-- `MISSED_CNT` -/ abbrev MISSED_CNT : Nat := 0x1000FC
/-- `MODEL_N` -/ abbrev MODEL_N : Nat := 0x100100
/-- `MODEL_M` -/ abbrev MODEL_M : Nat := 0x100104
/-- `MODEL_NNZ_A` -/ abbrev MODEL_NNZ_A : Nat := 0x100108
/-- `MODEL_NNZ_P` -/ abbrev MODEL_NNZ_P : Nat := 0x10010C
/-- `MODEL_INFO` -/ abbrev MODEL_INFO : Nat := 0x100110
/-- `MODEL_TAG` -/ abbrev MODEL_TAG : Nat := 0x100114
/-- `MODEL_ERR` -/ abbrev MODEL_ERR : Nat := 0x100118
/-- `HD_STATUS` -/ abbrev HD_STATUS : Nat := 0x100120
/-- `PLAN_COPY_CNT` -/ abbrev PLAN_COPY_CNT : Nat := 0x100128
/-- `FB_CTRL` -/ abbrev FB_CTRL (n : Nat) : Nat := 0x140040 + 0x8000 * n
/-- `FB_ERRCNT` -/ abbrev FB_ERRCNT (n : Nat) : Nat := 0x140044 + 0x8000 * n
/-- `FB_BITTIME` -/ abbrev FB_BITTIME (n : Nat) : Nat := 0x140048 + 0x8000 * n
/-- `FB_DBITTIME` -/ abbrev FB_DBITTIME (n : Nat) : Nat := 0x14004C + 0x8000 * n
/-- `FB_TDC` -/ abbrev FB_TDC (n : Nat) : Nat := 0x140050 + 0x8000 * n
/-- `FB_RETRY` -/ abbrev FB_RETRY (n : Nat) : Nat := 0x140054 + 0x8000 * n
/-- `FB_SYNC_KEY` -/ abbrev FB_SYNC_KEY (n : Nat) : Nat := 0x140058 + 0x8000 * n
/-- `FB_FOLLOW_KEY` -/ abbrev FB_FOLLOW_KEY (n : Nat) : Nat := 0x14005C + 0x8000 * n
/-- `BIT_ERR_CNT` -/ abbrev BIT_ERR_CNT (n : Nat) : Nat := 0x140060 + 0x8000 * n
/-- `STUFF_ERR_CNT` -/ abbrev STUFF_ERR_CNT (n : Nat) : Nat := 0x140064 + 0x8000 * n
/-- `FORM_ERR_CNT` -/ abbrev FORM_ERR_CNT (n : Nat) : Nat := 0x140068 + 0x8000 * n
/-- `ACK_ERR_CNT` -/ abbrev ACK_ERR_CNT (n : Nat) : Nat := 0x14006C + 0x8000 * n
/-- `CRC_ERR_CNT` -/ abbrev CRC_ERR_CNT (n : Nat) : Nat := 0x140070 + 0x8000 * n
/-- `RX_FRAME_CNT` -/ abbrev RX_FRAME_CNT (n : Nat) : Nat := 0x140074 + 0x8000 * n
/-- `TX_FRAME_CNT` -/ abbrev TX_FRAME_CNT (n : Nat) : Nat := 0x140078 + 0x8000 * n
/-- `UNMATCHED_CNT` -/ abbrev UNMATCHED_CNT (n : Nat) : Nat := 0x14007C + 0x8000 * n
/-- `LOST_TOTAL` -/ abbrev LOST_TOTAL (n : Nat) : Nat := 0x140080 + 0x8000 * n
/-- `TX_FAIL_CNT` -/ abbrev TX_FAIL_CNT (n : Nat) : Nat := 0x140084 + 0x8000 * n
/-- `COLLIDE_CNT` -/ abbrev COLLIDE_CNT (n : Nat) : Nat := 0x140088 + 0x8000 * n
/-- `ID_CONFLICT_CNT` -/ abbrev ID_CONFLICT_CNT (n : Nat) : Nat := 0x14008C + 0x8000 * n
/-- `TWIN_CANCEL_CNT` -/ abbrev TWIN_CANCEL_CNT (n : Nat) : Nat := 0x140090 + 0x8000 * n
/-- `TWIN_DUP_CNT` -/ abbrev TWIN_DUP_CNT (n : Nat) : Nat := 0x140094 + 0x8000 * n
/-- `SYNC_FAIL_CNT` -/ abbrev SYNC_FAIL_CNT (n : Nat) : Nat := 0x140098 + 0x8000 * n
/-- `BUSOFF_CNT` -/ abbrev BUSOFF_CNT (n : Nat) : Nat := 0x14009C + 0x8000 * n
/-- `ALONE_RUN` -/ abbrev ALONE_RUN (n : Nat) : Nat := 0x1400A0 + 0x8000 * n
/-- `LAST_FAIL` -/ abbrev LAST_FAIL (n : Nat) : Nat := 0x1400A4 + 0x8000 * n
/-- `TDC_MEAS` -/ abbrev TDC_MEAS (n : Nat) : Nat := 0x1400A8 + 0x8000 * n
/-- `FORMAT_DROP_CNT` -/ abbrev FORMAT_DROP_CNT (n : Nat) : Nat := 0x1400AC + 0x8000 * n
/-- `MISS_TOTAL` -/ abbrev MISS_TOTAL (n : Nat) : Nat := 0x1400B0 + 0x8000 * n
/-- `BUS_WINQ_REFUSED` -/ abbrev BUS_WINQ_REFUSED (n : Nat) : Nat := 0x1400B4 + 0x8000 * n
/-- `CATCH_HEAD` -/ abbrev CATCH_HEAD (n : Nat) : Nat := 0x1400B8 + 0x8000 * n
/-- `CATCH_LOST` -/ abbrev CATCH_LOST (n : Nat) : Nat := 0x1400BC + 0x8000 * n
/-- `RND_CFG` -/ abbrev RND_CFG (n r : Nat) : Nat := 0x141040 + 0x8000 * n + 0x10 * r
/-- `RND_LAST_BEAT` -/ abbrev RND_LAST_BEAT (n r : Nat) : Nat := 0x141044 + 0x8000 * n + 0x10 * r
/-- `RND_MISS` -/ abbrev RND_MISS (n r : Nat) : Nat := 0x141048 + 0x8000 * n + 0x10 * r
/-- `RND_END_MAX` -/ abbrev RND_END_MAX (n r : Nat) : Nat := 0x14104C + 0x8000 * n + 0x10 * r
/-- `METER_CTRL` -/ abbrev METER_CTRL : Nat := 0x180040
/-- `SETUP_TAG` -/ abbrev SETUP_TAG : Nat := 0x180044
/-- `CAL_COUNT` -/ abbrev CAL_COUNT : Nat := 0x180048
/-- `PQ_HEAD` -/ abbrev PQ_HEAD : Nat := 0x18004C
/-- `PQ_LOST` -/ abbrev PQ_LOST : Nat := 0x180050
/-- `TEMP_AFE` -/ abbrev TEMP_AFE : Nat := 0x180054
/-- `REF_CORR` -/ abbrev REF_CORR : Nat := 0x180058
/-- `COPY_ERR` -/ abbrev COPY_ERR : Nat := 0x18005C
/-- `PQ_THRESH1` -/ abbrev PQ_THRESH1 : Nat := 0x180060
/-- `PQ_THRESH2` -/ abbrev PQ_THRESH2 : Nat := 0x180064
/-- `SAMPLE_GAP_CNT` -/ abbrev SAMPLE_GAP_CNT : Nat := 0x180068
/-- `METER_STATUS_WORD` -/ abbrev METER_STATUS_WORD : Nat := 0x18006C
/-- `CH_CFG` -/ abbrev CH_CFG (k : Nat) : Nat := 0x181040 + 0x20 * k
/-- `CH_RATIO` -/ abbrev CH_RATIO (k : Nat) : Nat := 0x181044 + 0x20 * k
/-- `CH_GAIN_ACT` -/ abbrev CH_GAIN_ACT (k : Nat) : Nat := 0x181048 + 0x20 * k
/-- `CH_PHASE_ACT` -/ abbrev CH_PHASE_ACT (k : Nat) : Nat := 0x18104C + 0x20 * k
/-- `CH_OFFSET_ACT` -/ abbrev CH_OFFSET_ACT (k : Nat) : Nat := 0x181050 + 0x20 * k
/-- `CH_FREQ` -/ abbrev CH_FREQ (k : Nat) : Nat := 0x181054 + 0x20 * k
/-- `CH_STATUS` -/ abbrev CH_STATUS (k : Nat) : Nat := 0x181058 + 0x20 * k
/-- `CLIP_CNT` -/ abbrev CLIP_CNT (k : Nat) : Nat := 0x18105C + 0x20 * k
/-- `CIR_CFG` -/ abbrev CIR_CFG (k : Nat) : Nat := 0x182040 + 0x40 * k
/-- `CIR_MAP` -/ abbrev CIR_MAP (k : Nat) : Nat := 0x182044 + 0x40 * k
/-- `CIR_LATCH_N` -/ abbrev CIR_LATCH_N (k : Nat) : Nat := 0x182048 + 0x40 * k
/-- `CIR_NOLOAD_P` -/ abbrev CIR_NOLOAD_P (k : Nat) : Nat := 0x18204C + 0x40 * k
/-- `CIR_NOLOAD_Q` -/ abbrev CIR_NOLOAD_Q (k : Nat) : Nat := 0x182050 + 0x40 * k
/-- `CIR_UDIN` -/ abbrev CIR_UDIN (k : Nat) : Nat := 0x182054 + 0x40 * k
/-- `CIR_STATUS` -/ abbrev CIR_STATUS (k : Nat) : Nat := 0x182058 + 0x40 * k
/-- `SPEC_SEQ` -/ abbrev SPEC_SEQ (k : Nat) : Nat := 0x18205C + 0x40 * k
/-- `SPEC_NS_LO` -/ abbrev SPEC_NS_LO (k : Nat) : Nat := 0x182060 + 0x40 * k
/-- `SPEC_NS_HI` -/ abbrev SPEC_NS_HI (k : Nat) : Nat := 0x182064 + 0x40 * k
/-- `LATCH_SEQ` -/ abbrev LATCH_SEQ (k : Nat) : Nat := 0x182068 + 0x40 * k
/-- `THERM_CTRL` -/ abbrev THERM_CTRL : Nat := 0x1C0040
/-- `BILL_CFG` -/ abbrev BILL_CFG : Nat := 0x1C0044
/-- `BILL_LATCH` -/ abbrev BILL_LATCH : Nat := 0x1C0048
/-- `SEAL_SLOT` -/ abbrev SEAL_SLOT : Nat := 0x1C004C
/-- `BILL_SEQ` -/ abbrev BILL_SEQ : Nat := 0x1C0050
/-- `BILL_SAVE_NS_LO` -/ abbrev BILL_SAVE_NS_LO : Nat := 0x1C0054
/-- `BILL_SAVE_NS_HI` -/ abbrev BILL_SAVE_NS_HI : Nat := 0x1C0058
/-- `SAVE_SKIP_CNT` -/ abbrev SAVE_SKIP_CNT : Nat := 0x1C005C
/-- `GAP_SEQ` -/ abbrev GAP_SEQ : Nat := 0x1C0060
/-- `THERM_CAL_COUNT` -/ abbrev THERM_CAL_COUNT : Nat := 0x1C0064
/-- `THERM_COPY_ERR` -/ abbrev THERM_COPY_ERR : Nat := 0x1C0068
/-- `THERM_STATUS_WORD` -/ abbrev THERM_STATUS_WORD : Nat := 0x1C006C
/-- `THERM_SETUP_TAG` -/ abbrev THERM_SETUP_TAG : Nat := 0x1C0070
/-- `THP_CFG` -/ abbrev THP_CFG (k : Nat) : Nat := 0x1C1040 + 0x20 * k
/-- `THP_VPP` -/ abbrev THP_VPP (k : Nat) : Nat := 0x1C1044 + 0x20 * k
/-- `THP_PRESS` -/ abbrev THP_PRESS (k : Nat) : Nat := 0x1C1048 + 0x20 * k
/-- `THP_DTMIN` -/ abbrev THP_DTMIN (k : Nat) : Nat := 0x1C104C + 0x20 * k
/-- `THP_LATCH_Q` -/ abbrev THP_LATCH_Q (k : Nat) : Nat := 0x1C1050 + 0x20 * k
/-- `THP_FLOW_TO` -/ abbrev THP_FLOW_TO (k : Nat) : Nat := 0x1C1054 + 0x20 * k
/-- `THP_STATUS` -/ abbrev THP_STATUS (k : Nat) : Nat := 0x1C1058 + 0x20 * k
/-- `SEAM_CTRL` -/ abbrev SEAM_CTRL : Nat := 0x1E0040
/-- `SEAM_CMD` -/ abbrev SEAM_CMD : Nat := 0x1E0044
/-- `SEAM_HOLD` -/ abbrev SEAM_HOLD : Nat := 0x1E0048
/-- `SEAM_STATE` -/ abbrev SEAM_STATE : Nat := 0x1E004C
/-- `GEN_LO` -/ abbrev GEN_LO : Nat := 0x1E0050
/-- `GEN_HI` -/ abbrev GEN_HI : Nat := 0x1E0054
/-- `STORE_COUNT0` -/ abbrev STORE_COUNT0 : Nat := 0x1E0058
/-- `STORE_COUNT1` -/ abbrev STORE_COUNT1 : Nat := 0x1E005C
/-- `STORE_US_LAST` -/ abbrev STORE_US_LAST : Nat := 0x1E0060
/-- `STORE_US_MAX` -/ abbrev STORE_US_MAX : Nat := 0x1E0064
/-- `RECALL_INFO` -/ abbrev RECALL_INFO : Nat := 0x1E0068
/-- `VERIFY_FAIL_CNT` -/ abbrev VERIFY_FAIL_CNT : Nat := 0x1E006C
/-- `HOLD_TIMEOUT_CNT` -/ abbrev HOLD_TIMEOUT_CNT : Nat := 0x1E0070
/-- `LIVE_CRC` -/ abbrev LIVE_CRC : Nat := 0x1E0074
/-- `TORN_LAST` -/ abbrev TORN_LAST : Nat := 0x1E0078
/-- `PWR_STATUS` -/ abbrev PWR_STATUS : Nat := 0x2040
/-- `VHOLD_MV` -/ abbrev VHOLD_MV : Nat := 0x2044
/-- `VHOLD_LOW_CNT` -/ abbrev VHOLD_LOW_CNT : Nat := 0x2048
/-- `PAIR_CFG` -/ abbrev PAIR_CFG : Nat := 0x200040
/-- `PAIR_NAME_LO` -/ abbrev PAIR_NAME_LO : Nat := 0x200044
/-- `PAIR_NAME_HI` -/ abbrev PAIR_NAME_HI : Nat := 0x200048
/-- `PAIR_STATUS` -/ abbrev PAIR_STATUS : Nat := 0x20004C
/-- `LEASE_END_LO` -/ abbrev LEASE_END_LO : Nat := 0x200050
/-- `LEASE_END_HI` -/ abbrev LEASE_END_HI : Nat := 0x200054
/-- `LEASE_EPOCH` -/ abbrev LEASE_EPOCH : Nat := 0x200058
/-- `RAFT_FMT` -/ abbrev RAFT_FMT : Nat := 0x20005C
/-- `BUNDLE_TAG` -/ abbrev BUNDLE_TAG : Nat := 0x200060
/-- `PEER_BUNDLE_TAG` -/ abbrev PEER_BUNDLE_TAG : Nat := 0x200064
/-- `FAILOVER_CNT` -/ abbrev FAILOVER_CNT : Nat := 0x200068
/-- `DIVERGE_CNT` -/ abbrev DIVERGE_CNT : Nat := 0x20006C
/-- `RAFT_LATE_CNT` -/ abbrev RAFT_LATE_CNT : Nat := 0x200070
/-- `LINK_CRC_CNT` -/ abbrev LINK_CRC_CNT : Nat := 0x200074
/-- `JOIN_CNT` -/ abbrev JOIN_CNT : Nat := 0x200078
/-- `JOIN_PROGRESS` -/ abbrev JOIN_PROGRESS : Nat := 0x20007C
/-- `RAFT_BYTES_LAST` -/ abbrev RAFT_BYTES_LAST : Nat := 0x200080
/-- `RAFT_BYTES_MAX` -/ abbrev RAFT_BYTES_MAX : Nat := 0x200084
/-- `INPUT_RAFT_MAX` -/ abbrev INPUT_RAFT_MAX : Nat := 0x200088
/-- `LAST_CHANGE_BEAT` -/ abbrev LAST_CHANGE_BEAT : Nat := 0x20008C
/-- `LAMP_FAIL_LO` -/ abbrev LAMP_FAIL_LO : Nat := 0x200090
/-- `LAMP_FAIL_HI` -/ abbrev LAMP_FAIL_HI : Nat := 0x200094
/-- `LAMP_DONE_LO` -/ abbrev LAMP_DONE_LO : Nat := 0x200098
/-- `LAMP_DONE_HI` -/ abbrev LAMP_DONE_HI : Nat := 0x20009C
/-- `LAMP_PASS_CNT` -/ abbrev LAMP_PASS_CNT : Nat := 0x2000A0
/-- `LAMP_PASS_BEATS` -/ abbrev LAMP_PASS_BEATS : Nat := 0x2000A4
/-- `CASC_CFG` -/ abbrev CASC_CFG : Nat := 0x240040
/-- `CASC_STATUS` -/ abbrev CASC_STATUS : Nat := 0x240044
/-- `CASC_IN_BYTES_MAX` -/ abbrev CASC_IN_BYTES_MAX : Nat := 0x240048
/-- `CASC_OUT_BYTES_MAX` -/ abbrev CASC_OUT_BYTES_MAX : Nat := 0x24004C
/-- `CASC_IN_LATE_CNT` -/ abbrev CASC_IN_LATE_CNT : Nat := 0x240050
/-- `CASC_LOST_CNT` -/ abbrev CASC_LOST_CNT : Nat := 0x240054
/-- `CASC_CRC_CNT` -/ abbrev CASC_CRC_CNT : Nat := 0x240058
/-- `CASC_HOP_COMP` -/ abbrev CASC_HOP_COMP : Nat := 0x24005C
/-- `CASC_ARRIVE_MAX` -/ abbrev CASC_ARRIVE_MAX : Nat := 0x240060
/-- `HOST_CFG` -/ abbrev HOST_CFG : Nat := 0x10040
/-- `HOST_STATUS` -/ abbrev HOST_STATUS : Nat := 0x10044
/-- `JSEQ_LAST` -/ abbrev JSEQ_LAST : Nat := 0x10048
/-- `JOURNAL_USED` -/ abbrev JOURNAL_USED : Nat := 0x1004C
/-- `PCIE_ERR_ADDR` -/ abbrev PCIE_ERR_ADDR : Nat := 0x10050
/-- `PCIE_ERR_INFO` -/ abbrev PCIE_ERR_INFO : Nat := 0x10054
/-- `QSPI_ERR_ADDR` -/ abbrev QSPI_ERR_ADDR : Nat := 0x10058
/-- `QSPI_ERR_INFO` -/ abbrev QSPI_ERR_INFO : Nat := 0x1005C
/-- `CRC_DROP_CNT` -/ abbrev CRC_DROP_CNT : Nat := 0x10060
/-- `AUTH_FAIL_CNT` -/ abbrev AUTH_FAIL_CNT : Nat := 0x10064
/-- `BUSY_CNT` -/ abbrev BUSY_CNT : Nat := 0x10068
/-- `RX_DROP_CNT` -/ abbrev RX_DROP_CNT : Nat := 0x1006C
/-- `SLOT_DONE_MAP` -/ abbrev SLOT_DONE_MAP : Nat := 0x10070
/-- `SLOT_CTRL` -/ abbrev SLOT_CTRL (k : Nat) : Nat := 0x11040 + 0x10 * k
/-- `SLOT_STATE` -/ abbrev SLOT_STATE (k : Nat) : Nat := 0x11044 + 0x10 * k
/-- `SLOT_RLEN` -/ abbrev SLOT_RLEN (k : Nat) : Nat := 0x11048 + 0x10 * k
/-- `ETH_CFG` -/ abbrev ETH_CFG : Nat := 0x20040
/-- `ETH_STATUS` -/ abbrev ETH_STATUS : Nat := 0x20044
/-- `ETH_MTU` -/ abbrev ETH_MTU : Nat := 0x20048
/-- `OCTAH_PORT` -/ abbrev OCTAH_PORT : Nat := 0x2004C
/-- `IPV4_ADDR` -/ abbrev IPV4_ADDR : Nat := 0x20050
/-- `IPV4_MASK` -/ abbrev IPV4_MASK : Nat := 0x20054
/-- `IPV4_GW` -/ abbrev IPV4_GW : Nat := 0x20058
/-- `IPV6_ADDR` -/ abbrev IPV6_ADDR (k : Nat) : Nat := 0x20060 + 0x4 * k
/-- `IPV6_PREFIX` -/ abbrev IPV6_PREFIX : Nat := 0x20070
/-- `MAC0_LO` -/ abbrev MAC0_LO : Nat := 0x20080
/-- `MAC0_HI` -/ abbrev MAC0_HI : Nat := 0x20084
/-- `MAC1_LO` -/ abbrev MAC1_LO : Nat := 0x20088
/-- `MAC1_HI` -/ abbrev MAC1_HI : Nat := 0x2008C
/-- `PRP_DUP_CNT` -/ abbrev PRP_DUP_CNT : Nat := 0x20090
/-- `PRP_WRONG_LAN_CNT` -/ abbrev PRP_WRONG_LAN_CNT : Nat := 0x20094
/-- `FRAG_DROP_CNT` -/ abbrev FRAG_DROP_CNT : Nat := 0x20098
/-- `E0_RX_ERR` -/ abbrev E0_RX_ERR : Nat := 0x2009C
/-- `E1_RX_ERR` -/ abbrev E1_RX_ERR : Nat := 0x200A0
/-- `KEYS_STATUS` -/ abbrev KEYS_STATUS : Nat := 0x260040
/-- `KU_COUNTER_LO` -/ abbrev KU_COUNTER_LO : Nat := 0x260044
/-- `KU_COUNTER_HI` -/ abbrev KU_COUNTER_HI : Nat := 0x260048
/-- `XMSS_NEXT_LEAF` -/ abbrev XMSS_NEXT_LEAF : Nat := 0x26004C
/-- `XMSS_LEFT` -/ abbrev XMSS_LEFT : Nat := 0x260050
/-- `SLOTS_USED` -/ abbrev SLOTS_USED : Nat := 0x260054
/-- `ORPHAN_CNT` -/ abbrev ORPHAN_CNT : Nat := 0x260058
/-- `KU_REJECT_CNT` -/ abbrev KU_REJECT_CNT : Nat := 0x26005C
/-- `KEY_FAIL_CNT` -/ abbrev KEY_FAIL_CNT : Nat := 0x260060
/-- `LEAF_LOW_MARK` -/ abbrev LEAF_LOW_MARK : Nat := 0x260064
/-- `ID_HASH` -/ abbrev ID_HASH (k : Nat) : Nat := 0x260080 + 0x4 * k
/-- `UPD_LEN` -/ abbrev UPD_LEN : Nat := 0x280040
/-- `UPD_UNITS_REQ` -/ abbrev UPD_UNITS_REQ : Nat := 0x280044
/-- `UPD_UNITS_RX` -/ abbrev UPD_UNITS_RX : Nat := 0x280048
/-- `UPD_SESSION` -/ abbrev UPD_SESSION : Nat := 0x28004C
/-- `UPD_INFO` -/ abbrev UPD_INFO : Nat := 0x280050
/-- `UPD_PROG` -/ abbrev UPD_PROG : Nat := 0x280054
/-- `UPD_MAN_TAG` -/ abbrev UPD_MAN_TAG : Nat := 0x280058
/-- `BOOT_CAUSE` -/ abbrev BOOT_CAUSE : Nat := 0x3040
/-- `BOOT_SLOTS` -/ abbrev BOOT_SLOTS : Nat := 0x3044
/-- `BOOT_ATTEMPTS` -/ abbrev BOOT_ATTEMPTS : Nat := 0x3048
/-- `BOOT_SEQ` -/ abbrev BOOT_SEQ : Nat := 0x304C
/-- `BOOT_RESULT` -/ abbrev BOOT_RESULT : Nat := 0x3050
/-- `BOOT_MS` -/ abbrev BOOT_MS : Nat := 0x3054
/-- `FW_TAG` -/ abbrev FW_TAG : Nat := 0x3058
/-- `MANIFEST_TAG` -/ abbrev MANIFEST_TAG : Nat := 0x305C
/-- `RAFT_FMT_ACT` -/ abbrev RAFT_FMT_ACT : Nat := 0x3060
/-- `SET_VERSION` -/ abbrev SET_VERSION : Nat := 0x3064
/-- `BK_STATUS` -/ abbrev BK_STATUS : Nat := 0x1F0040
/-- `BK_CNT_LO` -/ abbrev BK_CNT_LO : Nat := 0x1F0044
/-- `BK_CNT_HI` -/ abbrev BK_CNT_HI : Nat := 0x1F0048
/-- `BK_ALARM_LO` -/ abbrev BK_ALARM_LO : Nat := 0x1F004C
/-- `BK_ALARM_HI` -/ abbrev BK_ALARM_HI : Nat := 0x1F0050
/-- `BK_ALARM_CTRL` -/ abbrev BK_ALARM_CTRL : Nat := 0x1F0054
/-- `BK_CHG` -/ abbrev BK_CHG : Nat := 0x1F0058
/-- `BK_PWR` -/ abbrev BK_PWR : Nat := 0x1F005C
/-- `BK_WAKE_CAUSE` -/ abbrev BK_WAKE_CAUSE : Nat := 0x1F0060
/-- `VBAT_MV` -/ abbrev VBAT_MV : Nat := 0x1F0064
/-- `BK_REG` -/ abbrev BK_REG (k : Nat) : Nat := 0x1F0080 + 0x4 * k
/-- `SAFETY_CLASS_CFG` -/ abbrev SAFETY_CLASS_CFG (k : Nat) : Nat := 0x5040 + 0x4 * k
/-- `LAMP_COV` -/ abbrev LAMP_COV (k : Nat) : Nat := 0x201040 + 0x4 * k
end Reg

end Sys2Proof.Machine
end

