-- ==== Sys2Proof/Machine/State.lean ====
section
/-!
DEFINITION. The state of the device as plain data: its registers, its memories, what its engines hold beside them, the
queue of commands that wait, and what has left it. The reset state is the module as it powers up, before a bundle is
loaded.
-/
namespace Sys2Proof.Machine

/-- The reasons for which a step could stop the model with a fault. The model has none: what the manual calls a fault is
a command's effect on the state (R40), and every command of the table has an effect. -/
inductive Fault where
deriving DecidableEq, Repr

/-- The reasons for which a step refuses a command. -/
inductive Refusal where
  /-- raised by an arm of `exec` for a command that has no meaning yet; safe: nothing is claimed of it -/
  | notModelled (mnemonic : String)
deriving DecidableEq, Repr

/-- The block head pages of R25, by name. -/
abbrev Head.dev : Nat := 0x000
/-- CLK -/ abbrev Head.clk : Nat := 0x001
/-- PWR -/ abbrev Head.pwr : Nat := 0x002
/-- BOOT -/ abbrev Head.boot : Nat := 0x003
/-- SAFETY -/ abbrev Head.safety : Nat := 0x004
/-- HOST -/ abbrev Head.host : Nat := 0x010
/-- ETH -/ abbrev Head.eth : Nat := 0x020
/-- TIME -/ abbrev Head.time : Nat := 0x030
/-- FRAME -/ abbrev Head.frame : Nat := 0x040
/-- SCAN -/ abbrev Head.scan : Nat := 0x080
/-- LOOP -/ abbrev Head.loop : Nat := 0x0C0
/-- DISPATCH -/ abbrev Head.dispatch : Nat := 0x100
/-- BUS channel n -/ abbrev Head.bus (n : Nat) : Nat := 0x140 + 8 * n
/-- METER -/ abbrev Head.meter : Nat := 0x180
/-- THERM -/ abbrev Head.therm : Nat := 0x1C0
/-- SEAM -/ abbrev Head.seam : Nat := 0x1E0
/-- BACKUP -/ abbrev Head.backup : Nat := 0x1F0
/-- PAIR -/ abbrev Head.pair : Nat := 0x200
/-- CASCADE -/ abbrev Head.cascade : Nat := 0x240
/-- KEYS -/ abbrev Head.keys : Nat := 0x260
/-- UPDATE -/ abbrev Head.update : Nat := 0x280
/-- LIO -/ abbrev Head.lio : Nat := 0x290

/-- A latch of R12: the path that read the low word, its address, and the words it latched that no read has consumed. -/
structure Latch where
  path : HostPath
  low : Nat
  words : List (Nat × Word)
deriving DecidableEq, Repr

/-- The frozen view of a block (R30): the beat FREEZE was set, and from the next boundary on the words its read-only
registers read as. -/
structure Frozen where
  head : Nat
  setBeat : Nat
  view : Option (List (Nat × Word))
deriving DecidableEq, Repr

/-- How far a block's unlock sequence has come (R34): the first key word was the last write to the block, or OPEN is 1. -/
inductive ProtStage where
  | first | opened
deriving DecidableEq, Repr

/-- The register side of the device: values by register address in canonical form (an unlisted register holds its Reset
value), the latches of the host paths, the frozen views and the unlock sequences. -/
structure RegState where
  /-- values by register address -/
  vals : List (Nat × Word)
  /-- R12 -/
  latches : List Latch
  /-- R50: the fault-log entry a path has latched -/
  flogLatch : List (HostPath × List Word)
  /-- R30 -/
  frozen : List Frozen
  /-- R34, by head page; a block not listed is closed and has seen no key word -/
  prot : List (Nat × ProtStage)
deriving DecidableEq, Repr

/-- One entry of the fault log (R46). -/
structure FaultEntry where
  timeNs : Nat
  beat : Nat
  seq : Nat
  srcType : Nat
  srcInst : Nat
  cls : Nat
  reaction : Nat
  repeated : Bool
  reported : Bool
  count : Nat
  info0 : Word
  info1 : Word
deriving DecidableEq, Repr

/-- A fault in force (R544), oldest first in its list. -/
structure InForce where
  head : Nat
  cls : Nat
  reaction : Nat
deriving DecidableEq, Repr

/-- The safety fault collector (R40 to R50, R544). -/
structure SafetyState where
  /-- the first entries since the cold start, at most 8, oldest first (R48) -/
  kept : List FaultEntry
  /-- the ring, at most 248, newest first (R48) -/
  ring : List FaultEntry
  /-- faults in force, earliest recorded first (R544) -/
  inForce : List InForce
  /-- the beat the unit went fail-silent, none while it is not (R41) -/
  silentSince : Option Nat
  /-- byte position of the SRAM scrubber (R43) -/
  scrubSram : Nat
  /-- byte position of the LPDDR4X scrubber (R43) -/
  scrubDram : Nat
deriving DecidableEq, Repr

/-- The phases of a beat (R54). -/
inductive Phase where
  | p0 | p1 | p2 | p3
deriving DecidableEq, Repr

/-- The FRAME block beside its registers (R51 to R73). -/
structure FrameState where
  /-- the phase the beat is in -/
  phase : Phase
  /-- RUN was cleared while RUNNING: the stop waits for the boundary (R52) -/
  stopping : Bool
  /-- CLR_MAX waits for the boundary -/
  clrMax : Bool
  /-- the armed alarm's beat (R72) -/
  alarm : Option Nat
  /-- the latch of this beat is complete (R55, R56) -/
  latched : Bool
  /-- this beat's cycles, evaluations and commit are withheld (R56) -/
  withheld : Bool
  /-- LATCH_LATE has been recorded in this beat (R56) -/
  late : Bool
deriving DecidableEq, Repr

/-- States of a command-window slot (R423). -/
inductive SlotMode where
  | free | posted | response | discarded
deriving DecidableEq, Repr

/-- One command-window slot beside its memory. -/
structure CmdSlot where
  mode : SlotMode
  len : Nat
  rlen : Nat
deriving DecidableEq, Repr

/-- An open Octah session (R432, R433). -/
structure Session where
  id : Word
  link : Link
  keySlot : Nat
  /-- K_s, 32 bytes -/
  key : List Byte
  /-- highest request COUNTER accepted -/
  rxHigh : Nat
  /-- accepted COUNTER values of the last 256 -/
  rxSeen : List Nat
  /-- the last COUNTER sent -/
  txCount : Nat
  /-- device time of its last request -/
  lastNs : Nat
deriving DecidableEq, Repr

/-- States of a journal entry (R442). -/
inductive JState where
  | free | accepted | started | done | failed | indeterminate
deriving DecidableEq, Repr

/-- A journal entry (R444) but for its tag, which is its index, and its reserved bytes. -/
structure JEntry where
  state : JState
  result : Nat
  path : Nat
  opcode : Nat
  jseq : Nat
  session : Word
  acceptBeat : Nat
  endBeat : Nat
  progress : Nat
  respLen : Nat
  reqDigest : List Byte
  respHead : List Byte
deriving DecidableEq, Repr

/-- A datagram being reassembled (R428). -/
structure Reassembly where
  addr : List Byte
  ident : Nat
  startNs : Nat
  parts : List (Nat × List Byte)
  total : Option Nat
deriving DecidableEq, Repr

/-- The host paths and the Octah journal (R421 to R449). -/
structure HostState where
  /-- 16 slots (R423) -/
  slots : List CmdSlot
  /-- the 64 KiB of slot memory (R423) -/
  slotMem : Mem
  /-- slots in the order of posting, and requests of the other paths, that wait unexamined (R423, R431) -/
  waiting : List OctahReq
  /-- open sessions, at most 8 -/
  sessions : List Session
  /-- 256 entries (R442) -/
  journal : List JEntry
  /-- requests whose entries are STARTED or ACCEPTED, by tag: their responses are still to come (R438) -/
  inflight : List (Nat × OctahReq)
  /-- commands whose effect is complete at a boundary: the beat, the tag, the response payload (R442) -/
  due : List (Nat × Nat × List Byte)
  /-- WERR -/
  qspiErr : Bool
  /-- open reassemblies, at most 4 -/
  reasm : List Reassembly
  /-- PRP duplicate table: source and sequence of the frames received, and when (R427) -/
  prpSeen : List (List Byte × Nat × Nat)
  /-- sequence number of the next PRP supervision frame -/
  prpSup : Nat
deriving DecidableEq, Repr

/-- A FREE entry. -/
def JEntry.free : JEntry :=
  { state := .free, result := 0, path := 0, opcode := 0, jseq := 0, session := 0, acceptBeat := 0, endBeat := 0,
    progress := 0, respLen := 0, reqDigest := List.replicate 8 0, respHead := List.replicate 192 0 }

/-- A plan in force, or a candidate (R230): its descriptor and its cells by byte of the plan table. -/
structure Plan where
  solve : Nat
  nsteps : Nat
  status : Nat
  origin : Nat
  stepBeats : Nat
  cells : Mem
  /-- channels that fall back until the next cut-over (R237) -/
  lost : List Nat
deriving DecidableEq, Repr

/-- The plan-table snapshot of a beat (R55, R235): the plan and its step; no plan where every channel is at fallback. -/
structure PlanSnap where
  plan : Option Plan
  step : Nat
  left : Nat
deriving DecidableEq, Repr

/-- A time base beside its registers (R78 to R83). Its STATE, sample and rate are in TB_STATUS, TB_OFFSET and TB_FREQ. -/
structure TimeBase where
  /-- its time, ns since the epoch -/
  ns : Rat
  /-- I of the servo, as a fraction (R81) -/
  integ : Rat
  /-- consecutive samples within the limit that counts (R79, R80) -/
  run : Nat
  /-- ACQUIRING has taken its first sample (R79) -/
  stepped : Bool
  /-- base time of the last sample, for the sample interval (R81) -/
  lastSample : Option Rat
  /-- beat since which it has been LOCKED without a break (R86) -/
  lockedSince : Option Nat
deriving DecidableEq, Repr

/-- One port of a PTP instance (R89, R91). -/
structure PtpPort where
  /-- portState, as IEEE 1588-2019 numbers it -/
  state : Nat
  /-- a two-step Sync waiting for its Follow_Up: sequenceId, source, ingress stamp, correction -/
  sync : Option (Nat × List Byte × Rat × Rat)
  /-- last Sync: the offset-from-path terms t1 and t2 -/
  lastSync : Option (Rat × Rat)
  /-- the last Delay_Req or Pdelay_Req sent: sequenceId and egress stamp -/
  delayReq : Option (Nat × Rat)
  /-- Pdelay_Resp received: sequenceId, t2, t4, correction -/
  pdelay : Option (Nat × Rat × Rat × Rat)
  /-- mean path delay, or peer delay, ns -/
  path : Rat
  /-- sequence counters of the messages it sends -/
  seqSync : Nat
  seqDelay : Nat
  seqAnnounce : Nat
  /-- the last Announce received -/
  announce : Option PtpAnnounce
deriving DecidableEq, Repr

/-- A running RTC measurement (R108). -/
structure RtcMeas where
  startBeat : Nat
  gate : Nat
deriving DecidableEq, Repr

/-- The TIME and CLK blocks beside their registers (R74 to R112). -/
structure TimeState where
  /-- device time, ns since the epoch: at the last boundary, setting or stamped event of the model (R74) -/
  ns : Nat
  /-- its fraction, units of 2^−16 ns -/
  frac : Nat
  /-- device time's rate against the reference oscillator (R84) -/
  rate : Rat
  /-- the part of it that is the selected base's rate: what remains when d is not measured (R87) -/
  followed : Rat
  /-- TB0 to TB3 -/
  bases : List TimeBase
  /-- the two ports of the instance of each base: index 2 × base + port -/
  ports : List PtpPort
  /-- d was measured at the last boundary (R87) -/
  measuring : Bool
  /-- the selection changed at the last boundary (R87) -/
  selChanged : Bool
  /-- seconds of the next PPS_IN edge, from TOD_SET (R104) -/
  tod : Option Nat
  /-- seconds count of the PPS_IN base at its last edge -/
  ppsSec : Option Nat
  /-- the RTC measurement under way -/
  rtc : Option RtcMeas
  /-- SOF_OFFSET of the timing role by channel, for FOLLOW (R101) -/
  follow : List (Option Int)
  /-- in a pair: the other unit has a LOCKED base other than PARTNER (R98) -/
  partnerLocked : Bool
  /-- role change agreed for a boundary: the beat, and whether this unit then holds it (R98) -/
  roleAt : Option (Nat × Bool)
deriving DecidableEq, Repr

/-- A base at the epoch that has taken no sample. -/
def TimeBase.reset : TimeBase :=
  { ns := 0, integ := 0, run := 0, stepped := false, lastSample := none, lockedSince := none }

/-- A port that has sent and received nothing; 3 is DISABLED, the Reset of PORT_STATE. -/
def PtpPort.reset : PtpPort :=
  { state := 3, sync := none, lastSync := none, delayReq := none, pdelay := none, path := 0,
    seqSync := 0, seqDelay := 0, seqAnnounce := 0, announce := none }

/-- A program cycle in progress on a scan engine (R60, R153, R171). -/
structure Cycle where
  /-- the beat whose interval it runs in: its deadline is the start of P2 of beat f0 + K − 1 -/
  f0 : Nat
  /-- g0 to g31 -/
  regs : List DWord
  /-- code offset of the next instruction -/
  pc : Nat
  /-- return stack, newest first (R165) -/
  stack : List Nat
  /-- engine cycles used -/
  cost : Nat
  /-- cycles already delivered toward the next instruction (R171) -/
  paid : Nat
  /-- the entry work is done -/
  entered : Bool
  /-- END has executed -/
  done : Bool
  /-- a late cycle that continues under SKIP (R142) -/
  late : Bool
  /-- the breakpoint at `pc` has been passed by continuing (R130) -/
  passed : Bool
  /-- R168 -/
  snap : PlanSnap
  /-- the L area as it stood at the latch, from which loop outputs are read (R67) -/
  lArea : Mem
deriving DecidableEq, Repr

/-- PROG_STATUS.MODE (R123). -/
inductive ProgMode where
  | empty | stop | run | hold
deriving DecidableEq, Repr

/-- A mode change that waits for a scheduled start (R125). -/
inductive ModeReq where
  /-- first cycle, with an initialisation of R126 -/
  | start (init : Nat)
  | stop
  | hold
  | resume
  | step
deriving DecidableEq, Repr

/-- A program slot (R113). -/
structure ProgSlot where
  /-- the image (R173); empty in an EMPTY slot -/
  image : List Byte
  mode : ProgMode
  /-- STOP_CAUSE (R124) -/
  cause : Nat
  suspended : Bool
  /-- the cycle in progress, or the next, runs under PROG_STEP (R130) -/
  stepping : Bool
  cycle : Option Cycle
  /-- a change and the scheduled start at which it takes effect -/
  req : Option (Nat × ModeReq)
  /-- PROG_STOP with ABORT: the boundary at which it takes effect -/
  abortAt : Option Nat
  /-- 8 breakpoints (R128) -/
  breaks : List (Option Nat)
  /-- its Q section as last posted -/
  lastQ : List Byte
  /-- the SC posts the safe values at the next P2 (R127) -/
  safeDue : Bool
  /-- first beat at which a cycle may start again after a SKIP (R142) -/
  resumeAt : Nat
  /-- addresses of L words it stored since its last commit (R67) -/
  lWrote : List Nat
deriving DecidableEq, Repr

/-- A force change that takes effect at the next boundary (R138, R139): a force of an entry, its symbol, type, area and
value; or the release of a symbol's force, 0xFFFF_FFFF of all. -/
inductive ForceChange where
  | put (idx sym type area value : Nat)
  | clear (sym : Nat)
deriving DecidableEq, Repr

/-- A host write that waits for P0 (R120): its address in program data, its bytes, and the tag of the SYM_WRITE whose
last value it is. -/
structure HostWrite where
  ofs : Nat
  bytes : List Byte
  tag : Option Nat
deriving DecidableEq, Repr

/-- The staging session of an online exchange (R143 to R148). Its state and cause are in EXCH_STATUS. -/
structure Staging where
  owner : Option Word
  path : Nat
  len : Nat
  digest : List Byte
  data : Mem
  /-- 256-byte units received -/
  units : List Nat
  /-- the armed exchange: beat, programs of the set, those added that start in RUN, the tag of its EXCHANGE -/
  armed : Option (Nat × Nat × Nat × Nat)
  /-- the migration has been made (R146) -/
  migrated : Bool
  /-- in a pair: the partner's digest equals, and it confirmed the armed beat -/
  partnerReady : Bool
  partnerBeat : Option Nat
  /-- IDs released at the last exchange (R148) -/
  orphans : List Nat
deriving DecidableEq, Repr

/-- The SCAN block beside its registers (R113 to R148). -/
structure ScanState where
  /-- 32 slots -/
  slots : List ProgSlot
  /-- the 8 MiB of program data (R117) -/
  data : Mem
  /-- L words as the programs' last commits left them, by address in program data (R67) -/
  lCommit : Mem
  /-- engine cycles each scan engine has used in this beat -/
  used : List Nat
  /-- engines that a WATCHDOG fault stopped (R127) -/
  dead : List Nat
  forceQ : List ForceChange
  hostQ : List HostWrite
  /-- SYM_READ requests that wait for P2: tag and IDs (R122) -/
  symReads : List (Nat × List Nat)
  stage : Staging
  /-- committed Q section of each slot, which outputs repeat (R59) -/
  committed : List (List Byte)
  /-- slots whose outputs were posted in this beat -/
  posted : List Nat
  /-- slots with an output force set in STOP or HOLD, posted in P2 of this beat (R138) -/
  forcePost : List Nat
deriving DecidableEq, Repr

/-- A record of LIO_CONFIG (R481): line, direction, slot and byte offset. -/
structure LioRec where
  line : Nat
  dir : Nat
  slot : Nat
  ofs : Nat
deriving DecidableEq, Repr

/-- The local I/O (R151, R152). -/
structure LioState where
  /-- what the lines carry to and from programs -/
  recs : List LioRec
  /-- levels sampled at the last boundary -/
  levels : Nat
  /-- forward and reverse counts of lines 0 to 31 -/
  fwd : List Word
  rev : List Word
  /-- short stamp of the last counted edge -/
  stamp : List Word
  /-- the one before it, and how many edges have been counted, at most 2 (R327) -/
  stampPrev : List Word
  edges : List Nat
  /-- the bundle's configuration has been applied (R152) -/
  applied : Bool
  /-- every line at high impedance (R41, R152, R376, R415) -/
  hiZ : Bool
deriving DecidableEq, Repr

/-- An EMPTY slot. -/
def ProgSlot.empty : ProgSlot :=
  { image := [], mode := .empty, cause := 0, suspended := false, stepping := false, cycle := none, req := none, abortAt := none,
    breaks := List.replicate 8 none, lastQ := [], safeDue := false, resumeAt := 0, lWrote := [] }

/-- No staging session. -/
def Staging.idle : Staging :=
  { owner := none, path := 0, len := 0, digest := [], data := [], units := [], armed := none, migrated := false, partnerReady := false,
    partnerBeat := none, orphans := [] }

/-- A SCAN block without programs. -/
def ScanState.reset : ScanState :=
  { slots := List.replicate 32 ProgSlot.empty, data := [], lCommit := [], used := List.replicate 8 0, dead := [], forceQ := [], hostQ := [],
    symReads := [], stage := Staging.idle, committed := List.replicate 32 [], posted := [], forcePost := [] }

/-- LIO before its configuration is applied. -/
def LioState.reset : LioState :=
  { recs := [], levels := 0, fwd := List.replicate 32 0, rev := List.replicate 32 0, stamp := List.replicate 32 0, stampPrev := List.replicate 32 0,
    edges := List.replicate 32 0, applied := false, hiZ := true }

/-- A change of a loop block that waits for P0 (R200): a LOOP_MODE, or the words of a LOOP_PARAM_SET by mask bit. -/
inductive LoopChange where
  | mode (loop mode : Nat) (man : Option Word)
  | params (loop : Nat) (words : List (Nat × Word))
deriving DecidableEq, Repr

/-- The LOOP block beside its registers (R181 to R206). -/
structure LoopState where
  /-- the 1,024 loop blocks, 256 bytes each, as the loop block window shows them -/
  blocks : Mem
  /-- loops whose last evaluation was not OFF or HELD, so that h and D_prev stand (R191) -/
  warm : List Nat
  /-- loops whose last measurement was bad (R193) -/
  bad : List Nat
  /-- window writes that wait: word address in the window, value (R200) -/
  winQ : List (Nat × Word)
  /-- opcode changes that wait: beat of acceptance, tag, change -/
  changes : List (Nat × Nat × LoopChange)
  /-- LOOP_READ requests that wait for P2: tag and loop -/
  reads : List (Nat × Nat)
  /-- the loop input copies of this beat, by loop: the entry's data and the beat of its last reception (R55) -/
  inputs : List (Nat × List Byte × Option Nat)
  /-- the plan-table snapshot of this beat (R55) -/
  snap : PlanSnap
  /-- loops evaluated in this beat, whose outputs are posted in P2 -/
  evaluated : List Nat
  /-- the blocks at the end of P0, where another loop reads what the previous beat committed (R67) -/
  prev : Mem
  /-- posted fields for the Tally: entry, byte, bytes (R195) -/
  posted : List (Nat × Nat × List Byte)
  /-- loops due and not yet evaluated in this beat (R66) -/
  late : List Nat
deriving DecidableEq, Repr

/-- A LOOP block without loops. -/
def LoopState.reset : LoopState :=
  { blocks := [], warm := [], bad := [], winQ := [], changes := [], reads := [], inputs := [],
    snap := { plan := none, step := 0, left := 0 }, evaluated := [], prev := [], posted := [], late := [] }

/-- The iterate of the solver: REAL32 vectors (R209, R224). -/
structure Iterate where
  x : List Word
  z : List Word
  y : List Word
  /-- the linear solve's last result, from which the next starts (R225) -/
  xt : List Word
deriving DecidableEq, Repr

/-- A DISP_DATA_WRITE that waits for P0 (R219): first index, values, FINAL, and its tag. -/
structure HostData where
  first : Nat
  values : List Word
  final : Bool
  tag : Nat
deriving DecidableEq, Repr

/-- A solve from its start to its cut-over beat (R221, R222). -/
structure Solve where
  id : Nat
  /-- the beat it was due and the beat it started -/
  start : Nat
  cut : Nat
  /-- the words 0x060 to 0x09C as they stood at its start -/
  params : List Word
  /-- the binding snapshot: one REAL64 a binding (R216) -/
  snapshot : List Nat
  /-- q, l and u after the bindings, REAL32 (R217) -/
  q : List Word
  l : List Word
  u : List Word
  /-- REAL32 of each binding's value -/
  values : List Word
  /-- the iterate it starts from -/
  first : Iterate
  startNs : Nat
  endNs : Nat
deriving DecidableEq, Repr

/-- A record of the solve log (R247). -/
structure SolveLog where
  id : Nat
  start : Nat
  cut : Nat
  state : Word
  copied : Bool
  iters : Nat
  cg : Nat
  dePrim : Word
  deDual : Word
  verPrim : Word
  verDual : Word
  verGap : Word
  info : Word
deriving DecidableEq, Repr

/-- The DISPATCH block beside its registers (R207 to R249). -/
structure DispState where
  /-- the model image in the SRAM; empty without one -/
  model : List Byte
  /-- the model-build copy in the LPDDR4X (R210) -/
  copy : List Byte
  /-- the copy has lost a word (R233) -/
  copyLost : Bool
  /-- the output map (R229): zero where it failed (R213) -/
  map : List Byte
  /-- the host data area: REAL32 at byte 4 × index -/
  hostData : Mem
  hdQueue : List HostData
  /-- beat since which host data are open -/
  hdOpen : Option Nat
  /-- the solve that is scheduled: start and cut-over beat, SOLVE_ID -/
  due : Option (Nat × Nat × Nat)
  /-- the solve that runs, is verified or waits for its cut-over -/
  solve : Option Solve
  /-- the iterate the last solve returned (R227), which the next starts from; none: from zero -/
  warm : Option Iterate
  /-- the iterate the last solve returned, as DISP_RESULT_READ shows it -/
  result : Iterate
  candidate : Option Plan
  plan : Option Plan
  /-- the standby holds a candidate with the owner's digest (R241) -/
  agreed : Bool
  /-- in a standby: the candidate is the owner's copy (R240) -/
  copied : Bool
  /-- the last binding table and values, for DISP_BIND_READ -/
  lastValues : List Word
  /-- at most 16, newest first -/
  log : List SolveLog
  /-- the DE has stopped (R243) -/
  stopped : Bool
deriving DecidableEq, Repr

/-- A DISPATCH block without a model. -/
def DispState.reset : DispState :=
  { model := [], copy := [], copyLost := false, map := [], hostData := [], hdQueue := [], hdOpen := none, due := none, solve := none,
    warm := none, result := { x := [], z := [], y := [], xt := [] }, candidate := none, plan := none, agreed := false, copied := false,
    lastValues := [], log := [], stopped := false }

/-- What a channel sends (R264, R272). -/
inductive TxWhat where
  | sync
  | follow
  | entry (e : Nat)
deriving DecidableEq, Repr

/-- A bus frame that is pending (R264). -/
structure TxFrame where
  what : TxWhat
  /-- the beat that opened its round -/
  opened : Nat
  /-- the round's last beat (R266) -/
  lastBeat : Nat
  /-- its round number on the channel -/
  round : Nat
  /-- arbitration and error retries so far (R265) -/
  arb : Nat
  errs : Nat
  /-- PRIMARY as it stood before a boundary that changed it, and that boundary: what an attempt begun before it sends -/
  older : Option (Nat × List Byte)
  /-- the standby withholds this twin for a listen-only test (R405) -/
  withheld : Bool
deriving DecidableEq, Repr

/-- A field-bus channel beside its registers. -/
structure BusChan where
  /-- pending frames, in the order they became pending -/
  pend : List TxFrame
  /-- beat of the last SYNC launched -/
  lastSync : Option Nat
  /-- the last SYNC was not sent or failed: no FOLLOW at its boundary (R272) -/
  syncFailed : Bool
  /-- the transceiver's dominant time-out has released the bus (R251) -/
  timedOut : Bool
deriving DecidableEq, Repr

/-- A round in progress: its channel, number, first beat and period (R269). -/
structure OpenRound where
  ch : Nat
  round : Nat
  start : Nat
  len : Nat
deriving DecidableEq, Repr

/-- A TALLY_WRITE whose data are posted in P2 of the beat after its acceptance (R263). -/
structure TallyPut where
  accepted : Nat
  entry : Nat
  data : List Byte
deriving DecidableEq, Repr

/-- The Tally and its channels beside their registers (R250 to R285). -/
structure BusState where
  /-- the configuration image in force (R277); empty without one -/
  cfg : List Byte
  /-- 4,096 entries of 256 bytes (R255) -/
  tally : Mem
  /-- HOST_CTRL writes that wait for P0: entry and value (R261) -/
  winQ : List (Nat × Word)
  writes : List TallyPut
  /-- TALLY_READ requests that wait for P2: tag, first entry, count -/
  reads : List (Nat × Nat × Nat)
  /-- the catch-all ring, oldest first, 80 bytes a record (R257) -/
  ring : List (List Byte)
  /-- of an entry with SHADOW_FULL: DLC and round tag of the frame in its shadow (R259) -/
  shadows : List (Nat × Nat × Nat)
  chans : List BusChan
  rounds : List OpenRound
  /-- entries the standby has muted until their round ends (R276) -/
  muted : List Nat
  /-- twin mismatches not yet judged by the PAIR block (R276) -/
  mismatch : List Nat
deriving DecidableEq, Repr

/-- A channel that has sent nothing. -/
def BusChan.reset : BusChan := { pend := [], lastSync := none, syncFailed := false, timedOut := false }

/-- An unconfigured Tally. -/
def BusState.reset : BusState :=
  { cfg := [], tally := [], winQ := [], writes := [], reads := [], ring := [], shadows := [], chans := List.replicate 8 BusChan.reset,
    rounds := [], muted := [], mismatch := [] }

/-- What the device has sent: on its links, its buses and its pins, oldest first. -/
inductive OutMsg where
  /-- the MSI-X message of a vector (R36) -/
  | msix (vector : Nat)
  /-- an Octah response sent by Ethernet (R428, R438) -/
  | response (addr : List Byte) (port : Nat) (packet : List Byte)
  /-- a PTP message of an instance on a port: kind, sequenceId, time field and correction in ns (R89) -/
  | ptp (port base : Nat) (kind : String) (seq : Nat) (ns corr : Rat)
  /-- a bus frame on a channel (R264, R272) -/
  | busFrame (ch : Nat) (frame : BusFrame)
  /-- the dominant time-out of a channel's transceiver released the bus (R251) -/
  | busReleased (ch : Nat)
  /-- SOF_OFFSET values sent to the partner (R101) -/
  | followValue (values : List (Nat × Int))
  /-- a message of the mirror link (R386): TYPE, AUX, ARG, payload before its padding -/
  | mirror (type aux arg : Nat) (payload : List Byte)
  /-- a CONTROL message of the mirror link -/
  | control (c : Control)
  /-- a lease message of 80 bytes to the banksman, or from the banksman to the units, and the ports it is sent on (R380,
  R384) -/
  | lease (ports : List Nat) (bytes : List Byte)
  /-- a message of the cascade link: TYPE, extender, ARG, payload (R411) -/
  | cascade (type ext arg : Nat) (payload : List Byte)
  /-- CASC_TIMING sent, or passed on: the time it carries, ns (R412) -/
  | cascTiming (ns : Rat)
  /-- what a register read returned (R8, R12): path, address, word -/
  | readData (path : HostPath) (addr : Nat) (word : Word)
  /-- bytes the device drives in a quad-SPI transaction (R424) -/
  | qspi (bytes : List Byte)
  /-- a publication (R446): its index, the ports it is sent on, destination, UDP port and packet -/
  | publication (index : Nat) (ports : List Nat) (addr : List Byte) (port : Nat) (packet : List Byte)
  /-- an ARP reply, an ICMP or ICMPv6 echo reply, or a Neighbor Advertisement (R427): kind, port, to whom, content -/
  | netReply (kind : String) (port : Nat) (dest : List Byte) (content : List Byte)
  /-- a PRP supervision frame on a port (R427): its sequence number and the MAC address it carries -/
  | prpSupervision (port seq : Nat) (mac : List Byte)
  /-- PWR_ON is driven low, or released (R513) -/
  | pwrOn (low : Bool)
  /-- the level of ARB_OUT (R385) -/
  | arbOut (level : Bool)
  /-- the PPS_OUT pulse of a whole second, of a width in µs (R105) -/
  | ppsPulse (sec width : Nat)
deriving DecidableEq, Repr

/-- A key slot: the descriptor of R451 and, for a working copy in the KE, its material (R455). -/
structure KeySlot where
  /-- TYPE: 0 EMPTY, 1 AES256, 2 KMAC256, 3 XMSS_PRIVATE, 4 XMSS_PUBLIC -/
  type : Nat
  /-- USE bits -/
  use : Nat
  /-- ORIGIN -/
  origin : Nat
  orphaned : Bool
  expireAtReset : Bool
  limited : Bool
  exhausted : Bool
  parent : Nat
  depth : Nat
  gen : Nat
  parentGen : Nat
  useLimit : Nat
  useCount : Nat
  labelTag : List Byte
  keyTag : List Byte
  /-- the key; for slot 0 the public key, the private key having no bytes the model needs -/
  material : List Byte
deriving DecidableEq, Repr

/-- An EMPTY slot of a generation (R451). -/
def KeySlot.empty (gen : Nat) : KeySlot :=
  { type := 0, use := 0, origin := 0, orphaned := false, expireAtReset := false, limited := false, exhausted := false,
    parent := 0, depth := 0, gen := gen, parentGen := 0, useLimit := 0, useCount := 0,
    labelTag := [0, 0, 0, 0], keyTag := [0, 0, 0, 0], material := [] }

/-- A record of the key file in the NOR system space (R455). -/
structure KeyRecord where
  slot : Nat
  gen : Nat
  material : List Byte
  labelTag : List Byte
  keyTag : List Byte
deriving DecidableEq, Repr

/-- What the Seam security pages hold (R455): the key-update counter, NEXT_LEAF and the slots' state, which has neither
material nor tags. -/
structure SecPages where
  counter : Nat
  leaf : Nat
  slots : List KeySlot
deriving DecidableEq, Repr

/-- A KEY_UPDATE that passed its checks and waits for its Seam seal (R462). -/
structure PendingUpdate where
  tag : Nat
  slots : List KeySlot
  counter : Nat
  /-- its slots, in record order -/
  targets : List Nat
  /-- the security pages as they stood -/
  before : SecPages
deriving DecidableEq, Repr

/-- The key store (R450 to R475). -/
structure KeysState where
  /-- 256 slots -/
  slots : List KeySlot
  /-- the key file -/
  file : List KeyRecord
  /-- the key-update counter -/
  counter : Nat
  /-- NEXT_LEAF (R466) -/
  nextLeaf : Nat
  /-- the traversal state is rebuilt (R467) -/
  xmssReady : Bool
  /-- the generator works (R468) -/
  rngOk : Bool
  /-- ATTEST requests that wait for XMSS_READY, by tag (R467) -/
  attestWaiting : List Nat
  /-- the KEY_UPDATE waiting for its seal -/
  update : Option PendingUpdate
deriving DecidableEq, Repr

/-- A slot's state as the security pages hold it. -/
def KeySlot.page (k : KeySlot) : KeySlot := { k with labelTag := [0, 0, 0, 0], keyTag := [0, 0, 0, 0], material := [] }

/-- The slots of a new module: the identity and the vendor anchor written at the factory (R450, R453). -/
def KeysState.factorySlots : List KeySlot :=
  { KeySlot.empty 1 with type := 3, use := 0x40, origin := 1, parent := 0xFF,
                         material := (List.range 68).map Config.identityKey,
                         keyTag := (List.range 4).map (Config.shake256 ((List.range 68).map Config.identityKey)) } ::
  { KeySlot.empty 1 with type := 4, use := 0x08, origin := 2, parent := 0xFF,
                         material := (List.range 68).map Config.vendorKey,
                         keyTag := (List.range 4).map (Config.shake256 ((List.range 68).map Config.vendorKey)) } ::
  List.replicate 254 (KeySlot.empty 0)


/-- The security pages of a new module. -/
def SecPages.factory : SecPages :=
  { counter := Config.kuCounter.toNat, leaf := Config.nextLeaf, slots := KeysState.factorySlots.map KeySlot.page }

/-- The key store of a new module: the identity and the vendor's anchor, with their key-file records. -/
def KeysState.reset : KeysState :=
  { slots := KeysState.factorySlots
    file := (KeysState.factorySlots.take 2).mapIdx (fun k x => { slot := k, gen := x.gen, material := x.material, labelTag := x.labelTag, keyTag := x.keyTag })
    counter := Config.kuCounter.toNat, nextLeaf := Config.nextLeaf, xmssReady := false, rngOk := true, attestWaiting := [], update := none }

/-- A calibration (R308): gain and offset as REAL32, phase. -/
structure MeterCal where
  gain : Word
  ofs : Word
  phase : Int
deriving DecidableEq, Repr

/-- The active calibration of a channel (R308), before the temperature correction: gain and offset, and the phase trim. -/
structure ActiveCal where
  gain : Rat
  ofs : Rat
  phase : Int
deriving DecidableEq, Repr

/-- A channel of the AFE beside its registers. -/
structure AfeChan where
  user : MeterCal
  /-- an accepted change and the beat it takes effect (R310) -/
  next : Option (Nat × MeterCal)
  /-- the calibration in force before the last change, and the beat of the change -/
  old : Option (Nat × ActiveCal)
  /-- states of the fractional-delay interpolator, the ROGOWSKI integrator and the band-pass (R290, R292, R293) -/
  delay : List Rat
  rog : List Rat
  band : List Rat
  /-- the last sample of the fundamental -/
  last : Rat
  /-- device time of the last crossing that met the rms condition, and of the last valid one, ns -/
  crossAt : Option Nat
  validAt : Option Nat
  /-- the tracked period, ns; none: the nominal period stands for it -/
  period : Option Nat
  noSync : Bool
  /-- in NO_SYNC: the cycle ends so far timed from the last valid crossing -/
  nominalEnds : Nat
deriving DecidableEq, Repr

/-- A latch window in progress (R296, R297). -/
structure LatchWin where
  startNs : Nat
  cycles : Nat
  samples : Nat
  /-- sums over the samples: v², i², v × i, v⊥ × i of phases A, B, C, and i² of the neutral -/
  vv : List Rat
  ii : List Rat
  vi : List Rat
  qi : List Rat
  nn : Rat
  /-- the samples themselves, newest first, for the single-bin DFT: v and i of phases A, B, C -/
  raw : List (List Rat)
  /-- LATCH_FLAGS -/
  flags : Nat
deriving DecidableEq, Repr

/-- A spectral window in progress (R299): its start, cycles, the samples of v and i of phases A, B, C, newest first, and
whether it contains a NO_SYNC cycle. -/
structure SpecWin where
  startNs : Nat
  cycles : Nat
  raw : List (List Rat)
  noSync : Bool
deriving DecidableEq, Repr

/-- A power-quality event in progress (R313, R314): start, phases that met the condition, the extreme of Urms(1/2)², and
NO_SYNC. -/
structure PqEvent where
  startNs : Nat
  phases : Nat
  extreme : Rat
  noSync : Bool
deriving DecidableEq, Repr

/-- A circuit beside its registers. -/
structure MeterCircuit where
  /-- E_IMP, E_EXP, E_Q1 to E_Q4 in units of 2^−32 of the LSB (R304) -/
  energy : List Nat
  /-- energies of the running quantum, W × 31.25 µs (R301) -/
  ep : Rat
  eq : Rat
  /-- p and q of the last samples, newest first; p̄ and q̄ at the last -/
  p : List Rat
  q : List Rat
  pMean : Rat
  qMean : Rat
  /-- v² of the phases over the last samples, newest first, and what tracks v⊥ of each phase -/
  vv : List (List Rat)
  quarter : List (List Rat)
  win : Option LatchWin
  /-- results that wait for their publication: the beat, the words of R297 but those written at publication -/
  ready : List (Nat × List Word)
  spec : Option SpecWin
  /-- V_H, V_PH, I_H, I_PH, P_H by phase and order, of the last completed window, and words 28 to 33 from it -/
  harm : List Word
  thd : List Word
  /-- DIP, SWELL, INTERRUPTION -/
  pq : List (Option PqEvent)
  /-- device time of the next refresh of Urms(1/2) -/
  halfAt : Option Nat
deriving DecidableEq, Repr

/-- A gap of accumulation (R316 to R318): its record type and the device time it began. -/
structure MeterGap where
  type : Nat
  startNs : Nat
deriving DecidableEq, Repr

/-- A capture (R319): mask, samples a channel, start beat, what it has taken by channel, newest first. -/
structure Capture where
  mask : Nat
  count : Nat
  start : Nat
  taken : List (List Rat)
  done : Bool
deriving DecidableEq, Repr

/-- A thermal meter beside its registers (R325 to R336). -/
structure ThermMeter where
  /-- E_HEAT, E_COOL, V_FWD, V_REV, V_ERR in units of 2^−32 of the LSB (R331) -/
  regs : List Nat
  noFlow : Bool
  /-- over the latch window: quanta, values and sums of θ_sup, θ_ret and k, sum of the flow, energy booked in J, flags -/
  quanta : Nat
  sup : Nat × Rat
  ret : Nat × Rat
  kcoef : Nat × Rat
  flow : Rat
  energy : Rat
  flags : Nat
  /-- results that wait for publication: the beat and the words -/
  ready : List (Nat × List Word)
  /-- the channels were in sensor fault in the last quantum -/
  faulty : Bool
deriving DecidableEq, Repr

/-- A billing save on its way (R340): the boundary b, CAUSE, the registers once they are snapshotted. -/
structure BillSave where
  b : Nat
  cause : Nat
  /-- the store has been commanded -/
  stored : Bool
deriving DecidableEq, Repr

/-- The metering engine beside its registers (R286 to R347). -/
structure MeterState where
  chans : List AfeChan
  circuits : List MeterCircuit
  /-- the temperature correction in force and the one of the next quantum, REAL32 ppm (R309) -/
  corr : Word
  corrNext : Word
  /-- the beat after the last one whose samples have arrived or were lost -/
  taken : Nat
  /-- the last quantum boundary booked -/
  booked : Nat
  /-- electrical energy, thermal energy and volume are accumulated -/
  acc : Bool
  thermAcc : Bool
  /-- a warm start: thermal accumulation waits for FRAME (R336) -/
  thermWait : Bool
  gap : Option MeterGap
  /-- consecutive failed and good beats, and the device time of the first failed one (R316) -/
  failRun : Nat
  goodRun : Nat
  failNs : Nat
  /-- the metering buffers lost a word: the soft reset reloads the registers (R317) -/
  lostWord : Bool
  /-- the meter copy list, and the one METER_COPY_SET puts in its place at P0 (R306) -/
  copies : List (List Byte)
  copiesNext : Option (List (List Byte))
  copiesOff : List Nat
  /-- the event ring, oldest first (R314) -/
  ring : List (List Byte)
  capture : Option Capture
  /-- LIO_FWDn and LIO_REVn at the last quantum boundary, and at the one before (R327) -/
  fwdAt : List (Word × Word)
  revAt : List (Word × Word)
  /-- THERM -/
  therms : List ThermMeter
  /-- RTD user offsets, REAL32, and an accepted change with its beat (R335) -/
  rtdUser : List Word
  rtdNext : List (Option (Nat × Word))
  /-- user tables: rows of θ, ρ, h, REAL32 (R330) -/
  tables : List (List (Word × Word × Word))
  thermCopies : List (List Byte)
  thermCopiesNext : Option (List (List Byte))
  thermCopiesOff : List Nat
  /-- latch crossings of REF_CIR, and the quantum of the last that triggers a save (R337) -/
  refCount : Nat
  refQuantum : Option Nat
  /-- the boundary of a save that BILL_SAVE asked for -/
  billAt : Option Nat
  save : Option BillSave
  /-- a gap record was written since the last billing record (R338) -/
  gapSince : Bool
  /-- a cold start has not yet written its gap record (R343) -/
  gapDue : Bool
deriving DecidableEq, Repr

/-- A channel with neutral user calibration that has taken no sample; REAL32 1.0 is 0x3F80_0000. -/
def AfeChan.reset : AfeChan :=
  { user := { gain := 0x3F800000, ofs := 0, phase := 0 }, next := none, old := none, delay := [], rog := [], band := [], last := 0,
    crossAt := none, validAt := none, period := none, noSync := false, nominalEnds := 0 }

/-- A circuit that has metered nothing. -/
def MeterCircuit.reset : MeterCircuit :=
  { energy := List.replicate 6 0, ep := 0, eq := 0, p := [], q := [], pMean := 0, qMean := 0, vv := List.replicate 3 [],
    quarter := List.replicate 3 [], win := none, ready := [], spec := none, harm := [], thd := List.replicate 6 0,
    pq := List.replicate 3 none, halfAt := none }

/-- A thermal meter that has metered nothing. -/
def ThermMeter.reset : ThermMeter :=
  { regs := List.replicate 5 0, noFlow := false, quanta := 0, sup := (0, 0), ret := (0, 0), kcoef := (0, 0), flow := 0, energy := 0,
    flags := 0, ready := [], faulty := false }

/-- A metering engine without a setup. -/
def MeterState.reset : MeterState :=
  { chans := List.replicate 32 AfeChan.reset, circuits := List.replicate 16 MeterCircuit.reset, corr := 0, corrNext := 0, taken := 0,
    booked := 0, acc := false, thermAcc := false, thermWait := false, fwdAt := List.replicate 32 (0, 0), revAt := List.replicate 32 (0, 0), gap := none, failRun := 0, goodRun := 0, failNs := 0, lostWord := false, copies := [], copiesNext := none, copiesOff := [],
    ring := [], capture := none, therms := List.replicate 8 ThermMeter.reset, rtdUser := List.replicate 16 0,
    rtdNext := List.replicate 16 none, tables := List.replicate 4 [], thermCopies := [], thermCopiesNext := none, thermCopiesOff := [],
    refCount := 0, refQuantum := none, billAt := none, save := none, gapSince := false, gapDue := false }

/-- What a requested store completes when its seal is written (R354). -/
inductive StoreFor where
  /-- nothing waits for it -/
  | plain
  /-- a SEAM_STORE, by tag (R370) -/
  | command (tag : Nat)
  /-- the billing record of a save: SEQ and SAVE_NS (R340) -/
  | billing (seq ns : Nat)
  /-- the KEY_UPDATE that waits (R462) -/
  | keyUpdate
  /-- an ATTEST, by tag, and its reserved leaf (R466) -/
  | attest (tag leaf : Nat)
  /-- an operation with a limited key: its tag and the payload it releases (R456) -/
  | keyUse (tag : Nat) (payload : List Byte)
  /-- messages authenticated with a limited key (R456) -/
  | release (msgs : List OutMsg)
  /-- a record sealed with a limited key: its address and bytes, and SEQ and SAVE_NS of a billing record -/
  | sealedRec (addr : Nat) (bytes : List Byte) (bill : Option (Nat × Nat))
deriving DecidableEq, Repr

/-- A non-volatile bank (R348): its seal, empty while erased, and its image. -/
structure SeamBank where
  sealed : List Byte
  /-- stores sealed into this bank since manufacture (R365) -/
  stores : Nat
  /-- the security pages of its image, and the other pages -/
  sec : SecPages
  image : Mem
deriving DecidableEq, Repr

/-- A store in steps 2 to 5 (R353). -/
structure StoreRun where
  target : Nat
  startNs : Nat
  /-- STORE_NS -/
  stampNs : Nat
  fors : List StoreFor
deriving DecidableEq, Repr

/-- How far the power-failure sequence of R361 has come. -/
inductive PfPhase where
  /-- PFI accepted, open brackets awaited -/
  | waiting
  | storing
  /-- held in reset until R362 -/
  | held
deriving DecidableEq, Repr

/-- The Seam store beside its registers (R348 to R373). -/
structure SeamState where
  /-- 2,048 pages of 256 bytes, but for the security pages 1 to 31 -/
  sram : Mem
  /-- the security pages -/
  sec : SecPages
  /-- the KE's own write, deferred by a running store -/
  secDeferred : Option SecPages
  /-- bank 0 and bank 1 -/
  banks : List SeamBank
  run : Option StoreRun
  /-- a store that is requested and has not begun, with what it completes -/
  queued : Option (List StoreFor)
  /-- the host bracket: since when, and the pages written in it (R359) -/
  bracket : Option (Nat × List Nat)
  /-- firmware writes deferred by a running store: address and bytes (R353) -/
  deferred : List (Nat × List Byte)
  /-- LOCK_STATE and the lock OTP (R366) -/
  lock : Nat
  lockOtp : List Byte
  /-- the power-failure sequence -/
  pf : Option PfPhase
deriving DecidableEq, Repr

/-- Security pages of zeros. -/
def SecPages.zero : SecPages := { counter := 0, leaf := 0, slots := List.replicate 256 (KeySlot.empty 0) }

/-- An erased bank. -/
def SeamBank.erased : SeamBank := { sealed := [], stores := 0, sec := SecPages.zero, image := [] }

/-- The page bytes of a slot's state (R455): 16 bytes on pages 2 to 17. -/
def KeySlot.pageBytes (k : KeySlot) : List Byte :=
  let st := (if k.type = 0 then 0 else 1) + (if k.orphaned then 2 else 0) + (if k.expireAtReset then 4 else 0) + (if k.limited then 8 else 0) + (if k.exhausted then 16 else 0)
  leBytes 1 k.type ++ leBytes 1 k.use ++ leBytes 1 k.origin ++ leBytes 1 st ++ leBytes 1 k.parent ++ leBytes 1 k.depth ++ leBytes 2 0 ++
    leBytes 4 k.gen ++ leBytes 4 k.parentGen

/-- The 7,936 bytes of pages 1 to 31 (R455). -/
def SecPages.bytes (p : SecPages) : List Byte :=
  leBytes 8 p.counter ++ leBytes 4 p.leaf ++ List.replicate 244 0 ++ p.slots.flatMap KeySlot.pageBytes ++
    p.slots.flatMap (fun k => leBytes 4 k.useLimit ++ leBytes 4 k.useCount) ++ List.replicate 1536 0

/-- The 524,288 bytes of an image: page 0, the security pages, the others. -/
def imageBytes (sec : SecPages) (m : Mem) : List Byte := m.getN 0 256 ++ sec.bytes ++ m.getN 8192 516096

/-- A seal (R352). -/
def sealOf (count gen imageCrc ns : Nat) : List Byte :=
  let b := leBytes 4 0x4C534553 ++ leBytes 4 count ++ leBytes 8 gen ++ leBytes 4 imageCrc ++ leBytes 8 ns
  b ++ leBytes 4 (crc32c b).toNat

/-- The bank of a new module: one store made at the factory, which holds the security pages (R450, R474). -/
def SeamBank.factory : SeamBank :=
  { sealed := sealOf 1 1 (crc32c (imageBytes SecPages.factory [])).toNat 0, stores := 1, sec := SecPages.factory, image := [] }

/-- The Seam of a new module before its first recall: a stored image in bank 0, bank 1 erased (notes/assumptions/46.md). -/
def SeamState.reset : SeamState :=
  { sram := [], sec := SecPages.zero, secDeferred := none, banks := [SeamBank.factory, SeamBank.erased], run := none, queued := none, bracket := none,
    deferred := [], lock := 0, lockOtp := List.replicate 256 0, pf := none }

/-- A digest in the making (R394): S, N, X. -/
structure Digest where
  s : Nat
  n : Nat
  x : Nat
deriving DecidableEq, Repr

/-- A state raft of the partner that is not yet applied completely (R391, R392): its beat, the blocks received so far and,
once STATE_END has come, how many it holds. -/
structure RaftIn where
  beat : Nat
  got : Nat
  total : Option Nat
deriving DecidableEq, Repr

/-- How far a join has come (R396, R397). -/
inductive JoinPhase where
  /-- no join request is answered yet -/
  | idle
  /-- blocks are being copied -/
  | copying
  /-- join ready has come: programs of the owner's RUN map that have not yet started a cycle, the beat from which digests are
  compared, and the equal ones in a row -/
  | ready (waiting : List Nat) (compareFrom : Option Nat) (equal : Nat)
deriving DecidableEq, Repr

/-- A handover of control (R401): h, the tag of PAIR_HANDOVER (none: the handover of R400), and whether the banksman has
answered so that the transfer is known. -/
structure Handover where
  h : Nat
  tag : Option Nat
  known : Bool
deriving DecidableEq, Repr

/-- What a banksman keeps (R382, R383). -/
structure Witness where
  holder : Option Nat
  start : Nat
  stop : Nat
  epoch : Nat
  lastRenew : Nat
  /-- the quiet period: BEAT of the first request accepted in it, and the largest EPOCH reported -/
  quiet : Option (Option Nat × Nat)
  seq : Nat
  /-- BEAT and SEQ of the last message accepted from each unit -/
  accepted : List (Nat × Nat × Nat)
  taken : Nat
  discarded : Nat
deriving DecidableEq, Repr

/-- The pair beside its registers (R374 to R410). -/
structure PairState where
  /-- START and END of the last grant addressed to this unit -/
  grant : Option (Nat × Nat)
  /-- CONSENT_END of the last heartbeat sent and of the partner's last -/
  ownConsent : Nat
  peerConsent : Nat
  /-- the partner's last heartbeat: its 64 bytes and its beat -/
  hb : List Byte
  hbBeat : Option Nat
  /-- beats without a heartbeat in a row, and the last beat judged -/
  missed : Nat
  judged : Nat
  /-- the last beat whose heartbeat was missed -/
  missAt : Option Nat
  /-- what the partner reports beside its heartbeat's fields -/
  peer : PeerReport
  /-- the last beat whose digests were compared -/
  compared : Option Nat
  /-- the beat of the last heartbeat with OWNER set -/
  ownerSeen : Option Nat
  /-- beat of the last grant or refusal, and of the last grant -/
  bmBeat : Option Nat
  grantBeat : Option Nat
  /-- a TAKE is answered with HELD: no more while its reason lasts (R379) -/
  heldAnswer : Bool
  /-- the beat this unit entered JOINING -/
  joining : Nat
  /-- message count, and BEAT and SEQ of the last message accepted from each sender (R380, R381) -/
  seq : Nat
  accepted : List (Nat × Nat × Nat)
  join : JoinPhase
  /-- it enters JOINING at the next boundary (R395) -/
  leave : Bool
  /-- digest in the making, and of the last beat whose P2 has ended -/
  acc : Digest
  last : Option (Nat × Digest)
  /-- blocks written since the last end of P2: region and block -/
  wrote : List (Nat × Nat)
  /-- the same of earlier intervals, by the beat whose P2 ended them -/
  wroteLog : List (Nat × List (Nat × Nat))
  /-- regions 2, 3 and 4 as they stood at the last end of P2 -/
  baseTally : Mem
  baseJournal : List JEntry
  baseMeter : List (List Byte)
  /-- the state raft to send: region, block, content; and its beat -/
  raft : List (Nat × Nat × List Byte)
  /-- the raft last sent, for a resend -/
  raftSent : List (Nat × Nat × List Byte)
  /-- candidates (R240): the owner's digest and whether its verdict is VERIFIED, whether this standby asked for the copy, and
  in the owner the next block of the copy -/
  ownerDigest : Option (List Byte × Bool)
  copyAsked : Bool
  planCopy : Option Nat
  /-- the join copy the owner sends: the next block of the regions in their order -/
  copyNext : Option Nat
  /-- HOST records of R388 for the next input raft -/
  hostRecs : List (List Byte)
  /-- input raft of this beat, as received: kind, ARG, bytes; and its INPUT_END -/
  sections : List (Nat × Nat × List Byte)
  inputEnd : Option (Nat × Nat)
  /-- the latch is writing, and what it writes is noted for the input raft -/
  logging : Bool
  /-- binding values and plan step of the owner's latch (R388) -/
  bind : Option (List Nat)
  snapIn : Option (Nat × Bool)
  /-- the latch of this beat is made from the input raft, or from own inputs -/
  inputDone : Bool
  rafts : List RaftIn
  /-- the last beat whose raft is applied completely -/
  raftDone : Nat
  /-- consecutive late beats, and the last one -/
  lateRun : Nat
  lateAt : Option Nat
  /-- at most 16 records of 32 bytes, newest first -/
  divLog : List (List Byte)
  handover : Option Handover
  /-- the partner's handover notice: h, the beat it arrived, and whether the banksman has answered -/
  notice : Option (Nat × Nat × Bool)
  /-- the lamp pass in progress: its first beat, and whether an item failed in it; whether the last full pass failed none -/
  lampStart : Option Nat
  lampFailed : Bool
  lampClean : Bool
  /-- the beat of the last full pass -/
  lampFull : Option Nat
  /-- ARB_IN low at consecutive boundaries; ARB_OUT -/
  arbLow : Nat
  arbOut : Bool
  witness : Witness
deriving DecidableEq, Repr

/-- A cascade record (R413), 12 bytes, is kept as its bytes. The CASCADE block beside its registers (R411 to R415). -/
structure CascadeState where
  /-- of each extender: its Tally configuration and its cascade records, from the bundle (master) or the master (extender) -/
  cfg : List (List Byte × List (List Byte))
  /-- extenders whose EXT_INPUT of this beat has come -/
  got : List Nat
  /-- late beats in a row by extender, and the extenders lost -/
  lateRun : List Nat
  lost : List Nat
  /-- EXT_INPUT bytes of this beat -/
  inBytes : Nat
  /-- in an extender: beats in a row without MASTER_OUTPUT, and without CASC_TIMING; outputs are stopped -/
  outMiss : Nat
  timeMiss : Nat
  outSeen : Bool
  timeSeen : Bool
  floating : Bool
  /-- ring training has completed -/
  trained : Bool
  /-- in an extender: d of the last CASC_TIMING (R412), until the boundary uses it; HOLDOVER under R412 -/
  measured : Option Rat
  timeLost : Bool
  /-- LIO_OUT levels that take effect at the next boundary: line and level -/
  lioOut : List (Nat × Bool)
deriving DecidableEq, Repr

/-- An empty digest. -/
def Digest.zero : Digest := { s := 0, n := 0, x := 0 }

/-- A banksman after its restart (R383). -/
def Witness.reset : Witness :=
  { holder := none, start := 0, stop := 0, epoch := 0, lastRenew := 0, quiet := some (none, 0), seq := 0, accepted := [], taken := 0, discarded := 0 }

/-- A pair block that has heard nothing. -/
def PairState.reset : PairState :=
  { grant := none, ownConsent := 0, peerConsent := 0, hb := List.replicate 64 0, hbBeat := none, missed := 0, judged := 0, missAt := none, peer := { normal := false, raftOk := false, locked := false, suspended := false, staged := false, role := none }, compared := none, ownerSeen := none,
    bmBeat := none, grantBeat := none, heldAnswer := false, joining := 0, seq := 0, accepted := [], join := .idle, leave := false,
    acc := Digest.zero, last := none, wrote := [], wroteLog := [], baseTally := [], baseJournal := [], baseMeter := [], raft := [], raftSent := [], ownerDigest := none, copyAsked := false, planCopy := none,
    copyNext := none, hostRecs := [], sections := [], inputEnd := none, logging := false, bind := none, snapIn := none, inputDone := false, rafts := [], raftDone := 0, lateRun := 0, lateAt := none, divLog := [],
    handover := none, notice := none, lampStart := none, lampFailed := false, lampClean := false, lampFull := none, arbLow := 0, arbOut := false,
    witness := Witness.reset }

/-- A cascade block without a ring. -/
def CascadeState.reset : CascadeState :=
  { cfg := [], got := [], lateRun := [0, 0, 0], lost := [], inBytes := 0, outMiss := 0, timeMiss := 0, outSeen := false, timeSeen := false,
    floating := false, trained := false, measured := none, timeLost := false, lioOut := [] }

/-- A firmware slot of the serial NOR (R476): its 64-byte header, empty while erased, its image, the 256-byte units
programmed since the erasure, and the closes programmed into it since manufacture. -/
structure NorSlot where
  header : List Byte
  image : Mem
  units : List Nat
  closes : Nat
deriving DecidableEq, Repr

/-- The update session (R482). -/
structure UpdSession where
  /-- the Octah session that owns it, its path and its key slot -/
  owner : Word
  path : Nat
  keySlot : Nat
  len : Nat
  /-- the manifest digest given at UPDATE_OPEN -/
  digest : List Byte
  /-- the staging buffer in the LPDDR4X, and the units received -/
  data : Mem
  units : List Nat
  /-- ORPHANED since this device time -/
  orphanNs : Option Nat
  /-- UPDATE_CLOSE is in steps 4 to 6, by its tag -/
  closing : Option Nat
deriving DecidableEq, Repr

/-- The UPDATE block beside its registers. -/
structure UpdState where
  nor : List NorSlot
  session : Option UpdSession
deriving DecidableEq, Repr

/-- The BOOT block and what a start leaves behind (R487 to R494); the boot record itself is Seam page 32. -/
structure BootState where
  /-- a start that ACTIVATE or BOOT_RESET asked for: its boundary, its kind of R492, whether it ends in stump mode -/
  due : Option (Nat × Nat × Bool)
  /-- the cached verified digests: of the manifest, of its parts by type, of the bundle (R488) -/
  cached : Option (List Byte × List (Nat × List Byte) × List Byte)
  /-- the bundle that runs; empty without one -/
  bundle : List Byte
  /-- DEVICE_CFG as loaded (R481) -/
  devCfg : List Byte
  /-- the publication records (R445) -/
  pubs : List (List Byte)
  /-- step 9 waits; the start is warm -/
  waiting : Option Bool
  /-- FRAME is started by this start and has not been RUNNING yet: ms from reset to its first boundary -/
  ms : Option Nat
  /-- the beat from which FRAME has been RUNNING without a start in between (R490) -/
  since : Option Nat
  /-- RESET_N holds the device in reset (R525) -/
  held : Bool
  /-- the level of ETH_RST_N (R531) -/
  ethRst : Bool
  /-- VIO banks in range, bit k − 1 for bank k (R523, R527) -/
  vio : Nat
deriving DecidableEq, Repr

/-- The backup domain beside its registers (R503 to R518). -/
structure BackupState where
  /-- BK_CNT, 48 bits -/
  cnt : Nat
  /-- the low word written for the next counter set (R508) -/
  setLo : Word
  /-- writes that wait for their tick edge, in arrival order: register address and value (R509) -/
  writes : List (Nat × Word)
  /-- the crystal runs -/
  xtRuns : Bool
  /-- consecutive tick edges at which WAKE_IN was sampled low, and high; it may be recognised -/
  wakeLow : Nat
  wakeHigh : Nat
  wakeReady : Bool
  /-- tick edges since the last assertion of PWR_ON (R514) -/
  since : Nat
deriving DecidableEq, Repr

/-- An erased slot. -/
def NorSlot.erased : NorSlot := { header := [], image := [], units := [], closes := 0 }

/-- A NOR without images. -/
def UpdState.reset : UpdState := { nor := [NorSlot.erased, NorSlot.erased], session := none }

/-- A device that no start has configured. -/
def BootState.reset : BootState :=
  { due := none, cached := none, bundle := [], devCfg := [], pubs := [], waiting := none, ms := none, since := none, held := false, ethRst := false, vio := 15 }

/-- A backup domain after its power-on reset (R504). -/
def BackupState.reset : BackupState :=
  { cnt := 0, setLo := 0, writes := [], xtRuns := true, wakeLow := 0, wakeHigh := 0, wakeReady := true, since := 0 }

/-- The whole state. -/
structure State where
  /-- commands that wait, first in first out -/
  pending : List Instr
  reg : RegState
  safety : SafetyState
  frame : FrameState
  host : HostState
  time : TimeState
  keys : KeysState
  scan : ScanState
  lio : LioState
  loop : LoopState
  disp : DispState
  bus : BusState
  meter : MeterState
  seam : SeamState
  pair : PairState
  casc : CascadeState
  upd : UpdState
  boot : BootState
  bk : BackupState
  /-- messages sent -/
  out : List OutMsg
  /-- the model's own: how many free values have been drawn (notes/assumptions/1.md) -/
  freeCtr : Nat
deriving DecidableEq, Repr

/-- A closed register side with every register at its Reset value. -/
def RegState.reset : RegState := { vals := [], latches := [], flogLatch := [], frozen := [], prot := [] }

/-- The state right after reset: every register at its Reset value, every memory empty. -/
def State.reset : State :=
  { pending := []
    reg := RegState.reset
    safety := { kept := [], ring := [], inForce := [], silentSince := none, scrubSram := 0, scrubDram := 0 }
    frame := { phase := .p0, stopping := false, clrMax := false, alarm := none, latched := false, withheld := false, late := false }
    host := { slots := List.replicate 16 { mode := .free, len := 0, rlen := 0 }, slotMem := [], waiting := [], sessions := [],
              journal := List.replicate 256 JEntry.free, inflight := [], due := [], qspiErr := false, reasm := [], prpSeen := [], prpSup := 0 }
    time := { ns := 0, frac := 0, rate := 0, followed := 0, bases := List.replicate 4 TimeBase.reset, ports := List.replicate 8 PtpPort.reset,
              measuring := false, selChanged := false, tod := none, ppsSec := none, rtc := none, follow := List.replicate 8 none,
              partnerLocked := false, roleAt := none }
    keys := KeysState.reset
    scan := ScanState.reset
    lio := LioState.reset
    loop := LoopState.reset
    disp := DispState.reset
    bus := BusState.reset
    meter := MeterState.reset
    seam := SeamState.reset
    pair := PairState.reset
    casc := CascadeState.reset
    upd := UpdState.reset
    boot := BootState.reset
    bk := BackupState.reset
    out := []
    freeCtr := 0 }

end Sys2Proof.Machine
end

