-- ==== Sys2Proof/Machine/Ops.lean ====
section
/-!
DEFINITION. The named operations every meaning is built from: reading and writing a register's stored value, events
(R35 to R37), refusals (R33), block status, device time and beat numbers, what leaves the device, and free values.
-/
namespace Sys2Proof.Machine

/-! ### Registers as stored -/

/-- The stored value of a register. -/
def State.rg (s : State) (a : Nat) : Word := amGet regReset s.reg.vals a

/-- The state with a register's stored value set. -/
def State.setRg (s : State) (a : Nat) (w : Word) : State :=
  { s with reg := { s.reg with vals := amPut regReset s.reg.vals a w } }

/-- A field of a stored register. -/
def State.fld (s : State) (a hi lo : Nat) : Nat := wbits (s.rg a) hi lo

/-- The state with a field of a register set. -/
def State.setFld (s : State) (a hi lo x : Nat) : State := s.setRg a (wset (s.rg a) hi lo x)

/-- A register counted up by one, saturating. -/
def State.incSat (s : State) (a : Nat) : State := s.setRg a (satInc (s.rg a))

/-- A register counted up by one, wrapping. -/
def State.incWrap (s : State) (a : Nat) : State := s.setRg a (s.rg a + 1)

/-- A 64-bit quantity kept in two registers. -/
def State.rg64 (s : State) (lo : Nat) : Nat := (s.rg lo).toNat + 2 ^ 32 * (s.rg (lo + 4)).toNat

/-- A 64-bit quantity stored in two registers. -/
def State.setRg64 (s : State) (lo v : Nat) : State :=
  (s.setRg lo (BitVec.ofNat 32 v)).setRg (lo + 4) (BitVec.ofNat 32 (v / 2 ^ 32))

/-- The larger of a register and a number is kept (peak registers). -/
def State.peak (s : State) (a v : Nat) : State := if (s.rg a).toNat < v then s.setRg a (BitVec.ofNat 32 v) else s

/-! ### Device time and beats -/

/-- The 64-bit nanosecond count of device time (R75). -/
def State.nsCount (s : State) : Nat := s.time.ns % 2 ^ 64

/-- BEAT_CNT (R51). -/
def State.beat (s : State) : Nat := s.nsCount / 250000

/-- The beat offset in ns (R3). -/
def State.beatOfs (s : State) : Nat := s.nsCount % 250000

/-- The short stamp of a time (R76). -/
def shortStamp (ns : Nat) : Nat := ns / 1000 % 2 ^ 32

/-- The device-time stamp, in ns, of an event at an offset of the running beat given in units of 0.25 ns (R77). -/
def State.stampQ (s : State) (q : Nat) : Nat := (s.beat * 250000 + q / 4) % 2 ^ 64

/-- The rate of a base against the reference oscillator: F of R81, held in TB_FREQ in units of 2^−44. -/
def State.baseRate (s : State) (n : Nat) : Rat := ((sext 32 (s.rg (Reg.TB_FREQ n)).toNat : Int) : Rat) / (2 ^ 44 : Nat)

/-- The base runs on by an interval of device time: by the interval at its own rate over device time's (R81, R84). -/
def State.baseAfter (s : State) (n : Nat) (b : TimeBase) (d : Rat) : TimeBase :=
  if s.fld (Reg.TB_STATUS n) 2 0 = 0 then b else { b with ns := b.ns + d * (1 + s.baseRate n) / (1 + s.time.rate) }

/-- Device time moved on by whole nanoseconds, every base with it. -/
def State.elapse (s : State) (d : Nat) : State :=
  { s with time := { s.time with ns := s.time.ns + d, bases := s.time.bases.mapIdx (fun n b => s.baseAfter n b (d : Rat)) } }

/-- Device time moved on to an offset of the running beat; an offset already passed changes nothing. -/
def State.advanceTo (s : State) (ofs : Nat) : State :=
  if s.beatOfs < ofs ∧ ofs < 250000 then s.elapse (ofs - s.beatOfs) else s

/-! ### Blocks -/

/-- BLK_CTRL of a head page. -/
abbrev Reg.ctrl (head : Nat) : Nat := head * 0x1000 + 0x008
/-- BLK_STATUS of a head page. -/
abbrev Reg.status (head : Nat) : Nat := head * 0x1000 + 0x00C
/-- EVT_RAW of a head page. -/
abbrev Reg.evtRaw (head : Nat) : Nat := head * 0x1000 + 0x010
/-- EVT_MASK of a head page. -/
abbrev Reg.evtMask (head : Nat) : Nat := head * 0x1000 + 0x014
/-- EVT_ROUTE of a head page. -/
abbrev Reg.evtRoute (head : Nat) : Nat := head * 0x1000 + 0x01C
/-- ERR_CODE of a head page. -/
abbrev Reg.errCode (head : Nat) : Nat := head * 0x1000 + 0x020
/-- ERR_INFO of a head page. -/
abbrev Reg.errInfo (head : Nat) : Nat := head * 0x1000 + 0x024
/-- BEAT_STAMP of a head page. -/
abbrev Reg.beatStamp (head : Nat) : Nat := head * 0x1000 + 0x02C

/-- The blocks whose ENABLE reads 1 and cannot be cleared (R29). -/
def alwaysEnabled (head : Nat) : Bool := [Head.dev, Head.clk, Head.pwr, Head.boot, Head.safety, Head.host, Head.frame].contains head

/-- BLK_CTRL.ENABLE as it reads (R29). -/
def State.enabled (s : State) (head : Nat) : Bool := alwaysEnabled head || bit (s.rg (Reg.ctrl head)).toNat 0

/-- The head page of the block that owns a page of the page map (R25); a page no block owns is its own. -/
def headOf (page : Nat) : Nat :=
  if page ≤ 0x003 then page
  else if page ≤ 0x005 then 0x004
  else if 0x010 ≤ page ∧ page ≤ 0x01F then 0x010
  else if 0x020 ≤ page ∧ page ≤ 0x02F then 0x020
  else if 0x030 ≤ page ∧ page ≤ 0x03F then 0x030
  else if 0x080 ≤ page ∧ page ≤ 0x0BF then 0x080
  else if 0x0C0 ≤ page ∧ page ≤ 0x0FF then 0x0C0
  else if 0x100 ≤ page ∧ page ≤ 0x13F then 0x100
  else if 0x140 ≤ page ∧ page ≤ 0x17F then page - page % 8
  else if 0x180 ≤ page ∧ page ≤ 0x1BF then 0x180
  else if 0x1C0 ≤ page ∧ page ≤ 0x1DF then 0x1C0
  else if 0x1E0 ≤ page ∧ page ≤ 0x1EF then 0x1E0
  else if 0x1F0 ≤ page ∧ page ≤ 0x1F7 then 0x1F0
  else if 0x200 ≤ page ∧ page ≤ 0x23F then 0x200
  else if 0x240 ≤ page ∧ page ≤ 0x24F then 0x240
  else if 0x260 ≤ page ∧ page ≤ 0x27F then 0x260
  else if 0x280 ≤ page ∧ page ≤ 0x28F then 0x280
  else page

/-- BLK_ID.TYPE of a block: the page number of its first head page (R25). -/
def typeOf (head : Nat) : Nat := if 0x140 ≤ head ∧ head ≤ 0x17F then 0x140 else head

/-- BLK_ID.INST of a block: the channel for BUS, else 0 (R29). -/
def instOf (head : Nat) : Nat := if 0x140 ≤ head ∧ head ≤ 0x17F then (head - 0x140) / 8 else 0

/-- The head page of the block with a type and an instance. -/
def headOfType (ty inst : Nat) : Nat := if ty = 0x140 then 0x140 + 8 * (inst % 8) else ty

/-- All head pages, in page order. -/
def headPages : List Nat :=
  [0x000, 0x001, 0x002, 0x003, 0x004, 0x010, 0x020, 0x030, 0x040, 0x080, 0x0C0, 0x100, 0x140, 0x148, 0x150, 0x158, 0x160,
   0x168, 0x170, 0x178, 0x180, 0x1C0, 0x1E0, 0x1F0, 0x200, 0x240, 0x260, 0x280, 0x290]

/-- BLK_STATUS.STATE. -/
def State.blkState (s : State) (head : Nat) : Nat := s.fld (Reg.status head) 7 4

/-- BLK_STATUS.FAULT (R32). -/
def State.blkFault (s : State) (head : Nat) : Bool := bit (s.rg (Reg.status head)).toNat 2

/-- BLK_STATUS set; a change stamps BEAT_STAMP (R29). -/
def State.setStatus (s : State) (head : Nat) (w : Word) : State :=
  if s.rg (Reg.status head) = w then s
  else (s.setRg (Reg.status head) w).setRg (Reg.beatStamp head) (BitVec.ofNat 32 s.beat)

/-- BLK_STATUS.STATE set. -/
def State.setBlkState (s : State) (head x : Nat) : State := s.setStatus head (wset (s.rg (Reg.status head)) 7 4 x)

/-- BLK_STATUS.READY set: the block is configured and working. -/
def State.setReady (s : State) (head : Nat) (b : Bool) : State := s.setStatus head (wset (s.rg (Reg.status head)) 0 0 (b2n b))

/-- BLK_STATUS.BUSY set: the block is executing an operation. -/
def State.setBusy (s : State) (head : Nat) (b : Bool) : State := s.setStatus head (wset (s.rg (Reg.status head)) 1 1 (b2n b))

/-- BLK_STATUS.FAULT set. -/
def State.setFaultBit (s : State) (head : Nat) (b : Bool) : State := s.setStatus head (wset (s.rg (Reg.status head)) 2 2 (b2n b))

/-! ### What leaves the device -/

/-- The unit transmits nothing and takes no command: it is fail-silent (R41), in the power-failure sequence (R361), or held in
reset (R525). -/
def State.silent (s : State) : Bool := s.safety.silentSince.isSome || s.seam.pf.isSome || s.boot.held

/-- A message is sent. -/
def State.emit (s : State) (m : OutMsg) : State := { s with out := s.out ++ [m] }

/-- A message on a link that a fail-silent unit stops (R41) is sent, or not. -/
def State.send (s : State) (m : OutMsg) : State := if s.silent then s else s.emit m

/-! ### Events (R35 to R39) -/

/-- EVT_PEND (R29). -/
def State.evtPend (s : State) (head : Nat) : Word := s.rg (Reg.evtRaw head) &&& s.rg (Reg.evtMask head)

/-- HOST_EN of a block's event signal. -/
def State.hostEn (s : State) (head : Nat) : Bool := bit (s.rg (Reg.evtRoute head)).toNat 7

/-- PCI Express is a host path: its link is up (R36, R422). -/
def State.pcieUp (s : State) : Bool := bit (s.rg Reg.HOST_STATUS).toNat 0

/-- The MSI-X message of a block is sent if it has the host as destination and PCI Express as path (R36). -/
def State.signalHost (s : State) (head : Nat) : State :=
  if s.hostEn head && s.pcieUp then s.emit (.msix (s.fld (Reg.evtRoute head) 4 0)) else s

/-- EVT_RAW set to a value, with the message of R36 where EVT_PEND leaves zero. -/
def State.putEvtRaw (s : State) (head : Nat) (raw : Word) : State :=
  let t := s.setRg (Reg.evtRaw head) raw
  if s.evtPend head = 0 ∧ t.evtPend head ≠ 0 then t.signalHost head else t

/-- An event occurs: its bit of EVT_RAW is set (R35). -/
def State.evt (s : State) (head n : Nat) : State := s.putEvtRaw head (s.rg (Reg.evtRaw head) ||| BitVec.ofNat 32 (2 ^ n))

/-- HOST_INT is held low: some block with HOST_EN has a pending event (R37). -/
def State.hostIntLow (s : State) : Bool := headPages.any (fun h => s.hostEn h && s.evtPend h != 0)

/-! ### Refusals (R33) -/

/-- Status codes of R435. -/
abbrev Code.ok : Nat := 0x00
/-- BAD_OPCODE -/ abbrev Code.badOpcode : Nat := 0x01
/-- BAD_LENGTH -/ abbrev Code.badLength : Nat := 0x02
/-- BAD_ARG -/ abbrev Code.badArg : Nat := 0x03
/-- STATE -/ abbrev Code.state : Nat := 0x04
/-- BUSY -/ abbrev Code.busy : Nat := 0x05
/-- AUTH -/ abbrev Code.auth : Nat := 0x06
/-- NO_RESOURCE -/ abbrev Code.noResource : Nat := 0x07
/-- KEY_ORPHANED -/ abbrev Code.keyOrphaned : Nat := 0x08
/-- ABORTED -/ abbrev Code.aborted : Nat := 0x09
/-- TIMEOUT -/ abbrev Code.timeout : Nat := 0x0A
/-- NOT_OWNER -/ abbrev Code.notOwner : Nat := 0x0B
/-- VERSION -/ abbrev Code.version : Nat := 0x0C
/-- PARTIAL -/ abbrev Code.partialDone : Nat := 0x0D

/-- ERR_CODE and ERR_INFO take the first error since their last clear, a later one sets OVF; every error sets EVT_RAW
bit 0 (R33). -/
def State.err (s : State) (head ofs : Nat) (window : Bool) (code : Nat) (info : Word) : State :=
  let w := s.rg (Reg.errCode head)
  let t :=
    if wbits w 7 0 = 0 then
      (s.setRg (Reg.errCode head) (BitVec.ofNat 32 (code + 256 * (ofs % 4096) + 2 ^ 20 * b2n window))).setRg (Reg.errInfo head) info
    else s.setRg (Reg.errCode head) (wset w 30 30 1)
  t.evt head 0

/-- A refused register access at an address is recorded at its block (R33). -/
def State.errAt (s : State) (addr code : Nat) (info : Word) : State :=
  s.err (headOf (addr / 0x1000)) (addr % 0x1000) false code info

/-- A refusal that its chapter records without a register access: offset 0. -/
def State.errBlk (s : State) (head code : Nat) (info : Word) : State := s.err head 0 false code info

/-! ### Free values -/

/-- A free value is drawn: nothing constrains it, and no two draws are related (notes/assumptions/1.md). -/
def State.draw (s : State) : Word × State := (Config.freeWord s.freeCtr, { s with freeCtr := s.freeCtr + 1 })

/-- A free byte string is drawn. -/
def State.drawBytes (s : State) (n : Nat) : List Byte × State :=
  ((List.range n).map (fun k => Config.freeByte s.freeCtr k), { s with freeCtr := s.freeCtr + 1 })

/-- The first `n` bytes of SHAKE256 of a byte string. -/
def shake (bs : List Byte) (n : Nat) : List Byte := (List.range n).map (Config.shake256 bs)

/-- The first `n` bytes of KMAC256 of a message, by key and customisation string. -/
def kmac (key msg custom : List Byte) (n : Nat) : List Byte := (List.range n).map (Config.kmac256 key msg custom)

/-- The bytes of an ASCII string. -/
def asciiBytes (t : String) : List Byte := t.toList.map (fun c => BitVec.ofNat 8 c.toNat)

/-! ### Roles (R23) -/

/-- DEV_CONFIG.ROLE. -/
def State.role (s : State) : Nat := s.fld Reg.DEV_CONFIG 2 0
/-- Role numbers. -/
abbrev Role.unconfigured : Nat := 0
/-- SINGLE -/ abbrev Role.single : Nat := 1
/-- PAIR_MEMBER -/ abbrev Role.pairMember : Nat := 2
/-- CASCADE_MASTER -/ abbrev Role.cascadeMaster : Nat := 3
/-- EXTENDER -/ abbrev Role.extender : Nat := 4
/-- WITNESS -/ abbrev Role.witness : Nat := 5
/-- PAIR_ID of the strap: 0 unit A, 1 unit B. -/
def State.pairId (s : State) : Nat := s.fld Reg.DEV_STRAPS 0 0

/-! ### What a pair's digest folds, and which blocks it marks written (R390, R394) -/

/-- A word folded into a digest: A = region × 2^24 + its word number, c1 over A then V, c2 over V then A. -/
def Digest.fold (d : Digest) (region k : Nat) (v : Word) : Digest :=
  let a := leBytes 4 (region * 2 ^ 24 + k)
  let b := leBytes 4 v.toNat
  let c1 := (crc32c (a ++ b)).toNat
  let c2 := (crc32c (b ++ a)).toNat
  { s := (d.s + c2 * 2 ^ 32 + c1) % 2 ^ 64, n := (d.n + 1) % 2 ^ 32, x := d.x ^^^ c2 }

/-- A word written into a region, or posted (region 15), by the work both units of a pair do. -/
def State.foldWord (s : State) (region k : Nat) (v : Word) : State :=
  if s.role = Role.pairMember then
    { s with pair := { s.pair with
        acc := s.pair.acc.fold region k v
        wrote := if region = 15 ∨ s.pair.wrote.contains (region, k / 64) then s.pair.wrote else (region, k / 64) :: s.pair.wrote } }
  else s

/-- The words of a memory that a write of `n` bytes at an address touches. -/
def State.foldMem (s : State) (region : Nat) (m : Mem) (a n : Nat) : State :=
  if s.role = Role.pairMember ∧ n ≠ 0 then
    (List.range ((a + n - 1) / 4 + 1 - a / 4)).foldl (fun s j => s.foldWord region (a / 4 + j) (m.word (4 * (a / 4 + j)))) s
  else s

end Sys2Proof.Machine
end

