-- ==== Sys2Proof/Machine/Flags.lean ====
section
/-!
DEFINITION. The status flags the meanings test: the states of FRAME (R51, R52), stump mode (R495) and the ownership of
control (R374). The flags a command sets are BLK_STATUS and EVT_RAW (R29, R35), whose operations are in Ops.
-/
namespace Sys2Proof.Machine

/-! ### FRAME states -/

/-- FRAME is STOPPED. -/
def State.stopped (s : State) : Bool := s.blkState Head.frame == 0
/-- FRAME is RUNNING. -/
def State.running (s : State) : Bool := s.blkState Head.frame == 2

/-! ### Stump mode, ownership -/

/-- The device is in stump mode (R495). -/
def State.stump (s : State) : Bool := s.blkState Head.boot == 3

/-- The beat a header or a record carries; 0 in stump mode, in which no device time runs (R51, R495). -/
def State.hdrBeat (s : State) : Nat := if s.stump then 0 else s.beat

/-- The unit owns control: outside a pair always, in one only in SOLO or ACTIVE (R374). -/
def State.owns (s : State) : Bool :=
  s.role != Role.pairMember || s.blkState Head.pair == 1 || s.blkState Head.pair == 4

end Sys2Proof.Machine
end

