-- ==== Sys2Proof/Machine/Octah.lean ====
section
/-!
DEFINITION. The Octah protocol: the packet (R429 to R431), sessions and authentication (R432 to R434), the order of
checks (R435), responses (R436, R438) and the journal (R442 to R444). Every opcode's meaning is `octah` of its row.
-/
namespace Sys2Proof

/-- The link of a source. -/
def ReqSource.link : ReqSource → Link
  | .slot l _ => l
  | .eth _ _ => .eth
  | .mirror => .pcie

/-- PATH of R444. -/
def Link.num : Link → Nat
  | .pcie => 0
  | .qspi => 1
  | .eth => 2

/-- The tag of a request (R429); a HOST record of the input raft has no journal entry in the standby, and takes a number
that no tag has. -/
def OctahReq.tag (req : OctahReq) : Nat := if req.src = .mirror then 256 else Machine.natAt req.packet 2 1
/-- Its payload of LENGTH bytes. -/
def OctahReq.pl (req : OctahReq) : List Byte := Machine.bytesAt req.packet 32 (Machine.natAt req.packet 6 2)
/-- Its session. -/
def OctahReq.sid (req : OctahReq) : Word := BitVec.ofNat 32 (Machine.natAt req.packet 12 4)

end Sys2Proof

namespace Sys2Proof.Machine

/-! ### The packet -/

/-- Header fields of R429. -/
def Pkt.ver (p : List Byte) : Nat := natAt p 0 1
/-- FLAGS -/ def Pkt.flags (p : List Byte) : Nat := natAt p 1 1
/-- TAG -/ def Pkt.tag (p : List Byte) : Nat := natAt p 2 1
/-- OPCODE -/ def Pkt.opcode (p : List Byte) : Nat := natAt p 4 2
/-- LENGTH -/ def Pkt.length (p : List Byte) : Nat := natAt p 6 2
/-- SESSION_ID -/ def Pkt.session (p : List Byte) : Word := BitVec.ofNat 32 (natAt p 12 4)
/-- LENGTH padded to a multiple of 4. -/
def Pkt.padded (p : List Byte) : Nat := (Pkt.length p + 3) / 4 * 4
/-- The payload of LENGTH bytes. -/
def Pkt.payload (p : List Byte) : List Byte := bytesAt p 32 (Pkt.length p)
/-- MAC of the trailer (R430). -/
def Pkt.mac (p : List Byte) : List Byte := bytesAt p (32 + Pkt.padded p) 16
/-- COUNTER of the trailer. -/
def Pkt.counter (p : List Byte) : Nat := natAt p (48 + Pkt.padded p) 8
/-- CRC of the trailer. -/
def Pkt.crc (p : List Byte) : Nat := natAt p (60 + Pkt.padded p) 4
/-- The bytes before the trailer. -/
def Pkt.body (p : List Byte) : List Byte := p.take (32 + Pkt.padded p)
/-- NO_AUTH -/ def Pkt.noAuth (p : List Byte) : Bool := bit (Pkt.flags p) 2

/-- A received packet that R431 does not discard: its length, its CRC, and neither RESPONSE nor PUBLICATION set. -/
def Pkt.sound (p : List Byte) : Bool :=
  p.length == 64 + Pkt.padded p && p.length ≤ 4096 &&
    (crc32c (p.take (60 + Pkt.padded p))).toNat == Pkt.crc p && Pkt.flags p % 4 == 0

/-- A packet from its header fields, its payload and its trailer (R429, R430). -/
def Pkt.build (flags tag status opcode pairSeq : Nat) (session : Word) (beat jseq : Nat) (payload mac : List Byte) (counter : Nat) : List Byte :=
  let hdr := leBytes 1 1 ++ leBytes 1 flags ++ leBytes 1 tag ++ leBytes 1 status ++ leBytes 2 opcode ++ leBytes 2 payload.length ++
    leBytes 4 pairSeq ++ leBytes 4 session.toNat ++ leBytes 8 beat ++ leBytes 4 jseq ++ leBytes 4 0
  let front := hdr ++ padTo 4 payload ++ bytesAt mac 0 16 ++ leBytes 8 counter ++ leBytes 4 0
  front ++ leBytes 4 (crc32c front).toNat

/-! ### Stump mode -/

/-- The opcodes stump mode serves (R495). -/
def stumpServes (opcode : Nat) : Bool :=
  opcode == 0x0000 || opcode == 0x0003 || opcode == 0x0C00 || opcode == 0x0C01 || (0x0A00 ≤ opcode && opcode ≤ 0x0A08)

/-! ### Sessions -/

/-- The session with an identifier. -/
def State.session? (s : State) (id : Word) : Option Session := s.host.sessions.find? (fun x => x.id == id)

/-- Whether a request COUNTER is acceptable (R433). -/
def counterOk (x : Session) (c : Nat) : Bool :=
  (x.rxHigh < c || x.rxHigh < c + 257) && c != 0 && !x.rxSeen.contains c

/-- A session after it accepted a COUNTER: the highest, and what the window of 256 remembers. -/
def Session.accept (x : Session) (c now : Nat) : Session :=
  let h := max x.rxHigh c
  { x with rxHigh := h, rxSeen := (c :: x.rxSeen).filter (fun v => h < v + 257), lastNs := now }

/-- A key slot's content. -/
def State.keySlot (s : State) (n : Nat) : KeySlot := s.keys.slots.getD n (KeySlot.empty 0)

/-- A slot a session may be opened with holds a KMAC256 key with the MAC use bit (R432). -/
def KeySlot.opensSession (k : KeySlot) : Bool := k.type == 2 && bit k.use 2

/-- The opcode of SESSION_OPEN. -/
abbrev opSessionOpen : Nat := 0x0001

/-- Row 2 of R435. A SESSION_OPEN is authenticated by the slot key it names; one that names no such slot goes on to row 8.
-/
def State.authentic (s : State) (req : OctahReq) : Bool :=
  let p := req.packet
  if s.stump then Pkt.noAuth p && req.src.link != .eth && Pkt.session p == 0
  else if Pkt.opcode p = opSessionOpen then
    !Pkt.noAuth p &&
      (let k := s.keySlot (natAt (Pkt.payload p) 0 1)
       !k.opensSession || kmac k.material (Pkt.body p ++ leBytes 8 (Pkt.counter p)) (asciiBytes "FM9400 OPEN") 16 == Pkt.mac p)
  else if Pkt.noAuth p then
    req.src.link != .eth && Pkt.session p == 0 && s.fld Reg.HOST_CFG 0 0 == 0
  else match s.session? (Pkt.session p) with
    | some x => kmac x.key (Pkt.body p ++ leBytes 8 (Pkt.counter p)) (asciiBytes "FM9400 OCTAH") 16 == Pkt.mac p && counterOk x (Pkt.counter p)
    | none => false

/-- The session's record of an accepted request (R432, R433). -/
def State.noteRequest (s : State) (req : OctahReq) : State :=
  let p := req.packet
  if Pkt.noAuth p ∨ Pkt.opcode p = opSessionOpen then s
  else { s with host := { s.host with sessions := s.host.sessions.map (fun x => if x.id = Pkt.session p then x.accept (Pkt.counter p) s.nsCount else x) } }

/-! ### The journal -/

/-- The entry of a tag. -/
def State.jentry (s : State) (tag : Nat) : JEntry := s.host.journal.getD tag JEntry.free

/-- The entry of a tag replaced by a function of it. -/
def State.modJ (s : State) (tag : Nat) (f : JEntry → JEntry) : State :=
  { s with host := { s.host with journal := modifyNth f tag s.host.journal } }

/-- The entry has reached a final state. -/
def JState.final : JState → Bool
  | .done | .failed | .indeterminate => true
  | _ => false

/-- The number R444 gives a state. -/
def JState.num : JState → Nat
  | .free => 0 | .accepted => 1 | .started => 2 | .done => 3 | .failed => 4 | .indeterminate => 5

/-- The session that took an entry has ended; a local session, of identifier 0, never ends (R434, R442). -/
def State.sessionEnded (s : State) (e : JEntry) : Bool := e.session != 0 && (s.session? e.session).isNone

/-- The entry was taken by the session of this request. -/
def sameSession (e : JEntry) (req : OctahReq) : Bool :=
  e.session == Pkt.session req.packet && (e.session != 0 || e.path == req.src.link.num)

/-- The tag may be taken (R442). -/
def State.tagFree (s : State) (req : OctahReq) : Bool :=
  let e := s.jentry (Pkt.tag req.packet)
  e.state == .free || (e.state.final && (sameSession e req || s.sessionEnded e))

/-- Owner tags are taken only by the unit that owns control (R443). -/
def State.tagOwner (s : State) (req : OctahReq) : Bool :=
  s.role != Role.pairMember || decide (192 ≤ req.tag) || s.owns

/-- The bytes of a journal entry (R444). -/
def JEntry.bytes (tag : Nat) (e : JEntry) : List Byte :=
  if e.state = .free then leBytes 1 tag ++ List.replicate 255 0 else
  leBytes 1 tag ++ leBytes 1 e.state.num ++ leBytes 1 e.result ++ leBytes 1 e.path ++ leBytes 2 e.opcode ++ leBytes 2 0 ++
    leBytes 4 e.jseq ++ leBytes 4 e.session.toNat ++ leBytes 8 e.acceptBeat ++ leBytes 8 e.endBeat ++ leBytes 4 e.progress ++
    leBytes 2 e.respLen ++ leBytes 2 0 ++ bytesAt e.reqDigest 0 8 ++ List.replicate 16 0 ++ bytesAt e.respHead 0 192

/-! ### Responses (R436, R438) -/

/-- A packet goes back where its request came from; a fail-silent unit sends none (R41). -/
def State.sendBack (s : State) (src : ReqSource) (pkt : List Byte) : State :=
  if s.silent then s else
  match src with
  | .eth a port => s.emit (.response a port pkt)
  | .slot _ n =>
    if (s.host.slots.map (·.mode))[n]? = some .posted then
      ({ s with host := { s.host with slotMem := s.host.slotMem.putN (0x1000 * n) pkt,
                                      slots := modifyNth (fun x => { x with mode := .response, rlen := pkt.length }) n s.host.slots } }).evt Head.host 1
    else s
  | .mirror => s

/-- The response to a SESSION_OPEN: under the slot key it names (R432); which COUNTER it carries is not stated. -/
def State.openPacket (s : State) (req : OctahReq) (tag status beat jseq : Nat) (payload : List Byte) : List Byte × State :=
  let k := s.keySlot (natAt (Pkt.payload req.packet) 0 1)
  let sid := Pkt.session req.packet
  let c := s.draw.1.toNat
  if k.opensSession then
    let m := kmac k.material (Pkt.body (Pkt.build 1 tag status opSessionOpen 0 sid beat jseq payload [] c) ++ leBytes 8 c) (asciiBytes "FM9400 OPEN") 16
    (Pkt.build 1 tag status opSessionOpen 0 sid beat jseq payload m c, s.draw.2)
  else (Pkt.build 5 tag status opSessionOpen 0 0 beat jseq payload [] 0, s.draw.2)

/-- The COUNTER a session sends next, counted (R433). -/
def State.countTx (s : State) (sid : Word) (c : Nat) : State :=
  { s with host := { s.host with sessions := s.host.sessions.map (fun y => if y.id = sid then { y with txCount := c } else y) } }

/-- A response packet: with the session's MAC, or with NO_AUTH for a local session; the session counts its COUNTER. -/
def State.respPacket (s : State) (req : OctahReq) (noAuth : Bool) (tag status opcode beat jseq : Nat) (payload : List Byte) : List Byte × State :=
  let sid := Pkt.session req.packet
  if noAuth = false ∧ opcode = opSessionOpen then s.openPacket req tag status beat jseq payload
  else match (if noAuth then none else s.session? sid) with
  | some x =>
    let c := x.txCount + 1
    let unsigned := Pkt.build 1 tag status opcode 0 sid beat jseq payload [] c
    let m := kmac x.key (Pkt.body unsigned ++ leBytes 8 c) (asciiBytes "FM9400 OCTAH") 16
    (Pkt.build 1 tag status opcode 0 sid beat jseq payload m c, s.countTx sid c)
  | none => (Pkt.build 5 tag status opcode 0 (if noAuth then 0 else sid) beat jseq payload [] 0, s)

/-- A request is answered. -/
def State.respond (s : State) (req : OctahReq) (noAuth : Bool) (tag status opcode beat jseq : Nat) (payload : List Byte) : State :=
  let r := s.respPacket req noAuth tag status opcode beat jseq payload
  r.2.sendBack req.src r.1

/-- How a check of R435 refuses a request. -/
inductive Refuse where
  /-- STATE, naming the block whose state was checked -/
  | state (head : Nat)
  /-- BAD_ARG, naming the offset of the first refused field -/
  | arg (ofs : Nat)
  /-- another code -/
  | code (c : Nat)
deriving DecidableEq, Repr

/-- Its status code. -/
def Refuse.status : Refuse → Nat
  | .state _ => Code.state
  | .arg _ => Code.badArg
  | .code c => c

/-- Its payload (R436). -/
def Refuse.payload (s : State) : Refuse → List Byte
  | .state h => leBytes 2 (typeOf h) ++ leBytes 1 (instOf h) ++ leBytes 1 (s.blkState h)
  | .arg o => leBytes 2 o ++ leBytes 2 0
  | .code _ => []

/-- The request of a tag no longer waits for its response. -/
def State.dropInflight (s : State) (tag : Nat) : State :=
  { s with host := { s.host with inflight := s.host.inflight.filter (fun x => x.1 != tag) } }

/-- An entry reaches its final state and its response goes out: DONE with OK, else FAILED with the code (R438, R442). -/
def State.opEnd (s : State) (tag code : Nat) (payload : List Byte) (progress : Nat) : State :=
  let e := s.jentry tag
  let t := s.modJ tag (fun e => { e with state := if code = Code.ok then .done else .failed, result := code, endBeat := s.hdrBeat,
                                         progress := progress, respLen := payload.length, respHead := bytesAt payload 0 192 })
  match s.host.inflight.find? (fun x => x.1 == tag) with
  | none => t
  | some (_, req) =>
    (t.dropInflight tag).respond req (Pkt.noAuth req.packet) tag code e.opcode s.hdrBeat e.jseq payload

/-- A command completes with OK. -/
def State.opOk (s : State) (tag : Nat) (payload : List Byte) : State := s.opEnd tag Code.ok payload 0

/-- A command is refused at rows 4 to 8, or fails with a code that carries no payload of its own. -/
def State.opFail (s : State) (tag : Nat) (r : Refuse) : State := s.opEnd tag r.status (r.payload s) 0

/-- The first effect of a command begins (R442). -/
def State.opStart (s : State) (tag : Nat) : State := s.modJ tag (fun e => { e with state := .started })

/-- A command whose effect is complete at a boundary. -/
def State.opDue (s : State) (beat tag : Nat) (payload : List Byte) : State :=
  { s with host := { s.host with due := s.host.due ++ [(beat, tag, payload)] } }

/-- The commands due by now complete with OK. -/
def State.runDue (s : State) : State :=
  let now := s.host.due.filter (fun x => decide (x.1 ≤ s.beat))
  now.foldl (fun s x => s.opOk x.2.1 x.2.2) { s with host := { s.host with due := s.host.due.filter (fun x => decide (s.beat < x.1)) } }

/-! ### Acceptance -/

/-- Rows 1 to 3 of R435: what the request is turned away with, without an entry. -/
def State.turnAway (s : State) (req : OctahReq) : Option Nat :=
  if Pkt.ver req.packet ≠ 1 then some Code.version
  else if s.authentic req = false then some Code.auth
  else if s.tagOwner req = false then some Code.notOwner
  else if s.tagFree req = false then some Code.busy
  else none

/-- The response of a request that takes no entry; AUTH answers with TAG zero, VERSION and AUTH with NO_AUTH. -/
def State.respondAway (s : State) (req : OctahReq) (code : Nat) : State :=
  let p := req.packet
  let bare := code == Code.version || code == Code.auth
  let t := s.respond req (bare || Pkt.noAuth p) (if code = Code.auth then 0 else Pkt.tag p) code (Pkt.opcode p) s.hdrBeat 0 []
  if code = Code.auth then (t.incSat Reg.AUTH_FAIL_CNT).evt Head.host 3
  else if code = Code.busy then (t.noteRequest req).incSat Reg.BUSY_CNT
  else if code = Code.notOwner then t.noteRequest req
  else t

/-- JOURNAL_ACCEPT (R435, R442): the entry of the tag becomes ACCEPTED with the next JSEQ. -/
def State.journalAccept (s : State) (req : OctahReq) (opcode : Nat) : State :=
  let p := req.packet
  let seq := (s.rg Reg.JSEQ_LAST).toNat + 1
  let s := s.noteRequest req
  let t := s.modJ (Pkt.tag p) (fun _ =>
    { JEntry.free with state := .accepted, path := req.src.link.num, opcode := opcode, jseq := seq, session := Pkt.session p,
                       acceptBeat := s.hdrBeat, reqDigest := shake (Pkt.payload p) 8 })
  let t := t.setRg Reg.JSEQ_LAST (BitVec.ofNat 32 seq)
  { t with host := { t.host with inflight := (t.host.inflight.filter (fun x => x.1 != Pkt.tag p)) ++ [(Pkt.tag p, req)] } }

/-- What an opcode's table row says of it (R440): its number, whether it is marked owner, which payload lengths fit, the
first refused field, the "Legal when" conditions, and its effect on an accepted request. -/
structure OpRow where
  opcode : Nat
  owner : Bool
  len : Nat → Bool
  args : State → List Byte → Option Nat
  legal : State → OctahReq → Option Refuse
  run : State → OctahReq → State
  /-- where a count in the payload decides its length -/
  fits : List Byte → Bool := fun _ => true

/-- In a pair the owner sends each accepted owner command in its next input raft (R121, R131, R140, R202, R239, R388); the
check, the exchange and the discard of a staged package go the same way (R143, R145). -/
def State.noteHost (s : State) (owner : Bool) (opcode : Nat) (payload : List Byte) : State :=
  if s.role = Role.pairMember ∧ s.owns = true ∧ (owner = true ∨ opcode = 0x020F ∨ opcode = 0x0210 ∨ opcode = 0x0211) then
    { s with pair := { s.pair with hostRecs := s.pair.hostRecs ++ [leBytes 2 opcode ++ leBytes 2 payload.length ++ payload] } }
  else s

/-- A window write the owner accepts goes the same way, under opcode 0xFFFF. -/
def State.noteWindow (s : State) (addr : Nat) (value : Word) : State :=
  if s.role = Role.pairMember ∧ s.owns = true then
    { s with pair := { s.pair with hostRecs := s.pair.hostRecs ++ [leBytes 2 0xFFFF ++ leBytes 2 8 ++ leBytes 4 addr ++ leBytes 4 value.toNat] } }
  else s

/-- A request is carried out: it leaves the waiting ones, is checked in the order of R435, and takes its effect. A unit
that is fail-silent accepts none (R41); a packet of another opcode is not this command's. -/
def octah (row : OpRow) (req : OctahReq) (s : State) : State :=
  if s.silent ∨ Pkt.opcode req.packet ≠ row.opcode then s else
  if req.src = .mirror then row.run s req else
  let s := { s with host := { s.host with waiting := s.host.waiting.erase req } }
  match s.turnAway req with
  | some code => s.respondAway req code
  | none =>
    let p := req.packet
    let tag := Pkt.tag p
    let t := s.journalAccept req row.opcode
    if s.stump ∧ stumpServes row.opcode = false then t.opFail tag (.state Head.boot)
    else if row.len (Pkt.length p) = false ∨ row.fits (Pkt.payload p) = false then t.opFail tag (.code Code.badLength)
    else if row.owner ∧ s.owns = false then t.opFail tag (.code Code.notOwner)
    else match row.args t (Pkt.payload p) with
      | some o => t.opFail tag (.arg o)
      | none =>
        match row.legal t req with
        | some r => t.opFail tag r
        | none => row.run (t.noteHost row.owner row.opcode (Pkt.payload p)) req

/-- No field of the request is refused. -/
def noArgs (_ : State) (_ : List Byte) : Option Nat := none

/-- No condition: "Always". -/
def always (_ : State) (_ : OctahReq) : Option Refuse := none

/-- The first offset at which a condition on the payload fails. -/
def firstBad : List (Nat × Bool) → Option Nat
  | [] => none
  | (o, ok) :: t => if ok then firstBad t else some o

/-- `n` bytes of a payload from an offset on are zero. -/
def zeroAt (p : List Byte) (o n : Nat) : Bool := natAt p o n == 0

end Sys2Proof.Machine
end

