-- ==== Sys2Proof/Machine/SeamOps.lean ====
section
/-!
DEFINITION. The Seam store: its pages and who may write them (R349 to R351), banks and seals (R352), the beginning of a
store (R353, R354), brackets (R359), and the opcodes that do not wait for a seal (R370).
-/
namespace Sys2Proof.Machine

/-! ### Pages -/

/-- The address of a page. -/
def pageAddr (p : Nat) : Nat := 256 * p

/-- Seam with its state replaced by a function of it. -/
def State.modSeam (s : State) (f : SeamState → SeamState) : State := { s with seam := f s.seam }

/-- A store is in steps 2 to 5. -/
def State.storing (s : State) : Bool := s.seam.run.isSome
/-- Page 0 is locked (R366). -/
def State.page0Locked (s : State) : Bool := s.seam.lock == 1

/-- A host may read the page (R350). -/
def pageReadable (p : Nat) : Bool := p = 0 || (32 ≤ p && p < 2048)
/-- A host may write the page, by its number (R350). -/
def pageWritable (p : Nat) : Bool := p = 0 || (128 ≤ p && p ≤ 2013)

/-- Bytes of Seam as a host reads them: page 0 from the lock OTP once locked (R350, R366). -/
def State.seamRead (s : State) (a n : Nat) : List Byte :=
  (List.range n).map (fun k => if s.page0Locked ∧ a + k < 256 then s.seam.lockOtp.getD (a + k) 0 else s.seam.sram.get (a + k))

/-- The SRAM takes a write; a host's is recorded in its open bracket (R359). -/
def State.seamPut (s : State) (a : Nat) (bs : List Byte) (host : Bool) : State :=
  s.modSeam (fun m => { m with
    sram := m.sram.putN a bs
    bracket := match m.bracket with
      | some (t, pages) => some (t, if host ∧ pages.contains (a / 256) = false then pages ++ [a / 256] else pages)
      | none => none })

/-- Firmware writes Seam inside a bracket of its own, or defers the write while a store runs (R353, R369). -/
def State.seamFw (s : State) (a : Nat) (bs : List Byte) : State :=
  if s.storing then s.modSeam (fun m => { m with deferred := m.deferred ++ [(a, bs)] }) else s.seamPut a bs false

/-! ### Banks (R352) -/

/-- GEN of a seal. -/
def SeamBank.gen (b : SeamBank) : Nat := natAt b.sealed 8 8
/-- STORE_COUNT of a seal. -/
def SeamBank.count (b : SeamBank) : Nat := natAt b.sealed 4 4
/-- A bank is valid. -/
def SeamBank.valid (b : SeamBank) : Bool :=
  b.sealed.length == 32 && natAt b.sealed 0 4 == 0x4C534553 && natAt b.sealed 0x1C 4 == (crc32c (b.sealed.take 0x1C)).toNat &&
    natAt b.sealed 0x10 4 == (crc32c (imageBytes b.sec b.image)).toNat

/-- A bank. -/
def State.bank (s : State) (k : Nat) : SeamBank := s.seam.banks.getD k SeamBank.erased

/-- The valid bank with the higher GEN. -/
def State.newestBank (s : State) : Option Nat :=
  let v0 := (s.bank 0).valid
  let v1 := (s.bank 1).valid
  if v0 ∧ v1 then some (if (s.bank 0).gen < (s.bank 1).gen then 1 else 0) else if v0 then some 0 else if v1 then some 1 else none

/-- The bank the next store goes to (R353). -/
def State.storeTarget (s : State) : Nat :=
  if (s.bank 0).valid = false then 0 else if (s.bank 1).valid = false then 1 else if (s.bank 0).gen < (s.bank 1).gen then 0 else 1

/-- SEAM_STATE, GEN and the STORE_COUNT registers brought up to date. -/
def State.seamRefresh (s : State) : State :=
  let v0 := (s.bank 0).valid
  let v1 := (s.bank 1).valid
  let w := b2n (s.newestBank == some 1) + 2 * b2n v0 + 4 * b2n v1 + 8 * b2n s.storing + 16 * b2n (s.storing && s.seam.queued.isSome) +
    32 * b2n s.seam.bracket.isSome + 64 * s.seam.lock
  let s := s.setRg Reg.SEAM_STATE (BitVec.ofNat 32 w)
  let s := match s.newestBank with
    | some k => s.setRg64 Reg.GEN_LO (s.bank k).gen
    | none => s.setRg64 Reg.GEN_LO 0
  let s := if v0 then s.setRg Reg.STORE_COUNT0 (BitVec.ofNat 32 (s.bank 0).count) else s
  if v1 then s.setRg Reg.STORE_COUNT1 (BitVec.ofNat 32 (s.bank 1).count) else s

/-- LIVE_CRC (R358). -/
def State.liveCrc (s : State) : Word := crc32c (imageBytes s.seam.sec s.seam.sram)

/-! ### Stores (R353, R354) -/

/-- A store is requested; one request waiting serves every later one (R354). -/
def State.requestStore (s : State) (f : StoreFor) : State :=
  (s.modSeam (fun m => { m with queued := some ((m.queued.getD []) ++ [f]) })).seamRefresh

/-- A store begins step 2: the target's seal is erased and the image written. -/
def State.beginStore (s : State) (fors : List StoreFor) : State :=
  let t := s.storeTarget
  let ns := if s.fld Reg.DT_STATUS 5 5 = 1 then s.nsCount else 0
  let s := s.modSeam (fun m => { m with
    run := some { target := t, startNs := s.nsCount, stampNs := ns, fors := fors }
    queued := none
    banks := modifyNth (fun (b : SeamBank) => { b with sealed := [], sec := m.sec, image := m.sram }) t m.banks })
  ((s.setBlkState Head.seam 2).seamRefresh)

/-- `SEAM_STORE_BEGIN` (R353, R359): a requested store begins when none runs and no bracket is open. -/
def execSeamStoreBegin (s : State) : Host.Outcome State Fault Refusal :=
  match s.seam.queued with
  | some fors => if s.storing ∨ s.seam.bracket.isSome ∨ s.seam.pf.isSome then .next s else .next (s.beginStore fors)
  | none => .next s

/-- `SEAM_CMD_STORE` (R354, R372). -/
def State.seamCmd (s : State) (value : Word) : State :=
  if wbits value 0 0 = 0 then s
  else if s.enabled Head.seam = false then s.errAt Reg.SEAM_CMD Code.state value
  else s.requestStore .plain

/-- The host bracket opens or closes (R359). -/
def State.seamHold (s : State) (value : Word) : State :=
  let s := s.setRg Reg.SEAM_HOLD (BitVec.ofNat 32 (wbits value 0 0))
  if wbits value 0 0 = 1 then
    (if s.seam.bracket.isSome then s else (s.modSeam (fun m => { m with bracket := some (s.nsCount, []) })).seamRefresh)
  else (s.modSeam (fun m => { m with bracket := none })).seamRefresh

/-- `BRACKET_TIMEOUT` (R359): the host bracket, the only one that stays open between commands, has stood open for 1 ms. -/
def execBracketTimeout (s : State) : Host.Outcome State Fault Refusal :=
  match s.seam.bracket with
  | some _ =>
    let s := (s.modSeam (fun m => { m with bracket := none })).setRg Reg.SEAM_HOLD 0
    .next (((s.incSat Reg.HOLD_TIMEOUT_CNT).evt Head.seam 3).seamRefresh)
  | none => .next s

/-! ### Host access (R350, R351) -/

/-- Why a host write to a page is refused. -/
def State.pageRefused (s : State) (p : Nat) : Option Nat :=
  if pageWritable p = false then some Code.badArg
  else if p = 0 ∧ s.page0Locked then some Code.state
  else if s.fld Reg.SEAM_CTRL 0 0 = 0 ∨ s.enabled Head.seam = false then some Code.state
  else if s.storing then some Code.busy
  else none

/-- A word written through the window (R351). -/
def State.seamWindow (s : State) (addr : Nat) (value : Word) : State :=
  let a := addr - 0x00800000
  match s.pageRefused (a / 256) with
  | some code => s.err Head.seam addr true code value
  | none => s.seamPut (a / 4 * 4) (leBytes 4 value.toNat) true

/-- The status words 0x040 to 0x07C. -/
def State.seamWords (s : State) : List Byte :=
  (List.range 16).flatMap (fun k => leBytes 4 (if k = 13 then s.liveCrc else s.rg (Reg.SEAM_CTRL + 4 * k)).toNat)

/-- `SEAM_STATUS`. -/
def execSeamStatus (req : OctahReq) (s : State) : Host.Outcome State Fault Refusal :=
  .next (octah { opcode := 0x0700, owner := false, len := fun n => n == 0, args := noArgs, legal := always
                 run := fun s req => s.opOk req.tag (leBytes 8 s.beat ++ s.seamWords) } req s)

/-- First page and count of a request. -/
def pageRange (ok : Nat → Bool) (p : List Byte) : List (Nat × Bool) :=
  [(0, natAt p 0 2 < 2048 && ok (natAt p 0 2)),
   (2, 1 ≤ natAt p 2 2 && natAt p 2 2 ≤ 15 && (List.range (natAt p 2 2)).all (fun k => natAt p 0 2 + k < 2048 && ok (natAt p 0 2 + k)))]

/-- `SEAM_READ`. -/
def execSeamRead (req : OctahReq) (s : State) : Host.Outcome State Fault Refusal :=
  .next (octah { opcode := 0x0701, owner := false, len := fun n => n == 4
                 args := fun _ p => firstBad (pageRange pageReadable p), legal := always
                 run := fun s req => s.opOk req.tag (s.seamRead (pageAddr (natAt req.pl 0 2)) (256 * natAt req.pl 2 2)) } req s)

/-- `SEAM_WRITE`: its pages in one act, in its own bracket. -/
def execSeamWrite (req : OctahReq) (s : State) : Host.Outcome State Fault Refusal :=
  .next (octah { opcode := 0x0702, owner := false, len := fun n => decide (4 ≤ n)
                 fits := fun p => p.length == 4 + 256 * natAt p 2 2
                 args := fun _ p => firstBad (pageRange pageWritable p)
                 legal := fun s req =>
                   match ((List.range (natAt req.pl 2 2)).map (fun k => s.pageRefused (natAt req.pl 0 2 + k))).find? (·.isSome) with
                   | some (some c) => some (if c = Code.state then .state Head.seam else .code c)
                   | _ => none
                 run := fun s req => ((s.opStart req.tag).seamPut (pageAddr (natAt req.pl 0 2)) (req.pl.drop 4) false).opOk req.tag [] } req s)

/-- `SEAM_STORE`: it completes when the seal is written. -/
def execSeamStore (req : OctahReq) (s : State) : Host.Outcome State Fault Refusal :=
  .next (octah { opcode := 0x0703, owner := false, len := fun n => n == 0, args := noArgs
                 legal := fun s _ => if s.enabled Head.seam then none else some (.state Head.seam)
                 run := fun s req => (s.opStart req.tag).requestStore (.command req.tag) } req s)

/-- `SEAM_LOCK` (R366): `otpOk` is whether the OTP reads back as programmed. -/
def execSeamLock (req : OctahReq) (otpOk : Bool) (s : State) : Host.Outcome State Fault Refusal :=
  .next (octah { opcode := 0x0704, owner := false, len := fun n => n == 36
                 args := fun s p => firstBad [(0, natAt p 0 4 == 0x4B434F4C), (4, bytesAt p 4 32 == shake (s.seam.sram.getN 0 256) 32)]
                 legal := fun s _ => if s.seam.lock = 0 ∧ s.storing = false then none else some (.state Head.seam)
                 run := fun s req =>
                   let s := s.opStart req.tag
                   if otpOk then
                     let s := s.modSeam (fun m => { m with lock := 1, lockOtp := m.sram.getN 0 256 })
                     ((s.seamRefresh).evt Head.seam 5).opOk req.tag []
                   else ((s.modSeam (fun m => { m with lock := 2 })).seamRefresh).opFail req.tag (.code Code.aborted) } req s)

/-- `SEAM_BANK_INFO`. -/
def execSeamBankInfo (req : OctahReq) (s : State) : Host.Outcome State Fault Refusal :=
  .next (octah { opcode := 0x0705, owner := false, len := fun n => n == 0, args := noArgs, legal := always
                 run := fun s req => s.opOk req.tag
                   (bytesAt (s.bank 0).sealed 0 32 ++ bytesAt (s.bank 1).sealed 0 32 ++ leBytes 1 (b2n (s.bank 0).valid + 2 * b2n (s.bank 1).valid) ++ leBytes 3 0) } req s)

/-! ### Hold-up supply (R363, R373) -/

/-- `VHOLD_OK_CHANGE`. -/
def execVholdOkChange (ok : Bool) (s : State) : Host.Outcome State Fault Refusal :=
  let was := s.fld Reg.PWR_STATUS 3 3 = 1
  let s := s.setFld Reg.PWR_STATUS 3 3 (b2n ok)
  if ok then .next (if was then s else s.evt Head.pwr 2)
  else if was ∧ s.fld Reg.PWR_STATUS 4 4 = 1 then .next ((s.incSat Reg.VHOLD_LOW_CNT).evt Head.pwr 1)
  else .next s

end Sys2Proof.Machine
end

