-- ==== Sys2Proof/Machine/KeyOps.lean ====
section
/-!
DEFINITION. The key store (R450 to R475): descriptors, use and its limits, derivation and orphans, the KEY_UPDATE message,
the start of the KE, and the opcodes but for the statement of ATTEST.
-/
namespace Sys2Proof.Machine

/-- The KE with its state replaced by a function of it. -/
def State.modKeys (s : State) (f : KeysState → KeysState) : State := { s with keys := f s.keys }

/-- The 68-byte public key of the identity. -/
def identityKey : List Byte := (List.range 68).map Config.identityKey
/-- The device identity hash (R465). -/
def idHash : List Byte := shake identityKey 32

/-! ### Descriptors (R451) -/

/-- STATUS of a slot. -/
def KeySlot.status (k : KeySlot) : Nat :=
  b2n (k.type != 0) + 2 * b2n k.orphaned + 4 * b2n k.expireAtReset + 8 * b2n k.limited + 16 * b2n k.exhausted

/-- The 32 bytes of a descriptor; an EMPTY slot has every field zero but GEN. -/
def KeySlot.desc (k : KeySlot) : List Byte :=
  if k.type = 0 then List.replicate 8 0 ++ leBytes 4 k.gen ++ List.replicate 20 0 else
  leBytes 1 k.type ++ leBytes 1 k.use ++ leBytes 1 k.origin ++ leBytes 1 k.status ++ leBytes 1 k.parent ++ leBytes 1 k.depth ++ leBytes 2 0 ++
    leBytes 4 k.gen ++ leBytes 4 k.parentGen ++ leBytes 4 k.useLimit ++ leBytes 4 k.useCount ++ bytesAt k.labelTag 0 4 ++ bytesAt k.keyTag 0 4

/-- KEY_TAG of a secret key. -/
def secretTag (key : List Byte) : List Byte := (kmac key [] (asciiBytes "FM9400 KCV") 32).take 4

/-- The identity can sign (R467): slot 0 is there and leaves are left. -/
def State.identityOk (s : State) : Bool := (s.keySlot 0).type == 3 && decide (s.keys.nextLeaf < 1048576)

/-- The KEYS registers and its BLK_STATUS.STATE brought up to date (R474). -/
def State.keysRefresh (s : State) : State :=
  let owned := (s.keySlot 2).type != 0
  let low := s.fld Reg.LEAF_LOW_MARK 20 0
  let was := s.fld Reg.XMSS_LEFT 20 0
  let left := 1048576 - s.keys.nextLeaf
  let s := s.setRg Reg.KEYS_STATUS (BitVec.ofNat 32 (b2n owned + 2 * b2n s.keys.xmssReady + 4 * b2n s.identityOk + 8 * b2n s.keys.rngOk))
  let s := (s.setRg64 Reg.KU_COUNTER_LO s.keys.counter).setRg Reg.XMSS_NEXT_LEAF (BitVec.ofNat 32 s.keys.nextLeaf)
  let s := s.setRg Reg.XMSS_LEFT (BitVec.ofNat 32 left)
  let s := s.setRg Reg.SLOTS_USED (BitVec.ofNat 32 ((s.keys.slots.filter (fun k => k.type != 0)).length))
  let s := s.setRg Reg.ORPHAN_CNT (BitVec.ofNat 32 ((s.keys.slots.filter (fun k => k.orphaned)).length))
  let s := if left < low ∧ low ≤ was then s.evt Head.keys 5 else s
  (s.setBlkState Head.keys (if s.identityOk = false then 2 else if owned then 1 else 0)).setReady Head.keys true

/-- The KE writes its pages in a bracket of its own, or defers the write while a store runs (R359, R455). -/
def State.secPut (s : State) (p : SecPages) : State :=
  if s.storing then s.modSeam (fun m => { m with secDeferred := some p }) else s.modSeam (fun m => { m with sec := p })

/-- The pages as the KE's state has them. -/
def State.secNow (s : State) : SecPages := { counter := s.keys.counter, leaf := s.keys.nextLeaf, slots := s.keys.slots.map KeySlot.page }

/-- The KE writes its state. -/
def State.secSync (s : State) : State := s.secPut s.secNow

/-! ### Use (R452, R456, R459) -/

/-- Why an operation is refused a slot of a type for a use bit (R459, R472). -/
def slotRefused (k : KeySlot) (type useBit : Nat) : Option Nat :=
  if k.type ≠ type ∨ bit k.use useBit = false then some Code.badArg
  else if k.orphaned then some Code.keyOrphaned
  else if k.exhausted then some Code.noResource
  else none

/-- A slot after one more use. -/
def KeySlot.used (k : KeySlot) : KeySlot :=
  let n := k.useCount + 1
  { k with useCount := n % 2 ^ 32, exhausted := k.exhausted || (k.limited && decide (k.useLimit ≤ n)) }

/-- An operation on a slot succeeds: its count goes to the Seam pages; reaching the limit is an event. -/
def State.countUse (s : State) (n : Nat) : State :=
  let was := (s.keySlot n).exhausted
  let s := (s.modKeys (fun k => { k with slots := modifyNth KeySlot.used n k.slots })).secSync
  if was = false ∧ (s.keySlot n).exhausted then s.evt Head.keys 4 else s

/-- A refusal with KEY_ORPHANED or NO_RESOURCE is counted (R474). -/
def State.keyFail (s : State) (code : Nat) : State := if code = Code.keyOrphaned ∨ code = Code.noResource then s.incSat Reg.KEY_FAIL_CNT else s

/-- An opcode's operation on a slot succeeds with a payload: at once, or at the seal of the store a limited slot needs. -/
def State.keyDone (s : State) (tag n : Nat) (payload : List Byte) : State :=
  let s := s.countUse n
  if (s.keySlot n).limited then s.requestStore (.keyUse tag payload) else s.opOk tag payload

/-- Messages authenticated with a slot go out: at once, or at the seal. -/
def State.keyEmit (s : State) (n : Nat) (msgs : List OutMsg) : State :=
  let s := s.countUse n
  if (s.keySlot n).limited then s.requestStore (.release msgs) else msgs.foldl (fun s m => s.send m) s

/-- A firmware record sealed with a slot is written and a store commanded: at once, or after the seal of a limited slot. -/
def State.keySealed (s : State) (n addr : Nat) (bytes : List Byte) (bill : Option (Nat × Nat)) : State :=
  let s := s.countUse n
  if (s.keySlot n).limited then s.requestStore (.sealedRec addr bytes bill)
  else (s.seamFw addr bytes).requestStore (match bill with
    | some (q, ns) => .billing q ns
    | none => .plain)

/-! ### Orphans (R457, R458) -/

/-- One round of R458: each DERIVED slot judged by its parent as it stands. -/
def orphanRound (slots : List KeySlot) : List KeySlot :=
  slots.map (fun k =>
    let p := slots.getD k.parent (KeySlot.empty 0)
    if k.type ≠ 0 ∧ k.origin = 3 ∧ (p.type = 0 ∨ p.orphaned = true ∨ p.gen ≠ k.parentGen) then { k with orphaned := true } else k)

/-- The rule applied down the tree: as many rounds as there are slots leave nothing to change. -/
def orphanRounds : Nat → List KeySlot → List KeySlot
  | 0, l => l
  | n + 1, l => orphanRounds n (orphanRound l)

/-- ORPHAN_MARK. -/
def State.orphanMark (s : State) : State :=
  let l := orphanRounds 256 s.keys.slots
  if l = s.keys.slots then s else (s.modKeys (fun k => { k with slots := l })).evt Head.keys 3

/-- The child key of R457. -/
def childKey (parent : KeySlot) (label : List Byte) : List Byte := kmac parent.material (idHash ++ leBytes 4 parent.gen) label 32

/-! ### KEY_UPDATE (R460 to R464) -/

/-- One operation record. -/
abbrev kuRec (p : List Byte) (k : Nat) : List Byte := bytesAt p (56 + 144 * k) 144

/-- The use bits permitted for a type (R452). -/
def usePermitted (type use : Nat) : Bool :=
  use != 0 && (if type = 1 then use &&& 3 == use else if type = 2 then use &&& 0x3C == use else if type = 4 then use == 8 else false)

/-- The bytes of DATA an operation uses. -/
def kuUsed (boot : Bool) (r : List Byte) : Nat :=
  match natAt r 0 1 with
  | 1 => if natAt r 2 1 = 4 then 68 else if boot then 32 else 60
  | 3 => natAt r 6 1
  | _ => 0

/-- What an operation record may be refused with: BAD_ARG at a field of it, or a code. -/
inductive KuBad where
  | field (ofs : Nat)
  | code (c : Nat)
deriving DecidableEq, Repr

/-- The first refused field of a record in itself (R460, R463): `k` of `n` records, BOOTSTRAP, the slots named before it. -/
def kuShape (r : List Byte) (k n : Nat) (boot : Bool) (before : List Nat) : Option Nat :=
  let op := natAt r 0 1
  let slot := natAt r 1 1
  let type := natAt r 2 1
  let use := natAt r 3 1
  let secret := type == 1 || type == 2
  let used := kuUsed boot r
  firstBad
    [ (0, 1 ≤ op && op ≤ 4 && (slot != 2 || op == 1 || (op == 4 && k + 1 == n))),
      (1, 2 ≤ slot && !before.contains slot),
      (2, if op = 4 then type == 0 else if slot = 2 then op == 1 && type == 4 else secret),
      (3, if op = 4 then use == 0 else usePermitted type use),
      (4, if op = 3 then true else if op = 1 ∧ secret ∧ boot = false then true else natAt r 4 1 == 0),
      (5, natAt r 5 1 < 2),
      (6, if op = 3 then 1 ≤ natAt r 6 1 && natAt r 6 1 ≤ 64 else natAt r 6 1 == 0),
      (7, natAt r 7 1 == 0), (12, natAt r 12 4 == 0),
      (16 + used, (r.drop (16 + used)).all (· == 0)) ]

/-- The slot a record puts in place of the old one, before its material. -/
def kuSlot (r : List Byte) (old : KeySlot) (origin parent depth parentGen : Nat) (labelTag keyTag material : List Byte) : KeySlot :=
  { type := natAt r 2 1, use := natAt r 3 1, origin := origin, orphaned := false, expireAtReset := bit (natAt r 5 1) 0,
    limited := natAt r 8 4 != 0, exhausted := false, parent := parent, depth := depth, gen := (old.gen + 1) % 2 ^ 32, parentGen := parentGen,
    useLimit := natAt r 8 4, useCount := 0, labelTag := labelTag, keyTag := keyTag, material := material }

/-- A record applied to the slots (R457, R463): the refusal of row 7, or the slots and whether its wrapped key verified. -/
def kuApply (slots : List KeySlot) (hdr r fresh : List Byte) (boot : Bool) : KuBad ⊕ (List KeySlot × Bool) :=
  let slot := natAt r 1 1
  let old := slots.getD slot (KeySlot.empty 0)
  let type := natAt r 2 1
  let ref := natAt r 4 1
  let put := fun (l : List KeySlot) (k : KeySlot) => modifyNth (fun _ => k) slot l
  let plain := fun (origin : Nat) (tag material : List Byte) => kuSlot r old origin 0xFF 0 0 [0, 0, 0, 0] tag material
  match natAt r 0 1 with
  | 1 =>
    if type = 4 then
      let m := bytesAt r 16 68
      .inr (put slots (plain 2 (shake m 4) m), true)
    else if boot then
      let m := bytesAt r 16 32
      .inr (put slots (plain 2 (secretTag m) m), true)
    else
      let w := slots.getD ref (KeySlot.empty 0)
      match slotRefused w 1 1 with
      | some c => .inl (if c = Code.badArg then .field 4 else .code c)
      | none =>
        match Config.aesGcmOpen w.material (bytesAt r 16 12) (hdr ++ r.take 16) (bytesAt r 28 48) with
        | some m => .inr (put (modifyNth KeySlot.used ref slots) (plain 2 (secretTag m) m), true)
        | none => .inr (slots, false)
  | 2 => .inr (put slots (plain 1 (secretTag fresh) fresh), true)
  | 3 =>
    let p := slots.getD ref (KeySlot.empty 0)
    match slotRefused p 2 4 with
    | some c => .inl (if c = Code.badArg then .field 4 else .code c)
    | none =>
      if 7 < p.depth + 1 then .inl (.field 4)
      else
        let label := bytesAt r 16 (natAt r 6 1)
        let m := childKey p label
        .inr (put (modifyNth KeySlot.used ref slots) (kuSlot r old 3 ref (p.depth + 1) p.gen (shake label 4) (secretTag m) m), true)
  | _ => .inr (put slots (KeySlot.empty ((old.gen + 1) % 2 ^ 32)), true)

/-- Row 7 over the records from the k-th on, and whether every wrapped key verified. `fresh` gives a generated key. -/
def kuAll (p : List Byte) (n : Nat) (boot : Bool) (fresh : Nat → List Byte) : Nat → Nat → List KeySlot → List Nat → Bool → (Nat × KuBad) ⊕ (List KeySlot × List Nat × Bool)
  | 0, _, slots, named, ok => .inr (slots, named, ok)
  | fuel + 1, k, slots, named, ok =>
    let r := kuRec p k
    match kuShape r k n boot named with
    | some o => .inl (k, .field o)
    | none =>
      match kuApply slots (bytesAt p 0 56) r (fresh k) boot with
      | .inl b => .inl (k, b)
      | .inr (l, v) => kuAll p n boot fresh fuel (k + 1) l (named ++ [natAt r 1 1]) (ok && v)

/-- A record refused at row 7 as a response. -/
def kuRefuse (k : Nat) : KuBad → Refuse
  | .field o => .arg (56 + 144 * k + o)
  | .code c => .code c

/-- The checks of R461 in their order: the refusal, or the slots after the message and the slots it names. -/
def State.kuCheck (s : State) (req : OctahReq) (fresh : Nat → List Byte) : Refuse ⊕ (List KeySlot × List Nat) :=
  let p := req.pl
  let n := natAt p 6 1
  let boot := bit (natAt p 7 1) 0
  if natAt p 0 4 ≠ 0x4B554553 ∨ natAt p 4 2 ≠ 1 then .inl (.code Code.version)
  else if p.length ≠ 56 + 144 * n + (if boot then 0 else 2820) then .inl (.code Code.badLength)
  else match firstBad [(6, decide (1 ≤ n ∧ n ≤ 8)), (7, natAt p 7 1 < 2), (0x30, zeroAt p 0x30 8)] with
    | some o => .inl (.arg o)
    | none =>
      if bytesAt p 8 32 ≠ idHash then .inl (.code Code.auth)
      else if boot ∧ ¬((s.keySlot 2).type = 0 ∧ req.src.link ≠ .eth ∧ natAt (kuRec p 0) 0 1 = 1 ∧ natAt (kuRec p 0) 1 1 = 2 ∧ s.keys.counter < natAt p 0x28 8) then
        .inl (.state Head.keys)
      else if boot = false ∧ ¬((s.keySlot 2).type = 4 ∧ Config.xmssVerify (s.keySlot 2).material (p.take (p.length - 2820)) (p.drop (p.length - 2820)) = true) then
        .inl (.code Code.auth)
      else if natAt p 0x28 8 ≤ s.keys.counter then .inl (.code Code.auth)
      else
        let base := if boot then s.keys.slots else modifyNth KeySlot.used 2 s.keys.slots
        match kuAll p n boot fresh n 0 base [] true with
        | .inl (k, b) => .inl (kuRefuse k b)
        | .inr (l, named, ok) => if ok then .inr (l, named) else .inl (.code Code.auth)

/-- The key-file records of the slots a message names, under their new GEN; a slot keeps the record of its current GEN
(R455, R462). -/
def keyFileWith (file : List KeyRecord) (old new : List KeySlot) (named : List Nat) : List KeyRecord :=
  named.foldl (fun f n =>
    let k := new.getD n (KeySlot.empty 0)
    let cur := (old.getD n (KeySlot.empty 0)).gen
    let f := f.filter (fun r => r.slot != n || r.gen == cur)
    if k.type = 0 ∨ k.expireAtReset then f
    else f ++ [{ slot := n, gen := k.gen, material := k.material, labelTag := k.labelTag, keyTag := k.keyTag }]) file

/-- A message is refused. -/
def State.kuReject (s : State) (tag : Nat) (r : Refuse) : State :=
  ((s.keyFail r.status).incSat Reg.KU_REJECT_CNT).evt Head.keys 2 |>.opFail tag r

/-- A message is checked and, if it passes, its pages are written and a store commanded (R461, R462). One message at a time
waits for its seal: another finds the KE busy (notes/assumptions/47.md). -/
def State.keyUpdate (s : State) (req : OctahReq) : State :=
  if s.keys.update.isSome then s.opFail req.tag (.code Code.busy) else
  let n := natAt req.pl 6 1
  let gens := (List.range n).any (fun k => natAt (kuRec req.pl k) 0 1 == 2)
  let fresh := fun k => (s.drawBytes 256).1.drop (32 * k) |>.take 32
  match s.kuCheck req fresh with
  | .inl r => s.kuReject req.tag r
  | .inr (l, named) =>
    if gens ∧ s.keys.rngOk = false then s.kuReject req.tag (.code Code.aborted) else
    let s := if gens then (s.drawBytes 256).2 else s
    let s := s.opStart req.tag
    let before := s.secNow
    let cnt := natAt req.pl 0x28 8
    let s := s.modKeys (fun k => { k with
      file := keyFileWith k.file k.slots l named
      update := some { tag := req.tag, slots := l, counter := cnt, targets := named, before := before } })
    (s.secPut { counter := cnt, leaf := s.keys.nextLeaf, slots := l.map KeySlot.page }).requestStore .keyUpdate

/-- The seal of a KEY_UPDATE's store is written: it takes effect (R462). -/
def State.kuSealed (s : State) : State :=
  match s.keys.update with
  | some u =>
    let full := (List.range 256).any (fun n => !(s.keySlot n).exhausted && (u.slots.getD n (KeySlot.empty 0)).exhausted)
    let s := s.modKeys (fun k => { k with slots := u.slots, counter := u.counter, update := none })
    let s := if full then s.evt Head.keys 4 else s
    let s := (s.orphanMark.secSync.evt Head.keys 1).keysRefresh
    s.opOk u.tag (leBytes 8 u.counter ++ leBytes 1 u.targets.length ++ leBytes 3 0 ++ u.targets.flatMap (fun n => leBytes 4 (s.keySlot n).gen))
  | none => s

/-- Its store failed: the pages are put back and the command ends with ABORTED. -/
def State.kuFailed (s : State) : State :=
  match s.keys.update with
  | some u => ((s.modKeys (fun k => { k with update := none })).secPut u.before).opFail u.tag (.code Code.aborted)
  | none => s

/-! ### Starts (R455, R458, R459) -/

/-- At every start the slots with EXPIRE_AT_RESET or ORPHANED are cleared, then orphans are marked. -/
def State.keysStart (s : State) : State :=
  let s := s.modKeys (fun k => { k with
    slots := k.slots.map (fun x => if x.expireAtReset ∨ x.orphaned then KeySlot.empty x.gen else x), attestWaiting := [], update := none, rngOk := true })
  (s.orphanMark.secSync).keysRefresh

/-- A slot's state of the recalled image with the material of its key-file record. -/
def loadSlot (file : List KeyRecord) (n : Nat) (k : KeySlot) : KeySlot :=
  if k.type = 0 then k
  else match file.find? (fun r => r.slot == n && r.gen == k.gen) with
    | some r => { k with material := r.material, labelTag := r.labelTag, keyTag := r.keyTag }
    | none => KeySlot.empty k.gen

/-- A cold start takes the slot state from the recalled image and the material from the key file; a slot whose record is
missing is lost, unless its key expires at the reset. -/
def State.keysCold (s : State) : State :=
  let pages := s.seam.sec
  let l := pages.slots.mapIdx (loadSlot s.keys.file)
  let lost := (List.range 256).filter (fun n => (pages.slots.getD n (KeySlot.empty 0)).type != 0 && (l.getD n (KeySlot.empty 0)).type == 0 &&
    !(pages.slots.getD n (KeySlot.empty 0)).expireAtReset)
  let s := s.modKeys (fun k => { k with slots := l, counter := pages.counter, nextLeaf := pages.leaf, xmssReady := false })
  let s := lost.foldl (fun s n => (s.evt Head.keys 7).setRg (Reg.errInfo Head.keys) (BitVec.ofNat 32 n)) s
  s.keysStart

/-! ### Signing (R466, R467) -/

/-- A leaf is reserved for an ATTEST and the store commanded. -/
def State.reserveLeaf (s : State) (tag : Nat) : State :=
  let i := s.keys.nextLeaf
  let s := s.modKeys (fun k => { k with nextLeaf := i + 1, slots := modifyNth KeySlot.used 0 k.slots })
  ((s.secSync).keysRefresh).requestStore (.attest tag i)

/-- An ATTEST goes on: with a leaf, or refused when none is left. -/
def State.attestGo (s : State) (tag : Nat) : State :=
  if s.identityOk = false then (s.keyFail Code.noResource).opFail tag (.code Code.noResource) else s.reserveLeaf tag

/-- `ATTEST` (R466 to R469): it waits for XMSS_READY, then for the seal of its leaf's store. -/
def execAttest (req : OctahReq) (s : State) : Host.Outcome State Fault Refusal :=
  .next (octah { opcode := 0x0903, owner := false, len := fun n => n == 44
                 args := fun _ p => firstBad [(32, natAt p 32 1 ≤ 8), (33, zeroAt p 33 3)]
                 legal := fun s _ =>
                   if (s.keySlot 0).type ≠ 3 then some (.state Head.keys)
                   else if s.identityOk = false then some (.code Code.noResource)
                   else if s.keys.rngOk = false then some (.code Code.aborted) else none
                 run := fun s req =>
                   let s := s.opStart req.tag
                   if s.keys.xmssReady then s.attestGo req.tag
                   else s.modKeys (fun k => { k with attestWaiting := k.attestWaiting ++ [req.tag] }) } req s)

/-- `XMSS_READY` (R467): the waiting attestations proceed. -/
def execXmssReady (s : State) : Host.Outcome State Fault Refusal :=
  if (s.keySlot 0).type ≠ 3 ∨ s.keys.xmssReady = true then .next s else
  let waiting := s.keys.attestWaiting
  let s := ((s.modKeys (fun k => { k with xmssReady := true, attestWaiting := [] })).evt Head.keys 6).keysRefresh
  .next (waiting.foldl (fun s t => s.attestGo t) s)

/-! ### The other opcodes (R472) -/

/-- `KEY_LIST`. -/
def execKeyList (req : OctahReq) (s : State) : Host.Outcome State Fault Refusal :=
  .next (octah { opcode := 0x0900, owner := false, len := fun n => n == 4
                 args := fun _ p => firstBad [(1, 1 ≤ natAt p 1 1 && natAt p 1 1 ≤ 120 && natAt p 0 1 + natAt p 1 1 ≤ 256), (2, zeroAt p 2 2)], legal := always
                 run := fun s req => s.opOk req.tag ((List.range (natAt req.pl 1 1)).flatMap (fun k => (s.keySlot (natAt req.pl 0 1 + k)).desc)) } req s)

/-- `KEY_PUBLIC_READ`. -/
def execKeyPublicRead (req : OctahReq) (s : State) : Host.Outcome State Fault Refusal :=
  .next (octah { opcode := 0x0901, owner := false, len := fun n => n == 4
                 args := fun _ p => firstBad [(0, natAt p 0 1 < 3), (1, zeroAt p 1 3)]
                 legal := fun s req => if (s.keySlot (natAt req.pl 0 1)).type = 0 then some (.state Head.keys) else none
                 run := fun s req => s.opOk req.tag (bytesAt (s.keySlot (natAt req.pl 0 1)).material 0 68) } req s)

/-- `KEY_UPDATE` (R460 to R464): its checks of length and fields come in the order of R461. -/
def execKeyUpdate (req : OctahReq) (s : State) : Host.Outcome State Fault Refusal :=
  .next (octah { opcode := 0x0902, owner := false, len := fun _ => true, args := noArgs, legal := always
                 run := fun s req => s.keyUpdate req } req s)

/-- A refusal of a slot for an opcode: BAD_ARG at its slot field, or another code. -/
def slotRefuse (c : Nat) : Refuse := if c = Code.badArg then .arg 0 else .code c

/-- `KEY_MAC` (R470). -/
def execKeyMac (req : OctahReq) (s : State) : Host.Outcome State Fault Refusal :=
  .next (octah { opcode := 0x0904, owner := false, len := fun n => decide (36 ≤ n ∧ n ≤ 3968)
                 fits := fun p => let o := if bit (natAt p 1 1) 0 then 68 else 36
                                  decide (o ≤ p.length ∧ p.length ≤ o + 3900)
                 args := fun _ p => firstBad [(1, natAt p 1 1 < 2), (2, natAt p 2 1 ≤ 32), (3, zeroAt p 3 1),
                   (4, !(decide (6 ≤ natAt p 2 1) && bytesAt p 4 6 == asciiBytes "FM9400"))]
                 legal := always
                 run := fun s req =>
                   let p := req.pl
                   let n := natAt p 0 1
                   let verify := bit (natAt p 1 1) 0
                   match slotRefused (s.keySlot n) 2 (if verify then 3 else 2) with
                   | some c => (s.keyFail c).opFail req.tag (slotRefuse c)
                   | none =>
                     let t := kmac (s.keySlot n).material (p.drop (if verify then 68 else 36)) (bytesAt p 4 (natAt p 2 1)) 32
                     let s := s.opStart req.tag
                     s.keyDone req.tag n (if verify then leBytes 1 (b2n (t == bytesAt p 36 32)) ++ leBytes 3 0 else t) } req s)

/-- `KEY_CRYPT` (R470). -/
def execKeyCrypt (req : OctahReq) (s : State) : Host.Outcome State Fault Refusal :=
  .next (octah { opcode := 0x0905, owner := false, len := fun n => decide (20 ≤ n)
                 fits := fun p => p.length == (if bit (natAt p 1 1) 0 then 36 else 20) + natAt p 2 2 + natAt p 4 2
                 args := fun _ p => firstBad [(1, natAt p 1 1 < 2), (2, natAt p 2 2 + natAt p 4 2 ≤ 3980), (6, zeroAt p 6 2),
                   (8, bit (natAt p 1 1) 0 || zeroAt p 8 12)]
                 legal := always
                 run := fun s req =>
                   let p := req.pl
                   let n := natAt p 0 1
                   let dec := bit (natAt p 1 1) 0
                   match slotRefused (s.keySlot n) 1 (if dec then 1 else 0) with
                   | some c => (s.keyFail c).opFail req.tag (slotRefuse c)
                   | none =>
                     let key := (s.keySlot n).material
                     let o := if dec then 36 else 20
                     let aad := bytesAt p o (natAt p 2 2)
                     let data := bytesAt p (o + natAt p 2 2) (natAt p 4 2)
                     let s := s.opStart req.tag
                     if dec then
                       match Config.aesGcmOpen key (bytesAt p 8 12) aad (data ++ bytesAt p 20 16) with
                       | some m => s.keyDone req.tag n m
                       | none => s.opFail req.tag (.code Code.auth)
                     else
                       let (nonce, s) := s.drawBytes 12
                       let out := (List.range (data.length + 16)).map (Config.aesGcm key nonce aad data)
                       s.keyDone req.tag n (nonce ++ out.drop data.length ++ out.take data.length) } req s)

end Sys2Proof.Machine
end

