-- ==== Sys2Proof/Machine/Image.lean ====
section
/-!
DEFINITION. Program images and their sections (R113, R117, R158, R173 to R178): the fields of the header, the tables,
where each program's sections lie in program data, and the admission checks of a program set.
-/
namespace Sys2Proof.Machine

/-- An image of a program. -/
abbrev Image := List Byte

/-! ### The header (R173) -/

/-- SLOT -/ def Image.slot (m : Image) : Nat := natAt m 0x06 1
/-- ENGINE -/ def Image.engine (m : Image) : Nat := natAt m 0x07 1
/-- PERIOD: K -/ def Image.k (m : Image) : Nat := natAt m 0x08 2
/-- PHASE: φ -/ def Image.phase (m : Image) : Nat := natAt m 0x0A 2
/-- OVERRUN_POLICY is STOP -/ def Image.overrunStop (m : Image) : Bool := bit (natAt m 0x0C 4) 0
/-- STOP_OUTPUTS is SAFE -/ def Image.stopSafe (m : Image) : Bool := bit (natAt m 0x0C 4) 1
/-- AUTOSTART -/ def Image.autostart (m : Image) : Bool := bit (natAt m 0x0C 4) 2
/-- WCET: C -/ def Image.wcet (m : Image) : Nat := natAt m 0x10 4
/-- ENTRY -/ def Image.entry (m : Image) : Nat := natAt m 0x14 4
/-- CODE_OFS -/ def Image.codeOfs (m : Image) : Nat := natAt m 0x18 4
/-- CODE_LEN -/ def Image.codeLen (m : Image) : Nat := natAt m 0x1C 4
/-- CONST_OFS -/ def Image.constOfs (m : Image) : Nat := natAt m 0x20 4
/-- CONST_LEN -/ def Image.constLen (m : Image) : Nat := natAt m 0x24 4
/-- SYM_OFS -/ def Image.symOfs (m : Image) : Nat := natAt m 0x28 4
/-- SYM_COUNT -/ def Image.symCount (m : Image) : Nat := natAt m 0x2C 4
/-- INST_OFS -/ def Image.instOfs (m : Image) : Nat := natAt m 0x30 4
/-- INST_COUNT -/ def Image.instCount (m : Image) : Nat := natAt m 0x34 4
/-- TIE_OFS -/ def Image.tieOfs (m : Image) : Nat := natAt m 0x38 4
/-- TIE_COUNT -/ def Image.tieCount (m : Image) : Nat := natAt m 0x3C 4
/-- I_LEN -/ def Image.iLen (m : Image) : Nat := natAt m 0x40 4
/-- Q_LEN -/ def Image.qLen (m : Image) : Nat := natAt m 0x44 4
/-- MP_LEN -/ def Image.mpLen (m : Image) : Nat := natAt m 0x48 4
/-- MR_LEN -/ def Image.mrLen (m : Image) : Nat := natAt m 0x4C 4
/-- INST_N -/ def Image.instN (m : Image) : Nat := natAt m 0x50 2
/-- INST_R -/ def Image.instR (m : Image) : Nat := natAt m 0x52 2
/-- IMAGE_LEN -/ def Image.len (m : Image) : Nat := natAt m 0x58 4
/-- The image's digest (R178). -/
def Image.digest (m : Image) : List Byte := shake (bytesAt m 0 (Image.len m)) 32

/-- A symbol table entry (R174). -/
structure Sym where
  id : Nat
  area : Nat
  type : Nat
  attr : Nat
  dims : Nat
  ofs : Nat
  count : Nat
  init : Nat
  safe : Nat
  shape : Nat
deriving DecidableEq, Repr

/-- An instance table entry (R175). -/
structure Inst where
  id : Nat
  kind : Nat
  attr : Nat
  num : Nat
  preset : Nat
deriving DecidableEq, Repr

/-- The symbol at an index. -/
def Image.sym (m : Image) (k : Nat) : Sym :=
  let o := Image.symOfs m + 40 * k
  { id := natAt m o 4, area := natAt m (o + 4) 1, type := natAt m (o + 5) 1, attr := natAt m (o + 6) 1, dims := natAt m (o + 7) 1,
    ofs := natAt m (o + 8) 4, count := natAt m (o + 12) 4, init := natAt m (o + 16) 8, safe := natAt m (o + 24) 8,
    shape := natAt m (o + 32) 8 }
/-- The symbol table. -/
def Image.syms (m : Image) : List Sym := (List.range (Image.symCount m)).map (Image.sym m)

/-- The instance at an index. -/
def Image.inst (m : Image) (k : Nat) : Inst :=
  let o := Image.instOfs m + 16 * k
  { id := natAt m o 4, kind := natAt m (o + 4) 1, attr := natAt m (o + 5) 1, num := natAt m (o + 6) 2, preset := natAt m (o + 8) 4 }
/-- The instance table. -/
def Image.insts (m : Image) : List Inst := (List.range (Image.instCount m)).map (Image.inst m)

/-- The tie table: channel and round (R175). -/
def Image.ties (m : Image) : List (Nat × Nat) :=
  (List.range (Image.tieCount m)).map (fun k => (natAt m (Image.tieOfs m + 4 * k) 1 % 8, natAt m (Image.tieOfs m + 4 * k + 1) 1))

/-- Bytes of an element of a type (R174). -/
def typeSize (t : Nat) : Nat := if t = 0 then 1 else if t = 1 ∨ t = 3 then 4 else 8

/-- Bytes of a symbol's data. -/
def Sym.size (y : Sym) : Nat := typeSize y.type * y.count
/-- RETAIN -/ def Sym.retain (y : Sym) : Bool := bit y.attr 0
/-- HOST_WRITE -/ def Sym.hostWrite (y : Sym) : Bool := bit y.attr 1
/-- INIT_IN_K -/ def Sym.initInK (y : Sym) : Bool := bit y.attr 2
/-- The same type in the sense of R147. -/
def Sym.sameType (x y : Sym) : Bool := x.type == y.type && x.dims == y.dims && x.count == y.count && x.shape == y.shape
/-- Whether the instance record lies in TR. -/
def Inst.rs (y : Inst) : Bool := bit y.attr 0

/-! ### Sections of program data (R117, R158) -/

/-- The bytes of an image's section of an area. -/
def Image.secLen (m : Image) (area : Nat) : Nat :=
  if area = 0 then Image.iLen m else if area = 1 then Image.qLen m else if area = 2 then 0x100000 else if area = 3 then Image.mpLen m
  else if area = 4 then Image.constLen m else if area = 5 then Image.mrLen m else if area = 6 then 32 * Image.instN m
  else 32 * Image.instR m

/-- Where an area starts in program data. -/
def areaStart (area : Nat) : Nat :=
  if area = 0 then 0 else if area = 1 then 0x80000 else if area = 2 then 0x100000 else if area = 3 then 0x200000
  else if area = 5 ∨ area = 7 then 0x600000 else 0x700000

/-- The L area's place in program data. -/
abbrev lArea : Nat := 0xC0000
/-- The force table's place in program data. -/
abbrev forceArea : Nat := 0xE0000

/-- Bytes a program takes in an area; the retained section holds MR and then TR. -/
def Image.areaLen (m : Image) (area : Nat) : Nat :=
  if m = [] then 0 else if area = 5 ∨ area = 7 then Image.secLen m 5 + Image.secLen m 7 else Image.secLen m area

/-- The base of a slot's section: sections follow one another in slot order (DESIGN CHOICE, notes/assumptions/4.md). -/
def secBase (images : List Image) (slot area : Nat) : Nat :=
  if area = 2 then areaStart 2 else
  areaStart area + ((images.take slot).map (fun m => Image.areaLen m area)).sum +
    (if area = 7 then Image.secLen (images.getD slot []) 5 else 0)

/-- The images of the loaded set. -/
def State.images (s : State) : List Image := s.scan.slots.map (·.image)
/-- The slot. -/
def State.slot (s : State) (p : Nat) : ProgSlot := s.scan.slots.getD p ProgSlot.empty
/-- Its image. -/
def State.image (s : State) (p : Nat) : Image := (s.slot p).image
/-- The base of a section of the loaded set. -/
def State.secBase (s : State) (p area : Nat) : Nat := Machine.secBase s.images p area
/-- The bytes of a section of a slot. -/
def State.secBytes (s : State) (p area : Nat) : List Byte := s.scan.data.getN (s.secBase p area) (Image.secLen (s.image p) area)

/-- The digest of a program set (R178). -/
def setDigest (images : List Image) : List Byte :=
  shake (images.map (fun m => if m = [] then List.replicate 32 0 else Image.digest m)).flatten 32

/-- The bytes of active program code: code and constants (CODE_ACTIVE). -/
def codeBytes (images : List Image) : Nat := (images.map (fun m => if m = [] then 0 else Image.codeLen m + Image.constLen m)).sum

/-! ### Admission (R114, R118, R176) -/

/-- The list is strictly ascending. -/
def strictAsc : List Nat → Bool
  | a :: b :: t => decide (a < b) && strictAsc (b :: t)
  | _ => true

/-- The product of the extents of SHAPE that DIMS uses. -/
def Sym.extents (y : Sym) : Nat := ((List.range y.dims).map (fun k => bits y.shape (16 * k + 15) (16 * k))).foldl (· * ·) 1

/-- The checks of one symbol entry. -/
def Image.symOk (m : Image) (y : Sym) : Bool :=
  decide (y.area ≤ 5) && decide (y.type ≤ 4) && decide (y.dims ≤ 4) && y.count == y.extents &&
    decide (y.ofs + y.size ≤ Image.secLen m y.area) &&
    (!y.initInK || decide (y.init + y.size ≤ Image.constLen m)) && y.id != 0 && y.id != 0xFFFFFFFF

/-- The checks of R176 on one image. -/
def Image.ok (m : Image) (slot : Nat) : Bool :=
  natAt m 0 4 == 0x4D494553 && natAt m 4 2 == 1 && Image.slot m == slot && decide (Image.engine m ≤ 7) &&
    decide (4 ≤ Image.k m) && decide (Image.k m ≤ 4000) && decide (Image.phase m < Image.k m) &&
    decide (Image.instN m ≤ 16384) && decide (Image.instR m ≤ 16384) && decide (natAt m 0x54 1 ≤ 16) &&
    Image.len m == m.length && Image.codeLen m % 4 == 0 &&
    [Image.codeOfs m, Image.constOfs m, Image.symOfs m, Image.instOfs m, Image.tieOfs m].all (· % 8 == 0) &&
    decide (128 ≤ Image.codeOfs m) && decide (Image.codeOfs m + Image.codeLen m ≤ Image.constOfs m) &&
    decide (Image.constOfs m + Image.constLen m ≤ Image.symOfs m) && decide (Image.symOfs m + 40 * Image.symCount m ≤ Image.instOfs m) &&
    decide (Image.instOfs m + 16 * Image.instCount m ≤ Image.tieOfs m) && decide (Image.tieOfs m + 4 * Image.tieCount m ≤ m.length) &&
    decide (Image.entry m < Image.codeLen m) && Image.entry m % 4 == 0 &&
    (Image.syms m).all (Image.symOk m) && strictAsc ((Image.syms m).map (·.id)) && strictAsc ((Image.insts m).map (·.id)) &&
    (Image.insts m).all (fun y => decide (y.kind ≤ 7) && decide (y.num < (if y.rs then Image.instR m else Image.instN m))) &&
    decide (((Image.insts m).map (fun y => (y.rs, y.num))).Nodup) &&
    (List.range (Image.tieCount m)).all (fun k => decide (natAt m (Image.tieOfs m + 4 * k) 1 ≤ 7) && decide (natAt m (Image.tieOfs m + 4 * k + 1) 1 ≤ 15))

/-- The budget of a period (R62). -/
def budget (k : Nat) : Nat := 200000 * k - 33000

/-- The IDs of a set are unique, shared M apart, where equal entries may repeat (R118). -/
def idsOk (images : List Image) : Bool :=
  let ys := (images.map Image.syms).flatten
  let is := (images.map Image.insts).flatten
  ys.all (fun x => ys.all (fun y => x.id != y.id || x == y)) &&
    decide (((ys.filter (fun y => y.area != 2)).map (·.id)).Nodup) && decide ((is.map (·.id)).Nodup)

/-- A program set passes R114 and R176; a bus round is tied to at most one program. -/
def setOk (images : List Image) : Bool :=
  let ms := images.filter (· != [])
  let tot (f : Image → Nat) := (ms.map f).sum
  images.length == 32 && (images.mapIdx (fun p m => m == [] || Image.ok m p)).all id &&
    (List.range 8).all (fun e =>
      let on := ms.filter (fun m => Image.engine m == e)
      decide (on.length ≤ 16) && on.all (fun m => decide (Image.wcet m ≤ budget (Image.k m))) &&
        decide ((on.map (fun m => ((Image.wcet m : Nat) : Rat) / (Image.k m : Nat))).foldl (· + ·) 0 ≤ 167000)) &&
    decide (tot Image.iLen ≤ 524288) && decide (tot Image.qLen ≤ 262144) && decide (tot Image.mpLen ≤ 4194304) &&
    decide (tot (fun m => Image.mrLen m + 32 * Image.instR m) ≤ 1048576) && decide (tot (fun m => 32 * Image.instN m) ≤ 1048576) &&
    decide (codeBytes images ≤ 4194304) && idsOk ms && decide (((ms.map Image.ties).flatten).Nodup)

/-- The images a directory of R179 names, from a byte string and the base of its offsets. -/
def directoryImages (bs : List Byte) (dir base : Nat) : List Image :=
  (List.range 32).map (fun p => let o := natAt bs (dir + 8 * p) 4; let l := natAt bs (dir + 8 * p + 4) 4
                                if l = 0 then [] else bytesAt bs (base + o) l)

/-! ### Initial values (R126) -/

/-- The bytes a type's value takes, from an 8-byte item; a BOOL is 0 or 1 (R159). -/
def valueBytes (type v : Nat) : List Byte := if type = 0 then [if v % 256 = 0 then 0 else 1] else leBytes (typeSize type) v

/-- The initial bytes of a symbol (R174). -/
def Image.initBytes (m : Image) (y : Sym) : List Byte :=
  if y.dims = 0 then valueBytes y.type y.init
  else if y.initInK then bytesAt m (Image.constOfs m + y.init) y.size
  else List.replicate y.size 0

/-- PT_c of a preset in ms (R134); a negative one counts as zero (R166). -/
def presetCycles (k : Nat) (ms : Int) : Nat := ((4 * ms.toNat) + k - 1) / k

/-- The kinds that time. -/
def isTimer (kind : Nat) : Bool := decide (kind ≤ 2)

/-- A new record of an instance (R167): FRESH, everything else zero but its preset. -/
def Inst.record (y : Inst) (k : Nat) : List Byte :=
  leBytes 4 y.id ++ leBytes 1 y.kind ++ leBytes 1 8 ++ leBytes 2 0 ++ leBytes 4 0 ++
    leBytes 4 (if isTimer y.kind then presetCycles k (sext 32 y.preset) else y.preset) ++ leBytes 8 0 ++ leBytes 4 y.preset ++ leBytes 4 0

/-- Shared M takes its initial values at the load of a set (R126). -/
def initShared (images : List Image) (d : Mem) : Mem :=
  images.foldl (fun d m => (if m = [] then [] else Image.syms m).foldl
    (fun d y => if y.area = 2 then d.putN (areaStart 2 + y.ofs) (Image.initBytes m y) else d) d) d

/-- INIT_COLD and INIT_WARM of a slot (R126): what the program owns takes its initial value; a warm one keeps the retained
section and marks its records FRESH. -/
def initProgram (images : List Image) (p : Nat) (warm : Bool) (d : Mem) : Mem :=
  let m := images.getD p []
  let base := secBase images p
  let clr (d : Mem) (a : Nat) := d.clearN (base a) (Image.secLen m a)
  let d := [0, 1, 3, 6].foldl clr d
  let d := if warm then d else clr (clr d 5) 7
  let d := (Image.syms m).foldl (fun d y =>
      if y.area = 0 ∨ y.area = 1 ∨ y.area = 3 ∨ (y.area = 5 ∧ !warm) then d.putN (base y.area + y.ofs) (Image.initBytes m y) else d) d
  (Image.insts m).foldl (fun d y =>
      let a := base (if y.rs then 7 else 6) + 32 * y.num
      if y.rs ∧ warm then d.put (a + 5) (BitVec.ofNat 8 (setBits (d.nat (a + 5) 1) 3 3 1))
      else d.putN a (y.record (Image.k m))) d

end Sys2Proof.Machine
end

