-- ==== Sys2Proof/Machine/Operands.lean ====
section
/-!
DEFINITION. The operand forms of the scan instructions: registers (R153, R154), widths (R156), immediates (R547),
effective addresses and memory accesses (R158 to R160), and plan channels (R168, R235).
-/
namespace Sys2Proof.Machine

/-- What an instruction does: it completes with a new state and cycle, or raises a trap with code and detail (R170). -/
inductive ScanRes where
  | ok (s : State) (c : Cycle)
  | trap (code detail : Nat)

/-! ### Trap codes (R170) -/

/-- ILLEGAL -/ abbrev Trap.illegal : Nat := 0x01
/-- AREA_BOUND -/ abbrev Trap.areaBound : Nat := 0x02
/-- AREA_WRITE -/ abbrev Trap.areaWrite : Nat := 0x03
/-- ALIGN -/ abbrev Trap.align : Nat := 0x04
/-- DIV_ZERO -/ abbrev Trap.divZero : Nat := 0x05
/-- CALL_DEPTH -/ abbrev Trap.callDepth : Nat := 0x06
/-- CODE_BOUND -/ abbrev Trap.codeBound : Nat := 0x07
/-- INSTANCE -/ abbrev Trap.inst : Nat := 0x08
/-- LOOP_INDEX -/ abbrev Trap.loopIndex : Nat := 0x09
/-- CHANNEL -/ abbrev Trap.channel : Nat := 0x0A
/-- USER -/ abbrev Trap.user : Nat := 0x0B

/-! ### Registers -/

/-- A register as read; g0 reads as zero. -/
def Cycle.rd (c : Cycle) (r : SReg) : DWord := if r = 0 then 0 else c.regs.getD r.toNat 0

/-- The cycle with a register written; writes to g0 are discarded. -/
def Cycle.wr (c : Cycle) (r : SReg) (v : DWord) : Cycle :=
  if r = 0 then c else { c with regs := modifyNth (fun _ => v) r.toNat c.regs }

/-- The cycle at its next instruction. -/
def Cycle.next (c : Cycle) : Cycle := { c with pc := c.pc + 4 }

/-- The signed integer an operand of a width stands for (R547: width 0 works on bits [31:0]). -/
def ival (w : Bool) (v : DWord) : Int := if w then v.toInt else (v.setWidth 32).toInt

/-- An integer result in the form of its width (R154); it wraps (R163). -/
def ires (w : Bool) (i : Int) : DWord := if w then BitVec.ofInt 64 i else (BitVec.ofInt 32 i).signExtend 64

/-- A word of 32 bits as INT32 in a register. -/
def wres (v : Nat) : DWord := (BitVec.ofNat 32 v).signExtend 64

/-- The float format of a width. -/
def ffmt (w : Bool) : Fmt := if w then f64 else f32

/-- The pattern of a float operand. -/
def fval (w : Bool) (v : DWord) : Nat := if w then v.toNat else (v.setWidth 32).toNat

/-- A float result in the form of its width. -/
def fres (v : Nat) : DWord := BitVec.ofNat 64 v

/-- A BOOL result. -/
def bres (b : Bool) : DWord := if b then 1 else 0

/-- A register written, and on to the next instruction. -/
def writeNext (s : State) (c : Cycle) (d : SReg) (v : DWord) : ScanRes := .ok s (c.wr d v).next

/-! ### Memory -/

/-- Kinds of access of R158. -/
inductive Access where
  | load | store | force
deriving DecidableEq, Repr

/-- The areas an access may reach (R158). -/
def areaAllows (k : Access) (area : Nat) : Bool :=
  match k with
  | .load => true
  | .store => area == 2 || area == 3 || area == 5
  | .force => area == 1

/-- The offset of an access in its section: the index plus DISP times the access size, in 64 bits. -/
def accessOfs (c : Cycle) (a : SReg) (disp : BitVec 13) (size : Nat) : Nat := ((c.rd a).toNat + disp.toNat * size) % 2 ^ 64

/-- The trap an access raises, in the order AREA_WRITE, ALIGN, AREA_BOUND (R159). -/
def accessTrap (s : State) (p : Nat) (k : Access) (area ofs size : Nat) : Option (Nat × Nat) :=
  let base := if area = 4 then 0 else s.secBase p area
  if areaAllows k area = false then some (Trap.areaWrite, area)
  else if (base + ofs) % 2 ^ 64 % size ≠ 0 then some (Trap.align, area)
  else if ofs + size ≤ Image.secLen (s.image p) area then none
  else some (Trap.areaBound, area)

/-- A load: the bytes at the effective address (R158), given to a function that makes the register value. -/
def scanLoad (s : State) (p : Nat) (c : Cycle) (d a : SReg) (area : BitVec 3) (disp : BitVec 13) (size : Nat) (f : Nat → DWord) : ScanRes :=
  let ar := area.toNat
  let o := accessOfs c a disp size
  match accessTrap s p .load ar o size with
  | some (code, det) => .trap code det
  | none =>
    let v := if ar = 4 then natAt (s.image p) (Image.constOfs (s.image p) + o) size else s.scan.data.nat (s.secBase p ar + o) size
    writeNext s c d (f v)

/-- What the latch writes is noted for the input raft (R388, kind 0). -/
def State.logLatch (s : State) (a : Nat) (bs : List Byte) : State :=
  if s.pair.logging then { s with pair := { s.pair with sections := s.pair.sections ++ [(0, a, bs)] } } else s

/-- Program data with bytes stored. -/
def State.putData (s : State) (a : Nat) (bs : List Byte) : State :=
  let d := s.scan.data.putN a bs
  (({ s with scan := { s.scan with data := d } }).logLatch a bs).foldMem 0 d a bs.length

/-- A plain or force-aware store of a size; `held` says whether an output force holds the variable (R160). -/
def scanStore (s : State) (p : Nat) (c : Cycle) (k : Access) (a : SReg) (area : BitVec 3) (disp : BitVec 13) (bs : List Byte)
    (held : Nat → Nat → Bool) : ScanRes :=
  let ar := area.toNat
  let o := accessOfs c a disp bs.length
  match accessTrap s p k ar o bs.length with
  | some (code, det) => .trap code det
  | none =>
    if k = .force ∧ held o bs.length = true then .ok s c.next
    else .ok (s.putData (s.secBase p ar + o) bs) c.next

/-! ### Forces (R137) -/

/-- The force-table entry at an index: SYM_ID, type, area, value. -/
def State.forceEntry (s : State) (k : Nat) : Nat × Nat × Nat × Nat :=
  let a := forceArea + 32 * k
  (s.scan.data.nat a 4, s.scan.data.nat (a + 4) 1, s.scan.data.nat (a + 5) 1 % 2, s.scan.data.nat (a + 8) 8)

/-- The entries in use: index, SYM_ID, type, area, value. -/
def State.forces (s : State) : List (Nat × Nat × Nat × Nat × Nat) :=
  ((List.range 1024).map (fun k => (k, s.forceEntry k))).filter (fun e => e.2.1 != 0)

/-- Whether an output force holds a variable of a slot's Q section that overlaps the bytes of a store. -/
def State.forceHolds (s : State) (p ofs size : Nat) : Bool :=
  (Image.syms (s.image p)).any (fun y => y.area == 1 && decide (y.ofs < ofs + size) && decide (ofs < y.ofs + y.size) &&
    s.forces.any (fun e => e.2.1 == y.id && e.2.2.2.1 == 1))

/-! ### Plan channels (R168, R229, R235) -/

/-- USED of a channel's entry of the output map. -/
def State.planUsed (s : State) (ch : Nat) : Bool := bit (natAt s.disp.map (16 * ch) 4) 31
/-- Its SAFE: zero where no map is loaded (R213, notes/assumptions/5.md). -/
def State.planSafe (s : State) (ch : Nat) : Word := BitVec.ofNat 32 (natAt s.disp.map (16 * ch + 12) 4)

/-- A channel stands at fallback in a snapshot. -/
def State.planFallback (s : State) (n : PlanSnap) (ch : Nat) : Bool :=
  match n.plan with
  | none => true
  | some p => !s.planUsed ch || p.lost.contains ch

/-- A plan cell. -/
def Plan.cell (p : Plan) (ch k : Nat) : Word := p.cells.word (ch * 192 + k * 4)

/-- The value of a channel a number of steps after the current one. -/
def State.planValue (s : State) (n : PlanSnap) (ch ahead : Nat) : Word :=
  match n.plan with
  | none => s.planSafe ch
  | some p => if s.planFallback n ch then s.planSafe ch else if p.nsteps ≤ n.step + ahead then s.planSafe ch else p.cell ch (n.step + ahead)

end Sys2Proof.Machine
end

