-- ==== Sys2Proof/Machine/ScanMode.lean ====
section
/-!
DEFINITION. The modes of programs (R123 to R133), what a stop, a trap, a breakpoint and a missed deadline do, the failure
of an armed exchange (R145), and the local I/O (R151).
-/
namespace Sys2Proof.Machine

/-- The slot replaced by a function of it. -/
def State.modSlot (s : State) (p : Nat) (f : ProgSlot → ProgSlot) : State :=
  { s with scan := { s.scan with slots := modifyNth f p s.scan.slots } }

/-- PROG_STATUS.MODE as a number. -/
def ProgMode.num : ProgMode → Nat
  | .empty => 0 | .stop => 1 | .run => 2 | .hold => 3

/-- EXCH_STATUS.STATE. -/
def State.exchState (s : State) : Nat := s.fld Reg.EXCH_STATUS 2 0

/-- SCAN BLK_STATUS brought up to date: an armed exchange, then HOLD, then RUN (notes/assumptions/6.md). -/
def State.scanRefresh (s : State) : State :=
  let some_ (m : ProgMode) := s.scan.slots.any (fun x => x.mode == m)
  let st := if s.exchState = 3 then 3 else if some_ .hold then 2 else if some_ .run then 1 else 0
  (s.setBlkState Head.scan st).setReady Head.scan (s.enabled Head.scan && s.scan.slots.any (fun x => x.mode != .empty))

/-- A slot's mode set, with MODE_CHANGE where it changes. -/
def State.setMode (s : State) (p : Nat) (m : ProgMode) : State :=
  if (s.slot p).mode = m then s else ((s.modSlot p (fun x => { x with mode := m })).evt Head.scan 1).scanRefresh

/-- An armed exchange fails with a cause; the package stays staged (R145). -/
def State.exchFail (s : State) (cause : Nat) : State :=
  match s.scan.stage.armed with
  | none => s
  | some (_, _, _, tag) =>
    if s.exchState ≠ 3 ∨ s.scan.stage.migrated = true then s else
    let s := (s.setFld Reg.EXCH_STATUS 2 0 5).setFld Reg.EXCH_STATUS 15 8 cause
    let s := { s with scan := { s.scan with stage := { s.scan.stage with armed := none } } }
    ((s.evt Head.scan 8).opEnd tag Code.aborted [] 0).scanRefresh

/-- The armed exchange fails where the program belongs to its set. -/
def State.exchFailOf (s : State) (p cause : Nat) : State :=
  match s.scan.stage.armed with
  | some (_, mask, _, _) => if bit mask p then s.exchFail cause else s
  | none => s

/-- A program enters STOP with a cause (R125, R127): its cycle, if any, is abandoned. -/
def State.stopProg (s : State) (p cause : Nat) : State :=
  let s := s.modSlot p (fun x => { x with cause := cause, suspended := false, stepping := false, cycle := none, req := none, abortAt := none,
                                          safeDue := Image.stopSafe x.image })
  s.setMode p .stop

/-- The cycle of a slot replaced. -/
def State.setCycle (s : State) (p : Nat) (c : Cycle) : State := s.modSlot p (fun x => { x with cycle := some c })

/-- A trap (R170). -/
def State.trap (s : State) (p : Nat) (c : Cycle) (code detail : Nat) : State :=
  let s := s.setRg (Reg.PROG_INFO p) (BitVec.ofNat 32 (code + 256 * (detail % 256)))
  let s := s.setRg (Reg.PROG_PC p) (BitVec.ofNat 32 c.pc)
  let s := (s.incSat Reg.TRAP_CNT).evt Head.scan 3
  (s.exchFailOf p 3).stopProg p 4

/-- A breakpoint is reached (R129). -/
def State.breakHit (s : State) (p : Nat) (c : Cycle) (idx : Nat) : State :=
  let s := s.setRg (Reg.PROG_INFO p) (BitVec.ofNat 32 idx)
  let s := s.setRg (Reg.PROG_PC p) (BitVec.ofNat 32 c.pc)
  let s := s.modSlot p (fun x => { x with suspended := true, stepping := false, cycle := some c })
  ((s.evt Head.scan 4).exchFailOf p 2).setMode p .hold

/-- Engine cycles delivered to a scan engine in this beat (SE_PEAK). -/
def State.useEngine (s : State) (e n : Nat) : State :=
  { s with scan := { s.scan with used := modifyNth (· + n) e s.scan.used } }

/-- END (R165): the cycle completes; a late one has its Q section restored to the values last posted (R142). -/
def State.endCycle (s : State) (p : Nat) (c : Cycle) : State :=
  let s := s.setRg64 (Reg.PROG_CYCLES_LO p) (s.rg64 (Reg.PROG_CYCLES_LO p) + 1)
  let s := (s.setRg (Reg.PROG_COST_LAST p) (BitVec.ofNat 32 c.cost)).peak (Reg.PROG_COST_MAX p) c.cost
  let s := if c.late then s.putData (s.secBase p 1) (s.slot p).lastQ else s
  s.setCycle p { c with done := true }

/-- The first beat at or after one that is a scheduled start (R60). -/
def nextStart (k phase b : Nat) : Nat := b + (k + phase - b % k) % k

/-- A slot's next scheduled start after this beat (R125). -/
def State.nextStartOf (s : State) (p : Nat) : Nat := nextStart (Image.k (s.image p)) (Image.phase (s.image p)) (s.beat + 1)

/-- The plan-table snapshot of a beat (R235). -/
def State.planSnap (s : State) (b : Nat) : PlanSnap :=
  match s.disp.plan, s.pair.snapIn with
  | none, _ => { plan := none, step := 0, left := 0 }
  | some p, some (k, fb) => if fb then { plan := none, step := 0, left := 0 } else { plan := some p, step := k, left := p.nsteps - 1 - k }
  | some p, none =>
    if b < p.origin ∨ p.nsteps * p.stepBeats ≤ b - p.origin then { plan := none, step := 0, left := 0 }
    else { plan := some p, step := (b - p.origin) / p.stepBeats, left := p.nsteps - 1 - (b - p.origin) / p.stepBeats }

/-- The bytes of a memory from an address on, `n` of them, where they are listed. -/
def Mem.slice (m : Mem) (a n : Nat) : Mem := m.filter (fun c => decide (a ≤ c.1 ∧ c.1 < a + n))

/-- A new cycle at its latch (R153). -/
def Cycle.start (m : Image) (f0 : Nat) (snap : PlanSnap) (l : Mem) : Cycle :=
  { f0 := f0, regs := List.replicate 32 0, pc := Image.entry m, stack := [], cost := 0, paid := 0, entered := false, done := false,
    late := false, passed := false, snap := snap, lArea := l }

/-- The safe values of a slot's Q variables, put into its Q section (R127). -/
def safeQ (m : Image) (q : List Byte) : List Byte :=
  (Image.syms m).foldl (fun q y => if y.area = 1 ∧ y.dims = 0 then setBytes q y.ofs (valueBytes y.type y.safe) else q) q

/-- The forced values of a slot's Q variables, put into its Q section (R138). -/
def State.forceQ (s : State) (p : Nat) (q : List Byte) : List Byte :=
  s.forces.foldl (fun q e =>
    if e.2.2.2.1 = 1 then
      (match (Image.syms (s.image p)).find? (fun y => y.id == e.2.1 && y.area == 1) with
       | some y => setBytes q y.ofs (valueBytes y.type e.2.2.2.2)
       | none => q)
    else q) q

/-- A missed deadline of a slot's cycle (R64, R142). -/
def State.missDeadline (s : State) (p : Nat) (c : Cycle) : State :=
  let k := Image.k (s.image p)
  let s := (s.incSat Reg.OVERRUN_CNT).evt Head.frame 3
  let s := ((s.incSat (Reg.PROG_OVERRUNS p)).evt Head.scan 2).exchFailOf p 1
  if Image.overrunStop (s.image p) || c.late then s.stopProg p 3
  else s.modSlot p (fun x => { x with cycle := some { c with late := true, f0 := c.f0 + k }, resumeAt := c.f0 + 2 * k })

/-- PROGRAM_DEADLINE: the cycle of a slot has not finished when P1 of its last beat ends and P2 begins. -/
def State.deadline (s : State) (p : Nat) : State :=
  match (s.slot p).cycle with
  | none => s
  | some c =>
    if s.running && s.frame.phase == .p1 && !(s.slot p).suspended && !c.done && s.beat + 1 == c.f0 + Image.k (s.image p) then s.missDeadline p c else s

/-- `PROGRAM_DEADLINE` (R64). -/
def execProgramDeadline (slot : Nat) (s : State) : Host.Outcome State Fault Refusal := .next (s.deadline slot)

/-! ### Local I/O (R151) -/

/-- The filter time of a pulse input in ns. -/
def filterNs (k : Nat) : Nat := if k = 0 then 0 else if k = 1 then 250 else if k = 2 then 1000 else 4000

/-- An edge of a pulse input, whose preceding level lasted `prevNs`, with the level of its direction line. -/
def State.pulseEdge (s : State) (n : Nat) (rising : Bool) (prevNs : Nat) (dir : Bool) (q : Nat) : State :=
  let cfg := s.rg (Reg.LIO_PCFG n)
  let edge := wbits cfg 2 1
  if n < 32 ∧ bit s.boot.vio (n / 24) = true ∧ wbits cfg 0 0 = 1 ∧ (edge = 2 ∨ edge = (if rising then 0 else 1)) ∧ filterNs (wbits cfg 4 3) ≤ prevNs then
    let back := wbits cfg 5 5 == 1 && (dir != (wbits cfg 12 12 == 1))
    let st : Word := BitVec.ofNat 32 (shortStamp (s.stampQ q))
    let s := s.setRg (Reg.LIO_PTS n) st
    { s with lio := { s.lio with stamp := modifyNth (fun _ => st) n s.lio.stamp,
                                 stampPrev := modifyNth (fun _ => s.lio.stamp.getD n 0) n s.lio.stampPrev,
                                 edges := modifyNth (fun k => min 2 (k + 1)) n s.lio.edges,
                                 fwd := if back then s.lio.fwd else modifyNth (· + 1) n s.lio.fwd,
                                 rev := if back then modifyNth (· + 1) n s.lio.rev else s.lio.rev } }
  else s

/-- `LIO_PULSE_EDGE` (R151). -/
def execLioPulseEdge (line : Nat) (rising : Bool) (prevNs : Nat) (dir : Bool) (q : Nat) (s : State) : Host.Outcome State Fault Refusal :=
  .next (s.pulseEdge line rising prevNs dir q)

end Sys2Proof.Machine
end

