-- ==== Sys2Proof/Machine/ScanOps.lean ====
section
/-!
DEFINITION. The opcodes of the program group (R149): modes, breakpoints, forces, symbols, staging and online exchange
(R143 to R148, R179, R180).
-/
namespace Sys2Proof.Machine

/-- The slots of a program mask, ascending. -/
def maskSlots (m : Nat) : List Nat := (List.range 32).filter (fun p => bit m p)

/-- SCAN_CTRL.DEBUG_EN. -/
def State.debugEn (s : State) : Bool := s.fld Reg.SCAN_CTRL 0 0 == 1

/-- SCAN's state as a refusal. -/
def scanState : Refuse := .state Head.scan

/-! ### Modes (R125 to R131) -/

/-- `PROG_LIST`. -/
def execProgList (req : OctahReq) (s : State) : Host.Outcome State Fault Refusal :=
  .next (octah { opcode := 0x0200, owner := false, len := fun n => n == 0, args := noArgs, legal := always
                 run := fun s req => s.opOk req.tag ((List.range 32).flatMap (fun p =>
                   let x := s.slot p
                   leBytes 1 x.mode.num ++ leBytes 1 x.cause ++ leBytes 1 (Image.engine x.image) ++ leBytes 1 (b2n x.suspended) ++
                     leBytes 2 (Image.k x.image) ++ leBytes 2 (Image.phase x.image) ++ leBytes 4 (s.rg (Reg.PROG_OVERRUNS p)).toNat ++
                     (if x.image = [] then leBytes 4 0 else bytesAt (Image.digest x.image) 0 4))) } req s)

/-- A change of mode waits for a slot's scheduled start. -/
def State.request (s : State) (p at_ : Nat) (r : ModeReq) : State := s.modSlot p (fun x => { x with req := some (at_, r) })

/-- The greatest of a list of beats. -/
def lastBeat (bs : List Nat) : Nat := bs.foldl max 0

/-- The first cycle of a program that PROG_START starts (R125). -/
def State.startBeat (s : State) (p req : Nat) : Nat :=
  nextStart (Image.k (s.image p)) (Image.phase (s.image p)) (max req (s.beat + 4))

/-- `PROG_START` (R125, R126, R127). -/
def execProgStart (req : OctahReq) (s : State) : Host.Outcome State Fault Refusal :=
  .next (octah { opcode := 0x0201, owner := true, len := fun n => n == 16
                 args := fun _ p => firstBad [(0, natAt p 0 4 != 0), (4, natAt p 4 1 ≤ 2), (5, zeroAt p 5 3)]
                 legal := fun s req =>
                   if (maskSlots (natAt req.pl 0 4)).all (fun p => (s.slot p).mode == .stop && !s.scan.dead.contains (Image.engine (s.image p)) &&
                        (natAt req.pl 4 1 != 2 || (s.slot p).cause == 1)) then none else some scanState
                 run := fun s req =>
                   let ps := maskSlots (natAt req.pl 0 4)
                   let f0 (p : Nat) := s.startBeat p (natAt req.pl 8 8)
                   let t := ps.foldl (fun t p => t.request p (f0 p) (.start (natAt req.pl 4 1))) (s.opStart req.tag)
                   t.opDue (lastBeat (ps.map f0)) req.tag (ps.flatMap (fun p => leBytes 8 (f0 p))) } req s)

/-- `PROG_STOP` (R125): at the next scheduled start, or with ABORT at the boundary that ends this beat. -/
def execProgStop (req : OctahReq) (s : State) : Host.Outcome State Fault Refusal :=
  .next (octah { opcode := 0x0202, owner := true, len := fun n => n == 8
                 args := fun _ p => firstBad [(0, natAt p 0 4 != 0), (4, natAt p 4 1 ≤ 1), (5, zeroAt p 5 3)]
                 legal := fun s req =>
                   if (maskSlots (natAt req.pl 0 4)).all (fun p => (s.slot p).mode == .run || (s.slot p).mode == .hold) then none else some scanState
                 run := fun s req =>
                   let ps := maskSlots (natAt req.pl 0 4)
                   let abort := bit (natAt req.pl 4 1) 0
                   let when_ (p : Nat) := if abort then s.beat + 1 else s.nextStartOf p
                   let t := ps.foldl (fun t p => if abort then t.modSlot p (fun x => { x with abortAt := some (s.beat + 1) })
                                                 else t.request p (when_ p) .stop) (s.opStart req.tag)
                   t.opDue (lastBeat (ps.map when_)) req.tag [] } req s)

/-- A mode change of every program of a mask at its next scheduled start, with a condition on each. -/
def modeRow (opcode : Nat) (from_ : ProgMode) (dbg : Bool) (r : ModeReq) : OpRow :=
  { opcode := opcode, owner := true, len := fun n => n == 4
    args := fun _ p => firstBad [(0, natAt p 0 4 != 0)]
    legal := fun s req => if (!dbg || s.debugEn) && (maskSlots (natAt req.pl 0 4)).all (fun p => (s.slot p).mode == from_) then none else some scanState
    run := fun s req =>
      let ps := maskSlots (natAt req.pl 0 4)
      let t := ps.foldl (fun t p => t.request p (s.nextStartOf p) r) (s.opStart req.tag)
      t.opDue (lastBeat (ps.map s.nextStartOf)) req.tag [] }

/-- `PROG_HOLD` (R125, R128). -/
def execProgHold (req : OctahReq) (s : State) : Host.Outcome State Fault Refusal := .next (octah (modeRow 0x0203 .run true .hold) req s)

/-- `PROG_RESUME` (R130). -/
def execProgResume (req : OctahReq) (s : State) : Host.Outcome State Fault Refusal := .next (octah (modeRow 0x0204 .hold false .resume) req s)

/-- `PROG_STEP` (R130). -/
def execProgStep (req : OctahReq) (s : State) : Host.Outcome State Fault Refusal :=
  .next (octah { opcode := 0x0205, owner := true, len := fun n => n == 4
                 args := fun _ p => firstBad [(0, natAt p 0 1 < 32), (1, zeroAt p 1 3)]
                 legal := fun s req => if (s.slot (natAt req.pl 0 1)).mode == .hold then none else some scanState
                 run := fun s req =>
                   let p := natAt req.pl 0 1
                   ((s.opStart req.tag).request p (s.nextStartOf p) .step).opDue (s.nextStartOf p) req.tag [] } req s)

/-- `BREAK_SET` (R128, R177). -/
def execBreakSet (req : OctahReq) (s : State) : Host.Outcome State Fault Refusal :=
  .next (octah { opcode := 0x0206, owner := true, len := fun n => n == 8
                 args := fun s p =>
                   let m := s.image (natAt p 0 1)
                   firstBad [(0, natAt p 0 1 < 32), (1, natAt p 1 1 < 8), (2, zeroAt p 2 2),
                             (4, natAt p 4 4 % 4 == 0 && (m == [] || natAt p 4 4 < Image.codeLen m))]
                 legal := fun s req => if s.debugEn && (s.slot (natAt req.pl 0 1)).mode != .empty then none else some scanState
                 run := fun s req =>
                   let s := s.opStart req.tag
                   (s.modSlot (natAt req.pl 0 1) (fun x => { x with breaks := modifyNth (fun _ => some (natAt req.pl 4 4)) (natAt req.pl 1 1) x.breaks })).opOk
                     req.tag [] } req s)

/-- `BREAK_CLEAR` (R128). -/
def execBreakClear (req : OctahReq) (s : State) : Host.Outcome State Fault Refusal :=
  .next (octah { opcode := 0x0207, owner := true, len := fun n => n == 4
                 args := fun _ p => firstBad [(0, natAt p 0 1 < 32), (1, natAt p 1 1 < 8 || natAt p 1 1 == 0xFF), (2, zeroAt p 2 2)]
                 legal := always
                 run := fun s req =>
                   let k := natAt req.pl 1 1
                   let s := s.opStart req.tag
                   (s.modSlot (natAt req.pl 0 1) (fun x => { x with breaks := x.breaks.mapIdx (fun n b => if k = 0xFF ∨ n = k then none else b) })).opOk
                     req.tag [] } req s)

/-! ### Symbols and forces (R118, R122, R137 to R140) -/

/-- The variable of a symbol ID in the loaded set, with the slot that lists it. -/
def State.symFind (s : State) (id : Nat) : Option (Nat × Sym) :=
  (List.range 32).findSome? (fun p => if (s.image p).isEmpty then none else ((Image.syms (s.image p)).find? (fun y => y.id == id)).map (fun y => (p, y)))

/-- The ID names a block instance. -/
def State.isInst (s : State) (id : Nat) : Bool := s.images.any (fun m => m != [] && (Image.insts m).any (fun y => y.id == id))

/-- Where a variable lies in program data. -/
def State.symAddr (s : State) (p : Nat) (y : Sym) : Nat := s.secBase p y.area + y.ofs

/-- A variable's bytes as they stand; constants from the image. -/
def State.symBytes (s : State) (p : Nat) (y : Sym) : List Byte :=
  if y.area = 4 then bytesAt (s.image p) (Image.constOfs (s.image p) + y.ofs) y.size else s.scan.data.getN (s.symAddr p y) y.size

/-- An 8-byte value field fits a type: the bytes above it are zero, a BOOL is 0 or 1 (R137). -/
def valueFits (type v : Nat) : Bool := if type = 0 then decide (v ≤ 1) else decide (v < 2 ^ (8 * typeSize type))

/-- A symbol that may be forced: a scalar of area I or Q. -/
def State.forceable (s : State) (id : Nat) : Option (Nat × Sym) :=
  match s.symFind id with
  | some (p, y) => if y.area ≤ 1 ∧ y.dims = 0 then some (p, y) else none
  | none => none

/-- The entry a new force takes: its symbol's, else the lowest free one that no waiting force takes. -/
def State.forceSlot (s : State) (id : Nat) : Option Nat :=
  let waiting := s.scan.forceQ.filterMap (fun c => match c with
    | .put k y _ _ _ => some (k, y)
    | .clear _ => none)
  match waiting.find? (fun x => x.2 == id) with
  | some (k, _) => some k
  | none =>
    match s.forces.find? (fun e => e.2.1 == id) with
    | some e => some e.1
    | none => (List.range 1024).find? (fun k => (s.forceEntry k).1 == 0 && !(waiting.any (fun x => x.1 == k)))

/-- `FORCE_SET` (R137, R138). -/
def execForceSet (req : OctahReq) (s : State) : Host.Outcome State Fault Refusal :=
  .next (octah { opcode := 0x0208, owner := true, len := fun n => n == 16
                 args := fun s p => firstBad [(0, (s.forceable (natAt p 0 4)).isSome), (4, zeroAt p 4 4),
                   (8, match s.forceable (natAt p 0 4) with
                       | some (_, y) => valueFits y.type (natAt p 8 8)
                       | none => false)]
                 legal := fun s req => if (s.forceSlot (natAt req.pl 0 4)).isSome then none else some (.code Code.noResource)
                 run := fun s req =>
                   let id := natAt req.pl 0 4
                   let k := (s.forceSlot id).getD 0
                   let y := ((s.forceable id).map (·.2)).getD (Image.sym [] 0)
                   let s := s.opStart req.tag
                   let s := { s with scan := { s.scan with forceQ := s.scan.forceQ ++ [ForceChange.put k id y.type y.area (natAt req.pl 8 8)] } }
                   s.opDue (s.beat + 1) req.tag (leBytes 2 k ++ leBytes 2 0) } req s)

/-- `FORCE_CLEAR` (R139). -/
def execForceClear (req : OctahReq) (s : State) : Host.Outcome State Fault Refusal :=
  .next (octah { opcode := 0x0209, owner := true, len := fun n => n == 4, args := noArgs, legal := always
                 run := fun s req =>
                   let s := s.opStart req.tag
                   let s := { s with scan := { s.scan with forceQ := s.scan.forceQ ++ [ForceChange.clear (natAt req.pl 0 4)] } }
                   s.opDue (s.beat + 1) req.tag [] } req s)

/-- FORCE_COUNT brought up to date. -/
def State.forceCount (s : State) : State := s.setRg Reg.FORCE_COUNT (BitVec.ofNat 32 s.forces.length)

/-- The entry of an index freed. -/
def State.freeForce (s : State) (k : Nat) : State :=
  let d := s.scan.data.clearN (forceArea + 32 * k) 32
  ({ s with scan := { s.scan with data := d } }).foldMem 0 d (forceArea + 32 * k) 32

/-- A force change takes effect at the running beat (R138, R139): the entry is written, and an output takes the value; in
STOP or HOLD it is posted in this beat's P2. -/
def State.applyForce (s : State) (c : ForceChange) : State :=
  match c with
  | .clear id => ((s.forces.filter (fun e => id == 0xFFFFFFFF || e.2.1 == id)).foldl (fun s e => s.freeForce e.1) s).forceCount
  | .put k id type area v =>
    let s := s.putData (forceArea + 32 * k)
      (leBytes 4 id ++ leBytes 1 type ++ leBytes 1 area ++ leBytes 2 0 ++ leBytes 8 v ++ leBytes 8 s.beat ++ leBytes 8 0)
    let s := s.forceCount
    if area = 1 then
      (match s.symFind id with
       | some (p, y) =>
         let s := s.putData (s.symAddr p y) (valueBytes type v)
         if (s.slot p).mode = .run then s else { s with scan := { s.scan with forcePost := p :: s.scan.forcePost } }
       | none => s)
    else s

/-- `FORCE_LIST`. -/
def execForceList (req : OctahReq) (s : State) : Host.Outcome State Fault Refusal :=
  .next (octah { opcode := 0x020A, owner := false, len := fun n => n == 4
                 args := fun _ p => firstBad [(0, natAt p 0 2 < 1024), (2, zeroAt p 2 2)], legal := always
                 run := fun s req =>
                   let k := natAt req.pl 0 2
                   let n := min 125 (1024 - k)
                   s.opOk req.tag (leBytes 2 n ++ leBytes 2 0 ++ s.scan.data.getN (forceArea + 32 * k) (32 * n)) } req s)

/-- `SYM_READ` (R122): it waits for P2. -/
def execSymRead (req : OctahReq) (s : State) : Host.Outcome State Fault Refusal :=
  .next (octah { opcode := 0x020B, owner := false, len := fun n => decide (8 ≤ n) && decide (n ≤ 260) && n % 4 == 0
                 fits := fun p => natAt p 0 2 * 4 + 4 == p.length
                 args := fun _ p => firstBad [(2, zeroAt p 2 2)], legal := always
                 run := fun s req =>
                   { s with scan := { s.scan with symReads := s.scan.symReads ++
                       [(req.tag, (List.range (natAt req.pl 0 2)).map (fun k => natAt req.pl (4 + 4 * k) 4))] } } } req s)

/-- One item of a SYM_READ response. -/
def State.symItem (s : State) (id : Nat) : List Byte :=
  let item (type status : Nat) (v : List Byte) := leBytes 4 id ++ leBytes 1 type ++ leBytes 1 status ++ leBytes 2 0 ++ bytesAt v 0 8
  match s.symFind id with
  | some (p, y) => if y.dims = 0 then item y.type 0 (s.symBytes p y) else item y.type 2 []
  | none => if s.isInst id then item 0 2 [] else item 0 1 []

/-- SYM_READ requests are answered, after the commit of the beat is released (R122). -/
def State.runSymReads (s : State) : State :=
  s.scan.symReads.foldl (fun t x => t.opOk x.1 (leBytes 8 s.beat ++ x.2.flatMap s.symItem)) { s with scan := { s.scan with symReads := [] } }

/-- Items of a SYM_WRITE: ID, TYPE, reserved bytes, value. -/
def symItems (p : List Byte) : List (Nat × Nat × Nat × Nat) :=
  (List.range (natAt p 0 2)).map (fun k => let o := 4 + 16 * k; (natAt p o 4, natAt p (o + 4) 1, natAt p (o + 5) 3, natAt p (o + 8) 8))

/-- A variable that SYM_WRITE may write: a scalar of shared, private or retained M with HOST_WRITE. -/
def State.symWritable (s : State) (id : Nat) : Option (Nat × Sym) :=
  match s.symFind id with
  | some (p, y) => if y.dims = 0 ∧ (y.area = 2 ∨ y.area = 3 ∨ y.area = 5) ∧ y.hostWrite = true then some (p, y) else none
  | none => none

/-- `SYM_WRITE` (R120, R149): its values enter the queue together. -/
def execSymWrite (req : OctahReq) (s : State) : Host.Outcome State Fault Refusal :=
  .next (octah { opcode := 0x020C, owner := true, len := fun n => decide (20 ≤ n) && decide (n ≤ 1028) && n % 16 == 4
                 fits := fun p => natAt p 0 2 * 16 + 4 == p.length
                 args := fun s p => firstBad ((2, zeroAt p 2 2) :: ((symItems p).mapIdx (fun k x =>
                   let o := 4 + 16 * k
                   match s.symWritable x.1 with
                   | none => [(o, false)]
                   | some (_, y) => [(o + 4, x.2.1 == y.type), (o + 5, x.2.2.1 == 0), (o + 8, valueFits y.type x.2.2.2)])).flatten)
                 legal := fun s req => if natAt req.pl 0 2 + s.scan.hostQ.length ≤ 256 then none else some (.code Code.busy)
                 run := fun s req =>
                   let n := natAt req.pl 0 2
                   let ws := (symItems req.pl).mapIdx (fun k x =>
                     match s.symWritable x.1 with
                     | some (p, y) => { ofs := s.symAddr p y, bytes := valueBytes y.type x.2.2.2, tag := if k + 1 = n then some req.tag else none }
                     | none => ({ ofs := 0, bytes := [], tag := none } : HostWrite))
                   { s with scan := { s.scan with hostQ := s.scan.hostQ ++ ws } } } req s)

/-- Queued host writes are applied in P0, at most 256 (R120). -/
def State.applyHostQ (s : State) : State :=
  (s.scan.hostQ.take 256).foldl (fun s w =>
      let s := s.putData w.ofs w.bytes
      match w.tag with
      | some t => (s.opStart t).opOk t []
      | none => s) { s with scan := { s.scan with hostQ := s.scan.hostQ.drop 256 } }

/-! ### Staging and exchange (R143 to R148, R179, R180) -/

/-- The staging session replaced by a function of it. -/
def State.modStage (s : State) (f : Staging → Staging) : State := { s with scan := { s.scan with stage := f s.scan.stage } }

/-- EXCH_STATUS set. -/
def State.setExch (s : State) (st cause : Nat) : State := (s.setRg Reg.EXCH_STATUS (BitVec.ofNat 32 (st + 256 * cause))).scanRefresh

/-- The request comes from the session that opened the staging session. -/
def State.ownsStage (s : State) (req : OctahReq) : Bool :=
  match s.scan.stage.owner with
  | none => false
  | some id => id == req.sid && (id != 0 || s.scan.stage.path == req.src.link.num)

/-- NOT_OWNER to any but the session owner. -/
def stageOwner (s : State) (req : OctahReq) : Option Refuse := if s.ownsStage req then none else some (.code Code.notOwner)

/-- `STAGE_OPEN` (R143). -/
def execStageOpen (req : OctahReq) (s : State) : Host.Outcome State Fault Refusal :=
  .next (octah { opcode := 0x020D, owner := true, len := fun n => n == 40
                 args := fun _ p => firstBad [(0, natAt p 0 4 ≤ 5767168), (4, zeroAt p 4 4)]
                 legal := fun s _ => if s.scan.stage.owner.isSome then some (.code Code.busy)
                                     else if s.exchState = 0 ∨ s.exchState = 4 ∨ s.exchState = 5 then none else some scanState
                 run := fun s req =>
                   let s := s.opStart req.tag
                   let s := s.modStage (fun g => { Staging.idle with owner := some req.sid, path := req.src.link.num, len := natAt req.pl 0 4,
                                                                     digest := bytesAt req.pl 8 32, orphans := g.orphans })
                   (s.setExch 1 0).opOk req.tag [] } req s)

/-- The package's length in 256-byte units. -/
def Staging.unitCount (g : Staging) : Nat := (g.len + 255) / 256

/-- `STAGE_WRITE` (R143); while an exchange is ARMED it is refused, and a change after the check makes the package
unchecked again (notes/assumptions/7.md). -/
def execStageWrite (req : OctahReq) (s : State) : Host.Outcome State Fault Refusal :=
  .next (octah { opcode := 0x020E, owner := false, len := fun n => decide (8 < n) && decide (n ≤ 3848)
                 args := fun s p => firstBad [(0, natAt p 0 4 % 256 == 0 && natAt p 0 4 + (p.length - 8) ≤ s.scan.stage.len), (4, zeroAt p 4 4)]
                 legal := fun s req => if s.exchState = 3 then some scanState else stageOwner s req
                 run := fun s req =>
                   let o := natAt req.pl 0 4
                   let bs := req.pl.drop 8
                   let s := s.opStart req.tag
                   let us := (List.range ((bs.length + 255) / 256)).map (fun k => o / 256 + k)
                   let us := us.filter (fun u => decide (256 * (u + 1) ≤ o + bs.length) || decide (s.scan.stage.len ≤ o + bs.length))
                   let s := s.modStage (fun g => { g with data := g.data.putN o bs, units := (us.filter (fun u => !g.units.contains u)) ++ g.units,
                                                          partnerReady := false })
                   let s := if s.role = Role.pairMember ∧ s.owns then us.foldl (fun s u => s.send (.mirror 0x08 8 u (s.scan.stage.data.getN (256 * u) 256))) s else s
                   (if s.exchState = 1 then s else s.setExch 1 0).opOk req.tag [] } req s)

/-- Bytes of the staged package. -/
def Staging.bytes (g : Staging) : List Byte := g.data.getN 0 g.len

/-- The images of a package (R179). -/
def pkgImages (bs : List Byte) : List Image := directoryImages bs (natAt bs 0x30 4) 0
/-- SET_MASK -/ def pkgMask (bs : List Byte) : Nat := natAt bs 8 4

/-- A migration entry (R180): ID, ACTION, OLD_OFS, NEW_OFS, LEN. -/
structure Migr where
  id : Nat
  action : Nat
  old : Nat
  new : Nat
  len : Nat
deriving DecidableEq, Repr

/-- The migration list of a package. -/
def pkgMigr (bs : List Byte) : List Migr :=
  (List.range (natAt bs 0x38 4)).map (fun k =>
    let o := natAt bs 0x34 4 + 24 * k
    { id := natAt bs o 4, action := natAt bs (o + 4) 1, old := natAt bs (o + 8) 4, new := natAt bs (o + 12) 4, len := natAt bs (o + 16) 4 })

/-- The variables of the programs of a mask, with their places. -/
def setSyms (images : List Image) (mask : Nat) : List (Nat × Sym) :=
  (maskSlots mask).flatMap (fun p => let m := images.getD p []
                                     if m = [] then [] else (Image.syms m).map (fun y => (secBase images p y.area + y.ofs, y)))
/-- The instances of the programs of a mask, with their slots and places. -/
def setInsts (images : List Image) (mask : Nat) : List (Nat × Nat × Inst) :=
  (maskSlots mask).flatMap (fun p => let m := images.getD p []
                                     if m = [] then [] else (Image.insts m).map (fun y => (p, secBase images p (if y.rs then 7 else 6) + 32 * y.num, y)))

/-- The checks of the migration list against the old and the new tables (R180). -/
def migrOk (old new : List Image) (mask : Nat) (ms : List Migr) : Bool :=
  let oy := setSyms old mask
  let ny := setSyms new mask
  let oi := setInsts old mask
  let ni := setInsts new mask
  ms.all (fun e =>
    if e.action = 0 then oy.any (fun x => x.2.id == e.id && ny.any (fun y => y.2.id == e.id && x.2.sameType y.2))
    else if e.action = 2 then oi.any (fun x => x.2.2.id == e.id && ni.any (fun y => y.2.2.id == e.id && x.2.2.kind == y.2.2.kind)) && e.len == 32
    else if e.action = 1 then ny.any (fun y => y.2.id == e.id)
    else e.action == 3 && ni.any (fun y => y.2.2.id == e.id) && e.len == 32) &&
  ny.all (fun y => match oy.find? (fun x => x.2.id == y.2.id && x.2.sameType y.2) with
    | some x => x.1 == y.1 || ms.any (fun e => e.id == y.2.id && e.action == 0)
    | none => y.2.area == 4 || ms.any (fun e => e.id == y.2.id && e.action == 1)) &&
  ni.all (fun y => match oi.find? (fun x => x.2.2.id == y.2.2.id && x.2.2.kind == y.2.2.kind) with
    | some x => x.2.1 == y.2.1 || ms.any (fun e => e.id == y.2.2.id && e.action == 2)
    | none => ms.any (fun e => e.id == y.2.2.id && e.action == 3))

/-- STAGE_CHECK's judgement of a whole package: none where it passes (R143, R176, R179, R180). -/
def State.pkgRefuse (s : State) : Option Refuse :=
  let g := s.scan.stage
  let bs := g.bytes
  let new := pkgImages bs
  if shake bs 32 ≠ g.digest then some (.arg 0)
  else if natAt bs 0 4 ≠ 0x4B504553 ∨ natAt bs 4 2 ≠ 1 then some (.arg 0)
  else if bytesAt bs 0x10 32 ≠ setDigest s.images then some (.code Code.version)
  else if setOk new = false then some (.arg 0)
  else if (List.range 32).all (fun p => bit (pkgMask bs) p || new.getD p [] == s.image p) = false then some (.arg 0)
  else if natAt bs 0x38 4 > 65536 ∨ natAt bs 0x3C 4 > 262144 ∨ ((pkgMigr bs).map (·.len)).sum ≠ natAt bs 0x3C 4 then some (.arg 0)
  else if migrOk s.images new (pkgMask bs) (pkgMigr bs) = false then some (.arg 0)
  else none

/-- In a pair, the partner's staged digest equals, or there is no partner to ask (R143). -/
def State.stageAgreed (s : State) : Bool :=
  s.role != Role.pairMember || s.blkState Head.pair == 1 || s.scan.stage.partnerReady

/-- STAGE_CHECK's response (R149). -/
def State.stageBitmap (s : State) : List Byte :=
  let g := s.scan.stage
  leBytes 4 (s.rg Reg.EXCH_STATUS).toNat ++ leBytes 4 g.unitCount ++
    (List.range 2816).map (fun k => BitVec.ofNat 8 (((List.range 8).map (fun b => if g.units.contains (8 * k + b) then 2 ^ b else 0)).sum))

/-- `STAGE_CHECK` (R143, R179). -/
def execStageCheck (req : OctahReq) (s : State) : Host.Outcome State Fault Refusal :=
  .next (octah { opcode := 0x020F, owner := false, len := fun n => n == 0, args := noArgs
                 legal := fun s req =>
                   match stageOwner s req with
                   | some r => some r
                   | none => if (List.range s.scan.stage.unitCount).all s.scan.stage.units.contains ∧ s.exchState ≠ 3 then s.pkgRefuse else none
                 run := fun s req =>
                   let whole := (List.range s.scan.stage.unitCount).all s.scan.stage.units.contains
                   let s := if whole ∧ s.stageAgreed ∧ s.exchState ≠ 3 then ((s.opStart req.tag).setExch 2 0).evt Head.scan 6 else s
                   s.opOk req.tag s.stageBitmap } req s)

/-- A beat is a scheduled start of an image. -/
def schedAt (m : Image) (b : Nat) : Bool := (b + Image.k m - Image.phase m) % Image.k m == 0

/-- `EXCHANGE` (R144). -/
def execExchange (req : OctahReq) (s : State) : Host.Outcome State Fault Refusal :=
  .next (octah { opcode := 0x0210, owner := false, len := fun n => n == 16
                 args := fun s p =>
                   let b := natAt p 0 8
                   let bs := s.scan.stage.bytes
                   let new := pkgImages bs
                   firstBad [(0, s.exchState != 2 || (decide (s.beat + 8 ≤ b) && (maskSlots (natAt p 8 4)).all (fun q =>
                       ((s.slot q).mode == .empty || (s.slot q).mode == .stop || schedAt (s.image q) b) &&
                       (new.getD q [] == [] || schedAt (new.getD q []) b)))),
                     (8, s.exchState != 2 || natAt p 8 4 == pkgMask bs),
                     (12, s.exchState != 2 || (maskSlots (natAt p 12 4)).all (fun q => bit (natAt p 8 4) q && s.image q == [] && new.getD q [] != []))]
                 legal := fun s req =>
                   match stageOwner s req with
                   | some r => some r
                   | none => if s.exchState = 2 ∧ (maskSlots (natAt req.pl 8 4)).all (fun q => (s.slot q).mode != .hold) then none else some scanState
                 run := fun s req =>
                   let b := natAt req.pl 0 8
                   let s := s.opStart req.tag
                   let s := s.modStage (fun g => { g with armed := some (b, natAt req.pl 8 4, natAt req.pl 12 4, req.tag), migrated := false, partnerBeat := none })
                   ((s.setRg64 Reg.EXCH_BEAT_LO b).setExch 3 0) } req s)

/-- `STAGE_DISCARD` (R144): an armed exchange is cancelled until the end of beat b − 2; the package is discarded and the
session closed. -/
def execStageDiscard (req : OctahReq) (s : State) : Host.Outcome State Fault Refusal :=
  .next (octah { opcode := 0x0211, owner := false, len := fun n => n == 0, args := noArgs
                 legal := fun s req =>
                   match stageOwner s req with
                   | some r => some r
                   | none => match s.scan.stage.armed with
                     | some (b, _, _, _) => if s.beat + 2 ≤ b then none else some scanState
                     | none => none
                 run := fun s req =>
                   let s := s.opStart req.tag
                   let s := if s.exchState = 3 then s.exchFail 5 else s.setExch 0 0
                   (s.modStage (fun g => { Staging.idle with orphans := g.orphans })).opOk req.tag [] } req s)

/-- `EXCHANGE_STATUS`. -/
def execExchangeStatus (req : OctahReq) (s : State) : Host.Outcome State Fault Refusal :=
  .next (octah { opcode := 0x0212, owner := false, len := fun n => n == 4
                 args := fun _ p => firstBad [(2, zeroAt p 2 2)], legal := always
                 run := fun s req =>
                   let os := s.scan.stage.orphans
                   s.opOk req.tag (leBytes 4 (s.rg Reg.EXCH_STATUS).toNat ++ leBytes 8 (s.rg64 Reg.EXCH_BEAT_LO) ++ leBytes 2 os.length ++ leBytes 2 0 ++
                     ((os.drop (natAt req.pl 0 2)).take 1000).flatMap (leBytes 4)) } req s)

/-- A timer record rescaled from one period to another (R147, R167). -/
def rescale (rec : List Byte) (kOld kNew : Nat) : List Byte :=
  if isTimer (natAt rec 4 1) ∧ kOld ≠ kNew then
    let c := (sext 32 (natAt rec 8 4)).toNat * kOld / kNew
    setBytes (setBytes (setBytes rec 8 (leBytes 4 c)) 12 (leBytes 4 (presetCycles kNew (sext 32 (natAt rec 24 4))))) 16 (leBytes 8 (c * kNew * 250))
  else rec

/-- The migration (R146, R147, R180): every entry reads the old program data. Sections of programs outside the set keep
their content at their new bases (notes/assumptions/4.md). -/
def migrate (old new : List Image) (mask : Nat) (ms : List Migr) (d : Mem) : Mem :=
  let kept := (List.range 32).filter (fun p => !bit mask p && old.getD p [] != [])
  let moved := kept.flatMap (fun p => [0, 1, 3, 5, 6, 7].filterMap (fun a =>
    if secBase old p a = secBase new p a then none else some (secBase new p a, d.getN (secBase old p a) (Image.secLen (old.getD p []) a))))
  let d1 := moved.foldl (fun x w => x.putN w.1 w.2) d
  ms.foldl (fun x e =>
    if e.action = 0 then x.putN e.new (d.getN e.old e.len)
    else if e.action = 1 then
      (match (maskSlots mask).findSome? (fun p => ((Image.syms (new.getD p [])).find? (fun y => y.id == e.id)).map (fun y => (p, y))) with
       | some (p, y) => x.putN e.new ((Image.initBytes (new.getD p []) y).take e.len)
       | none => x)
    else if e.action = 2 then
      (match (setInsts old mask).find? (fun y => y.2.2.id == e.id), (setInsts new mask).find? (fun y => y.2.2.id == e.id) with
       | some o, some n => x.putN e.new (rescale (d.getN e.old 32) (Image.k (old.getD o.1 [])) (Image.k (new.getD n.1 [])))
       | _, _ => x)
    else
      (match (setInsts new mask).find? (fun y => y.2.2.id == e.id) with
       | some n => x.putN e.new (n.2.2.record (Image.k (new.getD n.1 [])))
       | none => x)) d1

/-- The force entries whose symbol the new set lacks, or holds with another type or outside I and Q (R148). -/
def State.orphanForces (s : State) (old new : List Image) : List (Nat × Nat) :=
  let find (is : List Image) (id : Nat) := (is.flatMap (fun m => if m = [] then [] else Image.syms m)).find? (fun y => y.id == id)
  (s.forces.filter (fun e =>
    match find old e.2.1, find new e.2.1 with
    | some o, some n => !(o.sameType n && decide (n.area ≤ 1))
    | _, _ => true)).map (fun e => (e.1, e.2.1))

/-- EXCHANGE_MIGRATE: in P3 of beat b − 1 of an armed exchange the new images and the migrated data take their places. In a
pair the partner must have confirmed the same beat, else the exchange fails with PARTNER (R145). -/
def State.exchangeMigrate (s : State) : State :=
  match s.scan.stage.armed with
  | none => s
  | some (b, mask, _, _) =>
    if s.exchState ≠ 3 ∨ s.beat + 1 ≠ b ∨ s.scan.stage.migrated = true then s else
    if s.role = Role.pairMember ∧ (s.blkState Head.pair = 4 ∨ s.blkState Head.pair = 3) ∧ s.scan.stage.partnerBeat ≠ some b then s.exchFail 6 else
    let bs := s.scan.stage.bytes
    let old := s.images
    let new := pkgImages bs
    let orphans := s.orphanForces old new
    let s := orphans.foldl (fun s x => s.freeForce x.1) s
    let data := migrate old new mask (pkgMigr bs) s.scan.data
    let slots := s.scan.slots.mapIdx (fun p x =>
      if bit mask p then { x with image := new.getD p [], cycle := none, breaks := List.replicate 8 none,
                                  lastQ := data.getN (Machine.secBase new p 1) (Image.secLen (new.getD p []) 1), resumeAt := 0 }
      else x)
    let s := { s with scan := { s.scan with data := data, slots := slots } }
    let s := (pkgMigr bs).foldl (fun s e => s.foldMem 0 data e.new e.len) s
    (s.modStage (fun g => { g with migrated := true, orphans := orphans.map (·.2) })).forceCount

/-- `EXCHANGE_MIGRATE` (R146). -/
def execExchangeMigrate (s : State) : Host.Outcome State Fault Refusal := .next s.exchangeMigrate

/-- The exchange is made at boundary b (R145, R148): removed programs are EMPTY, added ones in RUN or STOP. -/
def State.exchangeBoundary (s : State) : State :=
  match s.scan.stage.armed with
  | none => s
  | some (b, mask, run, tag) =>
    if s.scan.stage.migrated = false ∨ s.beat ≠ b then s else
    let s := (maskSlots mask).foldl (fun s p =>
      let x := s.slot p
      if x.image = [] then (s.modSlot p (fun x => { x with cause := 0, req := none, abortAt := none, suspended := false, safeDue := false })).setMode p .empty
      else if x.mode = .empty then (s.modSlot p (fun x => { x with cause := 0 })).setMode p (if bit run p then .run else .stop)
      else s) s
    let s := s.setRg Reg.CODE_ACTIVE (BitVec.ofNat 32 (codeBytes s.images))
    let os := s.scan.stage.orphans
    let s := if os = [] then s.setRg Reg.FORCE_ORPHAN_ID 0 else (s.setRg Reg.FORCE_ORPHAN_ID (BitVec.ofNat 32 (os.headD 0))).evt Head.scan 5
    let s := s.modStage (fun g => { Staging.idle with orphans := g.orphans })
    (((s.setExch 4 0).evt Head.scan 7).opOk tag [])

end Sys2Proof.Machine
end

