-- ==== Sys2Proof/Machine/Time.lean ====
section
/-!
DEFINITION. Network time: the time bases and their servos (R78 to R83), device time and its selected base (R84 to R88),
PTP, PPS and the 10 MHz input (R89 to R106), and the TIME opcodes (R109).
-/
namespace Sys2Proof.Machine

/-- The size of a rational number. -/
def absR (x : Rat) : Rat := if x < 0 then -x else x

/-! ### Base states -/

/-- TB_STATUS.STATE (R79): 0 DISABLED, 1 ACQUIRING, 2 LOCKED, 3 HOLDOVER, 4 FREERUN, 5 FAULT. -/
def State.baseState (s : State) (n : Nat) : Nat := s.fld (Reg.TB_STATUS n) 2 0
/-- TB_CFG.SOURCE (R78): 0 OFF, 1 PTP, 2 PPS_IN, 3 PARTNER, 4 FREE_RUN. -/
def State.baseSource (s : State) (n : Nat) : Nat := s.fld (Reg.TB_CFG n) 2 0
/-- The base beside its registers. -/
def State.tbase (s : State) (n : Nat) : TimeBase := s.time.bases.getD n TimeBase.reset
/-- The base replaced by a function of it. -/
def State.modBase (s : State) (n : Nat) (f : TimeBase → TimeBase) : State :=
  { s with time := { s.time with bases := modifyNth f n s.time.bases } }
/-- The selected base, if one has been selected (DT_STATUS). -/
def State.selBase (s : State) : Option Nat := if s.fld Reg.DT_STATUS 2 2 = 1 then none else some (s.fld Reg.DT_STATUS 1 0)
/-- A base in this state is a time (R87). -/
def isTime (st : Nat) : Bool := st == 1 || st == 2 || st == 3 || st == 4

/-- BLK_STATUS.STATE of TIME (R546) and DT_STATUS.HOLDOVER brought up to date. -/
def State.timeRefresh (s : State) : State :=
  let sel := s.selBase
  let selSt := match sel with
    | some n => s.baseState n
    | none => 0
  let s := s.setFld Reg.DT_STATUS 6 6 (b2n (selSt != 2))
  let st :=
    if (List.range 4).any (fun n => s.baseState n == 5) then 5
    else if s.fld Reg.DT_STATUS 5 5 = 0 then 0
    else if s.role = Role.extender then (if s.casc.timeLost then 3 else 1)
    else if sel = none then 4
    else if selSt = 2 then (if s.fld Reg.DT_STATUS 4 4 = 1 then 2 else 1)
    else if selSt = 3 then 3
    else 4
  (s.setBlkState Head.time st).setReady Head.time (st != 0 && st != 5)

/-- I of a base as the rate held in HOLDOVER, in units of 2^−44 (R81); I is kept in ns/s. -/
def rateUnits (nsPerS : Rat) : Int := Config.roundRate (nsPerS * (2 ^ 44 : Nat) / 1000000000)

/-- A base enters a state (R79, R80): its event, its held rate, and whether it is steered to TCLK_IN. -/
def State.enterBase (s : State) (n st : Nat) : State :=
  let old := s.baseState n
  let s := s.setFld (Reg.TB_STATUS n) 2 0 st
  let s := s.modBase n (fun b => { b with run := 0, lockedSince := if st = 2 then (if old = 2 then b.lockedSince else some s.beat) else none })
  let s := if st = 2 ∧ old ≠ 2 then s.evt Head.time 4 else s
  let s := if st = 3 ∧ old ≠ 3 then s.evt Head.time 3 else s
  let s := if st = 5 ∧ old ≠ 5 then s.evt Head.time 10 else s
  let s := if st = 3 then
      (if s.fld Reg.TCLK_CFG 1 1 = 1 ∧ s.fld Reg.CLK_STATUS 3 3 = 1 then
         (s.setFld (Reg.TB_STATUS n) 4 4 1).setRg (Reg.TB_FREQ n) (BitVec.ofNat 32 (unsx 32 (satS 32 (sext 32 (s.rg Reg.TCLK_IN_FREQ).toNat))))
       else (s.setFld (Reg.TB_STATUS n) 4 4 0).setRg (Reg.TB_FREQ n) (BitVec.ofNat 32 (unsx 32 (satS 32 (rateUnits (s.tbase n).integ)))))
    else s.setFld (Reg.TB_STATUS n) 4 4 0
  s.timeRefresh

/-- A base begins anew with the source its TB_CFG names (R78, R79, R112). -/
def State.startBase (s : State) (n : Nat) : State :=
  let s := s.modBase n (fun _ => { TimeBase.reset with ns := (s.time.ns : Rat) })
  let s := s.setRg (Reg.TB_FREQ n) 0
  let s := s.setRg (Reg.TB_STATUS n) 0
  match s.baseSource n with
  | 0 => s.enterBase n 0
  | 4 => s.enterBase n 4
  | _ => s.enterBase n 1

/-! ### Samples (R81, R82) -/

/-- JUMP_LIMIT in ns. -/
def State.jumpLimit (s : State) : Rat := ((s.rg Reg.JUMP_LIMIT).toNat : Rat)

/-- A value held within ±lim. -/
def clampR (x lim : Rat) : Rat := if lim < x then lim else if x < -lim then -lim else x

/-- The servo's step on a sample (R81): I and F from y in ns and the interval in s; ±100 ppm is ±100,000 ns/s. -/
def State.servo (s : State) (n : Nat) (y dt : Rat) : State :=
  let i := clampR ((s.tbase n).integ + w2r (s.rg (Reg.TB_KI n)) * y * dt) 100000
  let f := w2r (s.rg (Reg.TB_KP n)) * y + i
  (s.modBase n (fun b => { b with integ := i })).setRg (Reg.TB_FREQ n) (BitVec.ofNat 32 (unsx 32 (satS 32 (rateUnits f))))

/-- An offset sample of a base: y is the source minus the base, in ns, at a base time (R79 to R82). -/
def State.sample (s : State) (n : Nat) (y at_ : Rat) : State :=
  let st := s.baseState n
  if st ≠ 1 ∧ st ≠ 2 ∧ st ≠ 3 then s else
  let b := s.tbase n
  let dt : Rat := match b.lastSample with
    | some t => (at_ - t) / 1000000000
    | none => 0
  let s := (s.setRg (Reg.TB_OFFSET n) (BitVec.ofNat 32 (unsx 32 (satS 32 (Config.roundNs y))))).incWrap (Reg.TB_SAMPLES n)
  if st = 1 ∧ b.stepped = false then
    s.modBase n (fun b => { b with ns := b.ns + y, stepped := true, lastSample := some (at_ + y), run := 0 })
  else
  let s := s.modBase n (fun b => { b with lastSample := some at_ })
  if st = 1 then
    let run := if absR y ≤ 100 then b.run + 1 else 0
    let s := (s.servo n y dt).modBase n (fun b => { b with run := run })
    if 16 ≤ run then s.enterBase n 2 else s
  else if st = 2 then
    if s.jumpLimit < absR y then
      (((s.incSat (Reg.TB_JUMPS n)).setFld (Reg.TB_STATUS n) 3 3 1).enterBase n 3).evt Head.time 2
    else s.servo n y dt
  else
    let run := if absR y ≤ s.jumpLimit then b.run + 1 else 0
    let s := s.modBase n (fun b => { b with run := run })
    if 16 ≤ run then (s.setFld (Reg.TB_STATUS n) 3 3 0).enterBase n 2 else s

/-- The time of a base at a device time near the present one. -/
def State.baseTimeAt (s : State) (n : Nat) (dev : Rat) : Rat :=
  (s.tbase n).ns + (dev - (s.time.ns : Rat)) * (1 + s.baseRate n) / (1 + s.time.rate)

/-- A stamp in units of 0.25 ns of the running beat, as device time in ns (R77). -/
def State.stampR (s : State) (q : Nat) : Rat := ((s.time.ns - s.beatOfs : Nat) : Rat) + (q : Rat) / 4

/-- A LOCKED base loses its source (R80). -/
def State.loseSource (s : State) (n : Nat) : State := if s.baseState n = 2 then s.enterBase n 3 else s

/-! ### Device time at a boundary (R84 to R87, R96, R98) -/

/-- The unit is a pair member whose partner is present (R96): its PAIR_STATUS says so. -/
def State.partnerPresent (s : State) : Bool := s.role == Role.pairMember && s.fld Reg.PAIR_STATUS 2 2 == 1

/-- This unit holds the timing role, or is not in a pair. -/
def State.timingRole (s : State) : Bool := s.fld Reg.DT_STATUS 7 7 == 1

/-- The bases in SEL_CTRL.ORDER, first choice first. -/
def State.baseOrder (s : State) : List Nat := [s.fld Reg.SEL_CTRL 1 0, s.fld Reg.SEL_CTRL 3 2, s.fld Reg.SEL_CTRL 5 4, s.fld Reg.SEL_CTRL 7 6]

/-- The base R86 and R96 select at this boundary. -/
def State.chooseBase (s : State) : Option Nat :=
  let partnerBase := (List.range 4).find? (fun n => s.baseSource n == 3)
  if s.role = Role.pairMember ∧ s.partnerPresent ∧ s.timingRole = false ∧ partnerBase.isSome then partnerBase
  else if s.fld Reg.SEL_CTRL 8 8 = 0 then some (s.fld Reg.SEL_CTRL 10 9)
  else
    let order := s.baseOrder.filter (fun n => s.role != Role.pairMember || s.baseSource n != 3)
    let locked := order.filter (fun n => s.baseState n == 2)
    match s.selBase with
    | none =>
      match locked.head? with
      | some n => some n
      | none => order.find? (fun n => s.baseState n != 0 && s.baseState n != 5)
    | some cur =>
      if s.baseState cur = 2 then
        let held := (s.rg Reg.REVERT_HOLD).toNat * 4000
        let earlier := order.takeWhile (fun n => n != cur)
        let back := earlier.find? (fun n => s.baseState n == 2 &&
          (match (s.tbase n).lockedSince with
           | some b => decide (b + held ≤ s.beat)
           | none => false))
        if s.fld Reg.SEL_CTRL 11 11 = 1 ∧ order.contains cur then (match back with | some n => some n | none => some cur) else some cur
      else match locked.head? with
        | some n => some n
        | none => some cur

/-- A change of the selected base takes effect (R87). -/
def State.applySelection (s : State) : State :=
  match s.chooseBase with
  | none => s
  | some n =>
    if s.selBase = some n then s
    else
      let s := (s.setFld Reg.DT_STATUS 1 0 n).setFld Reg.DT_STATUS 2 2 0
      let s := { s with time := { s.time with selChanged := true } }
      (s.evt Head.time 1).timeRefresh

/-- d against the selected base, if it is measured (R84, R87); in an extender, what CASC_TIMING gave (R412). -/
def State.measureD (s : State) : Option Rat :=
  if s.role = Role.extender then s.casc.measured else
  match s.selBase with
  | some n => if isTime (s.baseState n) then some ((s.tbase n).ns - ((s.time.ns : Rat) + (s.time.frac : Rat) / 65536)) else none
  | none => none

/-- Device time set to a time in ns: its nanoseconds and its fraction of 2^−16 ns (R74). -/
def State.setDevice (s : State) (t : Rat) : State :=
  let u := (t * 65536).floor.toNat
  { s with time := { s.time with ns := u / 65536, frac := u % 65536 } }

/-- Device time steered or stepped at a boundary (R84, R85, R87). `stoppedBefore` is whether FRAME was STOPPED in the beat
that ends. -/
def State.steer (s : State) (stoppedBefore : Bool) : State :=
  match s.measureD with
  | none =>
    let s := s.setFld Reg.DT_STATUS 4 4 0
    { s with time := { s.time with rate := if s.role = Role.extender then s.time.rate else s.time.followed, measuring := false } }.timeRefresh
  | some d =>
    let n := s.selBase.getD 0
    let s := s.setRg Reg.DT_OFFSET (BitVec.ofNat 32 (unsx 32 (satS 32 (Config.roundNs d))))
    if stoppedBefore ∧ 1000 < absR d then
      let locked := s.role ≠ Role.extender ∧ s.baseState n = 2
      let s := s.setDevice (if s.role = Role.extender then (s.time.ns : Rat) + (s.time.frac : Rat) / 65536 + d else (s.tbase n).ns)
      let s := if locked then s.setFld Reg.DT_STATUS 5 5 1 else s
      { s with time := { s.time with rate := s.baseRate n, followed := s.baseRate n, measuring := true, selChanged := false } }.timeRefresh
    else
      let corr := clampR (w2r (s.rg Reg.DT_GAIN) * d) ((s.rg Reg.SLEW_MAX).toNat : Rat)
      let first := s.time.selChanged || !s.time.measuring
      let slewing := s.fld Reg.DT_STATUS 4 4 = 1
      let s := { s with time := { s.time with rate := s.baseRate n + corr / 1000000000, followed := s.baseRate n, measuring := true, selChanged := false } }
      let s :=
        if 10 < absR d then (if first then s.setFld Reg.DT_STATUS 4 4 1 else s)
        else if slewing then (s.setFld Reg.DT_STATUS 4 4 0).evt Head.time 5
        else s
      s.timeRefresh

/-- The timing role moves at a boundary both units agreed (R98). -/
def State.applyRole (s : State) : State :=
  match s.time.roleAt with
  | some (b, mine) =>
    if b ≤ s.beat then
      let had := s.timingRole
      let s := { s with time := { s.time with roleAt := none } }
      if had = mine then s else ((s.setFld Reg.DT_STATUS 7 7 (b2n mine)).evt Head.time 6).timeRefresh
    else s
  | none => s

/-- What R98 asks of the timing role in this unit: whether it should hold it. -/
def State.wantsRole (s : State) : Bool :=
  if s.role != Role.pairMember then true
  else
    let ownLocked := (List.range 4).any (fun n => s.baseSource n != 3 && s.baseState n == 2)
    if s.pairId = 0 then
      s.timingRole ||
        (List.range 4).any (fun n => s.baseSource n != 3 && s.baseState n == 2 &&
          decide (absR ((s.tbase n).ns - (s.time.ns : Rat)) ≤ 5))
    else s.timingRole || !s.partnerPresent || (ownLocked && !s.time.partnerLocked)

/-! ### PTP (R89 to R93) -/

/-- A port of an instance. -/
def State.ptpPort (s : State) (base port : Nat) : PtpPort := s.time.ports.getD (2 * base + port) PtpPort.reset
/-- The port replaced by a function of it. -/
def State.modPort (s : State) (base port : Nat) (f : PtpPort → PtpPort) : State :=
  { s with time := { s.time with ports := modifyNth f (2 * base + port) s.time.ports } }
/-- PTP runs on this port for this base: the base has source PTP, the port is enabled and PTP_MODE is not OFF. -/
def State.ptpOn (s : State) (base port : Nat) : Bool :=
  base < 4 && port < 2 && s.baseSource base == 1 && s.fld (Reg.PORT_CFG port) 0 0 == 1 && s.fld Reg.PTP_CLK 1 0 != 0
/-- delayAsymmetry of a port in ns. -/
def State.portAsym (s : State) (port : Nat) : Rat := ((sext 32 (s.rg (Reg.PORT_ASYM port)).toNat : Int) : Rat)
/-- The receive stamp of an event message: the arrival less PORT_INGRESS_LAT, as base time (R93). -/
def State.ptpIngress (s : State) (m : PtpMsg) : Rat :=
  s.baseTimeAt m.base (s.stampR m.rxQ - (s.fld (Reg.PORT_INGRESS_LAT m.port) 15 0 : Rat))
/-- The transmit stamp of a message sent now: device time plus PORT_EGRESS_LAT (R93). -/
def State.ptpEgress (s : State) (port : Nat) : Rat := (s.time.ns : Rat) + (s.fld (Reg.PORT_EGRESS_LAT port) 15 0 : Rat)
/-- The instance's base uses peer delay. -/
def State.ptpP2P (s : State) (base : Nat) : Bool := s.fld (Reg.TB_CFG base) 19 18 == 1
/-- A message of an instance is sent, stamped, unless the unit is fail-silent. -/
def State.ptpSend (s : State) (base port : Nat) (kind : String) (event : Bool) (seq : Nat) (ns corr : Rat) : State :=
  let s := s.send (.ptp port base kind seq ns corr)
  if event ∧ s.silent = false then s.incWrap (Reg.PORT_TX_TS port) else s
/-- A received event message is stamped. -/
def State.ptpStamp (s : State) (port : Nat) : State := s.incWrap (Reg.PORT_RX_TS port)

/-- An offset sample of the instance's base from a completed Sync on its SLAVE port: t1 with its corrections, plus the
path delay, minus t2 (R81, IEEE 1588-2019 offsetFromMaster). -/
def State.ptpOffset (s : State) (base port : Nat) (t1 t2 corr : Rat) : State :=
  let p := s.ptpPort base port
  let s := s.modPort base port (fun p => { p with lastSync := some (t1 + corr + s.portAsym port, t2) })
  if p.state = 9 then s.sample base (t1 + corr + s.portAsym port + p.path - t2) t2 else s

/-- The port states after the best master clock algorithm (R89, R91, R92), from what the two ports last heard. -/
def State.ptpDecide (s : State) (base : Nat) : State :=
  let enc := fun (a : Option PtpAnnounce) => match a with
    | none => [0]
    | some a => 1 :: (a.gmId ++ leBytes 1 a.priority1 ++ leBytes 4 (a.quality.1 + 256 * a.quality.2.1 + 65536 * a.quality.2.2) ++ leBytes 1 a.priority2 ++
        leBytes 2 a.stepsRemoved ++ a.source.1 ++ leBytes 2 a.source.2)
  let heard := leBytes 4 (s.rg Reg.PTP_CLK).toNat ++ leBytes 4 (s.rg (Reg.TB_CFG base)).toNat ++
    enc (s.ptpPort base 0).announce ++ enc (s.ptpPort base 1).announce
  let mayMaster := s.fld Reg.PTP_CLK 2 2 == 0 && s.fld (Reg.TB_CFG base) 12 12 == 1 && s.selBase == some base &&
    (s.role != Role.pairMember || s.timingRole)
  let next := fun (port : Nat) =>
    let st := Config.bmcaPortState base heard port
    if st = 6 ∧ mayMaster = false then (s.ptpPort base port).state else st
  let s0 := if s.ptpOn base 0 then s.modPort base 0 (fun p => { p with state := next 0 }) else s
  let s1 := if s.ptpOn base 1 then s0.modPort base 1 (fun p => { p with state := next 1 }) else s0
  let first := (List.range 4).find? (fun n => s1.baseSource n == 1)
  if first = some base then
    (s1.setFld (Reg.PORT_STATE 0) 3 0 (s1.ptpPort base 0).state).setFld (Reg.PORT_STATE 1) 3 0 (s1.ptpPort base 1).state
  else s1

/-- UTC_OFFSET set (R89, R109); a change is an event. -/
def State.setUtc (s : State) (ofs : Int) (valid leap61 leap59 : Bool) : State :=
  let w := BitVec.ofNat 32 (unsx 16 ofs + 65536 * b2n valid + 2 ^ 17 * b2n leap61 + 2 ^ 18 * b2n leap59)
  if s.rg Reg.UTC_OFFSET = w then s else (s.setRg Reg.UTC_OFFSET w).evt Head.time 8

/-- `PTP_SYNC` (R89): a Sync is stamped; one-step it gives a sample, two-step it waits for its Follow_Up. -/
def execPtpSync (m : PtpMsg) (s : State) : Host.Outcome State Fault Refusal :=
  if s.ptpOn m.base m.port = false then .next s else
  let s := s.ptpStamp m.port
  let t2 := s.ptpIngress m
  if m.twoStep then .next (s.modPort m.base m.port (fun p => { p with sync := some (m.seq, m.source, t2, m.corr) }))
  else .next (s.ptpOffset m.base m.port (m.stampNs : Rat) t2 m.corr)

/-- `PTP_FOLLOW_UP` (R89): the waiting Sync of the same sequenceId and source is completed. -/
def execPtpFollowUp (m : PtpMsg) (s : State) : Host.Outcome State Fault Refusal :=
  if s.ptpOn m.base m.port = false then .next s else
  match (s.ptpPort m.base m.port).sync with
  | some (seq, src, t2, c) =>
    if seq = m.seq ∧ src = m.source then
      .next ((s.modPort m.base m.port (fun p => { p with sync := none })).ptpOffset m.base m.port (m.stampNs : Rat) t2 (c + m.corr))
    else .next s
  | none => .next s

/-- `PTP_DELAY_REQ` (R89): an instance in MASTER answers with the receive stamp. -/
def execPtpDelayReq (m : PtpMsg) (s : State) : Host.Outcome State Fault Refusal :=
  if s.ptpOn m.base m.port = false then .next s else
  let s := s.ptpStamp m.port
  if (s.ptpPort m.base m.port).state = 6 ∧ s.ptpP2P m.base = false then
    .next (s.ptpSend m.base m.port "Delay_Resp" false m.seq (s.stampR m.rxQ - (s.fld (Reg.PORT_INGRESS_LAT m.port) 15 0 : Rat)) m.corr)
  else .next s

/-- `PTP_DELAY_RESP` (R89): mean path delay from t1, t2 of the last Sync and t3, t4 of the exchange. -/
def execPtpDelayResp (m : PtpMsg) (s : State) : Host.Outcome State Fault Refusal :=
  if s.ptpOn m.base m.port = false then .next s else
  let p := s.ptpPort m.base m.port
  match p.delayReq, p.lastSync with
  | some (seq, t3), some (t1, t2) =>
    if seq = m.seq ∧ s.ptpP2P m.base = false then
      let path := ((t2 - t3) + ((m.stampNs : Rat) - t1) - m.corr) / 2
      .next ((s.modPort m.base m.port (fun p => { p with path := path, delayReq := none })).setRg (Reg.TB_PATH m.base)
        (BitVec.ofNat 32 (unsx 32 (satS 32 (Config.roundNs path)))))
    else .next s
  | _, _ => .next s

/-- `PTP_PDELAY_REQ` (R89): answered with Pdelay_Resp and Pdelay_Resp_Follow_Up. -/
def execPtpPdelayReq (m : PtpMsg) (s : State) : Host.Outcome State Fault Refusal :=
  if s.ptpOn m.base m.port = false then .next s else
  let s := s.ptpStamp m.port
  if s.ptpP2P m.base then
    let s := s.ptpSend m.base m.port "Pdelay_Resp" true m.seq (s.stampR m.rxQ - (s.fld (Reg.PORT_INGRESS_LAT m.port) 15 0 : Rat)) 0
    .next (s.ptpSend m.base m.port "Pdelay_Resp_Follow_Up" false m.seq (s.ptpEgress m.port) m.corr)
  else .next s

/-- A peer delay from its four times (IEEE 1588-2019). -/
def State.peerDelay (s : State) (base port : Nat) (t1 t2 t3 t4 corr : Rat) : State :=
  let d := ((t4 - t1) - (t3 - t2) - corr) / 2
  (s.modPort base port (fun p => { p with path := d, pdelay := none, delayReq := none })).setRg (Reg.TB_PATH base)
    (BitVec.ofNat 32 (unsx 32 (satS 32 (Config.roundNs d))))

/-- `PTP_PDELAY_RESP` (R89): one-step it completes the measurement, two-step it waits for its Follow_Up. -/
def execPtpPdelayResp (m : PtpMsg) (s : State) : Host.Outcome State Fault Refusal :=
  if s.ptpOn m.base m.port = false then .next s else
  let s := s.ptpStamp m.port
  match (s.ptpPort m.base m.port).delayReq with
  | some (seq, t1) =>
    if seq = m.seq ∧ s.ptpP2P m.base then
      if m.twoStep then .next (s.modPort m.base m.port (fun p => { p with pdelay := some (m.seq, (m.stampNs : Rat), s.ptpIngress m, m.corr) }))
      else .next (s.peerDelay m.base m.port t1 0 0 (s.ptpIngress m) m.corr)
    else .next s
  | none => .next s

/-- `PTP_PDELAY_RESP_FOLLOW_UP` (R89): completes a two-step peer delay measurement. -/
def execPtpPdelayRespFollowUp (m : PtpMsg) (s : State) : Host.Outcome State Fault Refusal :=
  if s.ptpOn m.base m.port = false then .next s else
  let p := s.ptpPort m.base m.port
  match p.delayReq, p.pdelay with
  | some (_, t1), some (seq, t2, t4, c) =>
    if seq = m.seq then .next (s.peerDelay m.base m.port t1 t2 (m.stampNs : Rat) t4 (c + m.corr)) else .next s
  | _, _ => .next s

/-- `PTP_ANNOUNCE` (R89): recorded, judged by the best master clock algorithm; of the followed master it gives the
grandmaster identity and the UTC offset. -/
def execPtpAnnounce (m : PtpMsg) (a : PtpAnnounce) (s : State) : Host.Outcome State Fault Refusal :=
  if s.ptpOn m.base m.port = false then .next s else
  let s := (s.modPort m.base m.port (fun p => { p with announce := some a })).ptpDecide m.base
  if (s.ptpPort m.base m.port).state = 9 then
    let s := (s.setRg (Reg.TB_GM_ID_LO m.base) (BitVec.ofNat 32 (natAt a.gmId 0 4))).setRg (Reg.TB_GM_ID_HI m.base) (BitVec.ofNat 32 (natAt a.gmId 4 4))
    if s.baseState m.base = 2 then
      .next (s.setUtc (a.altOffset.getD a.utcOffset) a.utcValid a.leap61 a.leap59)
    else .next s
  else .next s

/-- `PTP_MANAGEMENT` (R89): not answered. -/
def execPtpManagement (_m : PtpMsg) (s : State) : Host.Outcome State Fault Refusal := .next s

/-- `PTP_MASTER_TX` (R92): an instance in MASTER sends Sync, its Follow_Up unless one-step, and Announce. -/
def execPtpMasterTx (base port : Nat) (s : State) : Host.Outcome State Fault Refusal :=
  if s.ptpOn base port = false ∨ (s.ptpPort base port).state ≠ 6 then .next s else
  let p := s.ptpPort base port
  let oneStep := s.fld (Reg.TB_CFG base) 22 22 = 1
  let t := s.ptpSend base port "Sync" true p.seqSync (if oneStep then s.ptpEgress port else 0) 0
  let t := if oneStep then t else t.ptpSend base port "Follow_Up" false p.seqSync (s.ptpEgress port) 0
  let t := t.ptpSend base port "Announce" false p.seqAnnounce 0 0
  .next (t.modPort base port (fun p => { p with seqSync := (p.seqSync + 1) % 65536, seqAnnounce := (p.seqAnnounce + 1) % 65536 }))

/-- `PTP_SOURCE_LOST` (R80): no Sync for three sync intervals. -/
def execPtpSourceLost (base : Nat) (s : State) : Host.Outcome State Fault Refusal :=
  if base < 4 ∧ s.baseSource base = 1 then .next (s.loseSource base) else .next s

/-- `PTP_ANNOUNCE_TIMEOUT` (R89): the port forgets its master and the algorithm runs again. -/
def execPtpAnnounceTimeout (base port : Nat) (s : State) : Host.Outcome State Fault Refusal :=
  if s.ptpOn base port = false then .next s else
  .next ((s.modPort base port (fun p => { p with announce := none })).ptpDecide base)

/-- `PTP_DELAY_REQ_TX` (R89): a slave port sends Delay_Req, a P2P port Pdelay_Req, with its transmit stamp. -/
def execPtpDelayReqTx (base port : Nat) (s : State) : Host.Outcome State Fault Refusal :=
  if s.ptpOn base port = false then .next s else
  let p := s.ptpPort base port
  let t3 := s.baseTimeAt base (s.ptpEgress port)
  let kind := if s.ptpP2P base then some "Pdelay_Req" else if p.state = 9 then some "Delay_Req" else none
  match kind with
  | some k =>
    let t := s.ptpSend base port k true p.seqDelay 0 0
    .next (t.modPort base port (fun p => { p with delayReq := some (p.seqDelay, t3), pdelay := none, seqDelay := (p.seqDelay + 1) % 65536 }))
  | none => .next s

/-! ### PPS, TCLK, the pair's timing word -/

/-- The base with a source, if one has it. -/
def State.baseWith (s : State) (src : Nat) : Option Nat := (List.range 4).find? (fun n => s.baseSource n == src)

/-- `PPS_IN_EDGE` (R104): the edge is stamped; less TB_COMP it is a whole second, whose count comes from TOD_SET or from
the first other LOCKED base. -/
def execPpsInEdge (q : Nat) (s : State) : Host.Outcome State Fault Refusal :=
  let st := s.stampR q
  let s := s.setRg64 Reg.PPS_IN_LO (s.stampQ q)
  match s.baseWith 2 with
  | none => .next s
  | some n =>
    let edge := st - ((sext 32 (s.rg (Reg.TB_COMP n)).toNat : Int) : Rat)
    let here := s.baseTimeAt n edge
    let other := (List.range 4).find? (fun k => k != n && s.baseState k == 2)
    let sec : Option Nat := match s.time.tod with
      | some t => some t
      | none => match other with
        | some k => some (((s.baseTimeAt k edge) / 1000000000 + 1 / 2).floor.toNat)
        | none => match s.time.ppsSec with
          | some t => some (t + 1)
          | none => none
    match sec with
    | none => .next s
    | some k =>
      let s := { s with time := { s.time with tod := none, ppsSec := some k } }
      .next (s.sample n ((k : Rat) * 1000000000 - here) here)

/-- `PPS_IN_LOST` (R80): no edge in time. -/
def execPpsInLost (s : State) : Host.Outcome State Fault Refusal :=
  match s.baseWith 2 with
  | some n => .next ((s.loseSource n).evt Head.time 7)
  | none => .next s

/-- `PPS_OUT_PULSE` (R105): at a whole second of device time. -/
def execPpsOutPulse (s : State) : Host.Outcome State Fault Refusal :=
  if s.fld Reg.PPS_CFG 0 0 = 1 ∧ s.fld Reg.DT_STATUS 5 5 = 1 then
    .next (s.send (.ppsPulse (s.time.ns / 1000000000) (s.fld Reg.PPS_CFG 27 8)))
  else .next s

/-- The timing word of a beat (R95): the PARTNER base of the unit without the timing role takes its sample. -/
def State.timingWord (s : State) (t1 t2 t3 t4 : Rat) : State :=
  match s.baseWith 3 with
  | some n =>
    if s.role = Role.pairMember ∧ s.timingRole = false then
      let y := (t2 - t1 - t4 + t3) / 2 - ((sext 32 (s.rg (Reg.TB_COMP n)).toNat : Int) : Rat)
      s.sample n y (s.tbase n).ns
    else s
  | none => s

/-- The other unit's SOF_OFFSET values (R101). -/
def State.followValues (s : State) (values : List (Nat × Int)) : State :=
  { s with time := { s.time with follow := values.foldl (fun f v => modifyNth (fun _ => some v.2) v.1 f) s.time.follow } }

/-- `TCLK_IN_OK_CHANGE` (R106): the flag, the measured frequency, and the bases in HOLDOVER that are or are no longer
steered to it. -/
def execTclkInOkChange (ok : Bool) (freq : Int) (s : State) : Host.Outcome State Fault Refusal :=
  let s := (s.setFld Reg.CLK_STATUS 3 3 (b2n ok)).setRg Reg.TCLK_IN_FREQ (BitVec.ofNat 32 (unsx 32 (satS 32 freq)))
  .next ((List.range 4).foldl (fun s n => if s.baseState n = 3 then s.enterBase n 3 else s) s)

/-- `REFERENCE_CLOCK_RETURN` (R107): the reference is present again and the PLLs lock to it. -/
def execReferenceClockReturn (s : State) : Host.Outcome State Fault Refusal :=
  .next (((s.setFld Reg.CLK_STATUS 0 0 1).setFld Reg.CLK_STATUS 1 1 1).setFld Reg.CLK_STATUS 4 4 0)

/-- `RTC_MEASURE_DONE` (R108): the error is written, MEASURE clears, RTC_DONE is set. -/
def execRtcMeasureDone (err : Word) (s : State) : Host.Outcome State Fault Refusal :=
  match s.time.rtc with
  | none => .next s
  | some _ =>
    let s := { s with time := { s.time with rtc := none } }
    .next (((s.setRg Reg.RTC_ERR err).setFld Reg.RTC_CFG 0 0 0).evt Head.time 9)

/-- `REVERT_HOLD_EXPIRE` (R86): the selection is judged again, and an earlier base LOCKED for REVERT_HOLD seconds takes
over. -/
def execRevertHoldExpire (s : State) : Host.Outcome State Fault Refusal := .next s.applySelection

/-! ### Opcodes (R109) -/

/-- Seconds and nanoseconds of device time. -/
def State.devSec (s : State) : Nat := s.time.ns / 1000000000 % 2 ^ 48

/-- `TIME_READ`. -/
def execTimeRead (req : OctahReq) (s : State) : Host.Outcome State Fault Refusal :=
  .next (octah { opcode := 0x0B00, owner := false, len := fun n => n == 0, args := noArgs, legal := always
                 run := fun s req => s.opOk req.tag
                   (leBytes 8 s.nsCount ++ leBytes 6 s.devSec ++ leBytes 4 (s.time.ns % 1000000000) ++ leBytes 2 s.time.frac ++ leBytes 8 s.beat ++
                    leBytes 4 (s.rg Reg.DT_STATUS).toNat ++ (List.range 4).flatMap (fun n => leBytes 4 (s.rg (Reg.TB_OFFSET n)).toNat)) } req s)

/-- `TIME_SET` (R85, R109). -/
def execTimeSet (req : OctahReq) (s : State) : Host.Outcome State Fault Refusal :=
  .next (octah { opcode := 0x0B01, owner := false, len := fun n => n == 12
                 args := fun _ p => firstBad [(6, zeroAt p 6 2), (8, natAt p 8 4 < 1000000000)]
                 legal := fun s _ => if s.stopped then none else some (.state Head.time)
                 run := fun s req =>
                   let s := s.opStart req.tag
                   let s := { s with time := { s.time with ns := natAt req.pl 0 6 * 1000000000 + natAt req.pl 8 4, frac := 0 } }
                   ((s.setFld Reg.DT_STATUS 5 5 1).timeRefresh).opOk req.tag [] } req s)

/-- `TOD_SET` (R104, R109). -/
def execTodSet (req : OctahReq) (s : State) : Host.Outcome State Fault Refusal :=
  .next (octah { opcode := 0x0B02, owner := false, len := fun n => n == 8
                 args := fun _ p => firstBad [(6, zeroAt p 6 2)]
                 legal := fun s _ => if (s.baseWith 2).isSome then none else some (.state Head.time)
                 run := fun s req =>
                   let s := s.opStart req.tag
                   ({ s with time := { s.time with tod := some (natAt req.pl 0 6) } }).opOk req.tag [] } req s)

/-- `BASE_REACQUIRE` (R83, R109). -/
def execBaseReacquire (req : OctahReq) (s : State) : Host.Outcome State Fault Refusal :=
  .next (octah { opcode := 0x0B03, owner := false, len := fun n => n == 4
                 args := fun _ p => firstBad [(0, natAt p 0 1 < 4), (1, zeroAt p 1 3)]
                 legal := fun s req => let st := s.baseState (natAt req.pl 0 1)
                                       if st = 2 ∨ st = 3 then none else some (.state Head.time)
                 run := fun s req =>
                   let n := natAt req.pl 0 1
                   let s := s.opStart req.tag
                   let s := s.modBase n (fun b => { b with stepped := false, lastSample := none })
                   ((s.setFld (Reg.TB_STATUS n) 3 3 0).enterBase n 1).opOk req.tag [] } req s)

/-- `PTP_DATASET_READ` (R109): members in the standard's order and encoding, which the manual does not reproduce. -/
def execPtpDatasetRead (req : OctahReq) (s : State) : Host.Outcome State Fault Refusal :=
  .next (octah { opcode := 0x0B04, owner := false, len := fun n => n == 4
                 args := fun _ p => firstBad [(0, natAt p 0 1 < 4), (1, natAt p 1 1 < 6), (2, zeroAt p 2 2)]
                 legal := fun s req => if s.baseSource (natAt req.pl 0 1) = 1 then none else some (.state Head.time)
                 run := fun s req =>
                   let n := natAt req.pl 0 1
                   let known := leBytes 4 (s.rg Reg.PTP_CLK).toNat ++ leBytes 4 (s.rg (Reg.TB_CFG n)).toNat ++ leBytes 4 (s.rg (Reg.TB_OFFSET n)).toNat ++
                     leBytes 4 (s.rg (Reg.TB_PATH n)).toNat ++ leBytes 8 (s.rg64 (Reg.TB_GM_ID_LO n)) ++ leBytes 4 (s.rg Reg.UTC_OFFSET).toNat ++
                     leBytes 1 (s.ptpPort n 0).state ++ leBytes 1 (s.ptpPort n 1).state
                   s.opOk req.tag (Config.ptpDataset n (natAt req.pl 1 1) known) } req s)

/-- `UTC_SET` (R109). -/
def execUtcSet (req : OctahReq) (s : State) : Host.Outcome State Fault Refusal :=
  .next (octah { opcode := 0x0B05, owner := false, len := fun n => n == 4
                 args := fun _ p => firstBad [(2, natAt p 2 1 < 3), (3, zeroAt p 3 1)]
                 legal := fun s _ => if (List.range 4).any (fun n => s.baseSource n == 1 && s.baseState n == 2) then some (.state Head.time) else none
                 run := fun s req =>
                   let s := s.opStart req.tag
                   (s.setUtc (sext 16 (natAt req.pl 0 2)) true (bit (natAt req.pl 2 1) 0) (bit (natAt req.pl 2 1) 1)).opOk req.tag [] } req s)

/-! ### Writes with effects of their own, called by the register write -/

/-- A write of TB_CFG (R78, R88, R90, R97): the code it is refused with, or none. `v` is the value as the fields' own
checks leave it. -/
def State.tbCfgRefused (s : State) (n : Nat) (v : Word) : Option Nat :=
  let src := wbits v 2 0
  let others := (List.range 4).filter (fun k => k != n)
  if s.selBase = some n then some Code.state
  else if (wbits v 21 20 = 1 ∨ wbits v 21 20 = 2) ∧ (wbits v 19 18 ≠ 1 ∨ wbits v 17 16 ≠ 0) then some Code.badArg
  else if src = 3 ∧ s.role ≠ Role.pairMember then some Code.state
  else if src = 3 ∧ others.any (fun k => s.baseSource k == 3) then some Code.badArg
  else if src = 2 ∧ others.any (fun k => s.baseSource k == 2) then some Code.badArg
  else if s.role = Role.pairMember ∧ s.baseSource n = 3 ∧ src ≠ 3 then some Code.state
  else none

/-- TB_CFG takes a value: the base begins anew under it when the value changes. -/
def State.tbCfgSet (s : State) (n : Nat) (v : Word) : State :=
  if s.rg (Reg.TB_CFG n) = v then s else (s.setRg (Reg.TB_CFG n) v).startBase n

/-- RTC_CFG takes a value: MEASURE going to 1 starts a measurement (R108); it is not restarted while one runs. -/
def State.rtcCfgSet (s : State) (v : Word) : State :=
  let running := s.time.rtc.isSome
  let s := s.setRg Reg.RTC_CFG (if running then wset v 0 0 1 else v)
  if wbits v 0 0 = 1 ∧ running = false then { s with time := { s.time with rtc := some { startBeat := s.beat, gate := wbits v 15 4 } } } else s

end Sys2Proof.Machine
end

