-- ==== Sys2Proof/Machine/BusOps.lean ====
section
/-!
DEFINITION. The Tally and the field-bus channels (R250 to R285): entries, the receive and transmit rules, rounds, fault
confinement, the configuration image, and what each phase of the beat does to them.
-/
namespace Sys2Proof.Machine

/-! ### The Tally entry (R255) -/

/-- A word of an entry. -/
def State.tw (s : State) (e o : Nat) : Word := s.bus.tally.word (256 * e + o)
/-- The Tally replaced by a function of it. -/
def State.modTally (s : State) (f : Mem → Mem) : State := { s with bus := { s.bus with tally := f s.bus.tally } }
/-- A word of an entry written. -/
def State.setTw (s : State) (e o : Nat) (w : Word) : State := s.modTally (fun m => m.putWord (256 * e + o) w)
/-- A field of an entry's word. -/
def State.tf (s : State) (e o hi lo : Nat) : Nat := wbits (s.tw e o) hi lo
/-- A field of an entry's word written. -/
def State.setTf (s : State) (e o hi lo x : Nat) : State := s.setTw e o (wset (s.tw e o) hi lo x)
/-- Bytes of an entry. -/
def State.tbytes (s : State) (e o n : Nat) : List Byte := s.bus.tally.getN (256 * e + o) n
/-- Bytes of an entry written. -/
def State.putTbytes (s : State) (e o : Nat) (bs : List Byte) : State := s.modTally (fun m => m.putN (256 * e + o) bs)

/-- Offsets in an entry: STATUS. -/
abbrev Ent.status : Nat := 0x08
/-- HOST_CTRL -/ abbrev Ent.hostCtrl : Nat := 0x0C
/-- COUNT -/ abbrev Ent.count : Nat := 0x10
/-- LOST_COUNT -/ abbrev Ent.lostCount : Nat := 0x14
/-- FAIL_COUNT -/ abbrev Ent.failCount : Nat := 0x18
/-- TRY -/ abbrev Ent.try_ : Nat := 0x1C
/-- PRIMARY -/ abbrev Ent.primary : Nat := 0x20
/-- SHADOW -/ abbrev Ent.shadow : Nat := 0x60
/-- RX_NS -/ abbrev Ent.rxNs : Nat := 0xA0
/-- DATA_NS -/ abbrev Ent.dataNs : Nat := 0xA8
/-- ROUND_TAG -/ abbrev Ent.roundTag : Nat := 0xB0

/-- The entry is in use (KEY.VALID). -/
def State.entryValid (s : State) (e : Nat) : Bool := s.tf e 0 31 31 == 1
/-- Its CHANNEL. -/
def State.entryCh (s : State) (e : Nat) : Nat := s.tf e 4 2 0
/-- DIR is TX. -/
def State.entryTx (s : State) (e : Nat) : Bool := s.tf e 4 3 3 == 1
/-- SCHED. -/
def State.entrySched (s : State) (e : Nat) : Bool := s.tf e 4 7 7 == 1

/-- The entries in use, in order: those whose KEY has VALID. -/
def State.validEntries (s : State) : List Nat :=
  s.bus.tally.filterMap (fun c => if c.1 % 256 = 3 ∧ bit c.2.toNat 7 = true then some (c.1 / 256) else none)

/-- The entry of a key (R256). -/
def State.findEntry (s : State) (ch : Nat) (ide : Bool) (ident : Nat) : Option Nat :=
  s.validEntries.find? (fun e => s.entryCh e == ch && s.tf e 0 29 29 == b2n ide && s.tf e 0 28 0 == ident)

/-- Data bytes of a DLC: CAN FD has eight lengths above 8, classical CAN none. -/
def dlcLen (fdf : Bool) (dlc : Nat) : Nat :=
  if dlc ≤ 8 then dlc else if fdf = false then 8
  else if dlc = 9 then 12 else if dlc = 10 then 16 else if dlc = 11 then 20 else if dlc = 12 then 24
  else if dlc = 13 then 32 else if dlc = 14 then 48 else 64

/-! ### Channels -/

/-- A channel beside its registers. -/
def State.chan (s : State) (ch : Nat) : BusChan := s.bus.chans.getD ch BusChan.reset
/-- The channel replaced by a function of it. -/
def State.modChan (s : State) (ch : Nat) (f : BusChan → BusChan) : State :=
  { s with bus := { s.bus with chans := modifyNth f ch s.bus.chans } }
/-- OPMODE: 0 NORMAL, 1 MONITOR, 2 LOOPBACK. -/
def State.opMode (s : State) (ch : Nat) : Nat := s.fld (Reg.FB_CTRL ch) 6 5
/-- The channel is enabled and its engine has not failed (R281). -/
def State.busOn (s : State) (ch : Nat) : Bool := decide (ch < 8) && s.enabled (Head.bus ch) && !s.blkFault (Head.bus ch)
/-- BLK_STATUS.STATE of a channel: 0 OFF, 1 INTEGRATING, 2 ERROR_ACTIVE, 3 ERROR_PASSIVE, 4 BUS_OFF, 5 RECOVERING. -/
def State.chState (s : State) (ch : Nat) : Nat := s.blkState (Head.bus ch)
/-- The channel's state set; it works in ERROR_ACTIVE and ERROR_PASSIVE. -/
def State.setCh (s : State) (ch st : Nat) : State := (s.setBlkState (Head.bus ch) st).setReady (Head.bus ch) (st == 2 || st == 3)
/-- The channel takes part in traffic. -/
def State.chLive (s : State) (ch : Nat) : Bool := s.busOn ch && (s.chState ch == 2 || s.chState ch == 3)
/-- The unit sends process outputs (R41, R376): not while fail-silent, and in a pair only in SOLO, STANDBY and ACTIVE. -/
def State.sendsOutputs (s : State) : Bool :=
  !s.silent && !s.casc.floating && (s.role != Role.pairMember || s.blkState Head.pair == 1 || s.blkState Head.pair == 3 || s.blkState Head.pair == 4)
/-- TEC -/ def State.tec (s : State) (ch : Nat) : Nat := s.fld (Reg.FB_ERRCNT ch) 8 0
/-- REC -/ def State.rec_ (s : State) (ch : Nat) : Nat := s.fld (Reg.FB_ERRCNT ch) 23 16

/-- A channel's bit time of 12.5 ns clocks: nominal (R252). -/
def State.tNom (s : State) (ch : Nat) : Nat :=
  (s.fld (Reg.FB_BITTIME ch) 8 0 + 1) * (3 + s.fld (Reg.FB_BITTIME ch) 24 16 + s.fld (Reg.FB_BITTIME ch) 15 9)
/-- Data bit time. -/
def State.tData (s : State) (ch : Nat) : Nat :=
  (s.fld (Reg.FB_DBITTIME ch) 4 0 + 1) * (3 + s.fld (Reg.FB_DBITTIME ch) 20 16 + s.fld (Reg.FB_DBITTIME ch) 27 24)

/-- The charge of a bus frame of n data bytes, in protocol clocks of 12.5 ns (R271). -/
def State.charge (s : State) (ch : Nat) (ide fdf brs : Bool) (n : Nat) : Nat :=
  let tn := s.tNom ch
  let td := if brs then s.tData ch else tn
  if fdf = false then
    (if ide then 67 + 8 * n + (54 + 8 * n - 1) / 4 else 47 + 8 * n + (34 + 8 * n - 1) / 4) * tn
  else
    let c := if n ≤ 16 then 17 else 21
    (if ide then 57 else 34) * tn + (9 + 8 * n + (5 + 8 * n) / 4 + c + (4 + c + 3) / 4) * td

/-! ### The configuration image (R277, R278) -/

/-- An array of the image: count and offset. -/
def cfgArr (cfg : List Byte) (hdr : Nat) : Nat × Nat := (natAt cfg hdr 4, natAt cfg (hdr + 4) 4)

/-- A round record. -/
structure RoundRec where
  ch : Nat
  round : Nat
  prog : Nat
  first : Nat
  slots : Nat
  apply_ : Nat
  bytes : List Byte
deriving DecidableEq, Repr

/-- The round records. -/
def cfgRounds (cfg : List Byte) : List RoundRec :=
  let (n, o) := cfgArr cfg 0x10
  (List.range n).map (fun k =>
    let a := o + 16 * k
    { ch := natAt cfg a 1, round := natAt cfg (a + 1) 1, prog := natAt cfg (a + 2) 1, first := natAt cfg (a + 4) 2, slots := natAt cfg (a + 6) 2,
      apply_ := natAt cfg (a + 8) 4, bytes := bytesAt cfg a 16 })

/-- A slot record: entry, beat, start in ns. -/
def cfgSlot (cfg : List Byte) (k : Nat) : Nat × Nat × Nat :=
  let a := (cfgArr cfg 0x18).2 + 8 * k
  (natAt cfg a 2, natAt cfg (a + 2) 2, natAt cfg (a + 4) 4)

/-- A copy record. -/
structure CopyRec where
  entry : Nat
  eofs : Nat
  len : Nat
  prog : Nat
  dir : Nat
  sofs : Nat
deriving DecidableEq, Repr

/-- The copy records. -/
def cfgCopies (cfg : List Byte) : List CopyRec :=
  let (n, o) := cfgArr cfg 0x20
  (List.range n).map (fun k =>
    let a := o + 12 * k
    { entry := natAt cfg a 2, eofs := natAt cfg (a + 2) 1, len := natAt cfg (a + 3) 1, prog := natAt cfg (a + 4) 1, dir := natAt cfg (a + 5) 1,
      sofs := natAt cfg (a + 8) 4 })

/-- The entry records: index, KEY, CFG. -/
def cfgEntries (cfg : List Byte) : List (Nat × Nat × Nat) :=
  let (n, o) := cfgArr cfg 0x08
  (List.range n).map (fun k => let a := o + 12 * k; (natAt cfg a 2, natAt cfg (a + 4) 4, natAt cfg (a + 8) 4))

/-- The timing rules of R253 on register values. -/
def timingOk (bt dbt tdc : Word) : Bool :=
  let tn := (wbits bt 8 0 + 1) * (3 + wbits bt 24 16 + wbits bt 15 9)
  let td := (wbits dbt 4 0 + 1) * (3 + wbits dbt 20 16 + wbits dbt 27 24)
  decide (wbits bt 31 25 ≤ wbits bt 15 9) && decide (wbits dbt 31 28 ≤ wbits dbt 27 24) && decide (80 ≤ tn) && decide (16 ≤ td) && decide (td ≤ tn) &&
    (decide (80 ≤ td) || wbits tdc 0 0 == 1)

/-- A configuration may be loaded beside a program set and the loops' output references (R279). -/
def tallyOk (cfg : List Byte) (images : List Image) (loopRefs : List (Nat × Nat × Nat)) : Bool :=
  let es := cfgEntries cfg
  let rs := cfgRounds cfg
  let cs := cfgCopies cfg
  let ent (e : Nat) := es.find? (fun x => x.1 == e)
  let arrays := [(0x08, 12, 4096), (0x10, 16, 128), (0x18, 8, 4096), (0x20, 12, 65536)]
  let placed := arrays.foldl (fun (acc : Bool × Nat) x =>
      let (n, o) := cfgArr cfg x.1
      (acc.1 && decide (n ≤ x.2.2) && (n == 0 || (o % 8 == 0 && decide (acc.2 ≤ o))) && decide (o + n * x.2.1 ≤ cfg.length || n = 0),
       if n = 0 then acc.2 else o + n * x.2.1)) (true, 0x140)
  let key (x : Nat × Nat × Nat) := (bits x.2.2 2 0, bits x.2.1 29 0)
  let sched := rs.flatMap (fun r => (List.range r.slots).map (fun k => (r, k, cfgSlot cfg (r.first + k))))
  let stores := cs.filterMap (fun c => if c.dir = 1 then some (c.entry, c.eofs, c.len) else none) ++ loopRefs
  let clash (a b : Nat × Nat × Nat) : Bool := a.1 == b.1 && decide (a.2.1 < b.2.1 + b.2.2) && decide (b.2.1 < a.2.1 + a.2.2)
  natAt cfg 0 4 == 0x43544553 && natAt cfg 4 2 == 1 && natAt cfg 0x28 4 == cfg.length && placed.1 &&
    es.all (fun x => decide (x.1 < 4096) && bit x.2.1 31 && (bit x.2.1 29 || bits x.2.1 28 11 == 0) && (bit x.2.2 4 || decide (bits x.2.2 11 8 ≤ 8))) &&
    decide ((es.map (·.1)).Nodup) && decide ((es.map key).Nodup) &&
    rs.all (fun r =>
      let m := images.getD r.prog []
      decide (r.ch < 8) && decide (r.round < 16) && decide (r.prog < 32) && decide (1 ≤ r.slots) && decide (r.slots ≤ 256) &&
        decide (r.first + r.slots ≤ (cfgArr cfg 0x18).1) && m != [] && (Image.ties m).contains (r.ch, r.round) &&
        decide (1 ≤ r.apply_) && decide (r.apply_ ≤ 250 * Image.k m)) &&
    decide ((rs.map (fun r => (r.ch, r.round))).Nodup) &&
    sched.all (fun x =>
      decide (x.2.2.2.1 < Image.k (images.getD x.1.prog [])) && decide (x.2.2.2.2 ≤ 240000) &&
        (match ent x.2.2.1 with
         | some e => bits e.2.2 2 0 == x.1.ch && bits e.2.2 15 12 == x.1.round && bits e.2.2 23 16 == x.2.1 && bit e.2.2 7
         | none => false) &&
        (x.2.1 == 0 || (let p := cfgSlot cfg (x.1.first + x.2.1 - 1)
                        decide (p.2.1 < x.2.2.2.1) || (p.2.1 == x.2.2.2.1 && decide (p.2.2 < x.2.2.2.2))))) &&
    decide ((sched.map (fun x => x.2.2.1)).Nodup) &&
    es.all (fun e => !bit e.2.2 7 || sched.any (fun x => x.2.2.1 == e.1)) &&
    cs.all (fun c =>
      let m := images.getD c.prog []
      decide (1 ≤ c.len) && decide (c.len ≤ 64) && m != [] && decide (c.dir ≤ 1) &&
        (match ent c.entry with
         | none => false
         | some e =>
           if c.dir = 0 then
             !bit e.2.2 3 && decide (c.sofs + c.len ≤ Image.iLen m) &&
               ((decide (0x08 ≤ c.eofs) && decide (c.eofs + c.len ≤ 0x0C)) || (decide (0x20 ≤ c.eofs) && decide (c.eofs + c.len ≤ 0x60)) ||
                (decide (0xA0 ≤ c.eofs) && decide (c.eofs + c.len ≤ 0xB4)))
           else bit e.2.2 3 && !bit e.2.2 6 && decide (c.sofs + c.len ≤ Image.qLen m) && decide (0x20 ≤ c.eofs) && decide (c.eofs + c.len ≤ 0x60))) &&
    (stores.mapIdx (fun k a => (stores.drop (k + 1)).all (fun b => !clash a b))).all id

/-- The round record of a round of a channel. -/
def State.roundRec (s : State) (ch r : Nat) : Option RoundRec := (cfgRounds s.bus.cfg).find? (fun x => x.ch == ch && x.round == r)

/-- The configuration is put in force at a cold start (R280): entries from their records, everything else of the Tally
zero, the channels' registers and round registers from the image. -/
def State.loadTally (s : State) (cfg : List Byte) : State :=
  let t := (cfgEntries cfg).foldl (fun (m : Mem) x => (m.putNat (256 * x.1) 4 x.2.1).putNat (256 * x.1 + 4) 4 x.2.2) []
  let s := { s with bus := { BusState.reset with cfg := cfg, tally := t } }
  let s := (List.range 8).foldl (fun s ch =>
    let w (k : Nat) : Word := BitVec.ofNat 32 (natAt cfg (0x40 + 32 * ch + k) 4)
    (((((((s.setRg (Reg.FB_CTRL ch) (w 0 &&& 0x1D)).setRg (Reg.FB_BITTIME ch) (w 4)).setRg (Reg.FB_DBITTIME ch) (w 8)).setRg (Reg.FB_TDC ch) (w 12)).setRg
      (Reg.FB_RETRY ch) (w 16)).setRg (Reg.FB_SYNC_KEY ch) (w 20)).setRg (Reg.FB_FOLLOW_KEY ch) (w 24))) s
  (cfgRounds cfg).foldl (fun s r => s.setRg (Reg.RND_CFG r.ch r.round) (BitVec.ofNat 32 (r.prog + 64 + 256 * r.slots))) s

/-! ### Receiving (R257 to R261) -/

/-- NEW set; a NEW that stood is LOST (R258). -/
def State.markNew (s : State) (e : Nat) : State :=
  let s := if s.tf e Ent.status 0 0 = 1 then
      let s := (s.setTf e Ent.status 1 1 1).setTw e Ent.lostCount (satInc (s.tw e Ent.lostCount))
      (s.incSat (Reg.LOST_TOTAL (s.entryCh e))).evt (Head.bus (s.entryCh e)) 5
    else s
  s.setTf e Ent.status 0 0 1

/-- ROUND_TAG of a frame that arrives now: the beat of the channel's last SYNC. -/
def State.rxTag (s : State) (ch : Nat) : Nat := (s.chan ch).lastSync.getD 0 % 2 ^ 32

/-- A frame is written to its RX entry, or to its shadow while it is held (R258, R259). -/
def State.receive (s : State) (e : Nat) (f : BusFrame) (sofNs : Nat) : State :=
  let ch := s.entryCh e
  let data := bytesAt (f.data.take (dlcLen f.fdf f.dlc)) 0 64
  let s := s.modTally (fun m => m.putNat (256 * e + Ent.rxNs) 8 sofNs)
  let s := s.setTw e Ent.count (s.tw e Ent.count + 1)
  if s.tf e Ent.status 2 2 = 1 then
    let s := s.putTbytes e Ent.shadow data
    let s := if s.tf e Ent.status 3 3 = 1 then
        let s := (s.setTf e Ent.status 1 1 1).setTw e Ent.lostCount (satInc (s.tw e Ent.lostCount))
        (s.incSat (Reg.LOST_TOTAL ch)).evt (Head.bus ch) 5
      else s
    let s := s.setTf e Ent.status 3 3 1
    { s with bus := { s.bus with shadows := (e, f.dlc, s.rxTag ch) :: s.bus.shadows.filter (fun x => x.1 != e) } }
  else
    let s := (s.putTbytes e Ent.primary data).modTally (fun m => m.putNat (256 * e + Ent.dataNs) 8 sofNs)
    ((s.setTf e Ent.status 19 16 f.dlc).setTw e Ent.roundTag (BitVec.ofNat 32 (s.rxTag ch))).markNew e

/-- An entry whose hold ends takes its shadow as one reception (R259). -/
def State.takeShadow (s : State) (e : Nat) : State :=
  if s.tf e Ent.status 3 3 = 1 then
    let x := (s.bus.shadows.find? (fun x => x.1 == e)).getD (e, 0, 0)
    let s := s.putTbytes e Ent.primary (s.tbytes e Ent.shadow 64)
    let s := s.putTbytes e Ent.dataNs (s.tbytes e Ent.rxNs 8)
    let s := (s.setTf e Ent.status 19 16 x.2.1).setTw e Ent.roundTag (BitVec.ofNat 32 x.2.2)
    let s := (s.markNew e).setTf e Ent.status 3 3 0
    { s with bus := { s.bus with shadows := s.bus.shadows.filter (fun x => x.1 != e) } }
  else s

/-- A dropped frame goes to the catch-all ring (R257). -/
def State.catchFrame (s : State) (ch : Nat) (f : BusFrame) (sofNs : Nat) (formatDrop : Bool) : State :=
  if s.fld (Reg.FB_CTRL ch) 1 1 = 0 then s else
  let rec_ := leBytes 8 sofNs ++ leBytes 4 (f.ident + 2 ^ 29 * b2n f.ide) ++ leBytes 1 ch ++
    leBytes 1 (b2n f.fdf + 2 * b2n f.brs + 4 * b2n f.esi + 8 * b2n f.rtr + 16 * b2n formatDrop) ++ leBytes 1 f.dlc ++ leBytes 1 0 ++
    bytesAt (if f.rtr then [] else f.data.take (dlcLen f.fdf f.dlc)) 0 64
  let full := decide (256 ≤ s.bus.ring.length)
  let ring := (if full then s.bus.ring.drop 1 else s.bus.ring) ++ [rec_]
  let s := { s with bus := { s.bus with ring := ring } }
  let s := if full then s.incSat (Reg.CATCH_LOST 0) else s
  (s.setRg (Reg.CATCH_HEAD 0) (BitVec.ofNat 32 ring.length)).evt (Head.bus 0) 12

/-- The frame of an entry as the device sends it. -/
def State.entryFrame (s : State) (e : Nat) (data : List Byte) : BusFrame :=
  let fdf := s.tf e 4 4 4 == 1
  let dlc := s.tf e 4 11 8
  { ide := s.tf e 0 29 29 == 1, ident := s.tf e 0 28 0, fdf := fdf, brs := s.tf e 4 5 5 == 1,
    esi := fdf && !s.partnerPresent && s.chState (s.entryCh e) == 3, rtr := false, dlc := dlc, data := data.take (dlcLen fdf dlc) }

/-- Content equal to the own PRIMARY in the sense of R275. -/
def State.sameContent (s : State) (e : Nat) (f : BusFrame) : Bool :=
  let own := s.entryFrame e (s.tbytes e Ent.primary 64)
  f.fdf == own.fdf && f.brs == own.brs && f.dlc == own.dlc && f.data.take (dlcLen f.fdf f.dlc) == own.data

/-- A frame of an entry is pending on its channel. -/
def State.pendingEntry (s : State) (e : Nat) : Bool := (s.chan (s.entryCh e)).pend.any (fun x => x.what == .entry e)
/-- The pending frame of an entry removed. -/
def State.dropEntry (s : State) (e : Nat) : State :=
  s.modChan (s.entryCh e) (fun c => { c with pend := c.pend.filter (fun x => x.what != .entry e) })

/-- What a successful transmission of an entry leaves (R265). -/
def State.entrySent (s : State) (e sofNs : Nat) (f : TxFrame) : State :=
  let s := (s.setTf e Ent.status 6 5 0).setTw e Ent.roundTag (BitVec.ofNat 32 f.opened)
  let s := s.modTally (fun m => m.putNat (256 * e + Ent.rxNs) 8 sofNs)
  (s.setTw e Ent.count (s.tw e Ent.count + 1)).setTw e Ent.try_ (BitVec.ofNat 32 (f.arb + 16 * f.errs))

/-- A bus frame of a channel is abandoned with a cause (R265, R266, R276); FOLLOW has no entry to mark. -/
def State.abandonFrame (s : State) (ch : Nat) (f : TxFrame) (cause : Nat) : State :=
  match f.what with
  | .sync => (s.incSat (Reg.SYNC_FAIL_CNT ch)).evt (Head.bus ch) 9
  | .follow => (s.incSat (Reg.TX_FAIL_CNT ch)).evt (Head.bus ch) 4
  | .entry e =>
    let s := (s.setTf e Ent.status 5 5 1).setTf e Ent.status 15 12 cause
    let s := (s.setTw e Ent.failCount (satInc (s.tw e Ent.failCount))).setTw e Ent.try_ (BitVec.ofNat 32 (f.arb + 16 * f.errs))
    let s := (s.incSat (Reg.TX_FAIL_CNT ch)).setRg (Reg.LAST_FAIL ch) (BitVec.ofNat 32 (e + 2 ^ 12 * cause + 2 ^ 16 * (s.beat % 2 ^ 16)))
    s.evt (Head.bus ch) 4

/-- FAIL_CAUSE values. -/
abbrev Fail.arbLimit : Nat := 1
/-- ERR_LIMIT -/ abbrev Fail.errLimit : Nat := 2
/-- CUTOFF -/ abbrev Fail.cutoff : Nat := 3
/-- BUS_OFF -/ abbrev Fail.busOff : Nat := 4
/-- TWIN_MUTE -/ abbrev Fail.twinMute : Nat := 5

/-- A twin mismatch on an entry (R276): the report waits for the PAIR block, and the standby mutes the entry. -/
def State.twinMismatch (s : State) (e : Nat) : State :=
  let s := { s with bus := { s.bus with mismatch := s.bus.mismatch ++ [e] } }
  if s.blkState Head.pair = 3 then
    let s := { s with bus := { s.bus with muted := e :: s.bus.muted.filter (· != e) } }
    match (s.chan (s.entryCh e)).pend.find? (fun x => x.what == .entry e) with
    | some f => (s.dropEntry e).abandonFrame (s.entryCh e) f Fail.twinMute
    | none => s
  else s

/-- A valid frame under a TX entry's key: twin cancel, duplicate, or a conflict (R268, R275, R276). -/
def State.receiveTx (s : State) (e : Nat) (f : BusFrame) (sofNs : Nat) : State :=
  let ch := s.entryCh e
  if s.partnerPresent ∧ s.sameContent e f then
    match (s.chan ch).pend.find? (fun x => x.what == .entry e) with
    | some p => (((s.dropEntry e).entrySent e sofNs p).incSat (Reg.TX_FRAME_CNT ch)).incSat (Reg.TWIN_CANCEL_CNT ch)
    | none => s.incSat (Reg.TWIN_DUP_CNT ch)
  else
    let s := ((s.setTf e Ent.status 7 7 1).incSat (Reg.ID_CONFLICT_CNT ch)).evt (Head.bus ch) 7
    if s.partnerPresent then s.twinMismatch e else s

/-- REC after a successful reception: one less, and from above 127 a value from 119 to 127 that the standard leaves open. -/
def State.recDown (s : State) (ch : Nat) : State :=
  let r := s.rec_ ch
  if r = 0 then s
  else if r ≤ 127 then s.setFld (Reg.FB_ERRCNT ch) 23 16 (r - 1)
  else
    let (v, s) := s.draw
    s.setFld (Reg.FB_ERRCNT ch) 23 16 (119 + v.toNat % 9)

/-- The state a working channel's counters give (R254): ERROR_PASSIVE from 128 on, BUS_OFF where TEC passes 255. -/
def State.confine (s : State) (ch : Nat) : State :=
  let passive := decide (128 ≤ s.tec ch) || decide (128 ≤ s.rec_ ch)
  if s.chState ch = 2 ∧ passive then (s.setCh ch 3).evt (Head.bus ch) 2
  else if s.chState ch = 3 ∧ passive = false then s.setCh ch 2
  else s

/-- A channel enters BUS_OFF (R254): every pending frame is abandoned, and recovery starts at once with AUTO_RECOVER. -/
def State.busOff (s : State) (ch : Nat) : State :=
  let ps := (s.chan ch).pend
  let s := (s.modChan ch (fun c => { c with pend := [], syncFailed := true })).setCh ch 4
  let s := (s.incSat (Reg.BUSOFF_CNT ch)).evt (Head.bus ch) 1
  let s := ps.foldl (fun s f => s.abandonFrame ch f Fail.busOff) s
  if s.fld (Reg.FB_CTRL ch) 0 0 = 1 then s.setCh ch 5 else s

/-- The transmit error counter raised by 8 (ISO 11898-1). -/
def State.tecUp (s : State) (ch : Nat) : State :=
  let t := s.tec ch + 8
  if 255 < t then (s.setFld (Reg.FB_ERRCNT ch) 8 0 (min t 511)).busOff ch else (s.setFld (Reg.FB_ERRCNT ch) 8 0 t).confine ch

/-- The balls of a channel in INTEGRATED mode work only with VIN_BUS in range (R527). -/
def State.wired (s : State) (ch : Nat) : Bool := s.fld (Reg.FB_CTRL ch) 4 3 == 1 || s.fld Reg.PWR_STATUS 1 1 == 1

/-- A valid bus frame from another node (R256 to R259, R268, R275, R276). -/
def State.busRx (s : State) (ch : Nat) (f : BusFrame) (sofNs : Nat) : State :=
  if s.chLive ch = false ∨ s.opMode ch = 2 then s else
  let s := ((s.incSat (Reg.RX_FRAME_CNT ch)).recDown ch).confine ch
  let drop (s : State) := (s.incSat (Reg.UNMATCHED_CNT ch)).catchFrame ch f sofNs false
  if f.rtr then drop s else
  match s.findEntry ch f.ide f.ident with
  | none => drop s
  | some e =>
    if s.entryTx e then s.receiveTx e f sofNs
    else if s.tf e 4 4 4 ≠ b2n f.fdf then
      ((s.incSat (Reg.FORMAT_DROP_CNT ch)).evt (Head.bus ch) 11).catchFrame ch f sofNs true
    else s.receive e f sofNs

/-! ### Sending (R262 to R268, R272) -/

/-- A frame becomes pending behind the channel's earlier ones; on a channel in BUS_OFF it is abandoned (R254, R264). -/
def State.enqueue (s : State) (ch : Nat) (f : TxFrame) : State :=
  if s.busOn ch = false ∨ s.opMode ch = 1 ∨ s.sendsOutputs = false ∨ s.chState ch = 0 then s
  else if s.chState ch = 4 ∨ s.chState ch = 5 then
    (s.abandonFrame ch f Fail.busOff).modChan ch (fun c => if f.what = .sync then { c with syncFailed := true } else c)
  else s.modChan ch (fun c => { c with pend := c.pend ++ [f] })

/-- A new frame of a round. -/
def TxFrame.new (w : TxWhat) (opened lastBeat round : Nat) : TxFrame :=
  { what := w, opened := opened, lastBeat := lastBeat, round := round, arb := 0, errs := 0, older := none, withheld := false }

/-- SYNC_KEY or FOLLOW_KEY as a frame of 8 bytes (R99, R272). -/
def keyFrame (k : Word) (data : List Byte) : BusFrame :=
  { ide := wbits k 29 29 == 1, ident := wbits k 28 0, fdf := wbits k 30 30 == 1, brs := wbits k 31 31 == 1, esi := false, rtr := false, dlc := 8,
    data := data }

/-- QUALITY of FOLLOW (R99). -/
def State.quality (s : State) (late : Bool) : Nat :=
  let st := match s.selBase with
    | none => 3
    | some n => let b := s.baseState n
                if b = 2 then 0 else if b = 3 then 1 else if b = 4 then 2 else 3
  let utc := s.rg Reg.UTC_OFFSET
  let ofs := sext 16 (wbits utc 15 0)
  let valid := wbits utc 16 16 == 1 && decide (0 ≤ ofs) && decide (ofs ≤ 255)
  let timingB := s.role == Role.pairMember && ((s.pairId == 1) == s.timingRole)
  st + 4 * wbits utc 17 17 + 8 * wbits utc 18 18 + 16 * b2n s.partnerPresent + 32 * b2n timingB + 64 * b2n late + 128 * b2n valid

/-- SOF_OFFSET a FOLLOW carries: the own measurement, or in a pair that of the unit with the timing role (R101). -/
def State.sofOffset (s : State) (ch : Nat) : Int :=
  if s.partnerPresent ∧ s.timingRole = false then (s.time.follow.getD ch none).getD 0 else sext 32 (s.rg (Reg.SYNC_RESID ch)).toNat

/-- FOLLOW's payload (R99, R102). -/
def State.followData (s : State) (ch opened : Nat) : List Byte :=
  let o := s.sofOffset ch
  let utc := s.rg Reg.UTC_OFFSET
  let q := s.quality (decide (4000 < o))
  leBytes 1 1 ++ leBytes 1 q ++ leBytes 1 (if q < 128 then 0 else wbits utc 7 0) ++ leBytes 1 opened ++ leBytes 4 (unsx 32 o)

/-- The frame of a pending transmission whose attempt began at a time. -/
def State.txFrame (s : State) (ch sofNs : Nat) (p : TxFrame) : BusFrame :=
  match p.what with
  | .sync => keyFrame (s.rg (Reg.FB_SYNC_KEY ch)) (leBytes 8 (p.opened * 250000))
  | .follow => keyFrame (s.rg (Reg.FB_FOLLOW_KEY ch)) (s.followData ch p.opened)
  | .entry e =>
    s.entryFrame e (match p.older with
      | some (b, old) => if sofNs < b then old else s.tbytes e Ent.primary 64
      | none => s.tbytes e Ent.primary 64)

/-- An attempt of a frame may start at a device time (R266): with its charge it ends by 240 µs of the round's last beat. -/
def State.mayStart (s : State) (ch : Nat) (p : TxFrame) (ns : Nat) : Bool :=
  let f := s.txFrame ch ns p
  decide (2 * ns + 25 * s.charge ch f.ide f.fdf f.brs f.data.length ≤ 2 * (p.lastBeat * 250000 + 240000))

/-- The first frame of a channel that is not withheld: the one on the bus. -/
def State.onBus (s : State) (ch : Nat) : Option TxFrame := (s.chan ch).pend.find? (fun p => !p.withheld)

/-- That frame removed. -/
def State.dropFrame (s : State) (ch : Nat) (p : TxFrame) : State := s.modChan ch (fun c => { c with pend := c.pend.erase p })
/-- That frame replaced. -/
def State.setFrame (s : State) (ch : Nat) (p q : TxFrame) : State :=
  s.modChan ch (fun c => { c with pend := c.pend.map (fun x => if x = p then q else x), timedOut := false })

/-- A frame fails for good; a failed SYNC takes its FOLLOW with it (R272). -/
def State.failFrame (s : State) (ch : Nat) (p : TxFrame) (cause : Nat) : State :=
  let s := (s.dropFrame ch p).abandonFrame ch p cause
  if p.what = .sync then s.modChan ch (fun c => { c with syncFailed := true, pend := c.pend.filter (fun x => x.what != .follow) }) else s

/-- The latest end of a frame of a round (RND_END_MAX). -/
def State.roundEndMax (s : State) (ch : Nat) (p : TxFrame) (endNs : Nat) : State :=
  s.peak (Reg.RND_END_MAX ch p.round) (endNs - p.opened * 250000)

/-- `BUS_FRAME_TX_DONE` (R265): the frame on the bus has succeeded; a SYNC's edge is measured (R100, R101). -/
def State.txDone (s : State) (ch sofQ endNs loopNs : Nat) : State :=
  if s.chLive ch = false ∨ s.silent = true then s else
  match s.onBus ch with
  | none => s
  | some p =>
    let sof := sofQ / 4
    if s.mayStart ch p sof = false then s else
    let s := if s.opMode ch = 2 then s else s.emit (.busFrame ch (s.txFrame ch sof p))
    let s := (s.dropFrame ch p).modChan ch (fun c => { c with timedOut := false })
    let s := (s.incSat (Reg.TX_FRAME_CNT ch)).setRg (Reg.ALONE_RUN ch) 0
    let s := (s.setFld (Reg.FB_ERRCNT ch) 8 0 (s.tec ch - 1)).confine ch
    let s := s.roundEndMax ch p endNs
    match p.what with
    | .sync =>
      ((s.setRg (Reg.SYNC_RESID ch) (BitVec.ofNat 32 (unsx 32 (satS 32 ((sofQ : Int) - 4 * (p.opened * 250000 : Nat)))))).setRg (Reg.SYNC_LOOP_NS ch)
        (BitVec.ofNat 32 loopNs))
    | .follow => s
    | .entry e => s.entrySent e sof p

/-- `BUS_FRAME_TX_DONE`. -/
def execBusFrameTxDone (ch sofQ endNs loopNs : Nat) (s : State) : Host.Outcome State Fault Refusal := .next (s.txDone ch sofQ endNs loopNs)

/-- `ARBITRATION_LOST` (R265, R272). -/
def execArbitrationLost (ch : Nat) (s : State) : Host.Outcome State Fault Refusal :=
  if s.chLive ch = false then .next s else
  match s.onBus ch with
  | none => .next s
  | some p =>
    if p.what = .sync ∨ s.fld (Reg.FB_RETRY ch) 3 0 ≤ p.arb then .next (s.failFrame ch p Fail.arbLimit)
    else .next (s.setFrame ch p { p with arb := p.arb + 1 })

/-- The register that counts an error (R284). -/
def errReg (ch : Nat) : BusErr → Nat
  | .bit => Reg.BIT_ERR_CNT ch
  | .stuff => Reg.STUFF_ERR_CNT ch
  | .form => Reg.FORM_ERR_CNT ch
  | .ack => Reg.ACK_ERR_CNT ch
  | .crc => Reg.CRC_ERR_CNT ch
  | .res => Reg.FORM_ERR_CNT ch

/-- An error frame ends the attempt of the frame on the bus (R250, R265, R267, R268, R272). `collide`: a dominant level
where a recessive bit was sent, after the arbitration was won; `dominant`: a dominant bit during the passive error flag;
`exempt`: the stuff error within arbitration that the standard does not count. -/
def State.busError (s : State) (ch : Nat) (kind : BusErr) (collide dominant exempt : Bool) : State :=
  if s.chLive ch = false then s else
  match s.onBus ch with
  | none => s
  | some p =>
    let s := s.incSat (errReg ch kind)
    let s := if kind = .ack then
        let s := s.incSat (Reg.ALONE_RUN ch)
        if (s.rg (Reg.ALONE_RUN ch)).toNat = s.fld (Reg.FB_RETRY ch) 23 16 then s.evt (Head.bus ch) 8 else s
      else s
    let s := match p.what with
      | .entry e =>
        if kind = .bit ∧ collide = true then
          let s := ((s.setTf e Ent.status 6 6 1).incSat (Reg.COLLIDE_CNT ch)).evt (Head.bus ch) 6
          if s.partnerPresent then s.twinMismatch e else s
        else s
      | _ => s
    let kept := (s.chan ch).pend.contains p
    let s := if kept = false then s
      else if p.what = .sync ∨ s.fld (Reg.FB_RETRY ch) 11 8 ≤ p.errs then s.failFrame ch p Fail.errLimit
      else s.setFrame ch p { p with errs := p.errs + 1 }
    if (s.chState ch = 3 ∧ kind = .ack ∧ dominant = false) ∨ exempt = true then s else s.tecUp ch

/-- `RECEIVE_ERROR` (R250, R254): `eight` where the standard raises REC by 8. A recessive res bit is a protocol exception
with PEX and a form error without. -/
def execReceiveError (ch : Nat) (kind : BusErr) (eight : Bool) (s : State) : Host.Outcome State Fault Refusal :=
  if s.chLive ch = false then .next s else
  let s := s.incSat (errReg ch kind)
  if kind = .res ∧ s.fld (Reg.FB_CTRL ch) 2 2 = 1 then .next (s.setCh ch 1)
  else .next ((s.setFld (Reg.FB_ERRCNT ch) 23 16 (min 255 (s.rec_ ch + if eight then 8 else 1))).confine ch)

/-- `ROUND_CUTOFF` (R266): at a beat offset, the pending frames of a channel that can no longer end in time. -/
def State.roundCutoff (s : State) (ch ofs : Nat) : State :=
  let now := s.beat * 250000 + ofs
  (s.chan ch).pend.foldl (fun s p => if s.mayStart ch p now then s else s.failFrame ch p Fail.cutoff) s

/-- `ROUND_CUTOFF`. -/
def execRoundCutoff (ch ofs : Nat) (s : State) : Host.Outcome State Fault Refusal := .next ((s.advanceTo ofs).roundCutoff ch ofs)

/-- `ALONE_DETECT` (R267). -/
def execAloneDetect (ch : Nat) (s : State) : Host.Outcome State Fault Refusal :=
  if s.busOn ch ∧ s.fld (Reg.FB_RETRY ch) 23 16 ≤ (s.rg (Reg.ALONE_RUN ch)).toNat then .next (s.evt (Head.bus ch) 8) else .next s

/-- `BUS_INTEGRATION_DONE` (R254); after a protocol exception the counters decide between active and passive. -/
def execBusIntegrationDone (ch : Nat) (s : State) : Host.Outcome State Fault Refusal :=
  if s.busOn ch ∧ s.chState ch = 1 then .next ((s.setCh ch 2).confine ch) else .next s

/-- `BUS_RECOVERY_DONE` (R254). -/
def execBusRecoveryDone (ch : Nat) (s : State) : Host.Outcome State Fault Refusal :=
  if s.busOn ch ∧ s.chState ch = 5 then .next (((s.setRg (Reg.FB_ERRCNT ch) 0).setCh ch 2).evt (Head.bus ch) 3) else .next s

/-- `TXD_TIMEOUT` (R251): the integrated transceiver releases the bus until the controller sends anew. -/
def execTxdTimeout (ch : Nat) (s : State) : Host.Outcome State Fault Refusal :=
  if s.busOn ch ∧ s.fld (Reg.FB_CTRL ch) 4 3 = 0 ∧ s.opMode ch ≠ 2 then
    .next ((s.modChan ch (fun c => { c with timedOut := true })).emit (.busReleased ch))
  else .next s

/-- `SLOT_DUE` (R264, R270): a TX slot's frame becomes pending; an entry without data, or muted, is skipped. In STANDBY the
lamp check may withhold it for a listen-only test (R405). -/
def State.slotDue (s : State) (ch round idx : Nat) (listenOnly : Bool) : State :=
  match s.roundRec ch round, s.bus.rounds.find? (fun r => r.ch == ch && r.round == round) with
  | some r, some o =>
    let (e, j, ns) := cfgSlot s.bus.cfg (r.first + idx)
    if idx < r.slots ∧ o.start + j = s.beat then
      let s := s.advanceTo ns
      if s.entryValid e ∧ s.entryTx e ∧ s.entrySched e ∧ s.tf e Ent.status 8 8 = 1 ∧ s.bus.muted.contains e = false then
        s.enqueue ch { TxFrame.new (.entry e) o.start (o.start + o.len - 1) round with withheld := listenOnly && s.blkState Head.pair == 3 }
      else s
    else s
  | _, _ => s

/-- `SLOT_DUE`. -/
def execSlotDue (ch round idx : Nat) (listenOnly : Bool) (s : State) : Host.Outcome State Fault Refusal := .next (s.slotDue ch round idx listenOnly)

/-- `FOLLOW_DUE` (R272): at 30 µs of the first beat of the channel's rounds, after a SYNC that has not failed. -/
def execFollowDue (ch : Nat) (s : State) : Host.Outcome State Fault Refusal :=
  match s.bus.rounds.find? (fun r => r.ch == ch && r.start == s.beat) with
  | some o =>
    let s := s.advanceTo 30000
    if s.fld (Reg.SYNC_CFG ch) 1 1 = 1 ∧ (s.chan ch).syncFailed = false ∧ (s.chan ch).lastSync = some s.beat then
      .next (s.enqueue ch (TxFrame.new .follow o.start (o.start + o.len - 1) o.round))
    else .next s
  | none => .next s

/-! ### What the beat does -/

/-- Every posted entry takes SHADOW into PRIMARY (R262); a frame already on the bus keeps what its attempt began with. -/
def State.takePosted (s : State) : State :=
  (s.validEntries.filter (fun e => s.entryTx e && s.tf e Ent.status 4 4 == 1)).foldl (fun s e =>
    let old := s.tbytes e Ent.primary 64
    let now := s.beat * 250000
    let s := s.modChan (s.entryCh e) (fun c => { c with pend := c.pend.map (fun p => if p.what = .entry e ∧ p.older = none then { p with older := some (now, old) } else p) })
    let s := (s.putTbytes e Ent.primary (s.tbytes e Ent.shadow 64)).modTally (fun m => m.putNat (256 * e + Ent.dataNs) 8 now)
    (s.setTf e Ent.status 8 8 1).setTf e Ent.status 4 4 0) s

/-- A byte range of an entry's data is posted (R262). -/
def State.postTally (s : State) (e ofs : Nat) (bs : List Byte) : State :=
  let b := bs.take (64 - ofs)
  let s := (s.putTbytes e (Ent.shadow + ofs) b).setTf e Ent.status 4 4 1
  s.foldMem 15 s.bus.tally (256 * e + Ent.shadow + ofs) b.length

/-- The Q copy records of a slot post from its committed Q section (R262). -/
def State.postCopies (s : State) (p : Nat) (q : List Byte) : State :=
  ((cfgCopies s.bus.cfg).filter (fun c => c.dir == 1 && c.prog == p)).foldl (fun s c => s.postTally c.entry (c.eofs - 0x20) (bytesAt q c.sofs c.len)) s

/-- The missed slots of a round that ends (R270). -/
def State.endRound (s : State) (o : OpenRound) : State :=
  match s.roundRec o.ch o.round with
  | none => s
  | some r =>
    let es := (List.range r.slots).map (fun k => (cfgSlot s.bus.cfg (r.first + k)).1)
    let missed := es.filter (fun e => !s.entryTx e && decide (s.bus.tally.nat (256 * e + Ent.rxNs) 8 < o.start * 250000))
    let s := (s.chan o.ch).pend.foldl (fun s p => if p.round = o.round ∧ p.opened = o.start then s.failFrame o.ch p Fail.cutoff else s) s
    let s := missed.foldl (fun s e => (s.setTw e Ent.failCount (satInc (s.tw e Ent.failCount))).incSat (Reg.MISS_TOTAL o.ch)) s
    let s := s.setRg (Reg.RND_MISS o.ch o.round) (BitVec.ofNat 32 missed.length)
    let s := { s with bus := { s.bus with muted := s.bus.muted.filter (fun e => !es.contains e) } }
    if missed = [] then s else s.evt (Head.bus o.ch) 10

/-- The bus at a boundary while FRAME is RUNNING (R262, R269, R270, R272): posted entries, rounds that end, rounds that
begin, SYNC. -/
def State.busBoundary (s : State) : State :=
  let s := s.takePosted
  let b := s.beat
  let done := s.bus.rounds.filter (fun o => decide (o.start + o.len ≤ b))
  let s := done.foldl State.endRound { s with bus := { s.bus with rounds := s.bus.rounds.filter (fun o => decide (b < o.start + o.len)) } }
  let begins := (cfgRounds s.bus.cfg).filter (fun r => s.image r.prog != [] && schedAt (s.image r.prog) b && s.busOn r.ch)
  let s := begins.foldl (fun s r =>
    let s := s.setRg (Reg.RND_LAST_BEAT r.ch r.round) (BitVec.ofNat 32 b)
    { s with bus := { s.bus with rounds := s.bus.rounds ++ [OpenRound.mk r.ch r.round b (Image.k (s.image r.prog))] } }) s
  (List.range 8).foldl (fun s ch =>
    match begins.find? (fun r => r.ch == ch) with
    | none => s
    | some r =>
      let s := s.modChan ch (fun c => { c with syncFailed := false })
      if s.fld (Reg.SYNC_CFG ch) 0 0 = 1 ∧ s.opMode ch ≠ 1 ∧ s.sendsOutputs then
        (s.modChan ch (fun c => { c with lastSync := some b })).enqueue ch (TxFrame.new .sync b (b + Image.k (s.image r.prog) - 1) r.round)
      else s) s

/-- The bus where no process work is done any more (R52): no round and no pending frame. -/
def State.busStop (s : State) : State :=
  { s with bus := { s.bus with rounds := [], muted := [], chans := s.bus.chans.map (fun c => { c with pend := [] }) } }

/-- The queued HOST_CTRL writes are applied (R261): ACK of a word before its HOLD, so that data its release takes are NEW. -/
def State.applyHostCtrl (s : State) : State :=
  (s.bus.winQ.take 256).foldl (fun s x =>
    let e := x.1
    let hold := wbits x.2 0 0
    let s := s.setTw e Ent.hostCtrl (BitVec.ofNat 32 hold)
    let s := s.setTf e Ent.status 2 2 hold
    let s := if wbits x.2 1 1 = 1 then s.setTf e Ent.status 1 0 0 else s
    let s := if hold = 0 then s.takeShadow e else s
    (s.foldMem 2 s.bus.tally (256 * e + Ent.hostCtrl) 4).foldMem 2 s.bus.tally (256 * e + Ent.status) 4) { s with bus := { s.bus with winQ := s.bus.winQ.drop 256 } }

/-- Bytes of an entry as the latch reads them: under the Tally hold STATUS shows HELD (R55, R259). -/
def State.latchBytes (s : State) (e o n : Nat) : List Byte :=
  let status := setBits (s.tw e Ent.status).toNat 2 2 1
  (s.bus.tally.getN (256 * e + o) n).mapIdx (fun k b => if 8 ≤ o + k ∧ o + k < 12 then BitVec.ofNat 8 (status / 256 ^ (o + k - 8)) else b)

/-- The latch of a program that begins a cycle: its copy records, then NEW and LOST of its rounds' entries (R260). -/
def State.latchCopies (s : State) (p : Nat) : State :=
  ((cfgCopies s.bus.cfg).filter (fun c => c.dir == 0 && c.prog == p)).foldl (fun s c =>
    s.putData (s.secBase p 0 + c.sofs) (s.latchBytes c.entry c.eofs c.len)) s

/-- NEW and LOST of the entries of a program's rounds are cleared (R260). -/
def State.clearNew (s : State) (p : Nat) : State :=
  ((cfgRounds s.bus.cfg).filter (fun r => r.prog == p)).foldl (fun s r =>
    (List.range r.slots).foldl (fun s k =>
      let e := (cfgSlot s.bus.cfg (r.first + k)).1
      if s.entryTx e then s else
        let s := s.setTf e Ent.status 1 0 0
        s.foldMem 2 s.bus.tally (256 * e + Ent.status) 4) s) s

/-- TALLY_WRITE data accepted in the preceding beat are posted (R263). -/
def State.postWrites (s : State) : State :=
  let due := s.bus.writes.filter (fun w => decide (w.accepted < s.beat))
  due.foldl (fun s w => s.postTally w.entry 0 w.data) { s with bus := { s.bus with writes := s.bus.writes.filter (fun w => decide (s.beat ≤ w.accepted)) } }

/-- TALLY_READ requests are answered (R282). -/
def State.runTallyReads (s : State) : State :=
  s.bus.reads.foldl (fun t x => t.opOk x.1 (leBytes 8 s.beat ++ s.bus.tally.getN (256 * x.2.1) (256 * x.2.2))) { s with bus := { s.bus with reads := [] } }

/-- A warm start keeps the Tally but for the holds (R280); CATCH_HEAD is not kept (R13), so the catch-all ring is empty. -/
def State.busWarm (s : State) : State :=
  let s := s.validEntries.foldl (fun s e => ((s.setTf e Ent.hostCtrl 0 0 0).setTf e Ent.status 2 2 0).takeShadow e) s
  let s := { s with bus := { s.bus with winQ := [], writes := [], reads := [], ring := [], rounds := [], muted := [], mismatch := [], chans := List.replicate 8 BusChan.reset } }
  (List.range 8).foldl (fun s ch => if s.busOn ch then (s.setRg (Reg.FB_ERRCNT ch) 0).setCh ch 1 else s) s

/-! ### Host access -/

/-- A refused write to the Tally window (R27, R261). -/
def State.tallyRefuse (s : State) (addr code : Nat) (value : Word) : State :=
  (s.incSat (Reg.BUS_WINQ_REFUSED 0)).err (Head.bus 0) addr true code value

/-- A host write to the Tally window (R261). -/
def State.tallyWindow (s : State) (addr : Nat) (value : Word) : State :=
  let a := addr - 0x00400000
  let e := a / 256
  if s.owns = false then s.tallyRefuse addr Code.notOwner value
  else if ¬(0x00400000 ≤ addr ∧ e < 4096 ∧ a % 256 = Ent.hostCtrl ∧ s.entryValid e = true) then s.tallyRefuse addr Code.badArg value
  else if 256 ≤ s.bus.winQ.length then s.tallyRefuse addr Code.busy value
  else ({ s with bus := { s.bus with winQ := s.bus.winQ ++ [(e, value)] } }).noteWindow addr value

/-- CLR_CNT (R284): the counters of 0x060 to 0x0BC but BUSOFF_CNT. -/
def State.clrCnt (s : State) (ch : Nat) : State :=
  ((List.range 24).filter (fun k => k != 15 && k != 18 && k != 22)).foldl (fun s k => s.setRg (Reg.BIT_ERR_CNT ch + 4 * k) 0) s

/-- A write of ENABLE to a channel (R253, R254, R528): the code it is refused with. -/
def State.busEnableRefused (s : State) (ch : Nat) : Option Nat :=
  if s.fld (Reg.FB_CTRL ch) 4 3 = 0 ∧ s.fld Reg.PWR_STATUS 1 1 = 0 then some Code.state
  else if timingOk (s.rg (Reg.FB_BITTIME ch)) (s.rg (Reg.FB_DBITTIME ch)) (s.rg (Reg.FB_TDC ch)) then none else some Code.badArg

/-- The channel starts bus integration, or stops (R254). -/
def State.busEnable (s : State) (ch : Nat) (on : Bool) : State :=
  let s := s.modChan ch (fun _ => BusChan.reset)
  if on then (if s.blkFault (Head.bus ch) then s else (s.setRg (Reg.FB_ERRCNT ch) 0).setCh ch 1) else s.setCh ch 0

/-- A channel number of a request. -/
def chArg (p : List Byte) : Nat × Bool := (0, natAt p 0 1 < 8)

/-- `BUS_STATUS`. -/
def execBusStatus (req : OctahReq) (s : State) : Host.Outcome State Fault Refusal :=
  .next (octah { opcode := 0x0500, owner := false, len := fun n => n == 4
                 args := fun _ p => firstBad [chArg p, (1, zeroAt p 1 3)], legal := always
                 run := fun s req => s.opOk req.tag (leBytes 8 s.beat ++
                   (List.range 32).flatMap (fun k => leBytes 4 (s.rg (Reg.FB_CTRL (natAt req.pl 0 1) + 4 * k)).toNat)) } req s)

/-- `TALLY_READ`: it waits for P2. -/
def execTallyRead (req : OctahReq) (s : State) : Host.Outcome State Fault Refusal :=
  .next (octah { opcode := 0x0501, owner := false, len := fun n => n == 4
                 args := fun _ p => firstBad [(0, natAt p 0 2 < 4096), (2, 1 ≤ natAt p 2 2 && natAt p 2 2 ≤ 15 && natAt p 0 2 + natAt p 2 2 ≤ 4096)]
                 legal := always
                 run := fun s req => { s with bus := { s.bus with reads := s.bus.reads ++ [(req.tag, natAt req.pl 0 2, natAt req.pl 2 2)] } } } req s)

/-- `TALLY_WRITE` (R263): it takes effect two boundaries on. -/
def execTallyWrite (req : OctahReq) (s : State) : Host.Outcome State Fault Refusal :=
  .next (octah { opcode := 0x0502, owner := true, len := fun n => n == 68
                 args := fun s p =>
                   let e := natAt p 0 2
                   firstBad [(0, e < 4096 && s.entryValid e && s.entryTx e && s.tf e 4 6 6 == 1), (2, zeroAt p 2 2)]
                 legal := always
                 run := fun s req =>
                   let s := s.opStart req.tag
                   let s := { s with bus := { s.bus with writes := s.bus.writes ++ [TallyPut.mk s.beat (natAt req.pl 0 2) (bytesAt req.pl 4 64)] } }
                   s.opDue (s.beat + 2) req.tag [] } req s)

/-- `CATCH_READ`: the oldest records leave the ring. -/
def execCatchRead (req : OctahReq) (s : State) : Host.Outcome State Fault Refusal :=
  .next (octah { opcode := 0x0503, owner := false, len := fun n => n == 4
                 args := fun _ p => firstBad [(0, 1 ≤ natAt p 0 2 && natAt p 0 2 ≤ 48), (2, zeroAt p 2 2)], legal := always
                 run := fun s req =>
                   let n := min (natAt req.pl 0 2) s.bus.ring.length
                   let out := s.bus.ring.take n
                   let s := s.opStart req.tag
                   let s := { s with bus := { s.bus with ring := s.bus.ring.drop n } }
                   (s.setRg (Reg.CATCH_HEAD 0) (BitVec.ofNat 32 s.bus.ring.length)).opOk req.tag (leBytes 2 n ++ leBytes 2 0 ++ out.flatten) } req s)

/-- `BUS_RECOVER` (R254). -/
def execBusRecover (req : OctahReq) (s : State) : Host.Outcome State Fault Refusal :=
  .next (octah { opcode := 0x0504, owner := false, len := fun n => n == 4
                 args := fun _ p => firstBad [chArg p, (1, zeroAt p 1 3)]
                 legal := fun s req => let ch := natAt req.pl 0 1
                                       if s.chState ch = 4 ∧ s.fld (Reg.FB_CTRL ch) 0 0 = 0 then none else some (.state (Head.bus ch))
                 run := fun s req => ((s.opStart req.tag).setCh (natAt req.pl 0 1) 5).opOk req.tag [] } req s)

/-- `SCHED_READ`. -/
def execSchedRead (req : OctahReq) (s : State) : Host.Outcome State Fault Refusal :=
  .next (octah { opcode := 0x0505, owner := false, len := fun n => n == 4
                 args := fun s p => firstBad [chArg p, (1, (s.roundRec (natAt p 0 1) (natAt p 1 1)).isSome), (2, zeroAt p 2 2)], legal := always
                 run := fun s req =>
                   match s.roundRec (natAt req.pl 0 1) (natAt req.pl 1 1) with
                   | some r => s.opOk req.tag (r.bytes ++ bytesAt s.bus.cfg ((cfgArr s.bus.cfg 0x18).2 + 8 * r.first) (8 * r.slots))
                   | none => s } req s)

/-- `TALLY_FIND`. -/
def execTallyFind (req : OctahReq) (s : State) : Host.Outcome State Fault Refusal :=
  .next (octah { opcode := 0x0506, owner := false, len := fun n => n == 8
                 args := fun _ p => firstBad [chArg p, (1, natAt p 1 1 < 2), (2, zeroAt p 2 2)], legal := always
                 run := fun s req => s.opOk req.tag
                   (leBytes 2 ((s.findEntry (natAt req.pl 0 1) (bit (natAt req.pl 1 1) 0) (natAt req.pl 4 4)).getD 0xFFFF) ++ leBytes 2 0) } req s)

end Sys2Proof.Machine
end

