-- ==== Sys2Proof/Machine/Loop.lean ====
section
/-!
DEFINITION. Loop evaluation (R181 to R198): the control law, the stages with one exponent each, the modes, measurement and
output, exact in rational arithmetic with one rounding where the manual gives one.
-/
namespace Sys2Proof.Machine

/-! ### The loop block (R199) -/

/-- A word of loop `n`'s block. -/
def State.lw (s : State) (n o : Nat) : Word := s.loop.blocks.word (256 * n + o)
/-- A word of a block set. -/
def State.setLw (s : State) (n o : Nat) (w : Word) : State :=
  ({ s with loop := { s.loop with blocks := s.loop.blocks.putWord (256 * n + o) w } }).foldWord 1 (64 * n + o / 4) w
/-- A bit field of a block word. -/
def State.lbits (s : State) (n o hi lo : Nat) : Nat := wbits (s.lw n o) hi lo
/-- A bit of CFG. -/
def State.lcfg (s : State) (n k : Nat) : Bool := s.lbits n 0 k k == 1
/-- A REAL32 word of a block as an exact value. -/
def State.lr (s : State) (n o : Nat) : Rat := w2r (s.lw n o)
/-- MODE_SEL -/ def State.modeSel (s : State) (n : Nat) : Nat := s.lbits n 0x90 2 0
/-- MODE_ACT -/ def State.modeAct (s : State) (n : Nat) : Nat := s.lbits n 0x90 6 4
/-- A field of MODE set. -/
def State.setMode_ (s : State) (n hi lo x : Nat) : State := s.setLw n 0x90 (wset (s.lw n 0x90) hi lo x)
/-- A word of loop `n`'s L record as the programs' last commits left it (R67, R196). -/
def State.lrec (s : State) (n k : Nat) : Word := s.scan.lCommit.word (lArea + 128 * n + 4 * k)
/-- A bit of a map register, one bit a loop, set to a value. -/
def State.setMapBit (s : State) (reg : Nat → Nat) (n : Nat) (b : Bool) : State := s.setFld (reg (n / 32)) (n % 32) (n % 32) (b2n b)

/-- The loop has a block: L is not zero. -/
def State.loopExists (s : State) (n : Nat) : Bool := s.lbits n 4 11 0 != 0
/-- The engine of a loop. -/
def State.loopEngine (s : State) (n : Nat) : Nat := s.lbits n 4 26 24
/-- The engine of a loop has stopped (R198). -/
def State.loopDead (s : State) (n : Nat) : Bool := bit (s.rg Reg.LE_FAULT_MAP).toNat (s.loopEngine n)
/-- The loop is due in a beat (R65). -/
def State.loopDue (s : State) (n b : Nat) : Bool :=
  s.loopExists n && (let l := s.lbits n 4 11 0; (b + l - s.lbits n 4 23 12) % l == 0)

/-- LOOP BLK_STATUS brought up to date. -/
def State.loopRefresh (s : State) : State :=
  let on := (List.range 1024).any (fun n => s.modeSel n != 0)
  (s.setBlkState Head.loop (if s.fld Reg.LE_FAULT_MAP 7 0 ≠ 0 then 2 else if on then 1 else 0)).setReady Head.loop (s.enabled Head.loop && on)

/-! ### Coefficients (R182) -/

/-- Ts in REAL64. -/
def loopTs (l : Nat) : Nat := f64.div (f64.ofInt (l * 250)) (f64.ofInt 1000000)

/-- The derived words of a block: each in REAL64 arithmetic, rounded once to REAL32. -/
def State.derive (s : State) (n : Nat) : State :=
  let r (o : Nat) : Nat := f32.conv f64 (s.lw n o).toNat
  let ts := loopTs (s.lbits n 4 11 0)
  let out (o v : Nat) (s : State) : State := s.setLw n o (BitVec.ofNat 32 (f64.conv f32 v))
  let den := f64.add (r 0x10) (f64.mul (r 0x14) ts)
  let td0 := f64.eq (r 0x10) 0
  let alpha := if td0 then 0 else f64.div (r 0x10) den
  let beta := if td0 then 0 else f64.div (f64.mul (f64.mul (r 0x08) (r 0x10)) (r 0x14)) den
  out 0x8C (f64.mul (r 0x24) ts) (out 0x88 beta (out 0x84 alpha (out 0x80 (f64.mul (r 0x0C) ts) s)))

/-! ### Stages (R184 to R186) -/

/-- 2^e. -/
def pow2 (e : Int) : Rat := if 0 ≤ e then ((2 ^ e.toNat : Nat) : Rat) else 1 / ((2 ^ (-e).toNat : Nat) : Rat)

/-- The nearest integer, ties to even. -/
def ratRne (x : Rat) : Int :=
  let f := x.floor
  let d := x - f
  if d < 1 / 2 then f else if 1 / 2 < d then f + 1 else if f % 2 = 0 then f else f + 1

/-- The mantissa of a value at an exponent. -/
def mantissa (e : Int) (x : Rat) : Int := ratRne (x * pow2 (31 - e))

/-- Every member fits at an exponent (R185). -/
def stageFits (e : Int) (xs : List Rat) : Bool :=
  xs.all (fun x => decide (-(2 ^ 31) ≤ mantissa e x) && decide (mantissa e x ≤ 2 ^ 31 - 1))

/-- A stage of its members' exact values: exponent, mantissas, overflow (R185, R186). -/
def stagePack (xs : List Rat) : Int × List Int × Bool :=
  match (List.range 128).find? (fun (k : Nat) => stageFits ((k : Int) - 64) xs) with
  | some k => ((k : Int) - 64, xs.map (mantissa ((k : Int) - 64)), false)
  | none => (63, xs.map (fun x => satS 32 (mantissa 63 x)), true)

/-- The value of a stored member: its mantissa word and its exponent field. -/
def State.stageVal (s : State) (n mo elo : Nat) : Rat :=
  (sext 32 (s.lw n mo).toNat : Int) * pow2 (sext 8 (s.lbits n 0x9C (elo + 7) elo) - 31)

/-- A stage stored. -/
def State.putStage (s : State) (n elo : Nat) (mos : List Nat) (p : Int × List Int × Bool) : State :=
  let s := s.setLw n 0x9C (wset (s.lw n 0x9C) (elo + 7) elo (unsx 8 p.1))
  (mos.zip p.2.1).foldl (fun s x => s.setLw n x.1 (BitVec.ofNat 32 (unsx 32 x.2))) s

/-! ### Measurement and output (R193 to R195) -/

/-- The bytes of a field of an entry's data, in value order. -/
def refBytes (ref : Word) (data : List Byte) : List Byte :=
  let n := if wbits ref 20 18 ≤ 1 then 2 else 4
  let bs := bytesAt data (wbits ref 17 12) n
  if wbits ref 21 21 = 1 then bs.reverse else bs

/-- The exact value of a field, none where a REAL32 is not finite. -/
def refValue (ref : Word) (data : List Byte) : Option Rat :=
  let v := leNat (refBytes ref data)
  match wbits ref 20 18 with
  | 0 => some ((sext 16 v : Int) : Rat)
  | 1 => some ((v : Nat) : Rat)
  | 2 => some ((sext 32 v : Int) : Rat)
  | 3 => some ((v : Nat) : Rat)
  | _ => if f32.finite v then some (f32.toRat v) else none

/-- The bytes of a field that holds a value: an integer is rounded to nearest and saturated (R195). -/
def refPut (ref : Word) (x : Rat) : List Byte :=
  let i := ratRne x
  let clamp (lo hi : Int) : Int := if i < lo then lo else if hi < i then hi else i
  let bs := match wbits ref 20 18 with
    | 0 => leBytes 2 (unsx 16 (clamp (-32768) 32767))
    | 1 => leBytes 2 (clamp 0 65535).toNat
    | 2 => leBytes 4 (unsx 32 (clamp (-2147483648) 2147483647))
    | 3 => leBytes 4 (clamp 0 4294967295).toNat
    | _ => leBytes 4 (r2w x).toNat
  if wbits ref 21 21 = 1 then bs.reverse else bs

/-- The measurement of an evaluation, none where it is bad (R193, R194). -/
def State.measure (s : State) (n : Nat) : Option Word :=
  if s.lbits n 0 9 8 = 0 then
    (if wbits (s.lrec n 1) 0 0 = 1 ∧ wFinite (s.lrec n 0) = true then some (s.lrec n 0) else none)
  else
    match s.loop.inputs.find? (fun x => x.1 == n) with
    | none => none
    | some (_, data, rx) =>
      let tmo := s.lbits n 0x50 11 0
      let stale := tmo != 0 && (match rx with
        | none => true
        | some b => decide (b + tmo < s.beat))
      match refValue (s.lw n 0x44) data with
      | none => none
      | some raw =>
        let w := r2w (s.lr n 0x48 * raw + s.lr n 0x4C)
        if stale ∨ wFinite w = false then none else some w

/-! ### Modes and setpoints (R187 to R193) -/

/-- The downstream loop (R188): the lowest-numbered loop whose CAS_SRC is LOOP and whose CAS_REF names this one. -/
def State.downstream (s : State) (n : Nat) : Option Nat :=
  (List.range 1024).find? (fun j => s.loopExists j && s.lbits j 0 11 10 == 1 && s.lbits j 0x40 15 0 == n)

/-- The effective mode of an evaluation with its output target: the first row of R188 that matches. -/
inductive LoopAct where
  | off
  | track (target : Word)
  | down (target : Rat)
  | man
  | held
  | law (mode : Nat)
deriving DecidableEq, Repr

/-- The effective mode (R188); `bad` says whether the measurement is bad. -/
def State.loopAct (s : State) (n : Nat) (bad : Bool) : LoopAct :=
  if s.modeSel n = 0 then .off
  else if s.lcfg n 4 && wbits (s.lrec n 4) 0 0 == 1 then .track (s.lrec n 3)
  else if s.modeSel n = 1 then .man
  else
    match (if s.lcfg n 5 then s.downstream n else none) with
    | some j =>
      if wbits (s.loop.prev.word (256 * j + 0x90)) 6 4 ≠ 3 then
        .down ((w2r (s.loop.prev.word (256 * j + 0xB4)) - s.lr j 0x3C) / s.lr j 0x38)
      else if bad then (if s.lcfg n 6 then .man else .held) else .law (s.modeSel n)
    | none => if bad then (if s.lcfg n 6 then .man else .held) else .law (s.modeSel n)

/-- A word clamped between two words by value. -/
def clampW (lo hi x : Word) : Word := if w2r x < w2r lo then lo else if w2r hi < w2r x then hi else x

/-- The setpoint before its clamp, by mode (R189): AUTO's, CASCADE's, or the measurement's where it tracks. -/
def State.rawSetpoint (s : State) (n mode : Nat) (y : Option Word) : Word :=
  let auto := if s.lcfg n 2 then s.lrec n 2 else s.lw n 0x28
  if mode = 2 then auto
  else if mode = 3 then
    let src := if s.lbits n 0 11 10 = 1 then s.loop.prev.word (256 * s.lbits n 0x40 15 0 + 0xBC)
      else s.planValue s.loop.snap (s.lbits n 0x40 15 0) 0
    if wFinite src then r2w (s.lr n 0x38 * w2r src + s.lr n 0x3C) else src
  else if s.lcfg n 3 then y.getD (s.lw n 0xB4)
  else auto

/-- The flag bits of FLAGS (R199). -/
structure LoopFlags where
  satHi : Bool
  satLo : Bool
  rateLim : Bool
  iHeld : Bool
  badPv : Bool
  spBad : Bool
  downTrack : Bool
  ovf : List Bool
deriving DecidableEq, Repr

/-- FLAGS as a word. -/
def LoopFlags.word (f : LoopFlags) : Nat :=
  b2n f.satHi + 2 * b2n f.satLo + 4 * b2n f.rateLim + 8 * b2n f.iHeld + 16 * b2n f.badPv + 32 * b2n f.spBad + 64 * b2n f.downTrack +
    128 * ((f.ovf.mapIdx (fun k b => 2 ^ k * b2n b)).sum)

/-- No flag. -/
def LoopFlags.none_ : LoopFlags :=
  { satHi := false, satLo := false, rateLim := false, iHeld := false, badPv := false, spBad := false, downTrack := false, ovf := [false, false, false, false] }

/-- What an evaluation leaves: setpoint, output, and the exact values of P, I, D, h and v. -/
structure LoopOut where
  sp : Word
  u : Word
  p : Rat
  i : Rat
  d : Rat
  h : Rat
  v : Rat
  flags : LoopFlags
deriving DecidableEq, Repr

/-- P, D and h of an evaluation with a good measurement (R181, R191): `fresh` where h and D_prev do not stand. -/
def State.loopPD (s : State) (n : Nat) (sp y : Rat) (fresh : Bool) : Rat × Rat × Rat :=
  let sg : Rat := if s.lcfg n 0 then -1 else 1
  let e := sp - y
  let x := if s.lcfg n 1 then e else y
  let h := if fresh then x else s.stageVal n 0xAC 16
  let dp := if fresh then 0 else s.stageVal n 0xA8 16
  let p := sg * s.lr n 0x08 * (s.lr n 0x18 * sp - y)
  let d := if s.lcfg n 1 then s.lr n 0x84 * dp + sg * s.lr n 0x88 * (x - h) else s.lr n 0x84 * dp - sg * s.lr n 0x88 * (x - h)
  (p, d, x)

/-- The evaluation in MAN and TRACK, and a first step (R190, R191): u is a target clamped, and I absorbs the rest. -/
def State.loopTarget (s : State) (n : Nat) (sp : Word) (y : Option Word) (target : Sum Word Rat) (f : LoopFlags) : LoopOut :=
  let fresh := !s.loop.warm.contains n
  let (p, d, h) : Rat × Rat × Rat :=
    match y with
    | some y => s.loopPD n (w2r sp) (w2r y) fresh
    | none => (s.stageVal n 0xA0 0, s.stageVal n 0xA8 16, s.stageVal n 0xAC 16)
  let lo := s.lw n 0x1C
  let hi := s.lw n 0x20
  let (u, satHi, satLo) : Word × Bool × Bool :=
    match target with
    | .inl w => if wFinite w then (clampW lo hi w, decide (w2r hi < w2r w), decide (w2r w < w2r lo)) else (s.lw n 0xBC, false, false)
    | .inr x => if x < w2r lo then (lo, false, true) else if w2r hi < x then (hi, true, false) else (r2w x, false, false)
  { sp := sp, u := u, p := p, i := w2r u - p - d, d := d, h := h, v := w2r u, flags := { f with satHi := satHi, satLo := satLo } }

/-- The control law (R181). -/
def State.loopLaw (s : State) (n : Nat) (sp y : Word) (f : LoopFlags) : LoopOut :=
  let (p, d, h) := s.loopPD n (w2r sp) (w2r y) (!s.loop.warm.contains n)
  let sg : Rat := if s.lcfg n 0 then -1 else 1
  let umin := s.lr n 0x1C
  let umax := s.lr n 0x20
  let ip := s.stageVal n 0xA4 8
  let ic := ip + sg * s.lr n 0x80 * (w2r sp - w2r y)
  let vc := p + ic + d
  let inside := decide (umin ≤ vc) && decide (vc ≤ umax)
  let i := if inside then ic else ip
  let v := p + i + d
  let u0 := s.lr n 0xBC
  let st := s.lr n 0x8C
  let ur := if 0 < s.lr n 0x24 then (if v < u0 - st then u0 - st else if u0 + st < v then u0 + st else v) else v
  let u := if ur < umin then s.lw n 0x1C else if umax < ur then s.lw n 0x20 else r2w ur
  { sp := sp, u := u, p := p, i := i, d := d, h := h, v := v,
    flags := { f with satHi := decide (umax < ur), satLo := decide (ur < umin), rateLim := ur != v, iHeld := !inside } }

/-- The stages stored, with their overflow flags, counters and event (R185, R186). -/
def State.putStages (s : State) (n : Nat) (o : LoopOut) : State × LoopFlags :=
  let ps := [(0, [0xA0], stagePack [o.p]), (8, [0xA4], stagePack [o.i]), (16, [0xA8, 0xAC], stagePack [o.d, o.h]), (24, [0xB0], stagePack [o.v])]
  let s := ps.foldl (fun s x => s.putStage n x.1 x.2.1 x.2.2) s
  let ov := ps.map (fun x => x.2.2.2.2)
  let s := (ov.mapIdx (fun k b => (k, b))).foldl (fun s x =>
    if x.2 then
      ((((s.setLw n 0xD0 (satInc (s.lw n 0xD0))).incSat Reg.OVF_TOTAL).setRg Reg.OVF_LAST (BitVec.ofNat 32 (n + 4096 * x.1))).setMapBit Reg.OVF_MAP n true).evt
        Head.loop 2
    else s) s
  (s, { o.flags with ovf := ov })

/-- What every evaluation leaves in the block: FLAGS, the sticky ones, MODE_ACT, the words of the last evaluation. -/
def State.loopDone (s : State) (n act : Nat) (y : Option Word) (f : LoopFlags) (sp u : Word) : State :=
  let s := if s.modeAct n ≠ act then (s.setMode_ n 6 4 act).evt Head.loop 1 else s
  let w : Word := BitVec.ofNat 32 f.word
  let s := (s.setLw n 0x94 w).setLw n 0x98 (s.lw n 0x98 ||| w)
  let s := ((s.setLw n 0xB4 sp).setLw n 0xB8 (y.getD (s.lw n 0xB8))).setLw n 0xBC u
  let s := (s.setLw n 0xC0 (BitVec.ofNat 32 s.beat)).setLw n 0xC4 (BitVec.ofNat 32 (s.beat / 2 ^ 32))
  let s := (s.setLw n 0xC8 (s.lw n 0xC8 + 2)).setLw n 0xCC (s.lw n 0xCC + 1)
  let s := (s.setMapBit Reg.SAT_MAP n (f.satHi || f.satLo)).setMapBit Reg.BADPV_MAP n f.badPv
  { s with loop := { s.loop with evaluated := n :: s.loop.evaluated } }

/-- A bad measurement counts; its event marks the change from good to bad (R193). -/
def State.noteBad (s : State) (n : Nat) (bad : Bool) : State :=
  if bad then
    let s := (s.setLw n 0xD4 (satInc (s.lw n 0xD4))).incSat Reg.BADPV_TOTAL
    if s.loop.bad.contains n then s else ({ s with loop := { s.loop with bad := n :: s.loop.bad } }).evt Head.loop 3
  else { s with loop := { s.loop with bad := s.loop.bad.filter (· != n) } }

/-- Whether the last evaluation of a loop left h and D standing. -/
def State.setWarm (s : State) (n : Nat) (b : Bool) : State :=
  { s with loop := { s.loop with warm := if b then n :: s.loop.warm.filter (· != n) else s.loop.warm.filter (· != n) } }

/-- One evaluation of a loop (R181 to R193). -/
def State.evalLoop (s : State) (n : Nat) : State :=
  let y := s.measure n
  let bad := y.isNone
  let act := s.loopAct n bad
  if act = .off then
    ((if s.modeAct n ≠ 0 then (s.setMode_ n 6 4 0).evt Head.loop 1 else s).setWarm n false)
  else
  let s := s.noteBad n bad
  let f := { LoopFlags.none_ with badPv := bad }
  -- row 5 with BAD_PV_MAN: the operator's mode becomes MAN (R193)
  let s := if act = .man ∧ s.modeSel n ≠ 1 then ((s.setMode_ n 2 0 1).setLw n 0x2C (s.lw n 0xBC)).evt Head.loop 1 else s
  match act with
  | .off => s
  | .held => (s.loopDone n 5 none f (s.lw n 0xB4) (s.lw n 0xBC)).setWarm n false
  | _ =>
    let mode := match act with
      | .law m => m
      | .man => 1
      | _ => 4
    let sp0 := s.rawSetpoint n mode y
    let spBad := !wFinite sp0
    let sp := if spBad then s.lw n 0xB4 else clampW (s.lw n 0x30) (s.lw n 0x34) sp0
    let s := match y with
      | some y => if (mode = 1 ∨ mode = 4) ∧ s.lcfg n 3 = true then s.setLw n 0x28 y else s
      | none => s
    let f := { f with spBad := spBad, downTrack := match act with
      | .down _ => true
      | _ => false }
    let entering := (mode = 2 ∨ mode = 3) ∧ s.modeAct n ≠ mode
    let first := decide entering || s.lbits n 0x90 7 7 == 1
    let o := match act, y with
      | .law _, some y => if first then s.loopTarget n sp (some y) (.inl (s.lw n 0xBC)) f else s.loopLaw n sp y f
      | .track t, y => s.loopTarget n sp y (.inl t) f
      | .down t, y => s.loopTarget n sp y (.inr t) f
      | _, y => s.loopTarget n sp y (.inl (s.lw n 0x2C)) f
    let s := if mode = 2 ∨ mode = 3 then s.setMode_ n 7 7 0 else s
    let (s, f) := s.putStages n o
    (s.loopDone n mode y f o.sp o.u).setWarm n true

/-- What the loop engines do in P1 (R57, R65, R197): every due loop of a working engine but those that hang, in ascending
number; the peaks of loops evaluated. -/
def State.runLoops (s : State) (hung : List Nat) : State :=
  if s.enabled Head.loop = false then s else
  let due := (List.range 1024).filter (fun n => s.loopDue n s.beat && !s.loopDead n)
  let run := due.filter (fun n => !hung.contains n)
  let s := { s with loop := { s.loop with late := due.filter hung.contains } }
  let s := (List.range 8).foldl (fun s e => s.peak (Reg.LE_PEAK e) ((run.filter (fun n => s.loopEngine n == e)).length)) s
  (run.foldl State.evalLoop s).loopRefresh

/-- STATUS of the L record (R196). -/
def State.loopStatus (s : State) (n : Nat) : Nat :=
  let f := (s.lw n 0x94).toNat
  s.modeAct n + 8 * (f % 32) + 256 * b2n (bits f 10 7 != 0) + 512 * bits f 6 6

/-- The loop engines post in P2 (R58, R195, R196): the L records of the loops evaluated, and their Tally fields. -/
def State.postLoops (s : State) : State :=
  let s := s.loop.evaluated.reverse.foldl (fun s n =>
    let a := lArea + 128 * n + 64
    let s := s.putData a (leBytes 4 (s.lw n 0xBC).toNat ++ leBytes 4 (s.lw n 0xB4).toNat ++ leBytes 4 (s.lw n 0xB8).toNat ++
      leBytes 4 (s.loopStatus n) ++ leBytes 4 s.beat)
    if s.lcfg n 7 then
      let ref := s.lw n 0x54
      { s with loop := { s.loop with posted := s.loop.posted ++
          [(wbits ref 11 0, wbits ref 17 12, refPut ref (s.lr n 0x58 * s.lr n 0xBC + s.lr n 0x5C))] } }
    else s) s
  { s with loop := { s.loop with evaluated := [] } }

/-- `LOOP_LATE` (R66): loops not evaluated by 200 µs keep their output and state; the event and its count. -/
def execLoopLate (s : State) : Host.Outcome State Fault Refusal :=
  if s.loop.late = [] then .next s
  else .next ({ ((s.incSat Reg.LOOP_LATE_CNT).evt Head.frame 2) with loop := { s.loop with late := [] } })

end Sys2Proof.Machine
end

