-- ==== Sys2Proof/Machine/LoopOps.lean ====
section
/-!
DEFINITION. Host access to the loop blocks (R192, R199 to R205): window writes, the LOOP opcodes, and their application in
P0.
-/
namespace Sys2Proof.Machine

/-- A REAL32 word in a closed range. -/
def wIn (lo hi : Rat) (w : Word) : Bool := wFinite w && decide (lo ≤ w2r w) && decide (w2r w ≤ hi)

/-- MEAS_REF and OUT_REF: format, reserved bits, and the field inside 64 bytes. -/
def refOk (w : Word) : Bool :=
  decide (wbits w 20 18 ≤ 4) && wbits w 31 22 == 0 && decide (wbits w 17 12 + (if wbits w 20 18 ≤ 1 then 2 else 4) ≤ 64)

/-- The range of a host-writable word of a loop block (R199). -/
def loopWordOk (o : Nat) (w : Word) : Bool :=
  match o with
  | 0x00 => wbits w 31 12 == 0 && decide (wbits w 9 8 ≤ 1) && decide (wbits w 11 10 ≤ 2)
  | 0x08 => wIn 0 1000000 w
  | 0x0C => wIn 0 1000000 w
  | 0x10 => wIn 0 10000 w
  | 0x14 => wIn 1 1000 w
  | 0x18 => wIn 0 1 w
  | 0x24 => wIn 0 1000000000 w
  | 0x38 => wFinite w && decide (w2r w ≠ 0)
  | 0x40 => wbits w 31 16 == 0
  | 0x44 => refOk w
  | 0x50 => wbits w 31 12 == 0 && decide (wbits w 11 0 ≤ 4000)
  | 0x54 => refOk w
  | _ => wFinite w

/-- Words a window write may reach. -/
def loopWindowWord (o : Nat) : Bool := decide (0x08 ≤ o) && decide (o ≤ 0x3C) && o % 4 == 0
/-- Words marked structural. -/
def loopStructural (o : Nat) : Bool := o == 0 || (decide (0x40 ≤ o) && decide (o ≤ 0x5C))

/-- A block word after the words of a request. -/
def loopNew (s : State) (n : Nat) (ws : List (Nat × Word)) (o : Nat) : Word :=
  match ws.find? (fun x => x.1 == o) with
  | some x => x.2
  | none => s.lw n o

/-- The bytes a loop's output takes in the Tally: entry, offset in the data, length; none where it posts none. -/
def outField (cfg ref : Word) : Option (Nat × Nat × Nat) :=
  if wbits cfg 7 7 = 1 then some (wbits ref 11 0, wbits ref 17 12, if wbits ref 20 18 ≤ 1 then 2 else 4) else none

/-- Two fields share a byte. -/
def fieldsClash (a b : Nat × Nat × Nat) : Bool := a.1 == b.1 && decide (a.2.1 < b.2.1 + b.2.2) && decide (b.2.1 < a.2.1 + a.2.2)

/-- The output field lies in a transmitted entry and overlaps no other loop's field and no program output (R195). -/
def State.outRefOk (s : State) (n : Nat) (f : Nat × Nat × Nat) : Bool :=
  s.entryValid f.1 && s.entryTx f.1 && s.entrySched f.1 && s.tf f.1 4 6 6 == 0 &&
    (List.range 1024).all (fun k => k == n || !(s.loopExists k) || (match outField (s.lw k 0) (s.lw k 0x54) with
      | some g => !fieldsClash f g
      | none => true)) &&
    (cfgCopies s.bus.cfg).all (fun c => c.dir != 1 || !fieldsClash f (c.entry, c.eofs - 0x20, c.len))

/-- The relations of R199 and R195 on a block with the words of a request. -/
def State.loopRelations (s : State) (n : Nat) (ws : List (Nat × Word)) : Bool :=
  let v (o : Nat) := loopNew s n ws o
  decide (w2r (v 0x1C) ≤ w2r (v 0x20)) && decide (w2r (v 0x30) ≤ w2r (v 0x34)) &&
    (if wbits (v 0) 11 10 = 1 then decide (wbits (v 0x40) 15 0 < 1024) else if wbits (v 0) 11 10 = 2 then decide (wbits (v 0x40) 15 0 < 8192) else true) &&
    (match outField (v 0) (v 0x54) with
     | some f => s.outRefOk n f
     | none => true)

/-- The words applied to a block, with FIRST and the coefficients where R182 and R191 ask for them. -/
def State.loopSet (s : State) (n : Nat) (ws : List (Nat × Word)) : State :=
  let changed (o : Nat) : Bool := loopNew s n ws o != s.lw n o
  let law := changed 0x08 || changed 0x10 || changed 0x14 || changed 0x18 || (loopNew s n ws 0).toNat % 4 != (s.lw n 0).toNat % 4
  let coeff := changed 0x08 || changed 0x0C || changed 0x10 || changed 0x14 || changed 0x24
  let s := ws.foldl (fun s x => s.setLw n x.1 x.2) s
  let s := if law then s.setMode_ n 7 7 1 else s
  if coeff then s.derive n else s

/-- MODE_SEL set (R192): a change to MAN takes U as MAN_OUT unless the request names one. -/
def State.selectMode (s : State) (n mode : Nat) (man : Option Word) : State :=
  if s.modeSel n = mode then s else
  let s := if mode = 1 then s.setLw n 0x2C (man.getD (s.lw n 0xBC)) else (match man with
    | some w => s.setLw n 0x2C w
    | none => s)
  (s.setMode_ n 2 0 mode).loopRefresh

/-- WINQ_REFUSED of the LOOP block. -/
def State.loopRefused (s : State) : State := s.incSat Reg.WINQ_REFUSED

/-- The queued host changes are applied in P0 (R200): the window writes, then the changes accepted in earlier beats. -/
def State.applyLoopChanges (s : State) : State :=
  let ws := s.loop.winQ.take 64
  let s := { s with loop := { s.loop with winQ := s.loop.winQ.drop 64 } }
  let s := ws.foldl (fun s x =>
    let n := x.1 / 256
    let w := [(x.1 % 256, x.2)]
    if s.loopRelations n w then s.loopSet n w else s.loopRefused) s
  let due := s.loop.changes.filter (fun c => decide (c.1 < s.beat))
  let s := { s with loop := { s.loop with changes := s.loop.changes.filter (fun c => decide (s.beat ≤ c.1)) } }
  due.foldl (fun s c =>
    let s := match c.2.2 with
      | .mode n m man => s.selectMode n m man
      | .params n ws => if s.loopRelations n ws then s.loopSet n ws else s
    s.opOk c.2.1 []) s

/-- The loop input copies of the latch (R55, R193): of every loop measured from the Tally, its entry's data and the beat of
its last reception. -/
def State.latchLoops (s : State) : State :=
  let ns := (List.range 1024).filter (fun n => s.loopDue n s.beat && s.lbits n 0 9 8 == 1)
  let ins := ns.map (fun n =>
    let e := s.lbits n 0x44 11 0
    let rx := s.bus.tally.nat (256 * e + Ent.rxNs) 8
    (n, s.tbytes e Ent.primary 64, if rx = 0 ∧ s.tw e Ent.count = 0 then none else some (rx / 250000)))
  { s with loop := { s.loop with inputs := ins, snap := s.planSnap s.beat, prev := s.loop.blocks } }

/-- A refused write to the loop block window (R27, R200). -/
def State.loopRefuse (s : State) (addr code : Nat) (value : Word) : State := s.loopRefused.err Head.loop addr true code value

/-- A host write to the loop block window (R200, R202). -/
def State.loopWindow (s : State) (addr : Nat) (value : Word) : State :=
  let a := addr - 0x00500000
  if s.owns = false then s.loopRefuse addr Code.notOwner value
  else if ¬(0x00500000 ≤ addr ∧ a < 0x40000 ∧ loopWindowWord (a % 256) = true) then s.loopRefuse addr Code.badArg value
  else if s.fld Reg.LOOP_CTRL 0 0 = 0 then s.loopRefuse addr Code.state value
  else if loopWordOk (a % 256) value = false then s.loopRefuse addr Code.badArg value
  else if 64 ≤ s.loop.winQ.length then (s.loopRefuse addr Code.busy value).evt Head.loop 5
  else ({ s with loop := { s.loop with winQ := s.loop.winQ ++ [(a, value)] } }).noteWindow addr value

/-! ### Opcodes (R204) -/

/-- LOOP's state as a refusal. -/
def loopState : Refuse := .state Head.loop

/-- `LOOP_LIST`. -/
def execLoopList (req : OctahReq) (s : State) : Host.Outcome State Fault Refusal :=
  .next (octah { opcode := 0x0300, owner := false, len := fun n => n == 4
                 args := fun _ p => firstBad [(0, natAt p 0 2 < 1024), (2, 1 ≤ natAt p 2 2 && natAt p 2 2 ≤ 256 && natAt p 0 2 + natAt p 2 2 ≤ 1024)]
                 legal := always
                 run := fun s req => s.opOk req.tag (leBytes 8 s.beat ++ (List.range (natAt req.pl 2 2)).flatMap (fun k =>
                   let n := natAt req.pl 0 2 + k
                   leBytes 1 (s.modeSel n) ++ leBytes 1 (s.modeAct n) ++ leBytes 1 (s.lbits n 0x94 7 0) ++ leBytes 1 0 ++ leBytes 4 (s.lw n 0xBC).toNat)) } req s)

/-- `LOOP_READ`: it waits for P2. -/
def execLoopRead (req : OctahReq) (s : State) : Host.Outcome State Fault Refusal :=
  .next (octah { opcode := 0x0301, owner := false, len := fun n => n == 4
                 args := fun _ p => firstBad [(0, natAt p 0 2 < 1024), (2, zeroAt p 2 2)], legal := always
                 run := fun s req => { s with loop := { s.loop with reads := s.loop.reads ++ [(req.tag, natAt req.pl 0 2)] } } } req s)

/-- LOOP_READ requests are answered after the commit release of P2. -/
def State.runLoopReads (s : State) : State :=
  s.loop.reads.foldl (fun t x => t.opOk x.1 (leBytes 8 s.beat ++ s.loop.blocks.getN (256 * x.2) 256)) { s with loop := { s.loop with reads := [] } }

/-- A change of a loop block waits for P0 of the next beat. -/
def State.queueLoop (s : State) (tag : Nat) (c : LoopChange) : State :=
  let s := s.opStart tag
  { s with loop := { s.loop with changes := s.loop.changes ++ [(s.beat, tag, c)] } }

/-- `LOOP_MODE` (R192, R200, R204). -/
def execLoopMode (req : OctahReq) (s : State) : Host.Outcome State Fault Refusal :=
  .next (octah { opcode := 0x0302, owner := true, len := fun n => n == 8
                 args := fun s p =>
                   let n := natAt p 0 2
                   firstBad [(0, n < 1024), (2, natAt p 2 1 ≤ 3 && (natAt p 2 1 != 3 || s.lbits n 0 11 10 != 0)), (3, natAt p 3 1 ≤ 1),
                             (4, natAt p 3 1 == 0 || f32.finite (natAt p 4 4))]
                 legal := fun s req => if s.loopDead (natAt req.pl 0 2) then some loopState else none
                 run := fun s req => s.queueLoop req.tag
                   (.mode (natAt req.pl 0 2) (natAt req.pl 2 1) (if natAt req.pl 3 1 = 1 then some (BitVec.ofNat 32 (natAt req.pl 4 4)) else none)) } req s)

/-- The words of a LOOP_PARAM_SET: offsets in ascending mask bit order with their values. -/
def paramWords (p : List Byte) : List (Nat × Word) :=
  ((List.range 32).filter (fun b => bit (natAt p 4 4) b)).mapIdx (fun k b => (4 * b, BitVec.ofNat 32 (natAt p (8 + 4 * k) 4)))

/-- `LOOP_PARAM_SET` (R195, R200, R204). -/
def execLoopParamSet (req : OctahReq) (s : State) : Host.Outcome State Fault Refusal :=
  .next (octah { opcode := 0x0303, owner := true, len := fun n => decide (8 ≤ n) && decide (n ≤ 100) && n % 4 == 0
                 fits := fun p => p.length == 8 + 4 * ((List.range 32).filter (fun b => bit (natAt p 4 4) b)).length
                 args := fun s p =>
                   let n := natAt p 0 2
                   let ws := paramWords p
                   firstBad ([(0, decide (n < 1024)), (2, zeroAt p 2 2), (4, !bit (natAt p 4 4) 1 && bits (natAt p 4 4) 31 24 == 0)] ++
                     ws.mapIdx (fun k x => (8 + 4 * k, loopWordOk x.1 x.2)) ++ [(4, s.loopRelations n ws)])
                 legal := fun s req =>
                   let n := natAt req.pl 0 2
                   if s.loopDead n ∨ ((paramWords req.pl).any (fun x => loopStructural x.1) = true ∧ 2 ≤ s.modeSel n) then some loopState else none
                 run := fun s req => s.queueLoop req.tag (.params (natAt req.pl 0 2) (paramWords req.pl)) } req s)

/-- `LOOP_CLEAR`. -/
def execLoopClear (req : OctahReq) (s : State) : Host.Outcome State Fault Refusal :=
  .next (octah { opcode := 0x0304, owner := true, len := fun n => n == 4
                 args := fun _ p => firstBad [(0, natAt p 0 2 < 1024 || natAt p 0 2 == 0xFFFF), (2, zeroAt p 2 2)], legal := always
                 run := fun s req =>
                   let ns := if natAt req.pl 0 2 = 0xFFFF then List.range 1024 else [natAt req.pl 0 2]
                   (ns.foldl (fun s n => (((s.setLw n 0x98 0).setLw n 0xD0 0).setLw n 0xD4 0).setMapBit Reg.OVF_MAP n false) (s.opStart req.tag)).opOk
                     req.tag [] } req s)

/-- The loop set of a bundle is loaded (R203): 1,024 blocks of 256 bytes, coefficients derived, FIRST set, FLAGS clear, U equal to MAN_OUT. -/
def State.loadLoops (s : State) (bs : List Byte) : State :=
  let s := { s with loop := { LoopState.reset with blocks := (Mem.putN [] 0 bs) } }
  let ns := (List.range 1024).filter (fun n => s.loopExists n)
  let s := ns.foldl (fun s n => (((s.derive n).setLw n 0x94 0).setLw n 0xBC (s.lw n 0x2C)).setMode_ n 7 7 1) s
  let peak (e : Nat) : Nat :=
    let on := ns.filter (fun n => s.loopEngine n == e)
    ((List.range ((on.map (fun n => s.lbits n 4 11 0)).foldl Nat.lcm 1)).map (fun b => (on.filter (fun n => s.loopDue n b)).length)).foldl max 0
  ((List.range 8).foldl (fun s e => s.setRg (Reg.LE_SCHED_MAX e) (BitVec.ofNat 32 (peak e))) s).loopRefresh

/-- A warm start keeps the blocks; FIRST is set and FLAGS cleared in every one (R203). -/
def State.loopWarm (s : State) : State :=
  let s := { s with loop := { LoopState.reset with blocks := s.loop.blocks } }
  (((List.range 1024).filter (fun n => s.loopExists n)).foldl (fun s n => (s.setLw n 0x94 0).setMode_ n 7 7 1) s).loopRefresh

end Sys2Proof.Machine
end

