-- ==== Sys2Proof/Machine/Solver.lean ====
section
/-!
DEFINITION. The dispatch problem and its solver (R207 to R228): the model image and its checks, the bindings' arithmetic,
the scaling, the ADMM iteration with its conjugate gradients, and the tests that end a solve. The structure is the
manual's; the sums the engine forms in its own order are `Config.deLin`.
-/
namespace Sys2Proof.Machine

/-! ### The model image (R211, R212) -/

/-- NSTEPS -/ def Model.nsteps (b : List Byte) : Nat := natAt b 0x06 1
/-- N -/ def Model.n (b : List Byte) : Nat := natAt b 0x08 4
/-- M -/ def Model.m (b : List Byte) : Nat := natAt b 0x0C 4
/-- NNZ_A -/ def Model.nnzA (b : List Byte) : Nat := natAt b 0x10 4
/-- NNZ_P -/ def Model.nnzP (b : List Byte) : Nat := natAt b 0x14 4
/-- STEP_BEATS -/ def Model.stepBeats (b : List Byte) : Nat := natAt b 0x18 4
/-- BIND_COUNT -/ def Model.binds (b : List Byte) : Nat := natAt b 0x1C 4
/-- The offset field at a header offset. -/
def Model.ofs (b : List Byte) (h : Nat) : Nat := natAt b h 4
/-- The word k of the array whose offset the header holds at h. -/
def Model.word (b : List Byte) (h k : Nat) : Word := BitVec.ofNat 32 (natAt b (Model.ofs b h + 4 * k) 4)
/-- The array of that many words. -/
def Model.words (b : List Byte) (h n : Nat) : List Word := (List.range n).map (Model.word b h)
/-- The output map. -/
def Model.map (b : List Byte) : List Byte := bytesAt b (Model.ofs b 0x48) 131072

/-- An entry of a matrix: row, column, value. -/
abbrev Entry := Nat × Nat × Word

/-- The entries of a CSC matrix of `n` columns: pointer, index and value arrays by their header offsets. -/
def Model.csc (b : List Byte) (n hp hi hv : Nat) : List Entry :=
  (List.range n).flatMap (fun j =>
    let lo := (Model.word b hp j).toNat
    let hi_ := (Model.word b hp (j + 1)).toNat
    (List.range (hi_ - lo)).map (fun k => ((Model.word b hi (lo + k)).toNat, j, Model.word b hv (lo + k))))

/-- A -/ def Model.a (b : List Byte) : List Entry := Model.csc b (Model.n b) 0x20 0x24 0x28
/-- P by its upper triangle. -/ def Model.pUpper (b : List Byte) : List Entry := Model.csc b (Model.n b) 0x2C 0x30 0x34
/-- P with both triangles (R212). -/
def Model.p (b : List Byte) : List Entry :=
  (Model.pUpper b).flatMap (fun e => if e.1 = e.2.1 then [e] else [e, (e.2.1, e.1, e.2.2)])

/-- A binding (R214). -/
structure Binding where
  index : Nat
  vec : Nat
  add : Bool
  kind : Nat
  ref : Nat
  scale : Word
  offset : Word
  bytes : List Byte
deriving DecidableEq, Repr

/-- The bindings of a model. -/
def Model.bindings (b : List Byte) : List Binding :=
  (List.range (Model.binds b)).map (fun k =>
    let o := Model.ofs b 0x44 + 16 * k
    let t := natAt b o 4
    let src := natAt b (o + 4) 4
    { index := bits t 17 0, vec := bits t 19 18, add := bit t 20, kind := bits src 3 0, ref := bits src 31 4,
      scale := BitVec.ofNat 32 (natAt b (o + 8) 4), offset := BitVec.ofNat 32 (natAt b (o + 12) 4), bytes := bytesAt b o 16 })

/-- A bound is infinite (R208). -/
def wInfinite (w : Word) : Bool := !f32.isNan w.toNat && (!wFinite w || decide (100000000000000000000 ≤ (if w2r w < 0 then -(w2r w) else w2r w)))

/-- The index of the first element that fails a test. -/
def firstFail {α : Type} (ok : α → Bool) (xs : List α) : Option Nat := (xs.mapIdx (fun k x => (k, x))).findSome? (fun x => if ok x.2 then none else some x.1)

/-- A map entry: X_FIRST, X_STRIDE, USED, SCALE, OFFSET, SAFE (R229). -/
def mapEntry (mp : List Byte) (c : Nat) : Nat × Nat × Bool × Word × Word × Word :=
  let x := natAt mp (16 * c) 4
  (bits x 15 0, bits x 30 16, bit x 31, BitVec.ofNat 32 (natAt mp (16 * c + 4) 4), BitVec.ofNat 32 (natAt mp (16 * c + 8) 4),
   BitVec.ofNat 32 (natAt mp (16 * c + 12) 4))

/-- The source of a binding is legal (R214 to R216, R307, R334); the circuits and meters in use are given. -/
def Binding.srcOk (x : Binding) (circuitOn meterOn : Nat → Bool) : Bool :=
  match x.kind with
  | 0 => x.ref == 0
  | 1 => decide (x.ref < 65536)
  | 2 => decide (bits x.ref 20 18 ≤ 4) && bits x.ref 27 22 == 0 && decide (bits x.ref 17 12 + (if bits x.ref 20 18 ≤ 1 then 2 else 4) ≤ 64)
  | 3 => decide (x.ref < 2 ^ 18)
  | 4 =>
    let w := x.ref % 64
    decide (x.ref < 1024) && circuitOn (x.ref / 64) && (decide (w ≤ 34) || (decide (48 ≤ w) && decide (w ≤ 58) && w % 2 == 0) || decide (60 ≤ w))
  | 5 =>
    let w := x.ref % 32
    decide (x.ref < 256) && meterOn (x.ref / 32) && (decide (w ≤ 5) || (decide (16 ≤ w) && decide (w ≤ 24) && w % 2 == 0) || w == 27 || decide (29 ≤ w))
  | 6 => decide (x.ref < 8192)
  | 7 => decide (x.ref < 1024)
  | _ => false

/-- The first failing check of a model image: MODEL_ERR's check and the failing entry's index (R213). -/
def modelCheck (b : List Byte) (circuitOn meterOn : Nat → Bool) : Option (Nat × Nat) :=
  let n := Model.n b
  let m := Model.m b
  let arrays := [(0x20, 4 * (n + 1)), (0x24, 4 * Model.nnzA b), (0x28, 4 * Model.nnzA b), (0x2C, 4 * (n + 1)), (0x30, 4 * Model.nnzP b),
    (0x34, 4 * Model.nnzP b), (0x38, 4 * n), (0x3C, 4 * m), (0x40, 4 * m), (0x44, 16 * Model.binds b), (0x48, 131072)]
  let placed := arrays.foldl (fun (acc : Bool × Nat) x =>
    let o := Model.ofs b x.1
    (acc.1 && o % 8 == 0 && decide (acc.2 ≤ o) && decide (o + x.2 ≤ b.length), o + x.2)) (true, 128)
  let ptrs (h nz : Nat) : Option Nat :=
    if Model.word b h 0 ≠ 0 then some 0
    else match (List.range n).find? (fun j => decide ((Model.word b h (j + 1)).toNat < (Model.word b h j).toNat)) with
      | some j => some (j + 1)
      | none => if (Model.word b h n).toNat = nz then none else some n
  let rowsOf (hp hi : Nat) (top : Nat → Nat) : Option Nat :=
    (List.range n).findSome? (fun j =>
      let lo := (Model.word b hp j).toNat
      ((List.range ((Model.word b hp (j + 1)).toNat - lo)).find? (fun k =>
        !(decide ((Model.word b hi (lo + k)).toNat < top j) && (k == 0 || decide ((Model.word b hi (lo + k - 1)).toNat < (Model.word b hi (lo + k)).toNat))))).map (lo + ·))
  let bad (h k : Nat) (ok : Word → Bool) : Option Nat := firstFail ok (Model.words b h k)
  let l0 := Model.words b 0x3C m
  let u0 := Model.words b 0x40 m
  let find (c : Nat) (o : Option Nat) : Option (Nat × Nat) := o.map (fun k => (c, k))
  let header := natAt b 0 4 == 0x444D4553 && natAt b 4 2 == 1 && natAt b 0x4C 4 == b.length
  let sizes := decide (1 ≤ n) && decide (n ≤ 65536) && decide (1 ≤ m) && decide (m ≤ 131072) && decide (1 ≤ Model.nnzA b) && decide (Model.nnzA b ≤ 1048576) &&
    decide (Model.nnzP b ≤ 262144) && decide (1 ≤ Model.nsteps b) && decide (Model.nsteps b ≤ 48) && decide (1 ≤ Model.stepBeats b) &&
    decide (Model.stepBeats b ≤ 14400000) && decide (Model.binds b ≤ 16384)
  if b = [] then some (9, 0)
  else if header = false then some (1, 0)
  else if sizes = false then some (2, 0)
  else if placed.1 = false then some (1, 0)
  else
    ((find 3 (ptrs 0x20 (Model.nnzA b))).or (find 3 (ptrs 0x2C (Model.nnzP b)))).or <|
    ((find 4 (rowsOf 0x20 0x24 (fun _ => m))).or (find 4 (rowsOf 0x2C 0x30 (fun j => j + 1)))).or <|
    ((find 5 (bad 0x28 (Model.nnzA b) wFinite)).or (find 5 (bad 0x34 (Model.nnzP b) wFinite))).or <|
    ((find 5 (bad 0x38 n wFinite)).or ((find 5 (firstFail (fun w => !f32.isNan w.toNat) l0)).or (find 5 (firstFail (fun w => !f32.isNan w.toNat) u0)))).or <|
    (find 6 (firstFail (fun x => f32.le x.1.toNat x.2.toNat) (l0.zip u0))).or <|
    (find 7 (firstFail (fun (x : Binding) => decide (x.vec ≤ 2) && decide (x.index < (if x.vec = 0 then n else m)) && decide (x.kind ≤ 7) && wFinite x.scale && wFinite x.offset &&
      x.srcOk circuitOn meterOn) (Model.bindings b))).or <|
    find 8 (firstFail (fun c =>
      let (f, st, used, sc, of_, safe) := mapEntry (Model.map b) c
      wFinite sc && wFinite of_ && wFinite safe &&
        (if used then decide (f + (Model.nsteps b - 1) * st < n) else f == 0 && st == 0 && sc == 0 && of_ == 0)) (List.range 8192))

/-! ### Bindings (R217, R218) -/

/-- SCALE × src + OFFSET in REAL64. -/
def Binding.value (x : Binding) (src : Nat) : Nat := f64.add (f64.mul (f32.conv f64 x.scale.toNat) src) (f32.conv f64 x.offset.toNat)

/-- The bindings applied to q, l and u in table order. -/
def applyBindings (bs : List Binding) (snap : List Nat) (v : List Word × List Word × List Word) : List Word × List Word × List Word :=
  (bs.zip snap).foldl (fun v xs =>
    let x := xs.1
    let val := x.value xs.2
    let put (old : Word) : Word := BitVec.ofNat 32 (f64.conv f32 (if x.add then f64.add (f32.conv f64 old.toNat) val else val))
    if x.vec = 0 then (modifyNth put x.index v.1, v.2.1, v.2.2)
    else if x.vec = 1 then (v.1, modifyNth put x.index v.2.1, v.2.2)
    else (v.1, v.2.1, modifyNth put x.index v.2.2)) v

/-! ### Scaling (R223) -/

/-- floor(log2 r) of a positive rational. -/
def ratLog2 (r : Rat) : Int :=
  let k : Int := (Nat.log2 r.num.natAbs : Nat) - (Nat.log2 r.den : Nat)
  if r < pow2 k then k - 1 else if pow2 (k + 1) ≤ r then k + 1 else k

/-- round(log2(g) / 2), halves toward zero; 0 for an empty column or row. -/
def halfLog (g : Rat) : Int :=
  if g ≤ 0 then 0 else
  let k := ratLog2 g
  if k % 2 = 0 then k / 2
  else if g = pow2 k then (if 0 < k then (k - 1) / 2 else (k + 1) / 2)
  else (k + 1) / 2

/-- The size of a REAL32 value. -/
def wAbs (w : Word) : Rat := if w2r w < 0 then -(w2r w) else w2r w

/-- One pass over the exponents of D and E. -/
def scalePass (n m : Nat) (a p : List Entry) (de : List Int × List Int) : List Int × List Int :=
  let d (j : Nat) := de.1.getD j 0
  let e (i : Nat) := de.2.getD i 0
  let g (j : Nat) : Rat := ((a.filter (fun x => x.2.1 == j)).map (fun x => wAbs x.2.2 * pow2 (e x.1 + d j)) ++
    (p.filter (fun x => x.2.1 == j)).map (fun x => wAbs x.2.2 * pow2 (d x.1 + d j))).foldl max 0
  let h (i : Nat) : Rat := ((a.filter (fun x => x.1 == i)).map (fun x => wAbs x.2.2 * pow2 (e i + d x.2.1))).foldl max 0
  ((List.range n).map (fun j => d j - halfLog (g j)), (List.range m).map (fun i => e i - halfLog (h i)))

/-- The exponents of D and E after eight passes. -/
def scaling (n m : Nat) (a p : List Entry) : List Int × List Int :=
  (List.range 8).foldl (fun de _ => scalePass n m a p de) (List.replicate n 0, List.replicate m 0)

/-- A value times a power of two; an infinity stays one. -/
def wScale (w : Word) (e : Int) : Word := if wFinite w then r2w (w2r w * pow2 e) else w

/-! ### The iteration (R224, R225) -/

/-- A vector of REAL32 values. -/
abbrev Vec := List Word

/-- The parameters of a solve, by the words 0x060 to 0x09C. -/
abbrev Params := List Word
/-- A parameter. -/
def Params.at (p : Params) (k : Nat) : Word := p.getD k 0

/-- REAL32 1. -/
abbrev wOne : Word := 0x3F800000
/-- The sign changed. -/
def wNeg (w : Word) : Word := w ^^^ 0x80000000
/-- a·x + b·y of the engine. -/
def deAxpy (a x b y : Word) : Word := Config.deLin [(a, x), (b, y)]
/-- Elementwise a·x + b·y. -/
def vAxpy (a : Word) (x : Vec) (b : Word) (y : Vec) : Vec := (x.zip y).map (fun t => deAxpy a t.1 b t.2)
/-- A dot product. -/
def vDot (x y : Vec) : Word := Config.deLin (x.zip y)
/-- Elementwise product. -/
def vMul (x y : Vec) : Vec := (x.zip y).map (fun t => Config.deLin [t])
/-- M v, for a matrix of `n` rows. -/
def matVec (n : Nat) (es : List Entry) (v : Vec) : Vec :=
  (List.range n).map (fun i => Config.deLin ((es.filter (fun e => e.1 == i)).map (fun e => (e.2.2, v.getD e.2.1 0))))
/-- The transpose. -/
def transpose (es : List Entry) : List Entry := es.map (fun e => (e.2.1, e.1, e.2.2))
/-- The largest size of a vector's elements. -/
def normInf (v : Vec) : Rat := (v.map wAbs).foldl max 0

/-- The problem as the engine iterates on it: scaled. -/
structure Problem where
  n : Nat
  m : Nat
  a : List Entry
  p : List Entry
  q : Vec
  l : Vec
  u : Vec
  /-- exponents of D and E -/
  d : List Int
  e : List Int
  params : Params
deriving DecidableEq, Repr

/-- The step size of each row, after a number of doublings (R223). -/
def Problem.rho (pr : Problem) (dbl : Int) : Vec :=
  let rho := pr.params.at 3
  ((pr.l.zip pr.u).map (fun b =>
    let base := if wInfinite b.1 ∧ wInfinite b.2 then wScale rho (-20) else if b.1 = b.2 then Config.deLin [(rho, pr.params.at 15)] else rho
    wScale base dbl))

/-- The system matrix applied: (P + σI + Aᵀ diag(ρ) A) v. -/
def Problem.kmul (pr : Problem) (rho v : Vec) : Vec :=
  let pv := matVec pr.n pr.p v
  let av := matVec pr.n (transpose pr.a) (vMul rho (matVec pr.m pr.a v))
  ((pv.zip v).zip av).map (fun t => Config.deLin [(wOne, t.1.1), (pr.params.at 4, t.1.2), (wOne, t.2)])

/-- The diagonal of the system matrix. -/
def Problem.diag (pr : Problem) (rho : Vec) : Vec :=
  (List.range pr.n).map (fun j =>
    Config.deLin ((wOne, pr.params.at 4) :: ((pr.p.filter (fun e => e.1 == j && e.2.1 == j)).map (fun e => (wOne, e.2.2)) ++
      (pr.a.filter (fun e => e.2.1 == j)).map (fun e => (rho.getD e.1 0, Config.deLin [(e.2.2, e.2.2)])))))

/-- Conjugate gradients: x, residual, direction, r·z so far, over at most the steps that remain. The result is the
solution, the steps taken, and whether the curvature broke down. -/
def Problem.cg (pr : Problem) (rho dg : Vec) (tol : Rat) : Nat → Vec → Vec → Vec → Word → Nat → Vec × Nat × Bool
  | 0, x, _, _, _, k => (x, k, false)
  | fuel + 1, x, r, dir, rz, k =>
    if normInf r ≤ tol then (x, k, false) else
    let kp := pr.kmul rho dir
    let curv := vDot dir kp
    if f32.lt 0 curv.toNat = false then (x, k, true) else
    let al := Config.deDiv rz curv
    let x := vAxpy wOne x al dir
    let r := vAxpy wOne r (wNeg al) kp
    let z := (r.zip dg).map (fun t => Config.deDiv t.1 t.2)
    let rz' := vDot r z
    Problem.cg pr rho dg tol fuel x r (vAxpy wOne z (Config.deDiv rz' rz) dir) rz' (k + 1)

/-- A value held in a row's bounds. -/
def projRow (l u x : Word) : Word := if f32.lt x.toNat l.toNat then l else if f32.lt u.toNat x.toNat then u else x

/-- One ADMM iteration: the new iterate, the CG steps, breakdown. -/
def Problem.iterate (pr : Problem) (dbl : Int) (it : Iterate) : Iterate × Nat × Bool :=
  let rho := pr.rho dbl
  let al := pr.params.at 5
  let be := Config.deLin [(wOne, wOne), (wNeg wOne, al)]
  let rz := vAxpy wOne (vMul rho it.z) (wNeg wOne) it.y
  let rhs := ((it.x.zip pr.q).zip (matVec pr.n (transpose pr.a) rz)).map (fun t => Config.deLin [(pr.params.at 4, t.1.1), (wNeg wOne, t.1.2), (wOne, t.2)])
  let dg := pr.diag rho
  let r0 := vAxpy wOne rhs (wNeg wOne) (pr.kmul rho it.xt)
  let z0 := (r0.zip dg).map (fun t => Config.deDiv t.1 t.2)
  let (xt, k, broke) := pr.cg rho dg (w2r (pr.params.at 6) * normInf rhs) (pr.params.at 1).toNat it.xt r0 z0 (vDot r0 z0) 0
  let zt := matVec pr.m pr.a xt
  let x := vAxpy al xt be it.x
  let mix := vAxpy al zt be it.z
  let arg := ((mix.zip it.y).zip rho).map (fun t => Config.deLin [(wOne, t.1.1), (wOne, Config.deDiv t.1.2 t.2)])
  let z := ((arg.zip pr.l).zip pr.u).map (fun t => projRow t.1.2 t.2 t.1.1)
  let y := ((it.y.zip rho).zip (vAxpy wOne mix (wNeg wOne) z)).map (fun t => Config.deLin [(wOne, t.1.1), (t.1.2, t.2)])
  ({ x := x, z := z, y := y, xt := xt }, k, broke)

/-- The iterate without scaling: x = D x̄, z = E⁻¹ z̄, y = E ȳ; exact. -/
def Problem.unscale (pr : Problem) (it : Iterate) : Iterate :=
  { x := (it.x.zip pr.d).map (fun t => wScale t.1 t.2), z := (it.z.zip pr.e).map (fun t => wScale t.1 (-t.2)),
    y := (it.y.zip pr.e).map (fun t => wScale t.1 t.2), xt := (it.xt.zip pr.d).map (fun t => wScale t.1 t.2) }
/-- And with it. -/
def Problem.rescale (pr : Problem) (it : Iterate) : Iterate :=
  { x := (it.x.zip pr.d).map (fun t => wScale t.1 (-t.2)), z := (it.z.zip pr.e).map (fun t => wScale t.1 t.2),
    y := (it.y.zip pr.e).map (fun t => wScale t.1 (-t.2)), xt := (it.xt.zip pr.d).map (fun t => wScale t.1 (-t.2)) }

/-- The problem of a solve, scaled (R223). -/
def Problem.make (model : List Byte) (params : Params) (q l u : Vec) : Problem :=
  let n := Model.n model
  let m := Model.m model
  let a := Model.a model
  let p := Model.p model
  let (d, e) := scaling n m a p
  let dj (j : Nat) := d.getD j 0
  let ei (i : Nat) := e.getD i 0
  { n := n, m := m, a := a.map (fun x => (x.1, x.2.1, wScale x.2.2 (ei x.1 + dj x.2.1))), p := p.map (fun x => (x.1, x.2.1, wScale x.2.2 (dj x.1 + dj x.2.1))),
    q := (q.zip d).map (fun t => wScale t.1 t.2), l := (l.zip e).map (fun t => wScale t.1 t.2), u := (u.zip e).map (fun t => wScale t.1 t.2),
    d := d, e := e, params := params }

/-! ### Checks and the end of a solve (R226) -/

/-- The solver's state between iterations. -/
structure DeRun where
  it : Iterate
  dbl : Int
  iters : Nat
  cg : Nat
  checks : Nat
  best : Option (Iterate × Rat × Rat)
  /-- the iterate of the previous check, without scaling -/
  prev : Option Iterate
  /-- the infeasibility tests held at the previous check -/
  prim : Bool
  dual : Bool
  /-- status and detail once the solve has ended -/
  ended : Option (Nat × Nat)
deriving DecidableEq, Repr

/-- The residuals of a check in unscaled terms: r_p / ε_p and r_d / ε_d. -/
def checkRatios (a p : List Entry) (n m : Nat) (q : Vec) (par : Params) (it : Iterate) : Rat × Rat :=
  let ax := matVec m a it.x
  let px := matVec n p it.x
  let ay := matVec n (transpose a) it.y
  let rp := normInf (vAxpy wOne ax (wNeg wOne) it.z)
  let rd := normInf (((px.zip q).zip ay).map (fun t => Config.deLin [(wOne, t.1.1), (wOne, t.1.2), (wOne, t.2)]))
  let ea := w2r (par.at 7)
  let er := w2r (par.at 8)
  (rp / (ea + er * max (normInf ax) (normInf it.z)), rd / (ea + er * max (normInf px) (max (normInf ay) (normInf q))))

/-- The primal infeasibility test of a check (status 3). -/
def primalSuspect (a : List Entry) (n : Nat) (l u : Vec) (eps : Rat) (y y0 : Vec) : Bool :=
  let dy := vAxpy wOne y (wNeg wOne) y0
  let nrm := normInf dy
  let d := dy.map (fun w => Config.deDiv w (r2w nrm))
  let terms := (d.zip l).zip u
  let bad := terms.any (fun t => (decide (0 < w2r t.1.1) && wInfinite t.2) || (decide (w2r t.1.1 < 0) && wInfinite t.1.2))
  let sum := Config.deLin (terms.map (fun t => if 0 < w2r t.1.1 then (t.2, t.1.1) else if w2r t.1.1 < 0 then (t.1.2, t.1.1) else (0, 0)))
  decide (nrm ≠ 0) && !bad && decide (normInf (matVec n (transpose a) d) ≤ eps) && decide (w2r sum ≤ -eps)

/-- The dual infeasibility test of a check (status 4). -/
def dualSuspect (a p : List Entry) (n m : Nat) (q l u : Vec) (eps : Rat) (x x0 : Vec) : Bool :=
  let dx := vAxpy wOne x (wNeg wOne) x0
  let nrm := normInf dx
  let e := dx.map (fun w => Config.deDiv w (r2w nrm))
  decide (nrm ≠ 0) && decide (normInf (matVec n p e) ≤ eps) && decide (w2r (vDot q e) ≤ -eps) &&
    (((matVec m a e).zip l).zip u).all (fun t =>
      let v := w2r t.1.1
      match wInfinite t.1.2, wInfinite t.2 with
      | false, false => decide (-eps ≤ v) && decide (v ≤ eps)
      | false, true => decide (-eps ≤ v)
      | true, false => decide (v ≤ eps)
      | true, true => true)

/-- The unscaled data a check uses. -/
structure CheckData where
  a : List Entry
  p : List Entry
  q : Vec
  l : Vec
  u : Vec
deriving DecidableEq, Repr

/-- A check (R226), with the adaptation of the step sizes (R223). -/
def DeRun.check (r : DeRun) (pr : Problem) (c : CheckData) (last : Bool) : DeRun :=
  let it := pr.unscale r.it
  let (p, d) := checkRatios c.a c.p pr.n pr.m c.q pr.params it
  let best := match r.best with
    | some (b, bp, bd) => if max p d < max bp bd then (it, p, d) else (b, bp, bd)
    | none => (it, p, d)
  let eps := w2r (pr.params.at 12)
  let ps := match r.prev with
    | some o => primalSuspect c.a pr.n c.l c.u eps it.y o.y
    | none => false
  let ds := match r.prev with
    | some o => dualSuspect c.a c.p pr.n pr.m c.q c.l c.u eps it.x o.x
    | none => false
  let checks := r.checks + 1
  let every := bits (pr.params.at 2).toNat 15 8
  let dbl := if every ≠ 0 ∧ checks % every = 0 then
      (if 8 * d < p then min 10 (r.dbl + 1) else if 8 * p < d then max (-10) (r.dbl - 1) else r.dbl)
    else r.dbl
  let r := { r with checks := checks, prev := some it, prim := ps, dual := ds, dbl := dbl }
  if p ≤ 1 ∧ d ≤ 1 then { r with best := some (it, p, d), ended := some (1, 0) }
  else if last then { r with best := some best, ended := some (2, 0) }
  else { r with best := some best }

/-- The tests of the two suspect statuses need two consecutive checks. -/
def DeRun.suspect (r r' : DeRun) : DeRun :=
  if r'.ended.isSome then r'
  else if r.prim && r'.prim then { r' with ended := some (3, 0) }
  else if r.dual && r'.dual then { r' with ended := some (4, 0) }
  else r'

/-- One iteration of a running solve, and its check where one is due. -/
def DeRun.step (r : DeRun) (pr : Problem) (c : CheckData) : DeRun :=
  if r.ended.isSome then r else
  let (it, k, broke) := pr.iterate r.dbl r.it
  let r1 := { r with it := it, iters := r.iters + 1, cg := r.cg + k }
  if broke then { r1 with ended := some (5, 3) }
  else if (it.x ++ it.z ++ it.y).all wFinite = false then { r1 with ended := some (5, 4) }
  else
    let last := r1.iters == (pr.params.at 0).toNat
    if r1.iters % bits (pr.params.at 2).toNat 7 0 = 0 ∨ last = true then r.suspect (r1.check pr c last) else r1

/-- A solve of at most some iterations. -/
def DeRun.run (pr : Problem) (c : CheckData) : Nat → DeRun → DeRun
  | 0, r => r
  | k + 1, r => DeRun.run pr c k (r.step pr c)

/-- What a solve of bound vectors gives within a number of iterations. -/
def solveFor (model : List Byte) (params : Params) (q l u : Vec) (first : Iterate) (iters : Nat) : DeRun :=
  let pr := Problem.make model params q l u
  let c := { a := Model.a model, p := Model.p model, q := q, l := l, u := u }
  DeRun.run pr c iters { it := pr.rescale first, dbl := 0, iters := 0, cg := 0, checks := 0, best := none, prev := none, prim := false, dual := false, ended := none }

/-- The iterate of zeros (R227). -/
def Iterate.zero (n m : Nat) : Iterate :=
  { x := List.replicate n 0, z := List.replicate m 0, y := List.replicate m 0, xt := List.replicate n 0 }

/-! ### Verification (R232) -/

/-- The verdict of a candidate's result, the failing step, and the three ratios. -/
def verifyResult (model : List Byte) (params : Params) (snap : List Nat) (it : Iterate) (cellsOk : Bool) : Nat × Nat × (Word × Word × Word) :=
  let n := Model.n model
  let m := Model.m model
  let a := Model.a model
  let p := Model.p model
  let (q, l, u) := applyBindings (Model.bindings model) snap (Model.words model 0x38 n, Model.words model 0x3C m, Model.words model 0x40 m)
  let x (j : Nat) := w2r (it.x.getD j 0)
  let y (i : Nat) := w2r (it.y.getD i 0)
  let rows (es : List Entry) (k : Nat) (v : Nat → Rat) : List Rat :=
    (List.range k).map (fun i => Config.scDot ((es.filter (fun e => e.1 == i)).map (fun e => (w2r e.2.2, v e.2.1))))
  let nrm (v : List Rat) : Rat := (v.map (fun r => if r < 0 then -r else r)).foldl max 0
  let ax := rows a m x
  let px := rows p n x
  let ay := rows (transpose a) n y
  let dist (v : Rat) (lo hi : Word) : Rat :=
    if wInfinite lo = false ∧ v < w2r lo then w2r lo - v else if wInfinite hi = false ∧ w2r hi < v then v - w2r hi else 0
  let rp := nrm (((ax.zip l).zip u).map (fun t => dist t.1.1 t.1.2 t.2))
  let bp := Config.scDot [(w2r (params.at 9), 1), (w2r (params.at 10), nrm ax)]
  let rd := nrm (((px.zip q).zip ay).map (fun t => Config.scDot [(t.1.1, 1), (w2r t.1.2, 1), (t.2, 1)]))
  let bd := Config.scDot [(w2r (params.at 9), 1), (w2r (params.at 10), max (nrm px) (max (nrm ay) (nrm (q.map w2r))))]
  let ys := (List.range m).map (fun i => (y i, l.getD i 0, u.getD i 0))
  let infinite := ys.any (fun t => (decide (0 < t.1) && wInfinite t.2.2) || (decide (t.1 < 0) && wInfinite t.2.1))
  let xpx := px.mapIdx (fun j v => (v, x j))
  let qx := q.mapIdx (fun j w => (w2r w, x j))
  let g := Config.scDot (xpx ++ qx ++ ys.map (fun t => if 0 < t.1 then (w2r t.2.2, t.1) else if t.1 < 0 then (w2r t.2.1, t.1) else (0, 0)))
  let g := if g < 0 then -g else g
  let cost := Config.scDot (xpx.map (fun t => (t.1 / 2, t.2)) ++ qx)
  let bg := w2r (params.at 11) * (1 + (if cost < 0 then -cost else cost))
  let fin := (it.x ++ it.y).all wFinite
  let r := (if bp ≠ 0 then Config.scQuot rp bp else 0, if bd ≠ 0 then Config.scQuot rd bd else 0, Config.scQuot g bg)
  if fin = false then (3, 1, (0, 0, 0))
  else if bp < rp then (2, 2, (r.1, 0, 0))
  else if bd < rd then (2, 3, (r.1, r.2.1, 0))
  else if infinite ∨ bg < g then (2, 4, r)
  else if cellsOk = false then (3, 5, r)
  else (1, 0, r)

end Sys2Proof.Machine
end

