-- ==== Sys2Proof/Machine/DispOps.lean ====
section
/-!
DEFINITION. Dispatch on the beat (R213 to R249): bindings, host data, the life of a solve, the plan table, and the DISPATCH
opcodes.
-/
namespace Sys2Proof.Machine

/-- A dispatch field changed. -/
def State.modDisp (s : State) (f : DispState → DispState) : State := { s with disp := f s.disp }

/-- DISPATCH BLK_STATUS.STATE brought up to date (R249): a rejected candidate stays in VERIFYING until its cut-over beat. -/
def State.dispRefresh (s : State) : State :=
  let v := s.fld Reg.SOLVE_STATE 6 4
  let st :=
    if s.disp.model = [] then 0
    else if s.disp.stopped ∨ s.enabled Head.dispatch = false then 6
    else if s.disp.solve.isSome then
      (if s.disp.candidate.isNone then 3
       else if v = 1 ∧ (s.blkState Head.pair ≠ 3 ∨ s.disp.agreed = true) then 5 else 4)
    else if s.disp.due.isSome then 2 else 1
  (s.setBlkState Head.dispatch st).setReady Head.dispatch (st != 0 && st != 6)

/-- SOLVE_STATE's fields: status and detail, and the verdict. -/
def State.setStatusDetail (s : State) (st det : Nat) : State := (s.setFld Reg.SOLVE_STATE 2 0 st).setFld Reg.SOLVE_STATE 15 8 det
/-- VERDICT. -/
def State.setVerdict (s : State) (v : Nat) : State := s.setFld Reg.SOLVE_STATE 6 4 v
/-- VERDICT as it stands. -/
def State.verdict (s : State) : Nat := s.fld Reg.SOLVE_STATE 6 4

/-- The solve that exists goes, and its record enters the log (R247). -/
def State.dropSolve (s : State) : State :=
  let s := { s with pair := { s.pair with ownerDigest := none, copyAsked := false, planCopy := none } }
  match s.disp.solve with
  | none => (s.modDisp (fun d => { d with candidate := none, agreed := false, copied := false })).dispRefresh
  | some v =>
    let r : SolveLog :=
      { id := v.id, start := v.start, cut := v.cut, state := s.rg Reg.SOLVE_STATE, copied := s.disp.copied, iters := (s.rg Reg.ADMM_ITERS).toNat,
        cg := (s.rg Reg.CG_ITERS).toNat, dePrim := s.rg Reg.DE_PRIM, deDual := s.rg Reg.DE_DUAL, verPrim := s.rg Reg.VER_PRIM,
        verDual := s.rg Reg.VER_DUAL, verGap := s.rg Reg.VER_GAP, info := s.rg Reg.DISP_INFO }
    (s.modDisp (fun d => { d with solve := none, candidate := none, agreed := false, copied := false, log := (r :: d.log).take 16 })).dispRefresh

/-- The bytes of a record of the solve log. -/
def SolveLog.bytes (r : SolveLog) : List Byte :=
  leBytes 4 r.id ++ leBytes 8 r.start ++ leBytes 8 r.cut ++ leBytes 1 (wbits r.state 2 0) ++ leBytes 1 (wbits r.state 6 4) ++ leBytes 1 (wbits r.state 15 8) ++
    leBytes 1 (wbits r.state 16 16 + 2 * wbits r.state 17 17 + 4 * b2n r.copied) ++ leBytes 4 r.iters ++ leBytes 4 r.cg ++
    [r.dePrim, r.deDual, r.verPrim, r.verDual, r.verGap, r.info].flatMap (fun w => leBytes 4 w.toNat) ++ List.replicate 8 0

/-- A solve that ends without a candidate (R218, R226, R238): its verdict is NOT_ELIGIBLE; after status 3, 4 or 5 the next
starts from zero (R227). -/
def State.endSolve (s : State) (st det info : Nat) : State :=
  let s := (s.setStatusDetail st det).setVerdict 4
  let s := if det = 0 then s else s.setRg Reg.DISP_INFO (BitVec.ofNat 32 info)
  let s := if st = 6 then s else s.modDisp (fun d => { d with warm := none })
  (s.evt Head.dispatch 2).dropSolve

/-- A solve in progress is abandoned, a candidate aborted, a scheduled solve cancelled (R238, R243 to R245). -/
def State.dispAbort (s : State) : State :=
  if s.disp.solve.isSome then
    (if s.disp.candidate.isNone then s.endSolve 6 0 0 else (s.setVerdict 6).dropSolve)
  else (s.modDisp (fun d => { d with due := none })).dispRefresh

/-- HD_STATUS brought up to date. -/
def State.hdRefresh (s : State) : State :=
  let q := (s.disp.hdQueue.map (fun w => w.values.length)).sum
  s.setRg Reg.HD_STATUS (BitVec.ofNat 32 (b2n s.disp.hdOpen.isSome + 2 ^ 16 * q))

/-- The queued host data writes that fit in a beat: whole writes in arrival order, at most 1,024 values (R219, R248). -/
def hdTake : Nat → List HostData → List HostData × List HostData
  | _, [] => ([], [])
  | left, w :: t => if w.values.length ≤ left then (let (a, b) := hdTake (left - w.values.length) t; (w :: a, b)) else ([], w :: t)

/-- Host data are applied in P0 (R219, R220). -/
def State.applyHostData (s : State) : State :=
  let (now, rest) := hdTake 1024 s.disp.hdQueue
  let s := s.modDisp (fun d => { d with hdQueue := rest })
  (now.foldl (fun s w =>
    let bs := w.values.flatMap (fun v => leBytes 4 v.toNat)
    let s := s.modDisp (fun d => { d with hostData := d.hostData.putN (4 * w.first) bs,
                                          hdOpen := if w.final then none else (match d.hdOpen with
                                            | some b => some b
                                            | none => some s.beat) })
    s.opOk w.tag []) s).hdRefresh

/-- PLAN_POS at the latch (R235, R249). -/
def State.latchPlan (s : State) : State :=
  let p := s.planSnap s.beat
  match p.plan with
  | none => s.setRg Reg.PLAN_POS (BitVec.ofNat 32 (2 ^ 16 + (s.rg Reg.PLAN_POS).toNat / 2 ^ 17 % 2 * 2 ^ 17))
  | some pl => s.setRg Reg.PLAN_POS (BitVec.ofNat 32 (p.step + 256 * p.left + 2 ^ 17 * b2n (!pl.lost.isEmpty)))

/-! ### Bindings (R215, R216, R218) -/

/-- A word of a metering result set (R324). -/
def State.meterWord (s : State) (c w : Nat) : Word := s.rg (0x184040 + 0x1000 * (c / 8) + 0x100 * (c % 8) + 4 * w)
/-- A word of a thermal result set. -/
def State.thermWord (s : State) (m w : Nat) : Word := s.rg (0x1C2040 + 0x80 * m + 4 * w)

/-- A result word as REAL64: REAL32, a 64-bit register through its low word, or an unsigned word. -/
def resultValue (real wide : Bool) (lo hi : Word) : Nat :=
  if real then f32.conv f64 lo.toNat else if wide then f64.ofInt ((lo.toNat + 2 ^ 32 * hi.toNat : Nat) : Int) else f64.ofInt (lo.toNat : Int)

/-- The source value of a binding as REAL64 (R215). -/
def State.bindSource (s : State) (x : Binding) : Nat :=
  match x.kind with
  | 1 => f32.conv f64 (s.disp.hostData.nat (4 * x.ref) 4)
  | 2 =>
    let ref : Word := BitVec.ofNat 32 x.ref
    let data := s.tbytes (wbits ref 11 0) Ent.primary 64
    if wbits ref 20 18 = 4 then f32.conv f64 (leNat (refBytes ref data))
    else (match refValue ref data with
      | some r => f64.ofRat r false
      | none => 0)
  | 3 => f32.conv f64 (s.scan.data.nat (areaStart 2 + 4 * x.ref) 4)
  | 4 => let w := x.ref % 64
         resultValue (decide (w ≤ 34)) (decide (w ≤ 58)) (s.meterWord (x.ref / 64) w) (s.meterWord (x.ref / 64) (w + 1))
  | 5 => let w := x.ref % 32
         resultValue (decide (w ≤ 5)) (decide (w ≤ 24)) (s.thermWord (x.ref / 32) w) (s.thermWord (x.ref / 32) (w + 1))
  | 6 => f32.conv f64 (s.planValue (s.planSnap s.beat) x.ref 0).toNat
  | 7 => f32.conv f64 (s.lw x.ref 0xBC).toNat
  | _ => 0

/-- The source is a Tally entry that has been silent for too long (R218). -/
def State.bindStale (s : State) (x : Binding) : Bool :=
  let lim := (s.rg Reg.DISP_STALE).toNat
  let rx := s.bus.tally.nat (256 * (x.ref % 4096) + Ent.rxNs) 8
  x.kind == 2 && lim != 0 && ((rx == 0 && s.tw (x.ref % 4096) Ent.count == 0) || decide (rx / 250000 + lim < s.beat))

/-! ### The life of a solve -/

/-- The parameter words 0x060 to 0x09C. -/
def State.dispParams (s : State) : List Word := (List.range 16).map (fun k => s.rg (Reg.ADMM_MAX + 4 * k))
/-- VERIFY_LEAD of a solve. -/
def Solve.lead (v : Solve) : Nat := (Params.at v.params 13).toNat

/-- A solve starts (R216 to R218, R222): its snapshot, its bound vectors, and the end at once that R218 may give it. -/
def State.startSolve (s : State) (id cut : Nat) (late : Bool) : State :=
  let b := s.disp.model
  let n := Model.n b
  let m := Model.m b
  let bs := Model.bindings b
  let snap := s.pair.bind.getD (bs.map s.bindSource)
  let (q, l, u) := applyBindings bs snap (Model.words b 0x38 n, Model.words b 0x3C m, Model.words b 0x40 m)
  let vals := (bs.zip snap).map (fun t => BitVec.ofNat 32 (f64.conv f32 (t.1.value t.2)))
  let v : Solve := { id := id, start := s.beat, cut := cut, params := s.dispParams, snapshot := snap, q := q, l := l, u := u, values := vals,
                     first := s.disp.warm.getD (Iterate.zero n m), startNs := s.time.ns, endNs := 0 }
  let bad := firstFail f64.finite snap
  let stale := firstFail (fun x => !s.bindStale x) bs
  let order := firstFail (fun t => f32.le t.1.toNat t.2.toNat) (l.zip u)
  let s := s.modDisp (fun d => { d with due := none, solve := some v, candidate := none, agreed := false, copied := false, lastValues := vals })
  let s := (((s.setRg Reg.SOLVE_ID (BitVec.ofNat 32 id)).setRg64 Reg.SOLVE_BEAT_LO s.beat).setRg64 Reg.CUTOVER_BEAT_LO cut).setRg Reg.SOLVE_STATE (BitVec.ofNat 32 (2 ^ 16 * b2n late))
  let s := [Reg.ADMM_ITERS, Reg.CG_ITERS, Reg.DE_PRIM, Reg.DE_DUAL, Reg.VER_PRIM, Reg.VER_DUAL, Reg.VER_GAP, Reg.SOLVE_US, Reg.VERIFY_US].foldl (fun s r => s.setRg r 0) s
  let s := s.evt Head.dispatch 1
  let s := if late then s.evt Head.dispatch 10 else s
  match bad, stale, order with
  | some k, _, _ => s.endSolve 5 1 k
  | none, some k, _ => s.endSolve 5 5 k
  | none, none, some k => s.endSolve 5 2 k
  | none, none, none => s.dispRefresh

/-- A solve may start: a model, ENABLE, no stop, none in progress, and the latch of a running beat is done. -/
def State.dispReady (s : State) : Bool :=
  s.disp.model != [] && s.enabled Head.dispatch && !s.disp.stopped && s.disp.solve.isNone && s.running && s.frame.latched

/-- The solve due at this beat: start, cut-over, SOLVE_ID (R221). -/
def State.solveDue (s : State) : Option (Nat × Nat × Nat) :=
  match s.disp.due with
  | some d => if d.1 ≤ s.beat then some d else none
  | none =>
    let per := (s.rg Reg.DISP_PERIOD).toNat
    if s.fld Reg.DISP_SCHED 0 0 = 1 ∧ (s.beat + per - (s.rg Reg.DISP_PHASE).toNat) % per = 0 then
      some (s.beat, s.beat + (s.rg Reg.CUTOVER_DELAY).toNat, (s.rg Reg.SOLVE_ID).toNat + 1)
    else none

/-- `SOLVE_START` (R216 to R223): a solve due now starts, or is deferred while host data are open (R220). -/
def execSolveStart (s : State) : Host.Outcome State Fault Refusal :=
  if s.dispReady = false then .next s else
  match s.solveDue with
  | none => .next s
  | some d =>
    if s.disp.hdOpen.isSome then .next ((s.modDisp (fun x => { x with due := some d })).dispRefresh)
    else .next (s.startSolve d.2.2 d.2.1 false)

/-- `HOST_DATA_OPEN_EXPIRE` (R220): a deferred solve starts with host data open. -/
def execHostDataOpenExpire (s : State) : Host.Outcome State Fault Refusal :=
  if s.dispReady = false then .next s else
  match s.solveDue, s.disp.hdOpen with
  | some d, some o =>
    if o + 401 ≤ s.beat ∨ d.2.1 ≤ s.beat + (s.rg Reg.VERIFY_LEAD).toNat + 2 then .next (s.startSolve d.2.2 d.2.1 true) else .next s
  | _, _ => .next s

/-- The cells of a plan from x by an output map (R231). -/
def planCells (mp : List Byte) (nsteps : Nat) (x : Vec) : Mem :=
  (List.range 8192).foldl (fun m c =>
    let (f, st, used, sc, of_, _) := mapEntry mp c
    if used then
      (List.range nsteps).foldl (fun (m : Mem) k =>
        let v := f64.add (f64.mul (f32.conv f64 sc.toNat) (f32.conv f64 (x.getD (f + k * st) 0).toNat)) (f32.conv f64 of_.toNat)
        m.putNat (c * 192 + k * 4) 4 (f64.conv f32 v)) m
    else m) []

/-- A plan's descriptor (R230). -/
def Plan.desc (p : Plan) : List Byte :=
  leBytes 4 p.solve ++ leBytes 1 p.nsteps ++ leBytes 1 p.status ++ leBytes 2 0 ++ leBytes 8 p.origin ++ leBytes 4 p.stepBeats ++ List.replicate 12 0
/-- A candidate's digest (R232). -/
def Plan.digest (p : Plan) : List Byte := shake (p.cells.getN 0 1572864 ++ p.desc) 32

/-- The candidate of a delivered iterate is written; verification begins (R222, R231). -/
def State.deliver (s : State) (v : Solve) (it : Iterate) (p d : Rat) (st : Nat) : State :=
  let s := (s.setRg Reg.DE_PRIM (Config.scQuot p 1)).setRg Reg.DE_DUAL (Config.scQuot d 1)
  let b := s.disp.model
  let c : Plan := { solve := v.id, nsteps := Model.nsteps b, status := st, origin := v.cut, stepBeats := Model.stepBeats b,
                    cells := planCells s.disp.map (Model.nsteps b) it.x, lost := [] }
  let s := s.modDisp (fun x => { x with warm := some it, result := it, candidate := some c })
  ((s.setStatusDetail st 0).evt Head.dispatch 2).dispRefresh

/-- Iterations end with a result of the solver (R222, R226, R227). -/
def State.finishSolve (s : State) (v : Solve) (r : DeRun) (st det us : Nat) : State :=
  let s := ((s.setRg Reg.ADMM_ITERS (BitVec.ofNat 32 r.iters)).setRg Reg.CG_ITERS (BitVec.ofNat 32 r.cg)).setRg Reg.SOLVE_US (BitVec.ofNat 32 us)
  match st, r.best with
  | 1, some (it, p, d) => s.deliver v it p d 1
  | 2, some (it, p, d) => s.deliver v it p d 2
  | _, _ => s.endSolve st det 0

/-- A solve is iterating. -/
def State.iterating (s : State) : Option Solve := if s.disp.candidate.isNone then s.disp.solve else none

/-- `SOLVE_END` (R226): iterations end at a check or the budget, before the solve deadline. -/
def execSolveEnd (us : Nat) (s : State) : Host.Outcome State Fault Refusal :=
  match s.iterating with
  | none => .next s
  | some v =>
    if v.cut ≤ s.beat + v.lead then .next s else
    let r := solveFor s.disp.model v.params v.q v.l v.u v.first (Params.at v.params 0).toNat
    match r.ended with
    | some (st, det) => .next (s.finishSolve v r st det us)
    | none => .next s

/-- `SOLVE_DEADLINE` (R222): the iterations done by the boundary c − VERIFY_LEAD count; without a check there is no result. -/
def execSolveDeadline (iters us : Nat) (s : State) : Host.Outcome State Fault Refusal :=
  match s.iterating with
  | none => .next s
  | some v =>
    if s.beat + v.lead < v.cut then .next s else
    let r := solveFor s.disp.model v.params v.q v.l v.u v.first (min iters (Params.at v.params 0).toNat)
    match r.ended with
    | some (st, det) => .next (s.finishSolve v r st det us)
    | none => .next (s.finishSolve v r (if r.checks = 0 then 6 else 2) 0 us)

/-! ### Cut-over, steps, fallback (R233, R235, R236) -/

/-- `CUTOVER` (R236, R241): at boundary c a VERIFIED candidate becomes the plan table; any other is discarded. -/
def State.cutover (s : State) : State :=
  match s.disp.candidate with
  | some c =>
    if ((s.disp.solve.map (·.cut)).getD c.origin) ≠ s.beat then s else
    if (s.verdict = 1 ∨ s.disp.copied = true) ∧ (s.blkState Head.pair ≠ 3 ∨ s.disp.agreed = true) then
      let s := s.modDisp (fun d => { d with plan := some { c with lost := [] } })
      let s := ((s.setRg Reg.PLAN_ID (BitVec.ofNat 32 c.solve)).setRg64 Reg.PLAN_ORIGIN_LO c.origin).setRg Reg.PLAN_STEP_BEATS (BitVec.ofNat 32 c.stepBeats)
      let s := ((s.incSat Reg.CUTOVER_CNT).setFld Reg.SOLVE_STATE 17 17 1).setFld Reg.PLAN_POS 17 17 0
      (s.evt Head.dispatch 5).dropSolve
    else
      let w := s.verdict
      let s := if w = 2 ∨ w = 3 ∨ w = 7 then s.incSat Reg.REJECT_CNT else if w = 5 then s.incSat Reg.MISSED_CNT else s
      (s.evt Head.dispatch 4).dropSolve
  | none => s

/-- `CUTOVER`. -/
def execCutover (s : State) : Host.Outcome State Fault Refusal := .next s.cutover

/-- A VERIFIED candidate cuts over at this boundary, so that no event comes from the old plan (R236). -/
def State.cutsNow (s : State) : Bool :=
  match s.disp.candidate with
  | some c => ((s.disp.solve.map (·.cut)).getD c.origin) == s.beat && (s.verdict == 1 || s.disp.copied) && (s.blkState Head.pair != 3 || s.disp.agreed)
  | none => false

/-- `PLAN_STEP` (R235, R236): a step of the plan begins at this boundary. -/
def execPlanStep (s : State) : Host.Outcome State Fault Refusal :=
  match s.disp.plan with
  | some p =>
    if s.cutsNow = false ∧ p.origin < s.beat ∧ (s.beat - p.origin) % p.stepBeats = 0 ∧ s.beat - p.origin < p.nsteps * p.stepBeats then .next (s.evt Head.dispatch 6)
    else .next s
  | none => .next s

/-- `PLAN_FALLBACK` (R236): the plan runs out at this boundary. -/
def execPlanFallback (s : State) : Host.Outcome State Fault Refusal :=
  match s.disp.plan with
  | some p => if s.cutsNow = false ∧ p.origin ≤ s.beat ∧ s.beat - p.origin = p.nsteps * p.stepBeats then .next (s.evt Head.dispatch 7) else .next s
  | none => .next s

/-! ### Loads, enable and starts (R213, R243 to R245) -/

/-- The model of a bundle is loaded at a cold start. -/
def State.loadModel (s : State) (b : List Byte) : State :=
  let circuitOn (c : Nat) : Bool := s.fld (Reg.CIR_CFG c) 0 0 == 1
  let meterOn (m : Nat) : Bool := s.fld (Reg.THP_CFG m) 0 0 == 1
  let chk := modelCheck b circuitOn meterOn
  let s := { s with disp := DispState.reset }
  match chk with
  | none =>
    let s := s.modDisp (fun d => { d with model := b, copy := b, map := Model.map b })
    let s := ((s.setRg Reg.MODEL_N (BitVec.ofNat 32 (Model.n b))).setRg Reg.MODEL_M (BitVec.ofNat 32 (Model.m b))).setRg Reg.MODEL_NNZ_A (BitVec.ofNat 32 (Model.nnzA b))
    let s := (s.setRg Reg.MODEL_NNZ_P (BitVec.ofNat 32 (Model.nnzP b))).setRg Reg.MODEL_INFO (BitVec.ofNat 32 (Model.nsteps b + 2 ^ 16 * Model.binds b))
    ((s.setRg Reg.MODEL_TAG (BitVec.ofNat 32 (leNat (shake b 4)))).setRg Reg.MODEL_ERR 0).dispRefresh
  | some (c, k) =>
    -- the map itself is good where an earlier check failed after the map's place is known (R213)
    let mapOk := decide (2 < c) && c != 8 && c != 9 && (List.range 8192).all (fun k =>
      let (f, st, used, sc, of_, safe) := mapEntry (Model.map b) k
      wFinite sc && wFinite of_ && wFinite safe &&
        (if used then decide (f + (Model.nsteps b - 1) * st < Model.n b) else f == 0 && st == 0 && sc == 0 && of_ == 0))
    let s := if mapOk then s.modDisp (fun d => { d with map := Model.map b }) else s
    let s := if c = 9 then s else s.setRg Reg.MODEL_TAG (BitVec.ofNat 32 (leNat (shake b 4)))
    (s.setRg Reg.MODEL_ERR (BitVec.ofNat 32 (c + 256 * k))).dispRefresh

/-- ENABLE of DISPATCH changed (R244). -/
def State.dispEnable (s : State) (on : Bool) : State := (if on then s else s.dispAbort).dispRefresh

/-- A soft reset keeps the model, the host data and the plan buffers (R244). -/
def State.dispSoftReset (s : State) : State :=
  ((s.modDisp (fun d => { d with warm := none, stopped := false, solve := none, due := none })).setFaultBit Head.dispatch false).dispRefresh

/-- A warm start discards what is in progress (R245). -/
def State.dispWarm (s : State) : State :=
  let s := s.dispAbort
  ((s.modDisp (fun d => { d with hdQueue := [], due := none })).hdRefresh).dispRefresh

/-! ### Opcodes (R246) -/

/-- DISPATCH's state as a refusal. -/
def dispState : Refuse := .state Head.dispatch
/-- Every opcode but DISP_STATUS is refused in NO_MODEL. -/
def withModel (f : State → OctahReq → Option Refuse) (s : State) (req : OctahReq) : Option Refuse := if s.disp.model = [] then some dispState else f s req

/-- `DISP_STATUS`. -/
def execDispStatus (req : OctahReq) (s : State) : Host.Outcome State Fault Refusal :=
  .next (octah { opcode := 0x0400, owner := false, len := fun n => n == 0, args := noArgs, legal := always
                 run := fun s req => s.opOk req.tag (leBytes 8 s.beat ++ (List.range 36).flatMap (fun k => leBytes 4 (s.rg (Reg.SOLVE_STATE + 4 * k)).toNat)) } req s)

/-- A power of ten as the REAL32 limit of a range. -/
def lim10 (k : Nat) : Rat := w2r (r2w (1 / (10 ^ k : Nat)))

/-- The range of a parameter register (R249). -/
def paramOk (k : Nat) (w : Word) : Bool :=
  match k with
  | 0 => decide (1 ≤ w.toNat) && decide (w.toNat ≤ 4000)
  | 1 => decide (1 ≤ w.toNat) && decide (w.toNat ≤ 64)
  | 2 => decide (1 ≤ wbits w 7 0) && decide (wbits w 7 0 ≤ 64) && decide (wbits w 15 8 ≤ 64) && wbits w 31 16 == 0
  | 3 => wIn (lim10 6) 1000000 w
  | 4 => wIn (lim10 9) 1 w
  | 5 => wIn (lim10 1) (w2r (r2w (19 / 10))) w
  | 6 => wIn (lim10 12) (1 / 2) w
  | 7 => wIn (lim10 9) 1 w
  | 8 => wIn 0 1 w
  | 9 => wIn (lim10 9) 1 w
  | 10 => wIn 0 1 w
  | 11 => wIn (lim10 9) 1 w
  | 12 => wIn (lim10 9) 1 w
  | 13 => decide (72 ≤ w.toNat) && decide (w.toNat ≤ 4000)
  | 14 => decide (w.toNat ≤ 4000)
  | _ => wIn 1 1000000 w

/-- The words a DISP_PARAM_SET names. -/
def dispWords (p : List Byte) : List (Nat × Word) :=
  ((List.range 32).filter (fun b => bit (natAt p 0 4) b)).mapIdx (fun k b => (b, BitVec.ofNat 32 (natAt p (4 + 4 * k) 4)))

/-- `DISP_PARAM_SET`. -/
def execDispParamSet (req : OctahReq) (s : State) : Host.Outcome State Fault Refusal :=
  .next (octah { opcode := 0x0401, owner := true, len := fun n => decide (4 ≤ n) && decide (n ≤ 132) && n % 4 == 0
                 fits := fun p => p.length == 4 + 4 * (dispWords p).length
                 args := fun s p =>
                   let ws := dispWords p
                   let v (k : Nat) : Word := match ws.find? (fun x => x.1 == k) with
                     | some x => x.2
                     | none => s.rg (Reg.ADMM_MAX + 4 * k)
                   firstBad ([(0, bits (natAt p 0 4) 31 16 == 0)] ++ ws.mapIdx (fun i x => (4 + 4 * i, paramOk x.1 x.2)) ++
                     [(0, decide (w2r (v 7) ≤ w2r (v 9)) && decide (w2r (v 8) ≤ w2r (v 10)))])
                 legal := withModel always
                 run := fun s req =>
                   ((dispWords req.pl).foldl (fun s x => s.setRg (Reg.ADMM_MAX + 4 * x.1) x.2) (s.opStart req.tag)).opOk req.tag [] } req s)

/-- `DISP_SCHED_SET` (R221). -/
def execDispSchedSet (req : OctahReq) (s : State) : Host.Outcome State Fault Refusal :=
  .next (octah { opcode := 0x0402, owner := true, len := fun n => n == 16
                 args := fun s p =>
                   let per := natAt p 4 4
                   let dly := natAt p 12 4
                   firstBad [(0, natAt p 0 1 ≤ 1), (1, zeroAt p 1 3), (4, 4000 ≤ per && per ≤ 14400000), (8, natAt p 8 4 < per),
                             (12, (s.rg Reg.VERIFY_LEAD).toNat + 4 ≤ dly && dly ≤ per)]
                 legal := withModel (fun s _ => if s.blkState Head.dispatch = 1 ∨ s.blkState Head.dispatch = 6 then none else some dispState)
                 run := fun s req =>
                   let auto := natAt req.pl 0 1
                   let per := natAt req.pl 4 4
                   let s := s.opStart req.tag
                   let s := (s.setRg Reg.DISP_SCHED (BitVec.ofNat 32 auto)).setRg Reg.DISP_PERIOD (BitVec.ofNat 32 per)
                   let s := (s.setRg Reg.DISP_PHASE (BitVec.ofNat 32 (natAt req.pl 8 4))).setRg Reg.CUTOVER_DELAY (BitVec.ofNat 32 (natAt req.pl 12 4))
                   s.opOk req.tag (leBytes 8 (if auto = 1 then nextStart per (natAt req.pl 8 4) (s.beat + 1) else 0)) } req s)

/-- `DISP_SOLVE` (R221). -/
def execDispSolve (req : OctahReq) (s : State) : Host.Outcome State Fault Refusal :=
  .next (octah { opcode := 0x0403, owner := true, len := fun n => n == 16
                 args := fun s p =>
                   let st := natAt p 0 8
                   firstBad [(0, s.beat + 4 ≤ st), (8, st + (s.rg Reg.VERIFY_LEAD).toNat + 4 ≤ natAt p 8 8)]
                 legal := withModel (fun s _ => if s.fld Reg.DISP_SCHED 0 0 = 0 ∧ s.blkState Head.dispatch = 1 then none else some dispState)
                 run := fun s req =>
                   let id := (s.rg Reg.SOLVE_ID).toNat + 1
                   let s := s.opStart req.tag
                   ((s.modDisp (fun d => { d with due := some (natAt req.pl 0 8, natAt req.pl 8 8, id) })).dispRefresh).opOk req.tag (leBytes 4 id) } req s)

/-- `DISP_ABORT` (R238). -/
def execDispAbort (req : OctahReq) (s : State) : Host.Outcome State Fault Refusal :=
  .next (octah { opcode := 0x0404, owner := true, len := fun n => n == 0, args := noArgs
                 legal := withModel (fun s _ =>
                   match s.disp.solve, s.disp.due with
                   | some v, _ => if s.beat + 2 ≤ v.cut then none else some dispState
                   | none, some _ => none
                   | none, none => some dispState)
                 run := fun s req => ((s.opStart req.tag).dispAbort).opOk req.tag [] } req s)

/-- `DISP_DATA_WRITE` (R219). -/
def execDispDataWrite (req : OctahReq) (s : State) : Host.Outcome State Fault Refusal :=
  .next (octah { opcode := 0x0405, owner := true, len := fun n => decide (12 ≤ n) && decide (n ≤ 4008) && n % 4 == 0
                 fits := fun p => p.length == 8 + 4 * natAt p 4 2
                 args := fun _ p => firstBad [(0, natAt p 0 4 + natAt p 4 2 ≤ 65536), (4, 1 ≤ natAt p 4 2 && natAt p 4 2 ≤ 1000), (6, natAt p 6 1 ≤ 1), (7, zeroAt p 7 1)]
                 legal := withModel (fun s req =>
                   if (s.disp.hdQueue.map (fun w => w.values.length)).sum + natAt req.pl 4 2 ≤ 4096 then none else some (.code Code.busy))
                 run := fun s req =>
                   let w : HostData := { first := natAt req.pl 0 4, values := (List.range (natAt req.pl 4 2)).map (fun k => BitVec.ofNat 32 (natAt req.pl (8 + 4 * k) 4)),
                                         final := bit (natAt req.pl 6 1) 0, tag := req.tag }
                   ((s.opStart req.tag).modDisp (fun d => { d with hdQueue := d.hdQueue ++ [w] })).hdRefresh } req s)

/-- `DISP_DATA_READ`. -/
def execDispDataRead (req : OctahReq) (s : State) : Host.Outcome State Fault Refusal :=
  .next (octah { opcode := 0x0406, owner := false, len := fun n => n == 8
                 args := fun _ p => firstBad [(0, natAt p 0 4 + natAt p 4 2 ≤ 65536), (4, 1 ≤ natAt p 4 2 && natAt p 4 2 ≤ 1000), (6, zeroAt p 6 2)]
                 legal := withModel always
                 run := fun s req => s.opOk req.tag (leBytes 8 s.beat ++ s.disp.hostData.getN (4 * natAt req.pl 0 4) (4 * natAt req.pl 4 2)) } req s)

/-- `PLAN_READ`. -/
def execPlanRead (req : OctahReq) (s : State) : Host.Outcome State Fault Refusal :=
  .next (octah { opcode := 0x0407, owner := false, len := fun n => n == 8
                 args := fun _ p => firstBad [(0, natAt p 0 1 ≤ 1), (1, zeroAt p 1 1), (2, natAt p 2 2 + natAt p 4 2 ≤ 8192), (4, natAt p 4 2 * natAt p 7 1 ≤ 1000),
                                              (6, natAt p 6 1 + natAt p 7 1 ≤ 48)]
                 legal := withModel always
                 run := fun s req =>
                   let pl := if natAt req.pl 0 1 = 1 then s.disp.candidate else s.disp.plan
                   let cells := (List.range (natAt req.pl 4 2)).flatMap (fun c => (List.range (natAt req.pl 7 1)).flatMap (fun k =>
                     leBytes 4 (match pl with
                       | some p => (p.cell (natAt req.pl 2 2 + c) (natAt req.pl 6 1 + k)).toNat
                       | none => 0)))
                   s.opOk req.tag ((match pl with
                     | some p => p.desc
                     | none => List.replicate 32 0) ++ cells) } req s)

/-- `DISP_RESULT_READ`. -/
def execDispResultRead (req : OctahReq) (s : State) : Host.Outcome State Fault Refusal :=
  .next (octah { opcode := 0x0408, owner := false, len := fun n => n == 12
                 args := fun s p =>
                   let top := if natAt p 0 1 = 0 then Model.n s.disp.model else Model.m s.disp.model
                   firstBad [(0, natAt p 0 1 ≤ 2), (1, zeroAt p 1 3), (4, s.disp.model == [] || natAt p 4 4 + natAt p 8 2 ≤ top), (8, 1 ≤ natAt p 8 2 && natAt p 8 2 ≤ 1000), (10, zeroAt p 10 2)]
                 legal := withModel (fun s _ => if s.blkState Head.dispatch = 3 then some dispState else none)
                 run := fun s req =>
                   let v := match natAt req.pl 0 1 with
                     | 0 => s.disp.result.x
                     | 1 => s.disp.result.y
                     | _ => s.disp.result.z
                   s.opOk req.tag (leBytes 4 (s.rg Reg.SOLVE_ID).toNat ++ (List.range (natAt req.pl 8 2)).flatMap (fun k => leBytes 4 (v.getD (natAt req.pl 4 4 + k) 0).toNat)) } req s)

/-- `DISP_BIND_READ`. -/
def execDispBindRead (req : OctahReq) (s : State) : Host.Outcome State Fault Refusal :=
  .next (octah { opcode := 0x0409, owner := false, len := fun n => n == 4
                 args := fun s p => firstBad [(0, s.disp.model == [] || natAt p 0 2 + natAt p 2 2 ≤ Model.binds s.disp.model), (2, 1 ≤ natAt p 2 2 && natAt p 2 2 ≤ 200)]
                 legal := withModel always
                 run := fun s req =>
                   let bs := (Model.bindings s.disp.model).drop (natAt req.pl 0 2)
                   s.opOk req.tag (leBytes 4 (s.rg Reg.SOLVE_ID).toNat ++
                     ((bs.take (natAt req.pl 2 2)).mapIdx (fun k x => x.bytes ++ leBytes 4 (s.disp.lastValues.getD (natAt req.pl 0 2 + k) 0).toNat)).flatten) } req s)

/-- `DISP_LOG_READ`. -/
def execDispLogRead (req : OctahReq) (s : State) : Host.Outcome State Fault Refusal :=
  .next (octah { opcode := 0x040A, owner := false, len := fun n => n == 0, args := noArgs, legal := withModel always
                 run := fun s req => s.opOk req.tag (bytesAt (s.disp.log.flatMap SolveLog.bytes) 0 1024) } req s)

end Sys2Proof.Machine
end

