-- ==== Sys2Proof/Machine/MeterOps.lean ====
section
/-!
DEFINITION. Electrical metering (R286 to R324): the setup and its checks, the sample path, crossings and cycles, latch and
spectral windows, power-quality events, energy, calibration, the copy list, the setup record and the opcodes. Filters and
roundings that the manual does not give are constants of Config.
-/
namespace Sys2Proof.Machine

/-- The ME with its state replaced by a function of it. -/
def State.modMe (s : State) (f : MeterState → MeterState) : State := { s with meter := f s.meter }
/-- A channel. -/
def State.afe (s : State) (n : Nat) : AfeChan := s.meter.chans.getD n AfeChan.reset
/-- A channel replaced by a function of it. -/
def State.modAfe (s : State) (n : Nat) (f : AfeChan → AfeChan) : State := s.modMe (fun m => { m with chans := modifyNth f n m.chans })
/-- A circuit. -/
def State.cir (s : State) (c : Nat) : MeterCircuit := s.meter.circuits.getD c MeterCircuit.reset
/-- A circuit replaced by a function of it. -/
def State.modCir (s : State) (c : Nat) (f : MeterCircuit → MeterCircuit) : State := s.modMe (fun m => { m with circuits := modifyNth f c m.circuits })

/-! ### Setup (R286 to R288, R295) -/

/-- CH_CFG.EN. -/
def State.chanOn (s : State) (n : Nat) : Bool := decide (n < 32) && s.fld (Reg.CH_CFG n) 0 0 == 1
/-- CIR_CFG.EN. -/
def State.cirOn (s : State) (c : Nat) : Bool := decide (c < 16) && s.fld (Reg.CIR_CFG c) 0 0 == 1
/-- CIR_CFG.TYPE: 0 1P2W, 1 3P4W, 2 3P3W. -/
def State.cirType (s : State) (c : Nat) : Nat := s.fld (Reg.CIR_CFG c) 2 1
/-- The voltage channels of a circuit's phases or elements. -/
def State.cirV (s : State) (c : Nat) : List Nat :=
  let m := s.rg (Reg.CIR_MAP c)
  match s.cirType c with
  | 0 => [wbits m 2 0]
  | 1 => [wbits m 2 0, wbits m 5 3, wbits m 8 6]
  | _ => [wbits m 2 0, wbits m 5 3]
/-- Its current channels, the neutral left out. -/
def State.cirI (s : State) (c : Nat) : List Nat :=
  let m := s.rg (Reg.CIR_MAP c)
  match s.cirType c with
  | 0 => [8 + wbits m 13 9]
  | 1 => [8 + wbits m 13 9, 8 + wbits m 18 14, 8 + wbits m 23 19]
  | _ => [8 + wbits m 13 9, 8 + wbits m 18 14]
/-- The neutral channel, where it is measured. -/
def State.cirN (s : State) (c : Nat) : Option Nat :=
  if s.cirType c = 1 ∧ s.fld (Reg.CIR_CFG c) 4 4 = 1 then some (8 + s.fld (Reg.CIR_MAP c) 28 24) else none
/-- Every channel a circuit uses. -/
def State.cirChans (s : State) (c : Nat) : List Nat := s.cirV c ++ s.cirI c ++ (s.cirN c).toList
/-- The circuits that are enabled. -/
def State.circuitsOn (s : State) : List Nat := (List.range 16).filter s.cirOn
/-- The channels that are tracked: VA of the enabled circuits (R293). -/
def State.tracked (s : State) : List Nat := (List.range 8).filter (fun n => s.circuitsOn.any (fun c => (s.cirV c).head? == some n))
/-- VA of a circuit. -/
def State.cirVa (s : State) (c : Nat) : Nat := s.fld (Reg.CIR_MAP c) 2 0

/-- The sensor types R286 permits. -/
def sensorFits (n sensor : Nat) : Bool := if n < 8 then decide (sensor ≤ 1) else decide (2 ≤ sensor ∧ sensor ≤ 4)

/-- R288: what refuses a write of ENABLE = 1, as ERR_INFO names it: the cases in their order, the lowest number first
(notes/assumptions/40.md). -/
def State.meterRefused (s : State) : Option Word :=
  let cirs := s.circuitsOn
  let cirBad := fun (f : Nat → Bool) => (cirs.find? f).map (fun c => (BitVec.ofNat 32 (c + 256) : Word))
  let chBad := fun (f : Nat → Bool) => ((List.range 32).find? f).map (fun n => (BitVec.ofNat 32 n : Word))
  (cirBad (fun c => (s.cirChans c).any (fun n => !s.chanOn n))).orElse fun _ =>
  (chBad (fun n => s.chanOn n && !sensorFits n (s.fld (Reg.CH_CFG n) 3 1))).orElse fun _ =>
  (chBad (fun n => s.chanOn n && !(f32.finite (s.rg (Reg.CH_RATIO n)).toNat && decide (0 < w2r (s.rg (Reg.CH_RATIO n)))))).orElse fun _ =>
  (chBad (fun n => decide (8 ≤ n) && decide (1 < (cirs.filter (fun c => (s.cirChans c).contains n)).length))).orElse fun _ =>
  (chBad (fun n => s.chanOn n && s.fld (Reg.CH_CFG n) 3 1 == 4 && !(1 ≤ s.fld (Reg.CH_CFG n) 12 8 && s.fld (Reg.CH_CFG n) 12 8 ≤ 20))).orElse fun _ =>
  cirBad (fun c =>
    let n := s.fld (Reg.CIR_LATCH_N c) 12 0
    let u := s.rg (Reg.CIR_UDIN c)
    !(1 ≤ n && n ≤ 4096) || !(f32.finite u.toNat && decide (1 ≤ w2r u ∧ w2r u ≤ 1000000)))

/-- METER_STATUS_WORD, COPY_ERR and the event of inactive records (R306, R321). -/
def State.meterStatus (s : State) : State :=
  s.setRg Reg.METER_STATUS_WORD (BitVec.ofNat 32 ((s.circuitsOn.map (fun c => 2 ^ c)).sum + 65536 * s.meter.copies.length))

/-! ### Calibration (R308 to R310) -/

/-- RANGE of a channel. -/
def State.chRange (s : State) (n : Nat) : Nat := s.fld (Reg.CH_CFG n) 5 4
/-- Full scale in volts at the balls (R534). -/
def State.fullScale (s : State) (n : Nat) : Rat :=
  if n < 8 then 1 / (2 ^ s.chRange n : Nat) else 1 / (4 ^ s.chRange n : Nat)
/-- Phase trims are held within ±4,096 (R290). -/
def clampTrim (i : Int) : Int := if 4096 < i then 4096 else if i < -4096 then -4096 else i
/-- Factory and user calibration combined (R308). -/
def State.activeCal (s : State) (n : Nat) : ActiveCal :=
  let u := (s.afe n).user
  let r := s.chRange n
  { gain := w2r (Config.factoryGain n r) * w2r u.gain, ofs := w2r (Config.factoryOfs n r) + w2r u.ofs,
    phase := clampTrim (Config.factoryPhase n r + u.phase) }
/-- The gain the temperature model corrects by, from REAL32 ppm. -/
def tempGain (corr : Word) : Rat := 1 + w2r corr / 1000000
/-- The calibration of a channel for the samples of a beat: the one before the last change where the beat is before it
(R310). -/
def State.calAt (s : State) (n beat : Nat) : ActiveCal :=
  match (s.afe n).old with
  | some (b, c) => if beat < b then c else s.activeCal n
  | none => s.activeCal n

/-- The active-calibration registers of a channel. -/
def State.showCal (s : State) (n : Nat) : State :=
  let c := s.activeCal n
  let u := (s.afe n).user
  let s := ((s.setRg (Reg.CH_GAIN_ACT n) (Config.meReal (c.gain * tempGain s.meter.corr))).setRg (Reg.CH_PHASE_ACT n) (BitVec.ofNat 32 (unsx 32 c.phase))).setRg
    (Reg.CH_OFFSET_ACT n) (Config.meReal c.ofs)
  s.setFld (Reg.CH_STATUS n) 2 2 (b2n (!(u.gain == 0x3F800000 && w2r u.ofs == 0 && u.phase == 0)))

/-- All of them. -/
def State.showCals (s : State) : State := (List.range 32).foldl (fun s n => s.showCal n) s

/-! ### The event ring (R314) -/

/-- A record written into the event ring. -/
def State.ringPut (s : State) (startNs durNs type circuit phases flags extreme : Nat) : State :=
  let seq := (s.rg Reg.PQ_HEAD).toNat + 1
  let rec_ := leBytes 8 startNs ++ leBytes 8 durNs ++ leBytes 4 seq ++ leBytes 1 type ++ leBytes 1 circuit ++ leBytes 1 phases ++
    leBytes 1 flags ++ leBytes 4 extreme ++ leBytes 4 0
  let full := 256 ≤ s.meter.ring.length
  let s := s.modMe (fun m => { m with ring := (if full then m.ring.drop 1 else m.ring) ++ [rec_] })
  let s := s.setRg Reg.PQ_HEAD (BitVec.ofNat 32 seq)
  if full then s.incSat Reg.PQ_LOST else s

/-- A gap ends at a device time: its record (R316 to R318). -/
def State.gapEnd (s : State) (ns : Nat) : State :=
  match s.meter.gap with
  | some g => ((s.modMe (fun m => { m with gap := none })).ringPut g.startNs (ns - g.startNs) g.type 0xFF 0 0 0).evt Head.meter 6
  | none => s

/-- Accumulation stops and a gap of a type begins, unless one has begun (R316 to R318). -/
def State.gapBegin (s : State) (type ns : Nat) : State :=
  s.modMe (fun m => { m with acc := false, gap := match m.gap with
    | some g => some g
    | none => some { type := type, startNs := ns } })

/-! ### Enabling -/

/-- A circuit's work in progress is dropped; its registers stay. -/
def MeterCircuit.restart (c : MeterCircuit) : MeterCircuit :=
  { MeterCircuit.reset with energy := c.energy, ready := c.ready, harm := c.harm, thd := c.thd }

/-- Tracking and windows begin anew, NO_SYNC being timed from now (R294, R296). -/
def State.meterRestart (s : State) : State :=
  s.modMe (fun m => { m with
    chans := m.chans.map (fun c => { c with delay := [], rog := [], band := [], last := 0, crossAt := none, validAt := some s.nsCount, period := none,
                                            noSync := false, nominalEnds := 0 })
    circuits := m.circuits.map MeterCircuit.restart
    failRun := 0, goodRun := 0, taken := s.beat, booked := s.beat })

/-- ENABLE takes a value the checks let through. Metering that stops is a gap (R288). -/
def State.meterEnable (s : State) (on : Bool) : State :=
  let s := if on then (s.meterRestart.showCals).setBlkState Head.meter 2
    else ((if s.meter.acc then s.gapBegin 4 s.nsCount else s).modMe (fun m => { m with acc := false })).setBlkState Head.meter 0
  (s.setReady Head.meter on).meterStatus

/-- The ME works: enabled and RUNNING or DEGRADED. -/
def State.meterLive (s : State) : Bool := s.enabled Head.meter && (s.blkState Head.meter == 2 || s.blkState Head.meter == 3)

/-! ### Crossings and cycles (R293, R294) -/

/-- The nominal period in ns. -/
def State.nominal (s : State) : Nat := if s.fld Reg.METER_CTRL 3 2 = 0 then 20000000 else 16666667
/-- The period a channel's cycles have: the tracked one, in NO_SYNC the nominal. -/
def State.chPeriod (s : State) (n : Nat) : Nat := if (s.afe n).noSync then s.nominal else (s.afe n).period.getD s.nominal
/-- An interval in ns lies between the periods of 69 and 42.5 Hz. -/
def lineInterval (d : Nat) : Bool := 1000000000 ≤ 69 * d && 425 * d ≤ 10000000000

/-- A cycle end: its device time, whether it is a valid crossing, whether the cycle was a NO_SYNC one. -/
structure CycleEnd where
  ns : Nat
  valid : Bool
  noSync : Bool
deriving DecidableEq, Repr

/-- A tracked channel takes a sample of its fundamental at a time (R293, R294). `strong` is whether the fundamental's rms
exceeds 2% of full scale. -/
def trackSample (c : AfeChan) (x : Rat) (strong : Bool) (t nominal : Nat) : AfeChan × Option CycleEnd :=
  let prev := c.last
  let c := { c with last := x }
  let tc := t - 31250 + min 31250 (Config.meCrossing prev x)
  let timed : AfeChan × Option CycleEnd :=
    if c.noSync then
      let due := c.validAt.getD 0 + (c.nominalEnds + 1) * nominal
      if due ≤ t then ({ c with nominalEnds := c.nominalEnds + 1 }, some (CycleEnd.mk due false true)) else (c, none)
    else (c, none)
  if prev < 0 ∧ 0 ≤ x ∧ strong = true then
    match c.crossAt with
    | some t0 =>
      if lineInterval (tc - t0) then
        ({ c with crossAt := some tc, validAt := some tc, period := some (tc - t0), noSync := false, nominalEnds := 0 }, some (CycleEnd.mk tc true c.noSync))
      else if c.noSync ∨ c.period = none then ({ timed.1 with crossAt := some tc }, timed.2)
      else timed
    | none => ({ timed.1 with crossAt := some tc }, timed.2)
  else timed

/-! ### Latch windows (R296, R297) -/

/-- A window that begins at a time. -/
def LatchWin.new (ns : Nat) : LatchWin :=
  { startNs := ns, cycles := 0, samples := 0, vv := [0, 0, 0], ii := [0, 0, 0], vi := [0, 0, 0], qi := [0, 0, 0], nn := 0, raw := List.replicate 6 [], flags := 0 }

/-- Lists added place by place. -/
def addL (a b : List Rat) : List Rat := List.zipWith (· + ·) a b
/-- Lists multiplied place by place. -/
def mulL (a b : List Rat) : List Rat := List.zipWith (· * ·) a b

/-- A value as a result word; zero stays zero. -/
def meReal (r : Rat) : Word := if r = 0 then 0 else Config.meReal r
/-- The square root of a value as a result word. -/
def meRoot (r : Rat) : Word := if r = 0 then 0 else Config.meRoot r

/-- The words 0 to 47 and the flags of a window that ends at a time (R297): the circuit's type, the tracked period, and
words 28 to 33. -/
def LatchWin.words (w : LatchWin) (type period endNs : Nat) (thd : List Word) : List Word :=
  let n : Rat := if w.samples = 0 then 1 else w.samples
  let vv := w.vv.map (· / n)
  let ii := w.ii.map (· / n)
  let p := w.vi.map (· / n)
  let q := w.qi.map (· / n)
  let s2 := mulL vv ii
  let ph := w.raw.map (fun x => if x.all (· == 0) then (0, 0) else Config.meDft period x)
  let v1 := ph.take 3
  let i1 := (ph.drop 3).mapIdx (fun k z => if type = 2 ∧ k = 2 then (0, 0) else z)
  let mag := fun (z : Rat × Rat) => meRoot (z.1 * z.1 + z.2 * z.2)
  let p1 := (List.zipWith (fun a b => a.1 * b.1 + a.2 * b.2) v1 i1).sum
  let pf := if s2.all (· == 0) then 0 else Config.meRootQuot p.sum s2
  let freq := meReal ((w.cycles : Rat) * 1000000000 / ((endNs - w.startNs : Nat) : Rat))
  [freq] ++ vv.map meRoot ++ ii.map meRoot ++ [meRoot (w.nn / n)] ++ p.map meReal ++ [meReal p.sum] ++ q.map meReal ++ [meReal q.sum] ++
    s2.map meRoot ++ [if s2.all (· == 0) then 0 else Config.meRootSum s2] ++ [pf] ++ v1.map mag ++ i1.map mag ++ [meReal p1] ++ thd ++
    [if type = 0 then 0 else Config.meUnbalance v1] ++ List.replicate 13 0 ++ [BitVec.ofNat 32 w.flags]

/-- The phase voltages and currents of a sample for a circuit, and its neutral current (R295, R297). -/
def State.cirSample (s : State) (c : Nat) (xs : List Rat) : List Rat × List Rat × Rat :=
  let at_ := fun (l : List Nat) (k : Nat) => match l[k]? with
    | some n => xs.getD n 0
    | none => 0
  let v := [at_ (s.cirV c) 0, at_ (s.cirV c) 1, at_ (s.cirV c) 2]
  let i := [at_ (s.cirI c) 0, at_ (s.cirI c) 1, at_ (s.cirI c) 2]
  let i := if s.cirType c = 2 then [i.getD 0 0, i.getD 1 0, -(i.getD 0 0 + i.getD 1 0)] else i
  let nn := match s.cirN c with
    | some n => xs.getD n 0
    | none => if s.cirType c = 1 then i.sum else 0
  (v, i, nn)

/-- The longest cycle, in samples, and one more. -/
def cycleSamples : Nat := 754

/-- A circuit takes a sample (R297, R301, R313): its sums, its window samples, p̄ and q̄. -/
def State.cirAdd (s : State) (c : Nat) (xs : List Rat) : State :=
  let (v, i, nn) := s.cirSample c xs
  let period := s.chPeriod (s.cirVa c)
  let acc := s.meter.acc
  s.modCir c (fun k =>
    let qs := List.zipWith (fun st x => Config.meQuarter st period x) k.quarter v
    let vq := qs.map (·.2)
    let p := k.p.cons (mulL v i).sum |>.take cycleSamples
    let q := k.q.cons (mulL vq i).sum |>.take cycleSamples
    let pm := Config.meMean period p
    let qm := Config.meMean period q
    { k with
      quarter := qs.map (·.1), p := p, q := q, pMean := pm, qMean := qm
      ep := if acc then k.ep + pm else k.ep, eq := if acc then k.eq + qm else k.eq
      vv := List.zipWith (fun h x => (x * x :: h).take cycleSamples) k.vv v
      win := k.win.map (fun w => { w with samples := w.samples + 1, vv := addL w.vv (mulL v v), ii := addL w.ii (mulL i i), vi := addL w.vi (mulL v i),
                                          qi := addL w.qi (mulL vq i), nn := w.nn + nn * nn,
                                          raw := List.zipWith (fun h x => x :: h) w.raw (v ++ i) })
      spec := k.spec.map (fun w => { w with raw := List.zipWith (fun h x => x :: h) w.raw (v ++ i) }) })

/-- Flags of R297 set in the window of a circuit. -/
def State.winFlag (s : State) (c bitNo : Nat) : State :=
  s.modCir c (fun k => { k with win := k.win.map (fun w => { w with flags := if bit w.flags bitNo then w.flags else w.flags + 2 ^ bitNo }) })

/-- The publishing beat of a crossing (R305): 250 µs after the end of its quantum. -/
def publishBeat (ns : Nat) : Nat := 4 * (ns / 1000000 + 1) + 1

/-- A circuit latches at a crossing (R296). Word 60 holds the flags, words 62 and 63 the time. -/
def State.cirLatch (s : State) (c ns : Nat) (w : LatchWin) : State :=
  let words := w.words (s.cirType c) (s.chPeriod (s.cirVa c)) ns (s.cir c).thd
  let s := s.setRg (Reg.CH_FREQ (s.cirVa c)) (words.getD 0 0)
  let s := s.modCir c (fun k => { k with ready := k.ready ++ [(publishBeat ns, words ++ [BitVec.ofNat 32 ns, BitVec.ofNat 32 (ns / 2 ^ 32)])] })
  if s.fld Reg.BILL_LATCH 15 0 ≠ 0 ∧ s.fld Reg.BILL_LATCH 19 16 = c then
    let n := s.meter.refCount + 1
    if n % s.fld Reg.BILL_LATCH 15 0 = 0 then s.modMe (fun m => { m with refCount := n, refQuantum := some (ns / 1000000) })
    else s.modMe (fun m => { m with refCount := n })
  else s

/-! ### Spectral windows (R299, R300) -/

/-- Cycles of a spectral window. -/
def State.specW (s : State) : Nat := if s.fld Reg.METER_CTRL 3 2 = 0 then 10 else 12

/-- The values of a window: by phase and order V_H, V_PH, I_H, I_PH, P_H; then THD of the voltages and of the currents. -/
def SpecWin.values (w : SpecWin) (grouping cyc : Nat) : List Word × List Word :=
  let va := w.raw.getD 0 []
  let mags := w.raw.map (fun x => (List.range 128).map (fun h => Config.meHarmonic grouping cyc h x))
  let harm := (List.range 3).flatMap (fun p => (List.range 128).flatMap (fun h =>
    let vh := (mags.getD p []).getD h 0
    let ih := (mags.getD (3 + p) []).getD h 0
    let vp := Config.mePhase grouping cyc h va (w.raw.getD p [])
    let ip := Config.mePhase grouping cyc h va (w.raw.getD (3 + p) [])
    [vh, vp, ih, ip, Config.meHarmPower vh vp ih ip]))
  (harm, mags.map Config.meThd)

/-- A spectral window ends, and the next begins, at a valid crossing. -/
def State.specEnd (s : State) (c : Nat) (w : SpecWin) : State :=
  let r := w.values (s.fld (Reg.CIR_CFG c) 7 6) s.specW
  let s := s.modCir c (fun k => { k with harm := r.1, thd := r.2 })
  ((s.setRg (Reg.SPEC_SEQ c) (s.rg (Reg.SPEC_SEQ c) + 2)).setRg64 (Reg.SPEC_NS_LO c) w.startNs).evt Head.meter 2

/-- The spectral window of a circuit at a cycle end. A window with a NO_SYNC cycle is discarded; the next begins at a valid
crossing. -/
def State.specCycle (s : State) (c : Nat) (e : CycleEnd) : State :=
  if s.fld (Reg.CIR_CFG c) 3 3 = 0 then s else
  let fresh : Option SpecWin := if e.valid then some { startNs := e.ns, cycles := 0, raw := List.replicate 6 [], noSync := false } else none
  match (s.cir c).spec with
  | none => s.modCir c (fun k => { k with spec := fresh })
  | some w =>
    if e.noSync then s.modCir c (fun k => { k with spec := fresh })
    else if w.cycles + 1 < s.specW then s.modCir c (fun k => { k with spec := some { w with cycles := w.cycles + 1 } })
    else (s.specEnd c { w with cycles := w.cycles + 1 }).modCir c (fun k => { k with spec := fresh })

/-! ### Power-quality events (R313, R314) -/

/-- A threshold in units of 0.01% of CIR_UDIN, squared. -/
def State.pqLimit (s : State) (c x : Nat) : Rat :=
  let u := w2r (s.rg (Reg.CIR_UDIN c)) * (x : Rat) / 10000
  u * u

/-- The phases whose Urms(1/2)² meets a condition, as bits. -/
def phaseMask (us : List Rat) (f : Rat → Bool) : Nat := ((us.mapIdx (fun k u => if f u then 2 ^ k else 0)).sum : Nat)

/-- The three detectors: when each begins, when it ends, and which of two values is the extreme one. -/
def State.pqRule (s : State) (c k : Nat) (us : List Rat) : Bool × Bool × Nat × (Rat → Rat → Rat) :=
  let t1 := s.rg Reg.PQ_THRESH1
  let t2 := s.rg Reg.PQ_THRESH2
  let hyst := wbits t2 31 16
  let lim := s.pqLimit c
  match k with
  | 0 =>
    let m := phaseMask us (fun u => u < lim (wbits t1 15 0))
    (m != 0, us.all (fun u => lim (wbits t1 15 0 + hyst) ≤ u), m, min)
  | 1 =>
    let m := phaseMask us (fun u => lim (wbits t1 31 16) < u)
    (m != 0, us.all (fun u => u ≤ lim (wbits t1 31 16 - hyst)), m, max)
  | _ =>
    let m := phaseMask us (fun u => u < lim (wbits t2 15 0))
    (us.all (fun u => u < lim (wbits t2 15 0)), us.any (fun u => lim (wbits t2 15 0 + hyst) ≤ u), m, min)

/-- A detector judges a refresh of Urms(1/2) at a time. -/
def State.pqJudge (s : State) (c ns k : Nat) (us : List Rat) (noSync : Bool) : State :=
  let r := s.pqRule c k us
  let ext := fun (l : List Rat) => match l with
    | [] => 0
    | u :: t => t.foldl r.2.2.2 u
  let put := fun (s : State) (e : Option PqEvent) => s.modCir c (fun x => { x with pq := modifyNth (fun _ => e) k x.pq })
  match (s.cir c).pq.getD k none with
  | none =>
    if r.1 then (put s (some { startNs := ns, phases := r.2.2.1, extreme := ext us, noSync := noSync })).evt Head.meter 5 else s
  | some e =>
    let e := { e with phases := e.phases ||| r.2.2.1, extreme := r.2.2.2 e.extreme (ext us), noSync := e.noSync || noSync }
    if r.2.1 then
      let u := w2r (s.rg (Reg.CIR_UDIN c))
      (((put s none).ringPut e.startNs (ns - e.startNs) (k + 1) c e.phases (b2n e.noSync) (Config.meExtreme (e.extreme / (u * u))))).evt Head.meter 6
    else put s (some e)

/-- Urms(1/2) of a circuit is refreshed at a time. -/
def State.pqRefresh (s : State) (c ns : Nat) : State :=
  if s.fld Reg.METER_CTRL 1 1 = 0 then (s.modCir c (fun k => { k with pq := List.replicate 3 none })).setFld (Reg.CIR_STATUS c) 5 5 0 else
  let ch := s.cirVa c
  let us := ((s.cir c).vv.take (s.cirV c).length).map (fun h => Config.meMean (s.chPeriod ch) h)
  let s := (List.range 3).foldl (fun s k => s.pqJudge c ns k us (s.afe ch).noSync) s
  s.setFld (Reg.CIR_STATUS c) 5 5 (b2n ((s.cir c).pq.any (·.isSome)))

/-! ### A cycle end at a circuit -/

/-- A circuit referenced to a channel takes its cycle end: the latch window, the spectral window, Urms(1/2). -/
def State.cirCycle (s : State) (c : Nat) (e : CycleEnd) : State :=
  let s := if e.noSync then s.winFlag c 0 else s
  let s := s.specCycle c e
  let s := match (s.cir c).win with
    | none => s.modCir c (fun k => { k with win := some (LatchWin.new e.ns) })
    | some w =>
      let w := { w with cycles := w.cycles + 1 }
      if w.cycles < s.fld (Reg.CIR_LATCH_N c) 12 0 then s.modCir c (fun k => { k with win := some w })
      else (s.cirLatch c e.ns w).modCir c (fun k => { k with win := some (LatchWin.new e.ns) })
  let s := if e.valid ∧ e.noSync then s.setFld (Reg.CIR_STATUS c) 0 0 0 else s
  let s := if e.noSync ∧ e.valid = false then s.winFlag c 0 else s
  (s.pqRefresh c e.ns).modCir c (fun k => { k with halfAt := some (e.ns + s.chPeriod (s.cirVa c) / 2) })

/-! ### The samples of a beat (R289 to R293) -/

/-- Channel n's sample of a code: calibrated, delayed, scaled and, for ROGOWSKI, integrated. A code is a 24-bit two's
complement fraction of full scale (notes/assumptions/41.md). -/
def State.scaleSample (s : State) (n beat : Nat) (code : Int) : State × Rat :=
  let c := s.calAt n beat
  let volts := (code : Rat) * s.fullScale n / (2 ^ 23 : Nat)
  let x := volts * (c.gain * tempGain s.meter.corr) + c.ofs
  let d := Config.meDelay (s.afe n).delay c.phase x
  let y := d.2 * w2r (s.rg (Reg.CH_RATIO n))
  let y := if s.fld (Reg.CH_CFG n) 6 6 = 1 then -y else y
  let s := s.modAfe n (fun a => { a with delay := d.1 })
  if s.fld (Reg.CH_CFG n) 3 1 = 4 then
    let va := (s.circuitsOn.find? (fun c => (s.cirChans c).contains n)).map s.cirVa
    let r := Config.meRogowski (s.afe n).rog (s.fld (Reg.CH_CFG n) 12 8) (match va with | some v => s.chPeriod v | none => s.nominal) y
    (s.modAfe n (fun a => { a with rog := r.1 }), r.2)
  else (s, y)

/-- The samples of one instant, by channel: a channel that is not enabled gives zero. -/
def State.scaleAll (s : State) (beat : Nat) (codes : List Int) : State × List Rat :=
  (List.range 32).foldl (fun r n =>
    if s.chanOn n then (let q := r.1.scaleSample n beat (codes.getD n 0); (q.1, r.2 ++ [q.2])) else (r.1, r.2 ++ [0])) (s, [])

/-- A tracked channel takes its sample: its fundamental, and a cycle end if it has one. -/
def State.trackChan (s : State) (n t : Nat) (x : Rat) : State × Option CycleEnd :=
  let b := Config.meBand (s.afe n).band (s.chPeriod n) x
  let fs := s.fullScale n * w2r (s.rg (Reg.CH_RATIO n))
  let strong := decide (fs * fs * 4 / 10000 < 2 * b.2.2 * b.2.2)
  let r := trackSample { s.afe n with band := b.1 } b.2.1 strong t s.nominal
  let s := s.modAfe n (fun _ => r.1)
  (s.setFld (Reg.CH_STATUS n) 1 1 (b2n r.1.noSync), r.2)

/-- A capture takes a sample of each channel of its mask (R319). -/
def State.captureAdd (s : State) (beat : Nat) (xs : List Rat) : State :=
  s.modMe (fun m => { m with capture := m.capture.map (fun c =>
    if c.start ≤ beat ∧ c.done = false then
      { c with taken := c.taken.mapIdx (fun n l => if bit c.mask n ∧ l.length < c.count then xs.getD n 0 :: l else l) } else c) })

/-- The samples of one instant of a beat. -/
def State.meterInstant (s : State) (beat k : Nat) (codes : List Int) : State :=
  let t := beat * 250000 + k * 31250
  let (s, xs) := s.scaleAll beat codes
  let s := s.captureAdd beat xs
  let (s, ends) := s.tracked.foldl (fun (r : State × List (Nat × CycleEnd)) n =>
    let q := r.1.trackChan n t (xs.getD n 0)
    (q.1, match q.2 with
      | some e => r.2 ++ [(n, e)]
      | none => r.2)) (s, ([] : List (Nat × CycleEnd)))
  s.circuitsOn.foldl (fun s c =>
    let s := match (s.cir c).halfAt with
      | some h => if h ≤ t then (s.pqRefresh c h).modCir c (fun x => { x with halfAt := none }) else s
      | none => s
    match ends.find? (fun e => e.1 == s.cirVa c) with
    | some e => if e.2.ns < t then (s.cirCycle c e.2).cirAdd c xs else (s.cirAdd c xs).cirCycle c e.2
    | none => s.cirAdd c xs) s

/-- The clipped samples of a beat by channel (R291). -/
def State.meterClips (s : State) (clips : List Nat) : State :=
  (List.range 32).foldl (fun s n =>
    let k := clips.getD n 0
    if s.chanOn n = false then s
    else if k = 0 then s.setFld (Reg.CH_STATUS n) 0 0 0
    else
      let s := ((s.setFld (Reg.CH_STATUS n) 0 0 1).setRg (Reg.CLIP_CNT n) (satAdd (s.rg (Reg.CLIP_CNT n)) k)).evt Head.meter 3
      s.circuitsOn.foldl (fun s c => if (s.cirChans c).contains n then s.winFlag c 2 else s) s) s

/-- A beat whose samples were lost: p̄ and q̄ stay, the windows have a gap (R316). -/
def State.meterLost (s : State) : State :=
  let s := s.circuitsOn.foldl (fun s c =>
    (s.winFlag c 1).modCir c (fun k => if s.meter.acc then { k with ep := k.ep + 8 * k.pMean, eq := k.eq + 8 * k.qMean } else k)) s
  (s.incSat Reg.SAMPLE_GAP_CNT).evt Head.meter 11

/-- The samples of the beat before this one arrive, or are lost (R289, R316). -/
def State.afeBeat (s : State) (crcOk : Bool) (codes : List (List Int)) (clips : List Nat) : State :=
  let beat := s.beat - 1
  let s := s.modMe (fun m => { m with taken := s.beat })
  if crcOk then
    let s := (s.modMe (fun m => { m with failRun := 0, goodRun := m.goodRun + 1 })).meterClips clips
    (List.range 8).foldl (fun s k => s.meterInstant beat k (codes.map (fun l => l.getD k 0))) s
  else
    (s.modMe (fun m => { m with failRun := m.failRun + 1, goodRun := 0, failNs := if m.failRun = 0 then beat * 250000 else m.failNs })).meterLost

/-- The AFE delivers samples: the ME works, its supply is in range, and those of the last beat have not come yet. -/
def State.afeDue (s : State) : Bool := s.meterLive && s.fld Reg.PWR_STATUS 2 2 == 1 && decide (s.meter.taken < s.beat)

/-- `AFE_LINK_DEGRADE` (R316): after 40 consecutive failed beats. -/
def State.afeDegrade (s : State) : State :=
  if s.meterLive ∧ s.blkState Head.meter = 2 ∧ 40 ≤ s.meter.failRun then
    ((s.gapBegin 4 s.meter.failNs).setBlkState Head.meter 3).evt Head.meter 9
  else s

/-- `AFE_LINK_RESUME` (R316): at the first quantum boundary after 4 consecutive good beats. -/
def State.afeResume (s : State) : State :=
  if s.meterLive ∧ s.blkState Head.meter = 3 ∧ 4 ≤ s.meter.goodRun ∧ s.beat % 4 = 0 then
    ((s.gapEnd (s.beat * 250000)).modMe (fun m => { m with acc := true, booked := s.beat, circuits := m.circuits.map (fun k => { k with ep := 0, eq := 0 }) })).setBlkState Head.meter 2
  else s

/-- `AFE_LINK_RESUME` (R316). -/
def execAfeLinkResume (s : State) : Host.Outcome State Fault Refusal := .next s.afeResume


/-- `NO_SYNC_TIMEOUT` (R294): no valid crossing within 1 / 42.5 s. The cycle in progress ends at the first whole number of
nominal periods from the last valid crossing that lies ahead (notes/assumptions/42.md). -/
def State.noSync (s : State) (n : Nat) : State :=
  let now := s.meter.taken * 250000
  match (s.afe n).validAt with
  | some t =>
    if s.meterLive ∧ s.tracked.contains n ∧ (s.afe n).noSync = false ∧ 10000000000 ≤ 425 * (now - t) then
      let s := (s.modAfe n (fun a => { a with noSync := true, nominalEnds := (now - t) / s.nominal })).setFld (Reg.CH_STATUS n) 1 1 1
      let s := s.circuitsOn.foldl (fun s c => if s.cirVa c = n then ((s.setFld (Reg.CIR_STATUS c) 0 0 1).winFlag c 0).modCir c (fun k => { k with spec := none }) else s) s
      s.evt Head.meter 4
    else s
  | none => s

/-- `NO_SYNC_TIMEOUT`. -/
def execNoSyncTimeout (ch : Nat) (s : State) : Host.Outcome State Fault Refusal := .next (s.noSync ch)

/-! ### Energy (R301 to R304) -/

/-- An amount in units of 2^−32 of the LSB added to a register of 96 bits; whether it wrapped. -/
def addWrap (reg amount : Nat) : Nat × Bool := ((reg + amount) % 2 ^ 96, decide (2 ^ 96 ≤ reg + amount))

/-- Energy in W × 31.25 µs as a multiple of 2^−32 µWh, cut off: 31.25 µs × W is 5/576 µWh (R304). -/
def quantumUnits (e : Rat) : Nat := (absR e * 5 * (2 ^ 32 : Nat) / 576).floor.toNat

/-- The register the active energy of a quantum goes to, and the one of the reactive energy (R302), from P_q and Q_q. -/
def quantumRegs (p q np nq : Rat) : Option Nat × Option Nat :=
  (if absR p < np then none else if np ≤ p then some 0 else some 1,
   if absR q < nq then none else if 0 ≤ q then (if 0 ≤ p then some 2 else some 3) else (if p < 0 then some 4 else some 5))

/-- One register of a circuit takes an amount. -/
def State.bookTo (s : State) (c r amount : Nat) : State :=
  let a := addWrap ((s.cir c).energy.getD r 0) amount
  let s := s.modCir c (fun k => { k with energy := modifyNth (fun _ => a.1) r k.energy })
  if a.2 then (s.setFld (Reg.CIR_STATUS c) 4 4 1).evt Head.meter 8 else s

/-- A circuit's quantum is booked (R302, R303). -/
def State.bookQuantum (s : State) (c : Nat) : State :=
  let k := s.cir c
  let p := k.ep / 32
  let q := k.eq / 32
  let np := w2r (s.rg (Reg.CIR_NOLOAD_P c))
  let nq := w2r (s.rg (Reg.CIR_NOLOAD_Q c))
  let r := quantumRegs p q np nq
  let s := s.modCir c (fun k => { k with ep := 0, eq := 0 })
  let s := match r.1 with
    | some i => s.bookTo c i (quantumUnits k.ep)
    | none => s.winFlag c 3
  let s := match r.2 with
    | some i => s.bookTo c i (quantumUnits k.eq)
    | none => s.winFlag c 4
  ((s.setFld (Reg.CIR_STATUS c) 1 1 (b2n r.1.isNone)).setFld (Reg.CIR_STATUS c) 2 2 (b2n r.2.isNone)).setFld (Reg.CIR_STATUS c) 3 3 (b2n (r.1 == some 1))

/-- The registers that a pair mirrors are written by the unit that owns control (R315). -/
def State.metersHere (s : State) : Bool := s.owns

/-- The electrical part of a quantum's end: booking while accumulating, the temperature correction of the next quantum, and
the return of accumulation after an enable, a fault or a warm start (R302, R309, R317, R318). -/
def State.meterQuantum (s : State) : State :=
  let s := if s.meterLive ∧ s.meter.acc then s.circuitsOn.foldl (fun s c => if s.metersHere then s.bookQuantum c else s.modCir c (fun k => { k with ep := 0, eq := 0 })) s else s
  let s := if s.meterLive ∧ s.meter.corr ≠ s.meter.corrNext then (s.modMe (fun m => { m with corr := m.corrNext })).showCals else s
  let waits := match s.meter.gap with
    | some g => g.type == 5 && !s.running
    | none => false
  if s.enabled Head.meter ∧ s.blkState Head.meter = 2 ∧ s.meter.acc = false ∧ waits = false then
    (s.gapEnd (s.beat * 250000)).modMe (fun m => { m with acc := true, circuits := m.circuits.map (fun k => { k with ep := 0, eq := 0 }) })
  else s

/-! ### Publication (R305, R324) -/

/-- Address of word w of a circuit's result set. -/
def meterWordAt (c w : Nat) : Nat := 0x184040 + 0x1000 * (c / 8) + 0x100 * (c % 8) + 4 * w

/-- A result set is published: its words, the registers, and LATCH_SEQ two higher. -/
def State.publishSet (s : State) (c : Nat) (words : List Word) : State :=
  let s := (words.take 48).zipIdx.foldl (fun s x => s.setRg (meterWordAt c x.2) x.1) s
  let s := (s.cir c).energy.zipIdx.foldl (fun s x => s.setRg64 (meterWordAt c (48 + 2 * x.2)) (x.1 / 2 ^ 32)) s
  let seq := s.rg (meterWordAt c 61) + 2
  let s := ((s.setRg (meterWordAt c 60) (words.getD 48 0)).setRg (meterWordAt c 62) (words.getD 49 0)).setRg (meterWordAt c 63) (words.getD 50 0)
  ((s.setRg (meterWordAt c 61) seq).setRg (Reg.LATCH_SEQ c) seq).evt Head.meter 1

/-- The sets whose publishing beat has come are published. -/
def State.meterPublish (s : State) : State :=
  (List.range 16).foldl (fun s c =>
    let due := (s.cir c).ready.filter (fun r => decide (r.1 ≤ s.beat))
    let s := s.modCir c (fun k => { k with ready := k.ready.filter (fun r => decide (s.beat < r.1)) })
    if s.metersHere then due.foldl (fun s r => s.publishSet c r.2) s else s) s

/-- `LATCH_PUBLISH` (R305). -/
def execLatchPublish (s : State) : Host.Outcome State Fault Refusal :=
  .next (if s.meterLive then s.meterPublish else s)

/-! ### The copy lists (R306, R334) -/

/-- A copy record names an active target: an I-area array of INT32 or REAL32 of COUNT elements. -/
def State.copyTarget (s : State) (r : List Byte) : Option (Nat × Sym) :=
  match s.symFind (natAt r 4 4) with
  | some (p, y) => if y.area = 0 ∧ (y.type = 1 ∨ y.type = 3) ∧ 1 ≤ y.dims ∧ natAt r 2 1 ≤ y.count then some (p, y) else none
  | none => none

/-- The indexes of the inactive records. -/
def State.copyOff (s : State) (rs : List (List Byte)) : List Nat :=
  (rs.zipIdx.filter (fun x => (s.copyTarget x.1).isNone)).map (·.2)

/-- The copy lists are resolved against the loaded programs: COPY_ERR of METER and THERM and their events. -/
def State.resolveCopies (s : State) : State :=
  let a := s.copyOff s.meter.copies
  let b := s.copyOff s.meter.thermCopies
  let s := s.modMe (fun m => { m with copiesOff := a, thermCopiesOff := b })
  let s := s.setRg Reg.COPY_ERR (BitVec.ofNat 32 (a.length + 65536 * a.head?.getD 0))
  let s := s.setRg Reg.THERM_COPY_ERR (BitVec.ofNat 32 (b.length + 65536 * b.head?.getD 0))
  let s := if a = [] then s else s.evt Head.meter 10
  if b = [] then s else s.evt Head.therm 7

/-- The records of a list for a program, copied from result words into its I section. -/
def State.copyRecords (s : State) (p : Nat) (rs : List (List Byte)) (off : List Nat) (word : State → Nat → Nat → Word) : State :=
  rs.zipIdx.foldl (fun s x =>
    if off.contains x.2 then s else
    match s.copyTarget x.1 with
    | some (q, y) =>
      if q = p then s.putData (s.symAddr q y) ((List.range (natAt x.1 2 1)).flatMap (fun k => leBytes 4 (word s (natAt x.1 0 1) (natAt x.1 1 1 + k)).toNat)) else s
    | none => s) s

/-- The copies of a program that begins its cycle: meter, then thermal (R55 step 2). -/
def State.meterCopies (s : State) (p : Nat) : State :=
  (s.copyRecords p s.meter.copies s.meter.copiesOff State.meterWord).copyRecords p s.meter.thermCopies s.meter.thermCopiesOff State.thermWord

/-- The lists that METER_COPY_SET and THERM_COPY_SET gave take their place at P0. -/
def State.takeCopies (s : State) : State :=
  if s.meter.copiesNext = none ∧ s.meter.thermCopiesNext = none then s else
  let s := s.modMe (fun m => { m with copies := m.copiesNext.getD m.copies, thermCopies := m.thermCopiesNext.getD m.thermCopies,
                                      copiesNext := none, thermCopiesNext := none })
  let s := s.meterStatus.resolveCopies
  s.setFld Reg.THERM_STATUS_WORD 31 16 s.meter.thermCopies.length

/-- A copy record's own fields: circuit or meter, words, and its reserved bytes. -/
def copyRecOk (units words : Nat) (r : List Byte) : Bool :=
  natAt r 0 1 < units && natAt r 1 1 < words && 1 ≤ natAt r 2 1 && natAt r 1 1 + natAt r 2 1 ≤ words && natAt r 3 1 == 0 && natAt r 8 4 == 0

/-- The records of a list payload. -/
def copyRecs (p : List Byte) : List (List Byte) := (List.range (natAt p 0 2)).map (fun k => bytesAt p (4 + 12 * k) 12)

/-- The first refused field of a list payload. -/
def copyArgs (most units words : Nat) (p : List Byte) : Option Nat :=
  firstBad ([(0, decide (natAt p 0 2 ≤ most)), (2, zeroAt p 2 2)] ++ (copyRecs p).mapIdx (fun k r => (4 + 12 * k, copyRecOk units words r)))

/-! ### The setup record (R367, R369) -/

/-- Page of the metering setup record. -/
abbrev meterRecAt : Nat := 256 * 2014

/-- The record's bytes from 0x010 on, but for the reserved end. -/
def State.meterRecBody (s : State) : List Byte :=
  let w := fun (a : Nat) => leBytes 4 (s.rg a).toNat
  let copies := (s.meter.copiesNext.getD s.meter.copies)
  leBytes 4 (b2n (s.enabled Head.meter)) ++ w Reg.METER_CTRL ++ w Reg.PQ_THRESH1 ++ w Reg.PQ_THRESH2 ++
    (List.range 32).flatMap (fun n => w (Reg.CH_CFG n) ++ w (Reg.CH_RATIO n)) ++
    (List.range 16).flatMap (fun c => (List.range 6).flatMap (fun k => w (Reg.CIR_CFG c + 4 * k))) ++
    (List.range 32).flatMap (fun n => let u := (s.afe n).user
                                      leBytes 4 u.gain.toNat ++ leBytes 4 u.ofs.toNat ++ leBytes 4 (unsx 32 u.phase)) ++
    bytesAt copies.flatten 0 3072

/-- SETUP_TAG of a record's body (R367). -/
def meterTag (body : List Byte) : Nat := natAt (shake (bytesAt body 0 0x290 ++ bytesAt body 0x410 0xC00) 4) 0 4

/-- The metering setup record. -/
def State.meterRecord (s : State) : List Byte :=
  let body := s.meterRecBody
  let head := leBytes 4 0x534D4553 ++ leBytes 2 1 ++ leBytes 2 (s.meter.copiesNext.getD s.meter.copies).length ++ leBytes 4 (s.rg Reg.CAL_COUNT).toNat
  let front := head ++ leBytes 4 0 ++ body
  head ++ leBytes 4 (crc32c front).toNat ++ body ++ List.replicate 224 0

/-- The SC writes the record and commands a store. -/
def State.saveMeterSetup (s : State) : State :=
  let s := (s.seamFw meterRecAt s.meterRecord).requestStore .plain
  s.setRg Reg.SETUP_TAG (BitVec.ofNat 32 (meterTag s.meterRecBody))

/-- A setup record's magic, format and CRC hold (R367, R368). -/
def setupOk (rec_ : List Byte) (magic front : Nat) : Bool :=
  natAt rec_ 0 4 == magic && natAt rec_ 4 2 == 1 && (crc32c (setBytes (rec_.take front) 12 [0, 0, 0, 0])).toNat == natAt rec_ 12 4

/-- The setup is loaded from the record at a cold start (R318): the registers, the user calibration, the copy list. The
result is whether there was a valid record, and the ENABLE it holds. -/
def State.loadMeterSetup (s : State) : State × Option Bool :=
  let rec_ := s.seam.sram.getN meterRecAt 4352
  if setupOk rec_ 0x534D4553 0x1020 then
    let w := fun (o : Nat) => (BitVec.ofNat 32 (natAt rec_ o 4) : Word)
    let s := ((s.setRg Reg.METER_CTRL (w 0x14)).setRg Reg.PQ_THRESH1 (w 0x18)).setRg Reg.PQ_THRESH2 (w 0x1C)
    let s := (List.range 32).foldl (fun s n => (s.setRg (Reg.CH_CFG n) (w (0x20 + 8 * n))).setRg (Reg.CH_RATIO n) (w (0x24 + 8 * n))) s
    let s := (List.range 16).foldl (fun s c => (List.range 6).foldl (fun s k => s.setRg (Reg.CIR_CFG c + 4 * k) (w (0x120 + 24 * c + 4 * k))) s) s
    let s := s.modMe (fun m => { m with
      chans := (List.range 32).map (fun n => { AfeChan.reset with user := { gain := w (0x2A0 + 12 * n), ofs := w (0x2A4 + 12 * n), phase := sext 32 (natAt rec_ (0x2A8 + 12 * n) 4) } })
      copies := (List.range (min 256 (natAt rec_ 6 2))).map (fun k => bytesAt rec_ (0x420 + 12 * k) 12) })
    ((s.setRg Reg.CAL_COUNT (w 8)).setRg Reg.SETUP_TAG (BitVec.ofNat 32 (meterTag (rec_.drop 16))), some (bit (natAt rec_ 0x10 4) 0))
  else (s, none)

/-! ### Calibration changes (R310) -/

/-- The first quantum boundary at least two beats after a beat. -/
def calBeat (b : Nat) : Nat := (b + 2 + 3) / 4 * 4

/-- `CAL_TAKE_EFFECT` (R310): the changes whose beat has come. -/
def State.calEffect (s : State) : State :=
  (List.range 32).foldl (fun s n =>
    match (s.afe n).next with
    | some (b, u) =>
      if b ≤ s.beat then
        let was := s.activeCal n
        let s := s.modAfe n (fun a => { a with user := u, next := none, old := some (b, was) })
        (((s.showCal n).incSat Reg.CAL_COUNT).evt Head.meter 7).saveMeterSetup
      else s
    | none => s) s

/-- `CAL_TAKE_EFFECT`. -/
def execCalTakeEffect (s : State) : Host.Outcome State Fault Refusal := .next s.calEffect

/-! ### Opcodes (R319) -/

/-- STATE of METER. -/
def meterState : Refuse := .state Head.meter
/-- Circuit and reserved bytes. -/
def cirArgs (p : List Byte) : List (Nat × Bool) := [(0, natAt p 0 1 < 16), (1, zeroAt p 1 3)]
/-- Legal while the circuit is enabled. -/
def cirEnabled (s : State) (req : OctahReq) : Option Refuse := if s.cirOn (natAt req.pl 0 1) then none else some meterState
/-- Legal while CAL_EN is 1. -/
def calEnabled (s : State) (_ : OctahReq) : Option Refuse := if s.fld Reg.METER_CTRL 0 0 = 1 then none else some meterState

/-- `METER_LATCH_READ`. -/
def execMeterLatchRead (req : OctahReq) (s : State) : Host.Outcome State Fault Refusal :=
  .next (octah { opcode := 0x0600, owner := false, len := fun n => n == 4
                 args := fun _ p => firstBad (cirArgs p), legal := cirEnabled
                 run := fun s req => s.opOk req.tag (leBytes 8 s.beat ++ (List.range 64).flatMap (fun w => leBytes 4 (s.meterWord (natAt req.pl 0 1) w).toNat)) } req s)

/-- `METER_HARM_READ`. -/
def execMeterHarmRead (req : OctahReq) (s : State) : Host.Outcome State Fault Refusal :=
  .next (octah { opcode := 0x0601, owner := false, len := fun n => n == 4
                 args := fun _ p => firstBad [(0, natAt p 0 1 < 16), (1, natAt p 1 1 < 3), (2, natAt p 2 1 < 128),
                   (3, 1 ≤ natAt p 3 1 && natAt p 2 1 + natAt p 3 1 ≤ 128)]
                 legal := fun s req => let c := natAt req.pl 0 1
                                       if s.cirOn c ∧ s.fld (Reg.CIR_CFG c) 3 3 = 1 then none else some meterState
                 run := fun s req =>
                   let c := natAt req.pl 0 1
                   let from_ := 5 * (128 * natAt req.pl 1 1 + natAt req.pl 2 1)
                   let n := 5 * natAt req.pl 3 1
                   s.opOk req.tag (leBytes 4 (s.rg (Reg.SPEC_SEQ c)).toNat ++ leBytes 4 0 ++ leBytes 8 (s.rg64 (Reg.SPEC_NS_LO c)) ++
                     (List.range n).flatMap (fun k => leBytes 4 ((s.cir c).harm.getD (from_ + k) 0).toNat)) } req s)

/-- `METER_EVENT_READ`. -/
def execMeterEventRead (req : OctahReq) (s : State) : Host.Outcome State Fault Refusal :=
  .next (octah { opcode := 0x0602, owner := false, len := fun n => n == 8
                 args := fun _ p => firstBad [(4, 1 ≤ natAt p 4 2 && natAt p 4 2 ≤ 64), (6, zeroAt p 6 2)], legal := always
                 run := fun s req =>
                   let out := (s.meter.ring.filter (fun r => decide (natAt req.pl 0 4 ≤ natAt r 0x10 4))).take (natAt req.pl 4 2)
                   s.opOk req.tag (leBytes 2 out.length ++ leBytes 2 0 ++ out.flatten) } req s)

/-- A REAL32 field of a payload. -/
def realAt (p : List Byte) (o : Nat) : Word := BitVec.ofNat 32 (natAt p o 4)
/-- It is finite and lies between two numbers, each as REAL32. -/
def realIn (w : Word) (lo hi : Rat) : Bool := f32.finite w.toNat && decide (w2r (r2w lo) ≤ w2r w ∧ w2r w ≤ w2r (r2w hi))

/-- `METER_CAL_WRITE` (R310). -/
def execMeterCalWrite (req : OctahReq) (s : State) : Host.Outcome State Fault Refusal :=
  .next (octah { opcode := 0x0603, owner := false, len := fun n => n == 16
                 args := fun _ p => firstBad [(0, natAt p 0 1 < 32), (1, natAt p 1 1 < 8), (2, zeroAt p 2 2),
                   (4, !bit (natAt p 1 1) 0 || realIn (realAt p 4) (9 / 10) (11 / 10)),
                   (8, !bit (natAt p 1 1) 1 || f32.finite (natAt p 8 4)),
                   (12, !bit (natAt p 1 1) 2 || decide (-2048 ≤ sext 32 (natAt p 12 4) ∧ sext 32 (natAt p 12 4) ≤ 2048))]
                 legal := calEnabled
                 run := fun s req =>
                   let p := req.pl
                   let n := natAt p 0 1
                   let m := natAt p 1 1
                   let at_ := calBeat s.beat
                   let s := s.opStart req.tag
                   let s := s.modAfe n (fun a =>
                     let u := match a.next with
                       | some (_, u) => u
                       | none => a.user
                     { a with next := some (at_, { gain := if bit m 0 then realAt p 4 else u.gain, ofs := if bit m 1 then realAt p 8 else u.ofs,
                                                   phase := if bit m 2 then sext 32 (natAt p 12 4) else u.phase }) })
                   s.opOk req.tag (leBytes 8 at_) } req s)

/-- `METER_CAL_RESTORE` (R310). -/
def execMeterCalRestore (req : OctahReq) (s : State) : Host.Outcome State Fault Refusal :=
  .next (octah { opcode := 0x0604, owner := false, len := fun n => n == 4, args := noArgs, legal := calEnabled
                 run := fun s req =>
                   let at_ := calBeat s.beat
                   let s := s.opStart req.tag
                   let s := (List.range 32).foldl (fun s n =>
                     if bit (natAt req.pl 0 4) n then s.modAfe n (fun a => { a with next := some (at_, AfeChan.reset.user) }) else s) s
                   s.opOk req.tag (leBytes 8 at_) } req s)

/-- `METER_CAL_READ`. -/
def execMeterCalRead (req : OctahReq) (s : State) : Host.Outcome State Fault Refusal :=
  .next (octah { opcode := 0x0605, owner := false, len := fun n => n == 4
                 args := fun _ p => firstBad [(0, natAt p 0 1 < 32), (1, zeroAt p 1 3)], legal := always
                 run := fun s req =>
                   let n := natAt req.pl 0 1
                   let u := (s.afe n).user
                   let r := s.chRange n
                   let i := fun (x : Int) => leBytes 4 (unsx 32 x)
                   s.opOk req.tag (leBytes 4 (Config.factoryGain n r).toNat ++ leBytes 4 (Config.factoryOfs n r).toNat ++ i (Config.factoryPhase n r) ++
                     leBytes 4 u.gain.toNat ++ leBytes 4 u.ofs.toNat ++ i u.phase ++
                     leBytes 4 (s.rg (Reg.CH_GAIN_ACT n)).toNat ++ leBytes 4 (s.rg (Reg.CH_OFFSET_ACT n)).toNat ++ leBytes 4 (s.rg (Reg.CH_PHASE_ACT n)).toNat ++
                     leBytes 4 (s.rg Reg.CAL_COUNT).toNat) } req s)

/-- `METER_SETUP_SAVE` (R319). -/
def execMeterSetupSave (req : OctahReq) (s : State) : Host.Outcome State Fault Refusal :=
  .next (octah { opcode := 0x0606, owner := false, len := fun n => n == 0, args := noArgs, legal := always
                 run := fun s req =>
                   let s := (s.opStart req.tag).saveMeterSetup
                   s.opOk req.tag (leBytes 4 (s.rg Reg.SETUP_TAG).toNat) } req s)

/-- `METER_COPY_SET` (R306): from the next P0. -/
def execMeterCopySet (req : OctahReq) (s : State) : Host.Outcome State Fault Refusal :=
  .next (octah { opcode := 0x0607, owner := true, len := fun n => decide (4 ≤ n), fits := fun p => p.length == 4 + 12 * natAt p 0 2
                 args := fun _ p => copyArgs 256 16 64 p, legal := always
                 run := fun s req =>
                   ((s.opStart req.tag).modMe (fun m => { m with copiesNext := some (copyRecs req.pl) })).opDue (s.beat + 1) req.tag [] } req s)

/-- `METER_CAPTURE` (R319). -/
def execMeterCapture (req : OctahReq) (s : State) : Host.Outcome State Fault Refusal :=
  .next (octah { opcode := 0x0608, owner := false, len := fun n => n == 16
                 args := fun s p => firstBad [(4, 1 ≤ natAt p 4 4 && natAt p 4 4 ≤ 65536), (8, s.beat + 4 ≤ natAt p 8 8)]
                 legal := fun s _ => match s.meter.capture with
                   | some c => if c.done then none else some meterState
                   | none => none
                 run := fun s req =>
                   let p := req.pl
                   let c : Capture := { mask := natAt p 0 4, count := natAt p 4 4, start := natAt p 8 8, taken := List.replicate 32 [], done := false }
                   let s := (s.opStart req.tag).modMe (fun m => { m with capture := some c })
                   (s.setBusy Head.meter true).opOk req.tag [] } req s)

/-- `CAPTURE_DONE` (R319): every channel of the mask has its samples. -/
def execCaptureDone (s : State) : Host.Outcome State Fault Refusal :=
  match s.meter.capture with
  | some c =>
    if c.done = false ∧ (List.range 32).all (fun n => !bit c.mask n || (c.taken.getD n []).length == c.count) then
      .next (((s.modMe (fun m => { m with capture := some { c with done := true } })).setBusy Head.meter false).evt Head.meter 12)
    else .next s
  | none => .next s

/-- `METER_CAPTURE_READ`. -/
def execMeterCaptureRead (req : OctahReq) (s : State) : Host.Outcome State Fault Refusal :=
  .next (octah { opcode := 0x0609, owner := false, len := fun n => n == 12
                 args := fun _ p => firstBad [(0, natAt p 0 1 < 32), (1, zeroAt p 1 3), (8, 1 ≤ natAt p 8 2 && natAt p 8 2 ≤ 1000), (10, zeroAt p 10 2)]
                 legal := fun s req => match s.meter.capture with
                   | some c => if c.done ∧ bit c.mask (natAt req.pl 0 1) then
                       (if natAt req.pl 4 4 + natAt req.pl 8 2 ≤ c.count then none else some (.arg 4)) else some meterState
                   | none => some meterState
                 run := fun s req =>
                   match s.meter.capture with
                   | some c =>
                     let xs := ((c.taken.getD (natAt req.pl 0 1) []).reverse.drop (natAt req.pl 4 4)).take (natAt req.pl 8 2)
                     s.opOk req.tag (leBytes 8 (c.start * 250000) ++ xs.flatMap (fun x => leBytes 4 (meReal x).toNat))
                   | none => s } req s)

/-! ### Starts and faults (R317, R318) -/

/-- A BLOCK_FAULT of METER (R317). -/
def State.meterFault (s : State) : State :=
  let s := if s.enabled Head.meter then (s.gapBegin 4 s.nsCount).setBlkState Head.meter 4 else s
  let s := s.modMe (fun m => { m with thermAcc := false })
  if s.enabled Head.therm then s.setBlkState Head.therm 4 else s

/-- A warm start keeps the registers; accumulation waits for FRAME (R318). -/
def State.meterWarm (s : State) : State :=
  let s := s.modMe (fun m => { m with capture := none, copiesNext := none, thermCopiesNext := none, billAt := none, save := none })
  let s := (s.setBusy Head.meter false).modMe (fun m => { m with thermAcc := false, thermWait := true })
  if s.enabled Head.meter ∧ s.blkState Head.meter ≠ 4 then ((s.gapBegin 5 s.nsCount).meterRestart).setBlkState Head.meter 2 else s

end Sys2Proof.Machine
end

