-- ==== Sys2Proof/Machine/ThermOps.lean ====
section
/-!
DEFINITION. Thermal metering (R325 to R336): inputs, the energy of a quantum, results, calibration, the user tables, the
setup record and the opcodes.
-/
namespace Sys2Proof.Machine

/-- A thermal meter. -/
def State.thm (s : State) (p : Nat) : ThermMeter := s.meter.therms.getD p ThermMeter.reset
/-- A thermal meter replaced by a function of it. -/
def State.modThm (s : State) (p : Nat) (f : ThermMeter → ThermMeter) : State := s.modMe (fun m => { m with therms := modifyNth f p m.therms })
/-- THP_CFG.EN. -/
def State.thmOn (s : State) (p : Nat) : Bool := decide (p < 8) && s.fld (Reg.THP_CFG p) 0 0 == 1
/-- The enabled meters. -/
def State.thmsOn (s : State) : List Nat := (List.range 8).filter s.thmOn
/-- The pulse input of a meter. -/
def State.thmLio (s : State) (p : Nat) : Nat := s.fld (Reg.THP_CFG p) 12 8

/-- R347: the meter for which a write of ENABLE = 1 is refused. -/
def State.thermRefused (s : State) : Option Word :=
  (s.thmsOn.find? (fun p => !(s.thmLio p < 32 && s.fld (Reg.LIO_PCFG (s.thmLio p)) 0 0 == 1) ||
    (s.fld (Reg.THP_CFG p) 4 4 == 1 && (s.meter.tables.getD (s.fld (Reg.THP_CFG p) 6 5) []).isEmpty))).map (fun p => BitVec.ofNat 32 p)

/-- THERM_STATUS_WORD. -/
def State.thermStatus (s : State) : State :=
  s.setRg Reg.THERM_STATUS_WORD (BitVec.ofNat 32 ((s.thmsOn.map (fun p => 2 ^ p)).sum + 65536 * s.meter.thermCopies.length))

/-- ENABLE takes a value the checks let through. -/
def State.thermEnable (s : State) (on : Bool) : State :=
  let s := s.modMe (fun m => { m with thermAcc := false, therms := m.therms.map (fun t => { ThermMeter.reset with regs := t.regs, ready := t.ready }) })
  ((s.setBlkState Head.therm (if on then 2 else 0)).setReady Head.therm on).thermStatus

/-! ### Inputs (R325 to R327) -/

/-- The resistance limits of an element (R536). -/
def rtdRange (kind : Nat) : Rat × Rat :=
  if kind = 0 then (8427 / 100, 16848 / 100) else if kind = 1 then (42135 / 100, 84239 / 100) else (84271 / 100, 168478 / 100)

/-- The temperature of an RTD channel in a quantum, REAL64; none in sensor fault (R326). -/
def State.rtdTemp (s : State) (ch kind : Nat) (m : Rat × Bool) : Option Nat :=
  let r := rtdRange kind
  if m.2 ∧ r.1 ≤ m.1 ∧ m.1 ≤ r.2 then some (f64.add (Config.rtdTheta ch kind m.1) (f32.conv f64 (s.meter.rtdUser.getD ch 0).toNat)) else none

/-- Linear interpolation of a user table at a temperature (R330): ρ and h; none outside the table. -/
def tableAt : List (Word × Word × Word) → Rat → Option (Rat × Rat)
  | a :: b :: t, x =>
    if w2r a.1 ≤ x ∧ x ≤ w2r b.1 then
      let f := (x - w2r a.1) / (w2r b.1 - w2r a.1)
      some (w2r a.2.1 + f * (w2r b.2.1 - w2r a.2.1), w2r a.2.2 + f * (w2r b.2.2 - w2r a.2.2))
    else tableAt (b :: t) x
  | _, _ => none

/-- Density and enthalpy, REAL64, of a meter's medium at a temperature, REAL64; none outside the table's range. -/
def State.medium (s : State) (p theta : Nat) : Option (Nat × Nat) :=
  if s.fld (Reg.THP_CFG p) 4 4 = 1 then
    (tableAt (s.meter.tables.getD (s.fld (Reg.THP_CFG p) 6 5) []) (f64.toRat theta)).map (fun r => (f64.ofRat r.1 false, f64.ofRat r.2 false))
  else if 0 ≤ f64.toRat theta ∧ f64.toRat theta ≤ 180 then
    some (Config.waterRho theta (s.rg (Reg.THP_PRESS p)), Config.waterH theta (s.rg (Reg.THP_PRESS p)))
  else none

/-- The flow rate in m³/h from the last two counted edges (R327). -/
def State.flowRate (s : State) (p : Nat) : Rat :=
  let n := s.thmLio p
  let vpp := s.rg (Reg.THP_VPP p)
  let dt := (s.lio.stamp.getD n 0 - s.lio.stampPrev.getD n 0).toNat
  if (s.thm p).noFlow ∨ s.lio.edges.getD n 0 < 2 then 0
  else if dt = 0 then Config.flowZero vpp else w2r vpp * 3600000 / (dt : Rat)

/-- A short stamp's age in µs. -/
def State.stampAge (s : State) (st : Word) : Nat := (shortStamp s.nsCount + 2 ^ 32 - st.toNat) % 2 ^ 32

/-- `FLOW_TIMEOUT` (R327). -/
def State.flowTimeout (s : State) (p : Nat) : State :=
  let n := s.thmLio p
  if s.enabled Head.therm ∧ s.thmOn p ∧
      (s.lio.edges.getD n 0 = 0 ∨ 1000000 * s.fld (Reg.THP_FLOW_TO p) 11 0 ≤ s.stampAge (s.lio.stamp.getD n 0)) then
    (s.modThm p (fun t => { t with noFlow := true })).setFld (Reg.THP_STATUS p) 4 4 1
  else s

/-- `FLOW_TIMEOUT`. -/
def execFlowTimeout (meter : Nat) (s : State) : Host.Outcome State Fault Refusal := .next (s.flowTimeout meter)

/-! ### The energy of a quantum (R328 to R331) -/

/-- What a quantum comes to: θ_sup and θ_ret where they are known, the energy in J, k, and the flags of THP_STATUS; `err`
books the volume to V_ERR too. -/
structure ThermQ where
  sup : Option Nat
  ret : Option Nat
  energy : Nat
  kcoef : Option Nat
  flags : Nat
  err : Bool

/-- A quantum of a meter (R328, R329), from its two channels and the volume, REAL64 L. ρ × ΔV × Δh is in J for kg/m³, L and
kJ/kg; the operations of the formula are rounded in its order (notes/assumptions/45.md). -/
def State.thermCalc (s : State) (p : Nat) (sup ret : Option Nat) (dv : Nat) : ThermQ :=
  let f := b2n sup.isNone + 2 * b2n ret.isNone
  match sup, ret with
  | some a, some b =>
    match s.medium p a, s.medium p b with
    | some ma, some mb =>
      let dt := f64.sub a b
      let rho := if s.fld (Reg.THP_CFG p) 3 3 = 0 then ma.1 else mb.1
      let dh := f64.sub ma.2 mb.2
      let k := if f64.toRat dt = 0 then none else some (f64.div (f64.mul rho dh) dt)
      if f64.lt (f64.abs dt) (f32.conv f64 (s.rg (Reg.THP_DTMIN p)).toNat) then
        { sup := sup, ret := ret, energy := 0, kcoef := k, flags := 4, err := false }
      else { sup := sup, ret := ret, energy := f64.mul (f64.mul rho dv) dh, kcoef := k, flags := 0, err := false }
    | _, _ => { sup := sup, ret := ret, energy := 0, kcoef := none, flags := 32, err := true }
  | _, _ => { sup := sup, ret := ret, energy := 0, kcoef := none, flags := f, err := true }

/-- A count of pulses as a REAL64 volume in L. -/
def State.volume (s : State) (p n : Nat) : Nat := f64.mul (f64.ofInt (n : Int)) (f32.conv f64 (s.rg (Reg.THP_VPP p)).toNat)
/-- And in units of 2^−32 mL. -/
def State.volumeUnits (s : State) (p n : Nat) : Nat := ((n : Rat) * w2r (s.rg (Reg.THP_VPP p)) * 1000 * (2 ^ 32 : Nat)).floor.toNat
/-- J in units of 2^−32 µWh. -/
def jouleUnits (e : Rat) : Nat := (absR e * (2 ^ 32 : Nat) * 10000 / 36).floor.toNat

/-- A register of a meter takes an amount (R331). -/
def State.bookThm (s : State) (p r amount : Nat) : State :=
  s.modThm p (fun t => { t with regs := modifyNth (fun v => (addWrap v amount).1) r t.regs })

/-- A value and a count added. -/
def addMean (m : Nat × Rat) : Option Nat → Nat × Rat
  | some v => (m.1 + 1, m.2 + f64.toRat v)
  | none => m

/-- The mean of what was added; 0 of nothing. -/
def meanOf (m : Nat × Rat) : Rat := if m.1 = 0 then 0 else m.2 / (m.1 : Rat)

/-- A meter's quantum is booked, and its latch window takes it (R329, R333). -/
def State.thermBook (s : State) (p : Nat) (rtds : List (Rat × Bool)) : State :=
  let kind := s.fld (Reg.THP_CFG p) 2 1
  let n := s.thmLio p
  let fw := s.meter.fwdAt.getD n (0, 0)
  let rv := s.meter.revAt.getD n (0, 0)
  let nf := (fw.2 - fw.1).toNat
  let nr := (rv.2 - rv.1).toNat
  let sup := s.rtdTemp (2 * p) kind (rtds.getD (2 * p) (0, false))
  let ret := s.rtdTemp (2 * p + 1) kind (rtds.getD (2 * p + 1) (0, false))
  let s := if nf + nr = 0 then s else s.modThm p (fun t => { t with noFlow := false })
  let q := s.thermCalc p sup ret (s.volume p nf)
  let e := f64.toRat q.energy
  let was := (s.thm p).faulty
  let fault := sup.isNone || ret.isNone
  let fl := q.flags + 8 * b2n (nr != 0) + 16 * b2n (s.thm p).noFlow
  let s := s.setFld (Reg.THP_STATUS p) 5 0 fl
  let s := if fault ∧ was = false then s.evt Head.therm 2 else s
  let s := if bit q.flags 5 then s.evt Head.therm 8 else s
  let s := s.modThm p (fun t => { t with
    faulty := fault, quanta := t.quanta + 1, sup := addMean t.sup q.sup, ret := addMean t.ret q.ret, kcoef := addMean t.kcoef q.kcoef
    flow := t.flow + s.flowRate p, energy := t.energy + e, flags := t.flags ||| fl })
  if s.metersHere = false then s else
  let s := s.bookThm p 2 (s.volumeUnits p nf)
  let s := if q.err then s.bookThm p 4 (s.volumeUnits p nf) else s
  let s := s.bookThm p 3 (s.volumeUnits p nr)
  if 0 < e then s.bookThm p 0 (jouleUnits e) else if e < 0 then s.bookThm p 1 (jouleUnits e) else s

/-- A meter latches at a boundary (R333): its words, and a new window. A window that lacks a quantum has a gap. -/
def State.thermLatch (s : State) (p : Nat) : State :=
  let t := s.thm p
  let n : Rat := if t.quanta = 0 then 1 else t.quanta
  let sup := meanOf t.sup
  let ret := meanOf t.ret
  let gap := t.quanta != s.fld (Reg.THP_LATCH_Q p) 15 0
  let regs := t.regs.flatMap (fun r => [BitVec.ofNat 32 (r / 2 ^ 32), BitVec.ofNat 32 (r / 2 ^ 64)])
  let ns := s.beat * 250000
  let words := [meReal sup, meReal ret, meReal (sup - ret), meReal (t.flow / n), meReal (t.energy / n), meReal (meanOf t.kcoef)] ++ List.replicate 10 0 ++ regs ++
    [0, BitVec.ofNat 32 (if gap then t.flags ||| 64 else t.flags), 0, 0, BitVec.ofNat 32 ns, BitVec.ofNat 32 (ns / 2 ^ 32)]
  s.modThm p (fun t => { ThermMeter.reset with regs := t.regs, noFlow := t.noFlow, faulty := t.faulty, ready := t.ready ++ [(s.beat + 1, words)] })

/-- The thermal part of a quantum's end (R327 to R333). -/
def State.thermQuantum (s : State) (rtds : List (Rat × Bool)) : State :=
  if s.enabled Head.therm = false ∨ s.blkState Head.therm = 4 then s else
  let s := if s.meter.thermAcc then s.thmsOn.foldl (fun s p => s.thermBook p rtds) s else s
  let s := s.thmsOn.foldl (fun s p =>
    let w := s.fld (Reg.THP_LATCH_Q p) 15 0
    if w ≠ 0 ∧ s.beat % (4 * w) = 0 then s.thermLatch p else s) s
  let s := if s.meter.thermAcc then
      s.setBlkState Head.therm (if s.thmsOn.any (fun p => (s.thm p).faulty || s.fld (Reg.THP_STATUS p) 5 5 == 1) then 3 else 2) else s
  if s.meter.thermAcc = false ∧ (s.meter.thermWait = false ∨ s.running) then s.modMe (fun m => { m with thermAcc := true, thermWait := false }) else s

/-- The end of a quantum (R302, R327): once a quantum boundary, electrical and thermal. -/
def State.energyQuantum (s : State) (rtds : List (Rat × Bool)) : State :=
  if s.beat % 4 = 0 ∧ s.meter.booked < s.beat then ((s.meterQuantum).thermQuantum rtds).modMe (fun m => { m with booked := s.beat }) else s

/-- `ENERGY_QUANTUM`: `rtds` holds each RTD channel's resistance, the mean of its eight conversions, and whether its
reference check held. -/
def execEnergyQuantum (rtds : List (Rat × Bool)) (s : State) : Host.Outcome State Fault Refusal :=
  .next (if s.silent then s else s.energyQuantum rtds)

/-- What a boundary latches for the ME: the pulse counters at a quantum boundary, and the die temperature (R309, R327). -/
def State.meterBoundary (s : State) (temp : Word) : State :=
  let s := if s.meterLive then ((s.setRg Reg.TEMP_AFE temp).setRg Reg.REF_CORR (Config.refCorr temp)).modMe (fun m => { m with corrNext := Config.refCorr temp }) else s
  if s.beat % 4 = 0 then
    s.modMe (fun m => { m with fwdAt := List.zipWith (fun o n => (o.2, n)) m.fwdAt s.lio.fwd, revAt := List.zipWith (fun o n => (o.2, n)) m.revAt s.lio.rev })
  else s

/-! ### Publication (R333) -/

/-- Address of word w of a meter's results. -/
def thermWordAt (p w : Nat) : Nat := 0x1C2040 + 0x80 * p + 4 * w

/-- A result set is published. -/
def State.publishThm (s : State) (p : Nat) (words : List Word) : State :=
  let seq := s.rg (thermWordAt p 29) + 2
  let s := words.zipIdx.foldl (fun s x => if x.2 = 29 then s else s.setRg (thermWordAt p x.2) x.1) s
  (s.setRg (thermWordAt p 29) seq).evt Head.therm 1

/-- The sets whose publishing beat has come are published. -/
def State.thermPublish (s : State) : State :=
  (List.range 8).foldl (fun s p =>
    let due := (s.thm p).ready.filter (fun r => decide (r.1 ≤ s.beat))
    let s := s.modThm p (fun t => { t with ready := t.ready.filter (fun r => decide (s.beat < r.1)) })
    if s.metersHere then due.foldl (fun s r => s.publishThm p r.2) s else s) s

/-- `THERM_LATCH_PUBLISH`. -/
def execThermLatchPublish (s : State) : Host.Outcome State Fault Refusal :=
  .next (if s.enabled Head.therm ∧ s.blkState Head.therm ≠ 4 then s.thermPublish else s)

/-! ### The setup record (R368) -/

/-- Address of the thermal setup record. -/
abbrev thermRecAt : Nat := 256 * 2031

/-- The record's bytes from 0x010 on, but for the reserved end. -/
def State.thermRecBody (s : State) : List Byte :=
  let w := fun (a : Nat) => leBytes 4 (s.rg a).toNat
  leBytes 4 (b2n (s.enabled Head.therm)) ++ w Reg.THERM_CTRL ++ w Reg.BILL_CFG ++ w Reg.BILL_LATCH ++ w Reg.SEAL_SLOT ++ List.replicate 12 0 ++
    (List.range 8).flatMap (fun p => (List.range 6).flatMap (fun k => w (Reg.THP_CFG p + 4 * k))) ++
    (List.range 16).flatMap (fun n => leBytes 4 (s.meter.rtdUser.getD n 0).toNat) ++
    (List.range 4).flatMap (fun t => leBytes 4 (s.meter.tables.getD t []).length) ++
    (List.range 4).flatMap (fun t => bytesAt ((s.meter.tables.getD t []).flatMap (fun r => leBytes 4 r.1.toNat ++ leBytes 4 r.2.1.toNat ++ leBytes 4 r.2.2.toNat)) 0 768) ++
    bytesAt (s.meter.thermCopiesNext.getD s.meter.thermCopies).flatten 0 768

/-- THERM_SETUP_TAG of a record's body. -/
def thermTag (body : List Byte) : Nat := natAt (shake (bytesAt body 0 0xE0 ++ bytesAt body 0x120 0xF10) 4) 0 4

/-- The thermal setup record. -/
def State.thermRecord (s : State) : List Byte :=
  let body := s.thermRecBody
  let head := leBytes 4 0x53544553 ++ leBytes 2 1 ++ leBytes 2 (s.meter.thermCopiesNext.getD s.meter.thermCopies).length ++ leBytes 4 (s.rg Reg.THERM_CAL_COUNT).toNat
  head ++ leBytes 4 (crc32c (head ++ leBytes 4 0 ++ body)).toNat ++ body ++ List.replicate 192 0

/-- The SC writes the record and commands a store. -/
def State.saveThermSetup (s : State) : State :=
  let s := (s.seamFw thermRecAt s.thermRecord).requestStore .plain
  s.setRg Reg.THERM_SETUP_TAG (BitVec.ofNat 32 (thermTag s.thermRecBody))

/-- The setup is loaded from the record at a cold start. -/
def State.loadThermSetup (s : State) : State × Option Bool :=
  let rec_ := s.seam.sram.getN thermRecAt 4352
  if setupOk rec_ 0x53544553 0x1040 then
    let w := fun (o : Nat) => (BitVec.ofNat 32 (natAt rec_ o 4) : Word)
    let s := (((s.setRg Reg.THERM_CTRL (w 0x14)).setRg Reg.BILL_CFG (w 0x18)).setRg Reg.BILL_LATCH (w 0x1C)).setRg Reg.SEAL_SLOT (w 0x20)
    let s := (List.range 8).foldl (fun s p => (List.range 6).foldl (fun s k => s.setRg (Reg.THP_CFG p + 4 * k) (w (0x30 + 24 * p + 4 * k))) s) s
    let s := s.modMe (fun m => { m with
      rtdUser := (List.range 16).map (fun n => w (0xF0 + 4 * n)), rtdNext := List.replicate 16 none
      tables := (List.range 4).map (fun t => (List.range (min 64 (natAt rec_ (0x130 + 4 * t) 4))).map (fun r =>
        (w (0x140 + 768 * t + 12 * r), w (0x144 + 768 * t + 12 * r), w (0x148 + 768 * t + 12 * r))))
      thermCopies := (List.range (min 64 (natAt rec_ 6 2))).map (fun k => bytesAt rec_ (0xD40 + 12 * k) 12) })
    ((s.setRg Reg.THERM_CAL_COUNT (w 8)).setRg Reg.THERM_SETUP_TAG (BitVec.ofNat 32 (thermTag (rec_.drop 16))), some (bit (natAt rec_ 0x10 4) 0))
  else (s, none)

/-- `THERM_CAL_EFFECT` (R335): the changes whose beat has come. -/
def State.thermCalEffect (s : State) : State :=
  (List.range 16).foldl (fun s n =>
    match s.meter.rtdNext.getD n none with
    | some (b, w) =>
      if b ≤ s.beat then
        let s := s.modMe (fun m => { m with rtdUser := modifyNth (fun _ => w) n m.rtdUser, rtdNext := modifyNth (fun _ => none) n m.rtdNext })
        ((s.incSat Reg.THERM_CAL_COUNT).evt Head.therm 6).saveThermSetup
      else s
    | none => s) s

/-- `THERM_CAL_EFFECT`. -/
def execThermCalEffect (s : State) : Host.Outcome State Fault Refusal := .next s.thermCalEffect

/-! ### Opcodes (R344) -/

/-- STATE of THERM. -/
def thermState : Refuse := .state Head.therm

/-- `THERM_LATCH_READ`. -/
def execThermLatchRead (req : OctahReq) (s : State) : Host.Outcome State Fault Refusal :=
  .next (octah { opcode := 0x0610, owner := false, len := fun n => n == 4
                 args := fun _ p => firstBad [(0, natAt p 0 1 < 8), (1, zeroAt p 1 3)]
                 legal := fun s req => if s.thmOn (natAt req.pl 0 1) then none else some thermState
                 run := fun s req => s.opOk req.tag (leBytes 8 s.beat ++ (List.range 32).flatMap (fun w => leBytes 4 (s.thermWord (natAt req.pl 0 1) w).toNat)) } req s)

/-- `THERM_CAL_WRITE` (R335). -/
def execThermCalWrite (req : OctahReq) (s : State) : Host.Outcome State Fault Refusal :=
  .next (octah { opcode := 0x0611, owner := false, len := fun n => n == 8
                 args := fun _ p => firstBad [(0, natAt p 0 1 < 16), (1, zeroAt p 1 3), (4, realIn (realAt p 4) (-1 / 2) (1 / 2))]
                 legal := fun s _ => if s.fld Reg.THERM_CTRL 0 0 = 1 then none else some thermState
                 run := fun s req =>
                   let at_ := calBeat s.beat
                   let s := (s.opStart req.tag).modMe (fun m => { m with rtdNext := modifyNth (fun _ => some (at_, realAt req.pl 4)) (natAt req.pl 0 1) m.rtdNext })
                   s.opOk req.tag (leBytes 8 at_) } req s)

/-- `THERM_CAL_READ`. -/
def execThermCalRead (req : OctahReq) (s : State) : Host.Outcome State Fault Refusal :=
  .next (octah { opcode := 0x0612, owner := false, len := fun n => n == 4
                 args := fun _ p => firstBad [(0, natAt p 0 1 < 16), (1, zeroAt p 1 3)], legal := always
                 run := fun s req => s.opOk req.tag (leBytes 4 (s.meter.rtdUser.getD (natAt req.pl 0 1) 0).toNat ++ leBytes 4 (s.rg Reg.THERM_CAL_COUNT).toNat) } req s)

/-- The rows of a table payload. -/
def tableRows (p : List Byte) : List (Word × Word × Word) :=
  (List.range (natAt p 1 1)).map (fun k => (realAt p (4 + 12 * k), realAt p (8 + 12 * k), realAt p (12 + 12 * k)))

/-- θ of a row is finite and above that of the row before. -/
def rowOk (rows : List (Word × Word × Word)) (k : Nat) : Bool :=
  let t := (rows.getD k (0, 0, 0)).1
  f32.finite t.toNat && (k == 0 || decide (w2r (rows.getD (k - 1) (0, 0, 0)).1 < w2r t))

/-- `THERM_TABLE_WRITE` (R344). -/
def execThermTableWrite (req : OctahReq) (s : State) : Host.Outcome State Fault Refusal :=
  .next (octah { opcode := 0x0613, owner := false, len := fun n => decide (4 ≤ n), fits := fun p => p.length == 4 + 12 * natAt p 1 1
                 args := fun _ p => firstBad ([(0, decide (natAt p 0 1 < 4)), (1, 2 ≤ natAt p 1 1 && natAt p 1 1 ≤ 64), (2, zeroAt p 2 2)] ++
                   (List.range (natAt p 1 1)).map (fun k => (4 + 12 * k, rowOk (tableRows p) k)))
                 legal := fun s _ => if s.enabled Head.therm then some thermState else none
                 run := fun s req =>
                   ((s.opStart req.tag).modMe (fun m => { m with tables := modifyNth (fun _ => tableRows req.pl) (natAt req.pl 0 1) m.tables })).opOk req.tag [] } req s)

/-- `THERM_COPY_SET` (R334): from the next P0. -/
def execThermCopySet (req : OctahReq) (s : State) : Host.Outcome State Fault Refusal :=
  .next (octah { opcode := 0x0614, owner := true, len := fun n => decide (4 ≤ n), fits := fun p => p.length == 4 + 12 * natAt p 0 2
                 args := fun _ p => copyArgs 64 8 32 p, legal := always
                 run := fun s req =>
                   ((s.opStart req.tag).modMe (fun m => { m with thermCopiesNext := some (copyRecs req.pl) })).opDue (s.beat + 1) req.tag [] } req s)

/-- `THERM_SETUP_SAVE` (R344). -/
def execThermSetupSave (req : OctahReq) (s : State) : Host.Outcome State Fault Refusal :=
  .next (octah { opcode := 0x0615, owner := false, len := fun n => n == 0, args := noArgs, legal := always
                 run := fun s req =>
                   let s := (s.opStart req.tag).saveThermSetup
                   s.opOk req.tag (leBytes 4 (s.rg Reg.THERM_SETUP_TAG).toNat) } req s)

end Sys2Proof.Machine
end

