-- ==== Sys2Proof/Machine/BillOps.lean ====
section
/-!
DEFINITION. Billing records, gap records and the power-fail record (R337 to R345), and the reload of the energy registers
from them (R317, R318).
-/
namespace Sys2Proof.Machine

/-! ### Records in Seam -/

/-- Address of the ring place of a billing record (R338), and of a gap record (R343). -/
def billAddr (seq : Nat) : Nat := pageAddr (48 + 5 * (seq % 16))
/-- Address of the place of a gap record. -/
def gapAddr (seq : Nat) : Nat := pageAddr (40 + seq % 8)
/-- Address of the power-fail record. -/
abbrev pfAddr : Nat := 256 * 33

/-- The place of a billing record in the ring. -/
def State.billPlace (s : State) (k : Nat) : List Byte := s.seam.sram.getN (billAddr k) 1280
/-- SEQ of a billing record. -/
def billSeq (r : List Byte) : Nat := natAt r 8 4
/-- A place holds a billing record, by its MAGIC and FMT. -/
def billPresent (r : List Byte) : Bool := natAt r 0 4 == 0x4C424553 && natAt r 4 2 == 1

/-- The slot SEAL_SLOT names. -/
def State.sealSlot (s : State) : Nat := s.fld Reg.SEAL_SLOT 7 0
/-- Why the seal slot is unusable (R339). -/
def State.sealRefused (s : State) : Option Nat := slotRefused (s.keySlot s.sealSlot) 2 5
/-- The TAG of a record's front under a customisation string. -/
def State.sealTag (s : State) (front : List Byte) (custom : String) : List Byte := kmac (s.keySlot s.sealSlot).material front (asciiBytes custom) 32
/-- A billing record is valid (R339). -/
def State.billValid (s : State) (r : List Byte) : Bool :=
  billPresent r && natAt r 0x28 4 == (s.keySlot s.sealSlot).gen && (s.keySlot s.sealSlot).type == 2 &&
    s.sealTag (r.take 0x4E0) "FM9400 BILL" == bytesAt r 0x4E0 32

/-- The records of the ring that meet a condition, the one with the highest SEQ. -/
def State.newestBill (s : State) (ok : List Byte → Bool) : Option (List Byte) :=
  ((List.range 16).map s.billPlace).foldl (fun best r =>
    if ok r then (match best with
      | some b => if billSeq b < billSeq r then some r else some b
      | none => some r) else best) none

/-- The gap records of their ring. -/
def State.gapPlaces (s : State) : List (List Byte) :=
  ((List.range 8).map (fun k => s.seam.sram.getN (gapAddr k) 256)).filter (fun r => natAt r 0 4 == 0x50474553 && natAt r 4 2 == 1)

/-! ### Saves (R337 to R340) -/

/-- A save is not made (R337, R339). -/
def State.saveSkip (s : State) (sealFail : Bool) : State :=
  let s := (s.incSat Reg.SAVE_SKIP_CNT).evt Head.therm 4
  if sealFail then s.evt Head.therm 9 else s

/-- The triggers that fall on the quantum that ended last: its boundary and the lowest cause (R337). -/
def State.billTrigger (s : State) : Option (Nat × Nat) :=
  let period := 4000 * s.fld Reg.BILL_CFG 16 0
  let b := s.beat / 4 * 4
  let onB := b = s.beat
  match s.meter.refQuantum with
  | some q =>
    if 4 * (q + 1) ≤ s.beat then
      (if onB ∧ 4 * (q + 1) = b ∧ period ≠ 0 ∧ b % period = 0 then some (b, 0) else some (4 * (q + 1), 1))
    else if onB ∧ period ≠ 0 ∧ b % period = 0 then some (b, 0)
    else if onB ∧ s.meter.billAt = some b then some (b, 2) else none
  | none =>
    if onB ∧ period ≠ 0 ∧ b % period = 0 then some (b, 0)
    else if onB ∧ s.meter.billAt = some b then some (b, 2) else none

/-- `BILL_SAVE_TRIGGER` (R337, R339): a save begins, or is not made. -/
def State.billSaveTrigger (s : State) : State :=
  match s.billTrigger with
  | none => s
  | some (b, cause) =>
    let s := s.modMe (fun m => { m with
      refQuantum := match m.refQuantum with
        | some q => if 4 * (q + 1) ≤ b then none else some q
        | none => none
      billAt := if m.billAt = some b then none else m.billAt })
    if s.fld Reg.THERM_CTRL 1 1 = 0 ∨ s.meter.save.map (·.b) = some b then s
    else if s.meter.save.isSome then s.saveSkip false
    else if s.sealRefused.isSome then s.saveSkip true
    else s.modMe (fun m => { m with save := some { b := b, cause := cause, stored := false } })

/-- `BILL_SAVE_TRIGGER`. -/
def execBillSaveTrigger (s : State) : Host.Outcome State Fault Refusal := .next (if s.silent then s else s.billSaveTrigger)

/-- The front of a billing record, 0x4E0 bytes (R338). -/
def State.billFront (s : State) (seq b cause : Nat) : List Byte :=
  let flags := b2n s.partnerPresent + 2 * b2n s.owns + 4 * b2n s.meter.gapSince
  leBytes 4 0x4C424553 ++ leBytes 2 1 ++ leBytes 1 cause ++ leBytes 1 flags ++ leBytes 4 seq ++ leBytes 4 (s.rg Reg.CAL_COUNT).toNat ++
    leBytes 8 (b * 250000) ++ leBytes 8 b ++ leBytes 4 (s.rg Reg.THERM_CAL_COUNT).toNat ++ leBytes 4 (s.rg Reg.SETUP_TAG).toNat ++
    leBytes 4 (s.keySlot s.sealSlot).gen ++ leBytes 4 0 ++ idHash.take 16 ++
    (List.range 16).flatMap (fun c => (List.range 6).flatMap (fun r => leBytes 8 ((s.cir c).energy.getD r 0 / 2 ^ 32))) ++
    (List.range 8).flatMap (fun p => (List.range 5).flatMap (fun r => leBytes 8 ((s.thm p).regs.getD r 0 / 2 ^ 32))) ++ List.replicate 96 0

/-- `BILL_SNAPSHOT` (R340): the record of the save is built, sealed and written, and a store commanded. -/
def State.billSnapshot (s : State) : State :=
  match s.meter.save with
  | some v =>
    if v.stored ∨ s.beat ≤ v.b then s
    else if s.sealRefused.isSome then (s.modMe (fun m => { m with save := none })).saveSkip true
    else
      let seq := (s.rg Reg.BILL_SEQ).toNat + 1
      let front := s.billFront seq v.b v.cause
      let r := front ++ s.sealTag front "FM9400 BILL"
      (s.modMe (fun m => { m with save := some { v with stored := true } })).keySealed s.sealSlot (billAddr seq) r (some (seq, v.b * 250000))
  | none => s

/-- `BILL_SNAPSHOT`. -/
def execBillSnapshot (s : State) : Host.Outcome State Fault Refusal := .next (if s.silent then s else s.billSnapshot)

/-- The store of a billing record has ended (R340). -/
def State.billStored (s : State) (ok : Bool) (seq ns : Nat) : State :=
  let s := s.modMe (fun m => { m with save := none })
  if ok then (((s.setRg Reg.BILL_SEQ (BitVec.ofNat 32 seq)).setRg64 Reg.BILL_SAVE_NS_LO ns).modMe (fun m => { m with gapSince := false })).evt Head.therm 3
  else s

/-! ### The energy registers from a record (R317, R318, R336) -/

/-- Every register from the newest valid billing record, or zero without one. -/
def State.reloadEnergy (s : State) : State :=
  let r := (s.newestBill s.billValid).getD []
  s.modMe (fun m => { m with
    circuits := m.circuits.mapIdx (fun c k => { k with energy := (List.range 6).map (fun j => natAt r (0x40 + 48 * c + 8 * j) 8 * 2 ^ 32) })
    therms := m.therms.mapIdx (fun p t => { t with regs := (List.range 5).map (fun j => natAt r (0x340 + 40 * p + 8 * j) 8 * 2 ^ 32) }) })

/-- A soft reset of METER after a fault (R317): accumulation resumes at the next quantum boundary. -/
def State.meterRecover (s : State) : State :=
  let s := if s.meter.lostWord then (s.modMe (fun m => { m with lostWord := false })).reloadEnergy else s
  if s.enabled Head.meter then s.meterRestart.setBlkState Head.meter 2 else s.setBlkState Head.meter 0

/-! ### Gap records (R342, R343) -/

/-- The power-fail record (R342): the time of PFI, the TORN pages. -/
def State.pfRecord (s : State) (ns : Nat) (torn : List Nat) : List Byte :=
  leBytes 4 0x46504553 ++ leBytes 2 1 ++ leBytes 2 torn.length ++ leBytes 8 ns ++ leBytes 8 (ns / 250000) ++ leBytes 4 (s.rg Reg.BILL_SEQ).toNat ++ leBytes 4 0 ++
    (List.range 16).flatMap (fun k => leBytes 2 (torn.getD k 0xFFFF)) ++ (List.range 16).flatMap (fun c => leBytes 4 (s.meterWord c 11).toNat) ++
    (List.range 8).flatMap (fun p => leBytes 4 (s.thermWord p 4).toNat) ++ List.replicate 96 0

/-- `GAP_RECORD` (R343). -/
def State.gapRecord (s : State) : State :=
  if s.meter.gapDue = false ∨ (s.meter.acc = false ∧ s.meter.thermAcc = false) then s else
  let pf := s.seam.sram.getN pfAddr 256
  let known := natAt pf 0 4 == 0x46504553
  let bill := s.newestBill s.billValid
  let seq := (s.rg Reg.GAP_SEQ).toNat + 1
  let sealable := s.sealRefused.isNone
  let flags := b2n (!known) + 2 * b2n bill.isNone + 4 * b2n (known && natAt pf 6 2 != 0) + 8 * b2n (!sealable)
  let last := bill.getD []
  let front := leBytes 4 0x50474553 ++ leBytes 2 1 ++ leBytes 2 flags ++ leBytes 4 seq ++ leBytes 4 (natAt last 8 4) ++ leBytes 8 (natAt last 0x10 8) ++
    leBytes 8 (if known then natAt pf 8 8 else 0) ++ leBytes 8 (s.beat / 4 * 1000000) ++ leBytes 4 (s.rg Reg.CAL_COUNT).toNat ++
    leBytes 4 (s.rg Reg.THERM_CAL_COUNT).toNat ++ List.replicate 16 0 ++ (if known then bytesAt pf 0x40 96 else List.replicate 96 0) ++ List.replicate 64 0
  let s := (s.modMe (fun m => { m with gapDue := false, gapSince := true })).setRg Reg.GAP_SEQ (BitVec.ofNat 32 seq)
  let s := s.seamFw pfAddr [0, 0, 0, 0]
  let s := if sealable then s.keySealed s.sealSlot (gapAddr seq) (front ++ s.sealTag front "FM9400 GAP") none
    else (s.seamFw (gapAddr seq) (front ++ List.replicate 32 0)).requestStore .plain
  s.evt Head.therm 5

/-- `GAP_RECORD`. -/
def execGapRecord (s : State) : Host.Outcome State Fault Refusal := .next (if s.silent then s else s.gapRecord)

/-- What a cold start takes from Seam for metering and billing: the setups, the registers, the newest SEQ of each ring
(R318, R336, R343; notes/assumptions/48.md). The results are the ENABLE bits of the records. -/
def State.meterCold (s : State) : State × Option Bool × Option Bool :=
  let s := { s with meter := { MeterState.reset with gapDue := true } }
  let (s, e1) := s.loadMeterSetup
  let (s, e2) := s.loadThermSetup
  let s := s.reloadEnergy
  let bill := (s.newestBill billPresent).getD []
  let s := (s.setRg Reg.BILL_SEQ (BitVec.ofNat 32 (natAt bill 8 4))).setRg64 Reg.BILL_SAVE_NS_LO (natAt bill 0x10 8)
  let s := s.setRg Reg.GAP_SEQ (BitVec.ofNat 32 ((s.gapPlaces.map (fun r => natAt r 8 4)).foldl max 0))
  ((s.meterStatus.thermStatus).showCals, e1, e2)

/-! ### Opcodes (R344) -/

/-- `BILL_SAVE` (R337, R341). -/
def execBillSave (req : OctahReq) (s : State) : Host.Outcome State Fault Refusal :=
  .next (octah { opcode := 0x0616, owner := true, len := fun n => n == 0, args := noArgs
                 legal := fun s _ => if s.fld Reg.THERM_CTRL 1 1 = 1 ∧ s.meter.save = none ∧ s.meter.billAt = none then none else some thermState
                 run := fun s req =>
                   let b := calBeat s.beat
                   let s := (s.opStart req.tag).modMe (fun m => { m with billAt := some b })
                   s.opOk req.tag (leBytes 8 b ++ leBytes 4 ((s.rg Reg.BILL_SEQ).toNat + 1)) } req s)

/-- The billing record a request names. -/
def State.billNamed (s : State) (seq : Nat) : Option (List Byte) :=
  if seq = 0 then s.newestBill billPresent else ((List.range 16).map s.billPlace).find? (fun r => billPresent r && billSeq r == seq)

/-- `BILL_READ`. -/
def execBillRead (req : OctahReq) (s : State) : Host.Outcome State Fault Refusal :=
  .next (octah { opcode := 0x0617, owner := false, len := fun n => n == 4, args := noArgs
                 legal := fun s req => if (s.billNamed (natAt req.pl 0 4)).isSome then none else some thermState
                 run := fun s req =>
                   let r := (s.billNamed (natAt req.pl 0 4)).getD []
                   s.opOk req.tag (leBytes 1 (b2n (s.billValid r)) ++ leBytes 3 0 ++ bytesAt r 0 1280) } req s)

/-- The gap record a request names. -/
def State.gapNamed (s : State) (seq : Nat) : Option (List Byte) :=
  let want := if seq = 0 then (s.gapPlaces.map (fun r => natAt r 8 4)).foldl max 0 else seq
  s.gapPlaces.find? (fun r => natAt r 8 4 == want)

/-- `GAP_READ`. -/
def execGapRead (req : OctahReq) (s : State) : Host.Outcome State Fault Refusal :=
  .next (octah { opcode := 0x0618, owner := false, len := fun n => n == 4, args := noArgs
                 legal := fun s req => if (s.gapNamed (natAt req.pl 0 4)).isSome then none else some thermState
                 run := fun s req => s.opOk req.tag ((s.gapNamed (natAt req.pl 0 4)).getD []) } req s)

end Sys2Proof.Machine
end

