-- ==== Sys2Proof/Machine/PairOps.lean ====
section
/-!
DEFINITION. The redundant pair (R374 to R410) but for what raises faults: states and ownership, the lease messages and the
banksman, the mirrored regions and their blocks, the lamp check, PAIR_STATUS.
-/
namespace Sys2Proof.Machine

/-- The pair block with its state replaced by a function of it. -/
def State.modPair (s : State) (f : PairState → PairState) : State := { s with pair := f s.pair }

/-! ### Configuration and states (R374 to R376, R418) -/

/-- PAIR.STATE values. -/
abbrev Pair.off : Nat := 0
/-- SOLO -/ abbrev Pair.solo : Nat := 1
/-- JOINING -/ abbrev Pair.joining : Nat := 2
/-- STANDBY -/ abbrev Pair.standby : Nat := 3
/-- ACTIVE -/ abbrev Pair.active : Nat := 4
/-- COLD_STANDBY -/ abbrev Pair.cold : Nat := 5
/-- SILENT -/ abbrev Pair.silent : Nat := 6

/-- The unit's PAIR state. -/
def State.pairSt (s : State) : Nat := s.blkState Head.pair
/-- The unit is a pair member with PAIR enabled. -/
def State.inPair (s : State) : Bool := s.role == Role.pairMember && s.enabled Head.pair
/-- It is SOLO or ACTIVE. -/
def State.pairOwner (s : State) : Bool := s.pairSt == Pair.solo || s.pairSt == Pair.active
/-- LEASE_BEATS -/ def State.leaseBeats (s : State) : Nat := s.fld Reg.PAIR_CFG 8 0
/-- HB_MISS -/ def State.hbMiss (s : State) : Nat := s.fld Reg.PAIR_CFG 10 9
/-- ARB_EN -/ def State.arbEn (s : State) : Bool := s.fld Reg.PAIR_CFG 16 16 == 1
/-- LEASE_END -/ def State.leaseEnd (s : State) : Nat := s.rg64 Reg.LEASE_END_LO
/-- The partner is lost: HB_MISS heartbeats missed in a row. -/
def State.partnerLost (s : State) : Bool := decide (s.hbMiss ≤ s.pair.missed)
/-- The joiner has received join ready (R397). -/
def State.joinedReady (s : State) : Bool :=
  match s.pair.join with
  | .ready _ _ _ => true
  | _ => false
/-- The unit does process work (R52, R376, R397, R402): outside a pair always; in one as owner, in STANDBY, and from join
ready on. -/
def State.works (s : State) : Bool :=
  s.role != Role.pairMember || s.pairOwner || s.pairSt == Pair.standby || (s.pairSt == Pair.joining && s.joinedReady)

/-- LIO outputs are driven, or every line is at high impedance (R41, R152, R376, R415). -/
def State.lioGate (s : State) : State :=
  { s with lio := { s.lio with hiZ := !(s.lio.applied && s.sendsOutputs && !s.casc.floating) } }

/-- No bus frame is pending any more. -/
def State.dropFrames (s : State) : State := { s with bus := { s.bus with chans := s.bus.chans.map (fun (c : BusChan) => { c with pend := [] }) } }

/-! ### Fields of the partner's heartbeat (R393) -/

/-- STATE -/ def State.peerState (s : State) : Nat := natAt s.pair.hb 0x18 1
/-- FLAGS -/ def State.peerFlag (s : State) (n : Nat) : Bool := bit (natAt s.pair.hb 0x19 1) n

/-! ### PAIR_STATUS (R407, R418) -/

/-- No heartbeat was missed in the last HB_MISS beats. -/
def State.partnerSeen (s : State) : Bool :=
  s.pair.hbBeat.isSome && (match s.pair.missAt with
    | none => true
    | some b => decide (b + s.hbMiss ≤ s.pair.judged))

/-- A grant or refusal was received within the last LEASE_BEATS beats. -/
def State.banksmanSeen (s : State) : Bool :=
  match s.pair.bmBeat with
  | some b => decide (s.beat < b + s.leaseBeats)
  | none => false

/-- LAMP_FULL (R406). -/
def State.lampFull (s : State) : Bool :=
  match s.pair.lampFull with
  | some b => decide (s.beat < b + 14400000)
  | none => false

/-- The conditions of R407. -/
def State.guaranteed (s : State) : Bool :=
  let late := match s.pair.lateAt with
    | some b => decide (s.beat < b + 16)
    | none => false
  let mine := s.fld Reg.SAFETY_STATE 1 0 == 0
  let both := mine && s.pair.peer.normal && !late && s.pair.peer.raftOk
  if s.pairSt = Pair.active ∧ s.peerState = Pair.standby then
    both && s.peerFlag 3 && s.peerFlag 4 && (match s.pair.grantBeat with
      | some b => decide (s.beat < b + s.leaseBeats)
      | none => false)
  else if s.pairSt = Pair.standby ∧ s.peerState = Pair.active then both && s.pair.lampClean && s.lampFull && s.peerFlag 2 && s.pair.rafts.isEmpty
  else false

/-- PAIR_STATUS brought up to date, with the events of PARTNER_SEEN and BANKSMAN_SEEN. -/
def State.pairRefresh (s : State) : State :=
  if s.inPair = false then s else
  let old := s.rg Reg.PAIR_STATUS
  let seen := s.partnerSeen
  let bm := s.banksmanSeen
  let w := s.pairId + 2 * b2n s.pairOwner + 4 * b2n seen + 8 * b2n bm + 16 * b2n (s.pairSt == Pair.cold) + 32 * b2n s.guaranteed +
    64 * b2n s.pair.lampClean + 128 * b2n s.lampFull + 256 * wbits old 8 8 + 512 * (s.peerState % 8) + 4096 * wbits old 12 12
  let s := s.setRg Reg.PAIR_STATUS (BitVec.ofNat 32 w)
  let s := if wbits old 2 2 = 1 ∧ seen = false then s.evt Head.pair 4 else if wbits old 2 2 = 0 ∧ seen then s.evt Head.pair 5 else s
  if wbits old 3 3 = 1 ∧ bm = false then s.evt Head.pair 7 else s

/-- HELD_OUT. -/
def State.heldOut (s : State) : Bool := s.fld Reg.PAIR_STATUS 12 12 == 1

/-! ### Changes of state (R375) -/

/-- A change of PAIR state: outputs stop in a state that sends none, and a unit that enters JOINING begins its join anew. -/
def State.setPair (s : State) (x : Nat) : State :=
  if s.pairSt = x then s else
  let s := (s.setBlkState Head.pair x).setReady Head.pair (x == Pair.solo || x == Pair.standby || x == Pair.active)
  let s :=
    if x = Pair.joining then
      s.modPair (fun p => { p with joining := s.beat, join := .idle, heldAnswer := false, leave := false, rafts := [], lateRun := 0, notice := none,
                                   sections := [], inputEnd := none, copyNext := none })
    else s.modPair (fun p => { p with join := .idle, heldAnswer := false, leave := false })
  let s := if s.sendsOutputs then s else s.dropFrames
  s.lioGate.pairRefresh

/-- The low 32 bits of the beat of a change of owner. -/
def State.ownerChanged (s : State) : State := s.setRg Reg.LAST_CHANGE_BEAT (BitVec.ofNat 32 s.beat)

/-- Commands the old owner had accepted are INDETERMINATE in the mirrored entries after a failover (R442, R443). -/
def State.journalFailover (s : State) : State :=
  let open_ := fun (k : Nat) (e : JEntry) => decide (k < 192) && (e.state == .accepted || e.state == .started)
  let hit := (s.host.journal.mapIdx open_).any id
  let s := { s with host := { s.host with journal := s.host.journal.mapIdx (fun k e =>
      if open_ k e then { e with state := .indeterminate, endBeat := s.beat } else e) } }
  if hit then s.evt Head.host 4 else s

/-- JSEQ goes on above the highest in own and mirrored entries (R443). -/
def State.journalOwn (s : State) : State :=
  s.setRg Reg.JSEQ_LAST (BitVec.ofNat 32 ((s.host.journal.map (·.jseq)).foldl max (s.rg Reg.JSEQ_LAST).toNat))

/-- Programs that were in RUN or HOLD start with INIT_WARM at their first scheduled start (R133). -/
def State.progWarm (s : State) : State :=
  (List.range 32).foldl (fun s p =>
    let x := s.slot p
    if x.mode = .run ∨ x.mode = .hold then
      s.modSlot p (fun x => { x with mode := .run, cycle := none, suspended := false, stepping := false, abortAt := none, resumeAt := 0,
                                     breaks := List.replicate 8 none, req := some (0, .start 1), lWrote := [] })
    else s.modSlot p (fun x => { x with cycle := none, suspended := false, stepping := false, abortAt := none, req := none,
                                        breaks := List.replicate 8 none, lWrote := [] })) s

/-- An end of a handover that PAIR_HANDOVER asked for: its command completes. -/
def State.endHandover (s : State) (code : Nat) : State :=
  match s.pair.handover with
  | none => s
  | some o =>
    let s := s.modPair (fun p => { p with handover := none })
    match o.tag with
    | none => s
    | some t => if code = Code.state then s.opFail t (.state Head.pair) else s.opEnd t code [] 0

/-- A non-owner whose grant is in force becomes owner (R375, R379, R398, R402). -/
def State.takeOwnership (s : State) : State :=
  let was := s.pairSt
  let s := (s.setPair Pair.solo).ownerChanged.journalOwn
  let s := s.endHandover Code.timeout
  if was = Pair.joining then s else
  let s := ((s.incSat Reg.FAILOVER_CNT).evt Head.pair 1).journalFailover
  if was = Pair.cold then s.progWarm else s

/-- The owner leaves ownership (R377, R385): it enters JOINING, and no grant it holds counts any more. -/
def State.loseOwnership (s : State) (lease : Bool) : State :=
  let s := (s.modPair (fun p => { p with grant := none })).setPair Pair.joining
  let s := s.ownerChanged
  if lease then s.evt Head.pair 6 else s

/-- The first boundary at which neither LEASE_END nor PARTNER_CONSENT_END lies ahead (R377). -/
def State.leaseExpire (s : State) : State :=
  if s.inPair ∧ s.pairOwner ∧ s.leaseEnd ≤ s.beat ∧ s.pair.peerConsent ≤ s.beat then s.loseOwnership true else s

/-- What happens at h (R401). -/
def State.handoverBeat (s : State) : State :=
  if s.inPair = false then s else
  match s.pair.handover, s.pair.notice with
  | some o, _ =>
    if o.h ≠ s.beat ∨ s.pairOwner = false then s
    else if o.known then (((s.setPair Pair.standby).ownerChanged.evt Head.pair 12).endHandover Code.ok)
    else if s.beat < s.leaseEnd ∨ s.beat < s.pair.peerConsent then s.endHandover Code.timeout
    else s.loseOwnership true
  | none, some (h, a, ans) =>
    if h ≠ s.beat ∨ s.pairSt ≠ Pair.standby then s else
    match s.pair.grant with
    | some (st, en) =>
      if st ≤ s.beat ∧ s.beat < en then
        (((s.setPair Pair.active).ownerChanged.journalOwn).evt Head.pair 12).modPair (fun p => { p with notice := none })
      else s.modPair (fun p => { p with notice := if ans then none else some (h, a, ans) })
    | none => s.modPair (fun p => { p with notice := if ans then none else some (h, a, ans) })
  | none, none => s

/-- A heartbeat of a beat is missed when none has arrived for it by its end (R393, R375). -/
def State.judgeHeartbeat (s : State) (n : Nat) : State :=
  if s.inPair = false ∨ s.pairSt = Pair.off ∨ n ≤ s.pair.judged then s else
  if s.pair.hbBeat = some n then s.modPair (fun p => { p with judged := n, missed := 0 }) else
  let s := s.modPair (fun p => { p with judged := n, missed := p.missed + 1, missAt := some n })
  let s := if s.pairSt = Pair.active ∧ s.partnerLost then s.setPair Pair.solo else s
  match s.baseWith 3 with
  | some b => if s.partnerLost then s.loseSource b else s
  | none => s

/-- ARB_IN sampled, ARB_OUT toggled (R385). -/
def State.arbLines (s : State) (level : Bool) : State :=
  if s.inPair = false ∨ s.arbEn = false then s.setFld Reg.PAIR_STATUS 8 8 (b2n level) else
  let veto := decide (2 ≤ s.pair.arbLow)
  let s := if veto ∧ s.pairOwner then s.loseOwnership false else s
  let s := (s.setFld Reg.PAIR_STATUS 8 8 (b2n level)).modPair (fun p => { p with arbLow := if level then 0 else p.arbLow + 1, arbOut := !p.arbOut })
  s.send (.arbOut s.pair.arbOut)

/-- The pair at a boundary while FRAME is RUNNING (R375, R377, R379, R385, R395, R401). -/
def State.pairBoundary (s : State) (arbIn : Bool) : State :=
  if s.inPair = false then s else
  let s := if s.pairSt = Pair.off then s.setPair Pair.joining else s
  let s := s.judgeHeartbeat (s.beat - 1)
  let s := s.modPair (fun p => { p with sections := [], inputEnd := none, inputDone := false, bind := none, snapIn := none })
  let s := s.handoverBeat
  let s := s.leaseExpire
  let s := s.arbLines arbIn
  let s := if s.pair.leave ∧ s.pairSt = Pair.standby then s.setPair Pair.joining else s
  let s :=
    if s.pairOwner = false ∧ (s.pairSt = Pair.joining ∨ s.pairSt = Pair.standby ∨ s.pairSt = Pair.cold) then
      (match s.pair.grant with
       | some (st, en) => if st ≤ s.beat ∧ s.beat < en ∧ s.pair.ownConsent ≤ s.beat then s.takeOwnership else s
       | none => s)
    else s
  s.pairRefresh

/-! ### Lease messages (R380, R381, R384) -/

/-- PAIR_NAME. -/
def State.pairName (s : State) : List Byte := leBytes 4 (s.rg Reg.PAIR_NAME_LO).toNat ++ leBytes 4 (s.rg Reg.PAIR_NAME_HI).toNat
/-- KEY_SLOT -/ def State.leaseSlot (s : State) : Nat := s.fld Reg.PAIR_CFG 31 24
/-- The tag of a message's first 64 bytes. -/
def State.leaseTag (s : State) (m : List Byte) : List Byte := kmac (s.keySlot s.leaseSlot).material (bytesAt m 0 64) (asciiBytes "FM9400 LEASE") 16
/-- The lease key is a KMAC256 key that may be used. -/
def State.leaseKeyOk (s : State) : Bool := (slotRefused (s.keySlot s.leaseSlot) 2 2).isNone
/-- The ports a request is sent on (R384): both with PRP, else E0. -/
def State.leasePorts (s : State) : List Nat := if s.fld Reg.ETH_CFG 0 0 = 1 then [0, 1] else [0]

/-- A message from its fields and body. -/
def State.leaseMsg (s : State) (type sender beat seq : Nat) (body : List Byte) : List Byte :=
  let m := leBytes 4 0x4B424553 ++ leBytes 1 1 ++ leBytes 1 type ++ leBytes 1 sender ++ leBytes 1 0 ++ s.pairName ++ leBytes 8 beat ++ leBytes 4 seq ++
    leBytes 4 0 ++ bytesAt body 0 32
  m ++ s.leaseTag m

/-- A request is sent to the banksman, and to the partner to pass on (R384). -/
def State.leaseRequest (s : State) (kind arg : Nat) : State :=
  if s.leaseKeyOk = false then s else
  let body := leBytes 1 kind ++ leBytes 1 s.pairSt ++ leBytes 2 s.leaseBeats ++ leBytes 4 (s.rg Reg.LEASE_EPOCH).toNat ++ leBytes 8 arg
  let m := s.leaseMsg 1 s.pairId s.beat s.pair.seq body
  (s.modPair (fun p => { p with seq := (p.seq + 1) % 2 ^ 32 })).keyEmit s.leaseSlot [.lease s.leasePorts m, .mirror 0x09 0 0 m]

/-- A non-owner asks for the lease (R379). -/
def State.wantsLease (s : State) : Bool :=
  let alone := match s.pair.ownerSeen with
    | some b => if s.pairId = 0 then decide (b + 1 < s.beat) else decide (max (b + 1) s.pair.joining + 40 ≤ s.beat)
    | none => if s.pairId = 0 then true else decide (s.pair.joining + 40 ≤ s.beat)
  ((s.pairSt == Pair.standby || s.pairSt == Pair.cold) && s.partnerLost) || (s.pairSt == Pair.joining && alone)

/-- The lease messages of P0 (R377, R379, R385, R401). -/
def State.leaseSend (s : State) : State :=
  if s.inPair = false then s else
  let blocked := s.arbEn && decide (0 < s.pair.arbLow)
  if s.pairOwner then
    (match s.pair.handover with
     | some o => if o.known = false ∧ s.beat + 1 < o.h then s.leaseRequest 2 o.h else s.leaseRequest 0 0
     | none => s.leaseRequest 0 0)
  else
    let s := if s.wantsLease then s else s.modPair (fun p => { p with heldAnswer := false })
    let last := match s.pair.notice with
      | some (h, _, ans) => s.pairSt == Pair.standby && !ans && decide (h ≤ s.beat + 1)
      | none => false
    if blocked = false ∧ ((s.wantsLease ∧ s.pair.heldAnswer = false) ∨ last = true) then s.leaseRequest 1 0 else s

/-- What a receiver accepts (R381): the layout, the tag, the name, and a BEAT and SEQ that go on. -/
def State.leaseFresh (s : State) (m : List Byte) (accepted : List (Nat × Nat × Nat)) : Bool :=
  let sender := natAt m 6 1
  let beat := natAt m 0x10 8
  let seq := natAt m 0x18 4
  m.length == 80 && natAt m 0 4 == 0x4B424553 && natAt m 4 1 == 1 && s.leaseKeyOk && bytesAt m 64 16 == s.leaseTag m && bytesAt m 8 8 == s.pairName &&
    (match accepted.find? (fun x => x.1 == sender) with
     | some (_, b, q) => decide (b < beat) || (b == beat && decide (q < seq))
     | none => true)

/-- The list of accepted messages after one more. -/
def noteLease (m : List Byte) (accepted : List (Nat × Nat × Nat)) : List (Nat × Nat × Nat) :=
  (natAt m 6 1, natAt m 0x10 8, natAt m 0x18 4) :: accepted.filter (fun x => x.1 != natAt m 6 1)

/-- A handover is refused (R401): the command fails, the partner's consent is again that of R378. -/
def State.handoverRefused (s : State) : State := s.endHandover Code.state

/-- An accepted GRANT or REFUSE (R377, R379, R382, R383, R401). -/
def State.leaseAnswer (s : State) (m : List Byte) : State :=
  let to_ := natAt m 0x20 1
  let s := (s.setRg Reg.LEASE_EPOCH (BitVec.ofNat 32 (natAt m 0x24 4))).modPair (fun p => { p with bmBeat := some s.beat })
  let pend := s.pair.handover.isSome && s.pairOwner
  let known := s.modPair (fun p => { p with handover := p.handover.map (fun o => { o with known := true }) })
  let answered := fun (s : State) => s.modPair (fun p => { p with notice := p.notice.map (fun n => (n.1, n.2.1, true)) })
  let s :=
    if natAt m 5 1 = 2 then
      (if to_ = s.pairId then
        answered ((s.setRg64 Reg.LEASE_END_LO (natAt m 0x30 8)).modPair (fun p => { p with grant := some (natAt m 0x28 8, natAt m 0x30 8), grantBeat := some s.beat }))
       else if pend then known
       else s)
    else
      let reason := natAt m 0x21 1
      let holder := natAt m 0x22 1
      if reason = 4 then s
      else if to_ ≠ s.pairId then (if reason = 2 then answered s else if reason = 3 then s.modPair (fun p => { p with notice := none }) else s)
      else if pend then (if reason = 2 ∧ holder = 1 - s.pairId then known else if reason = 2 ∨ reason = 3 then s.handoverRefused else s)
      else if reason = 1 then
        let s := answered (s.modPair (fun p => { p with heldAnswer := true }))
        if s.pairSt = Pair.standby ∧ s.partnerLost then s.setPair Pair.joining else s
      else s
  s.pairRefresh

/-- A GRANT or REFUSE received: from the banksman, or passed on by the partner. What is addressed to the partner goes on to
it, and during a handover everything does (R384, R401). -/
def State.leaseReceive (s : State) (m : List Byte) (relayed : Bool) : State :=
  if s.inPair = false ∨ natAt m 6 1 ≠ 2 ∨ s.leaseFresh m s.pair.accepted = false then s else
  let s := (s.countUse s.leaseSlot).modPair (fun p => { p with accepted := noteLease m p.accepted })
  let s := if relayed = false ∧ (natAt m 0x20 1 ≠ s.pairId ∨ s.pair.handover.isSome ∨ s.pair.notice.isSome) then s.send (.mirror 0x09 0 0 m) else s
  s.leaseAnswer m

/-- `GRANT` (R377, R379 to R381). -/
def execGrant (msg : List Byte) (s : State) : Host.Outcome State Fault Refusal :=
  .next (if s.silent ∨ natAt msg 5 1 ≠ 2 then s else s.leaseReceive msg false)

/-- `REFUSE` (R379, R383, R401). -/
def execRefuse (msg : List Byte) (s : State) : Host.Outcome State Fault Refusal :=
  .next (if s.silent ∨ natAt msg 5 1 ≠ 3 then s else s.leaseReceive msg false)

/-- `LEASE_EXPIRE` (R377). -/
def execLeaseExpire (s : State) : Host.Outcome State Fault Refusal := .next (if s.running then s.leaseExpire else s)

/-- `HANDOVER_BEAT` (R401). -/
def execHandoverBeat (s : State) : Host.Outcome State Fault Refusal := .next (if s.running then s.handoverBeat.pairRefresh else s)

/-- `HANDOVER_NO_ANSWER` (R401): the requests of the running beat, from h − 1 on, are RENEW and TAKE; before it nothing
changes. -/
def execHandoverNoAnswer (s : State) : Host.Outcome State Fault Refusal :=
  let at_ := match s.pair.handover, s.pair.notice with
    | some o, _ => !o.known && decide (o.h ≤ s.beat + 1)
    | none, some (h, _, ans) => !ans && decide (h ≤ s.beat + 1)
    | none, none => false
  .next (if s.running ∧ at_ = true ∧ s.frame.phase = .p0 then s.leaseSend else s)

/-! ### The banksman (R382, R383) -/

/-- The banksman with its state replaced by a function of it. -/
def State.modWit (s : State) (f : Witness → Witness) : State := s.modPair (fun p => { p with witness := f p.witness })

/-- A GRANT with the current START and END, or a REFUSE: to a unit, in answer to a beat. -/
def State.witGrant (s : State) (to_ beat : Nat) : State :=
  let w := s.pair.witness
  let m := s.leaseMsg 2 2 beat w.seq (leBytes 1 to_ ++ leBytes 3 0 ++ leBytes 4 w.epoch ++ leBytes 8 w.start ++ leBytes 8 w.stop)
  (s.modWit (fun w => { w with seq := (w.seq + 1) % 2 ^ 32 })).keyEmit s.leaseSlot [.lease s.leasePorts m]

/-- A REFUSE. -/
def State.witRefuse (s : State) (to_ beat reason holder holderEnd : Nat) : State :=
  let w := s.pair.witness
  let m := s.leaseMsg 3 2 beat w.seq (leBytes 1 to_ ++ leBytes 1 reason ++ leBytes 1 holder ++ leBytes 1 0 ++ leBytes 4 w.epoch ++ leBytes 8 holderEnd)
  (s.modWit (fun w => { w with seq := (w.seq + 1) % 2 ^ 32 })).keyEmit s.leaseSlot [.lease s.leasePorts m]

/-- A new lease for a sender (row 2 of R382). -/
def Witness.newLease (w : Witness) (sender b l : Nat) : Witness :=
  let start := max (b + 1) w.stop
  { w with holder := some sender, epoch := (w.epoch + 1) % 2 ^ 32, start := start, stop := start + l, lastRenew := b }

/-- The table of R382. -/
def State.witAnswer (s : State) (kind sender b l h : Nat) : State :=
  let w := s.pair.witness
  let hold := w.holder.getD 0xFF
  if l < 4 ∨ 400 < l then s.witRefuse sender b 3 hold w.stop
  else if kind < 2 ∧ w.holder = some sender then (s.modWit (fun w => { w with stop := max w.stop (b + l), lastRenew := b })).witGrant sender b
  else if kind < 2 ∧ (w.holder = none ∨ w.stop ≤ b) then (s.modWit (fun w => w.newLease sender b l)).witGrant sender b
  else if kind = 1 ∧ w.lastRenew + 2 ≤ b then (s.modWit (fun w => w.newLease sender b l)).witGrant sender b
  else if kind = 1 then s.witRefuse sender b 1 hold w.stop
  else if kind = 0 then s.witRefuse sender b 2 hold w.stop
  else if w.holder = some sender then
    (if b < h ∧ w.stop < h then
      (s.modWit (fun w => { w with holder := some (1 - sender), epoch := (w.epoch + 1) % 2 ^ 32, start := h, stop := h + l, lastRenew := b })).witGrant (1 - sender) b
     else s.witRefuse sender b 3 hold w.stop)
  else s.witRefuse sender b 2 hold w.stop

/-- A request reaches the banksman. In the quiet period it is refused with QUIET until one comes 801 beats after the first;
the epoch then goes on from the largest reported (R383). -/
def State.witReceive (s : State) (kind : Nat) (m : List Byte) : State :=
  if s.silent ∨ s.role ≠ Role.witness ∨ natAt m 5 1 ≠ 1 ∨ natAt m 0x20 1 ≠ kind then s else
  if 1 < natAt m 6 1 ∨ s.leaseFresh m s.pair.witness.accepted = false then s.modWit (fun w => { w with discarded := w.discarded + 1 }) else
  let sender := natAt m 6 1
  let b := natAt m 0x10 8
  let l := natAt m 0x22 2
  let h := natAt m 0x28 8
  let s := (s.countUse s.leaseSlot).modWit (fun w => { w with accepted := noteLease m w.accepted, taken := w.taken + 1 })
  match s.pair.witness.quiet with
  | none => s.witAnswer kind sender b l h
  | some (first, top) =>
    let b0 := first.getD b
    let top := max top (natAt m 0x24 4)
    if b0 + 801 ≤ b then (s.modWit (fun w => { w with quiet := none, holder := none, start := 0, stop := 0, epoch := top })).witAnswer kind sender b l h
    else (s.modWit (fun w => { w with quiet := some (some b0, top) })).witRefuse sender b 4 0xFF 0

/-- `BANKSMAN_RENEW` (R382). -/
def execBanksmanRenew (msg : List Byte) (s : State) : Host.Outcome State Fault Refusal := .next (s.witReceive 0 msg)
/-- `BANKSMAN_TAKE` (R382). -/
def execBanksmanTake (msg : List Byte) (s : State) : Host.Outcome State Fault Refusal := .next (s.witReceive 1 msg)
/-- `BANKSMAN_HANDOVER` (R382). -/
def execBanksmanHandover (msg : List Byte) (s : State) : Host.Outcome State Fault Refusal := .next (s.witReceive 2 msg)
/-- `BANKSMAN_RESTART` (R383): no HOLDER, no END, and the quiet period. -/
def execBanksmanRestart (s : State) : Host.Outcome State Fault Refusal :=
  .next (if s.role = Role.witness then s.modWit (fun w => { Witness.reset with taken := w.taken, discarded := w.discarded }) else s)

/-! ### Mirrored regions (R387) -/

/-- The numbers of blocks of regions 0 to 7. -/
def regionBlocks : List Nat := [32768, 1024, 4096, 192, 256, 6145, 1024, 5120]

/-- Block k of region METER: energies with fractions of a circuit in blocks 0 to 15, its result set in 16 to 31; a thermal
meter's registers and results in 32 to 39 (notes/assumptions/60.md). -/
def State.meterBlock (s : State) (k : Nat) : List Byte :=
  if k < 16 then bytesAt ((s.cir k).energy.flatMap (leBytes 12)) 0 256
  else if k < 32 then (List.range 64).flatMap (fun w => leBytes 4 (s.rg (meterWordAt (k - 16) w)).toNat)
  else if k < 40 then
    bytesAt (bytesAt ((s.thm (k - 32)).regs.flatMap (leBytes 12)) 0 128 ++ (List.range 32).flatMap (fun w => leBytes 4 (s.rg (thermWordAt (k - 32) w)).toNat)) 0 256
  else List.replicate 256 0

/-- Such a block written. -/
def State.putMeterBlock (s : State) (k : Nat) (bs : List Byte) : State :=
  if k < 16 then s.modCir k (fun c => { c with energy := (List.range 6).map (fun j => natAt bs (12 * j) 12) })
  else if k < 32 then
    let s := (List.range 64).foldl (fun s w => s.setRg (meterWordAt (k - 16) w) (BitVec.ofNat 32 (natAt bs (4 * w) 4))) s
    s.setRg (Reg.LATCH_SEQ (k - 16)) (BitVec.ofNat 32 (natAt bs 244 4))
  else if k < 40 then
    let s := s.modThm (k - 32) (fun t => { t with regs := (List.range 5).map (fun j => natAt bs (12 * j) 12) })
    (List.range 32).foldl (fun s w => s.setRg (thermWordAt (k - 32) w) (BitVec.ofNat 32 (natAt bs (128 + 4 * w) 4))) s
  else s

/-- A journal entry from its 256 bytes (R444). -/
def JEntry.ofBytes (b : List Byte) : JEntry :=
  { state := match natAt b 1 1 with
      | 1 => .accepted | 2 => .started | 3 => .done | 4 => .failed | 5 => .indeterminate | _ => .free
    result := natAt b 2 1, path := natAt b 3 1, opcode := natAt b 4 2, jseq := natAt b 8 4, session := BitVec.ofNat 32 (natAt b 12 4),
    acceptBeat := natAt b 16 8, endBeat := natAt b 24 8, progress := natAt b 32 4, respLen := natAt b 36 2, reqDigest := bytesAt b 40 8,
    respHead := bytesAt b 64 192 }

/-- A plan without cells. -/
def Plan.blank : Plan := { solve := 0, nsteps := 0, status := 0, origin := 0, stepBeats := 0, cells := [], lost := [] }

/-- A block written into a plan: cells, or the descriptor in block 6,144. -/
def Plan.putBlock (p : Plan) (k : Nat) (bs : List Byte) : Plan :=
  if k < 6144 then { p with cells := p.cells.putN (256 * k) bs }
  else { p with solve := natAt bs 0 4, nsteps := natAt bs 4 1, status := natAt bs 5 1, origin := natAt bs 8 8, stepBeats := natAt bs 16 4 }

/-- REAL32 word k of the warm-start copy: x, z and y at words 0, 65,536 and 196,608. -/
def Iterate.word (it : Iterate) (k : Nat) : Word :=
  if k < 65536 then it.x.getD k 0 else if k < 196608 then it.z.getD (k - 65536) 0 else it.y.getD (k - 196608) 0

/-- The vector with an element written; it grows with zeros. -/
def setVec (v : List Word) (k : Nat) (w : Word) : List Word := (v ++ List.replicate (k + 1 - v.length) 0).set k w

/-- The copy with a word written; words beyond the model's sizes are not kept. -/
def Iterate.putWord (it : Iterate) (n m k : Nat) (w : Word) : Iterate :=
  if k < 65536 then (if k < n then { it with x := setVec it.x k w } else it)
  else if k < 196608 then (if k - 65536 < m then { it with z := setVec it.z (k - 65536) w } else it)
  else if k - 196608 < m then { it with y := setVec it.y (k - 196608) w } else it

/-- The content of a block. -/
def State.blockBytes (s : State) (region k : Nat) : List Byte :=
  match region with
  | 0 => s.scan.data.getN (256 * k) 256
  | 1 => s.loop.blocks.getN (256 * k) 256
  | 2 => s.bus.tally.getN (256 * k) 256
  | 3 => (s.jentry k).bytes k
  | 4 => s.meterBlock k
  | 5 => let p := s.disp.plan.getD Plan.blank
         if k < 6144 then p.cells.getN (256 * k) 256 else bytesAt p.desc 0 256
  | 6 => s.disp.hostData.getN (256 * k) 256
  | 7 => let it := s.disp.warm.getD { x := [], z := [], y := [], xt := [] }
         (List.range 64).flatMap (fun j => leBytes 4 (it.word (64 * k + j)).toNat)
  | _ => []

/-- A block received is applied. The state raft and the copies write what the raft's rules (R391) let them; the base from
which own writes are told moves with them. -/
def State.putBlock (s : State) (region k : Nat) (bs : List Byte) : State :=
  match region with
  | 0 =>
    let s := { s with scan := { s.scan with data := s.scan.data.putN (256 * k) bs } }
    if lArea ≤ 256 * k ∧ 256 * k < forceArea then { s with scan := { s.scan with lCommit := s.scan.lCommit.putN (256 * k) bs } } else s
  | 1 => { s with loop := { s.loop with blocks := s.loop.blocks.putN (256 * k) bs } }
  | 2 => ({ s with bus := { s.bus with tally := s.bus.tally.putN (256 * k) bs } }).modPair (fun p => { p with baseTally := p.baseTally.putN (256 * k) bs })
  | 3 =>
    let e := JEntry.ofBytes bs
    (s.modJ k (fun _ => e)).modPair (fun p => { p with baseJournal := modifyNth (fun _ => e) k p.baseJournal })
  | 4 => (s.putMeterBlock k bs).modPair (fun p => { p with baseMeter := modifyNth (fun _ => bs) k p.baseMeter })
  | 5 => { s with disp := { s.disp with plan := some ((s.disp.plan.getD Plan.blank).putBlock k bs) } }
  | 6 => { s with disp := { s.disp with hostData := s.disp.hostData.putN (256 * k) bs } }
  | 7 =>
    let n := natAt s.disp.model 0x10 4
    let it := s.disp.warm.getD { x := [], z := [], y := [], xt := [] }
    let it := (List.range 64).foldl (fun it j => it.putWord n (natAt s.disp.model 0x14 4) (64 * k + j) (BitVec.ofNat 32 (natAt bs (4 * j) 4))) it
    { s with disp := { s.disp with warm := some it } }
  | _ => s

/-! ### What was written (R390, R391) -/

/-- Blocks of regions 2 to 4 whose content differs from that at the last end of P2. -/
def State.changedBlocks (s : State) : List (Nat × Nat) :=
  let t := if s.bus.tally = s.pair.baseTally then [] else
    (List.range 4096).filter (fun k => s.bus.tally.slice (256 * k) 256 != s.pair.baseTally.slice (256 * k) 256)
  let j := (List.range 192).filter (fun k => s.jentry k != s.pair.baseJournal.getD k JEntry.free)
  let m := (List.range 40).filter (fun k => s.meterBlock k != s.pair.baseMeter.getD k [])
  t.map (fun k => (2, k)) ++ j.map (fun k => (3, k)) ++ m.map (fun k => (4, k))

/-- Every block of regions 0 to 4 written since the last end of P2, in ascending order. -/
def State.writtenBlocks (s : State) : List (Nat × Nat) :=
  let c := s.changedBlocks
  inOrder (fun a b => decide (a.1 < b.1) || (a.1 == b.1 && decide (a.2 ≤ b.2))) (s.pair.wrote.filter (fun b => !c.contains b) ++ c)

/-- The block was written by this unit since the end of P2 of a beat. -/
def State.wroteSince (s : State) (n : Nat) (b : Nat × Nat) : Bool :=
  s.writtenBlocks.contains b || s.pair.wroteLog.any (fun x => decide (n < x.1) && x.2.contains b)

/-- Link bytes of a block message: 8 + 256 + 4. -/
abbrev blockLink : Nat := 268

/-- The end of P2 in a pair (R390, R394): the digest of the beat, and in the owner the blocks of its raft with their content;
what is left of earlier rafts goes with them. -/
def State.pairP2 (s : State) : State :=
  if s.role ≠ Role.pairMember then s else
  let w := s.writtenBlocks
  let old := if s.pairOwner then s.pair.raft.filter (fun x => !w.contains (x.1, x.2.1)) else []
  let new := if s.pairOwner then w.map (fun b => (b.1, b.2, s.blockBytes b.1 b.2)) else []
  let s := if s.pairOwner ∧ 3912 < old.length + new.length then s.evt Head.pair 13 else s
  s.modPair (fun p => { p with
    last := some (s.beat, p.acc), acc := Digest.zero, wrote := [], wroteLog := (s.beat, w) :: p.wroteLog.take 40,
    baseTally := s.bus.tally, baseJournal := s.host.journal.take 192, baseMeter := (List.range 40).map s.meterBlock, raft := old ++ new })

/-- Region and block of an index into regions 0 to 7 in their order. -/
def copyBlockAt (k : Nat) : List Nat → Nat → Option (Nat × Nat)
  | [], _ => none
  | n :: t, r => if k < n then some (r, k) else copyBlockAt (k - n) t (r + 1)

/-- The slots in RUN, as a mask. -/
def State.runMask (s : State) : Nat := ((List.range 32).map (fun p => if (s.slot p).mode = .run then 2 ^ p else 0)).sum

/-- The state raft and the copies of a beat (R390, R392, R396): at most 3,912 blocks of the raft, then what capacity is left
for the copies; join ready follows the last. -/
def State.raftSend (s : State) : State :=
  if s.inPair = false ∨ s.pairOwner = false then s else
  let now := s.pair.raft.take 3912
  let s := now.foldl (fun s x => s.send (.mirror 0x03 x.1 x.2.1 x.2.2)) s
  let s := s.send (.mirror 0x04 0 (s.beat % 2 ^ 32) (leBytes 8 s.beat ++ leBytes 4 now.length ++ leBytes 4 0))
  let bytes := blockLink * now.length + 28
  let s := (s.setRg Reg.RAFT_BYTES_LAST (BitVec.ofNat 32 bytes)).peak Reg.RAFT_BYTES_MAX bytes
  let s := s.modPair (fun p => { p with raft := p.raft.drop 3912, raftSent := now })
  match s.pair.copyNext with
  | none => s
  | some k =>
    let free := (1250000 - bytes - 65536 - 192) / blockLink
    let n := min free (50625 - k)
    let s := (List.range n).foldl (fun s j =>
      match copyBlockAt (k + j) regionBlocks 0 with
      | some (r, b) => s.send (.mirror 0x08 r b (s.blockBytes r b))
      | none => s) s
    if k + n < 50625 then s.modPair (fun p => { p with copyNext := some (k + n) })
    else (s.modPair (fun p => { p with copyNext := none })).send (.control (.joinReady s.runMask))

/-! ### Heartbeats sent (R378, R393) -/

/-- DIGEST_VALID: the unit has a digest of the beat and works in step. -/
def State.digestValid (s : State) : Bool :=
  (s.pairOwner || s.pairSt == Pair.standby || (match s.pair.join with
    | .ready _ (some b) _ => s.pairSt == Pair.joining && decide (b ≤ s.beat)
    | _ => false)) && (s.pair.last.map (·.1) == some s.beat)

/-- CONSENT_END of the heartbeat of the running beat (R378, R401). -/
def State.consent (s : State) : Nat :=
  if s.pairSt ≠ Pair.standby then 0 else
  let plain := if s.pair.hbBeat = some (s.beat - 1) ∨ s.pair.hbBeat = some s.beat then s.beat + s.leaseBeats else 0
  match s.pair.notice with
  | some (h, a, _) => if a < s.beat ∧ s.beat < h then min (s.beat + s.leaseBeats) h else plain
  | none => plain

/-- The 64 bytes of the heartbeat (R393). -/
def State.heartbeat (s : State) : List Byte :=
  let d := (s.pair.last.map (·.2)).getD Digest.zero
  let fl := b2n s.digestValid + 2 * b2n s.pairOwner + 4 * s.fld Reg.PAIR_STATUS 3 3 + 8 * b2n s.pair.lampClean + 16 * b2n s.lampFull + 32 * b2n s.heldOut
  leBytes 8 s.beat ++ leBytes 8 d.s ++ leBytes 4 d.n ++ leBytes 4 d.x ++ leBytes 1 s.pairSt ++ leBytes 1 fl ++ leBytes 2 (s.rg Reg.RAFT_FMT_ACT).toNat ++
    leBytes 4 (s.rg Reg.BUNDLE_TAG).toNat ++ leBytes 8 (if s.beat < s.leaseEnd then s.leaseEnd else 0) ++ leBytes 8 s.consent ++
    leBytes 4 (s.rg Reg.LEASE_EPOCH).toNat ++ leBytes 4 (s.rg Reg.FW_TAG).toNat ++ leBytes 8 0

/-- The heartbeat of P3 is sent, with an armed exchange's confirmation (R145). -/
def State.heartbeatSend (s : State) : State :=
  if s.inPair = false ∨ s.silent then s else
  let s := (s.modPair (fun p => { p with ownConsent := s.consent })).send (.mirror 0x05 0 (s.beat % 2 ^ 32) s.heartbeat)
  match s.scan.stage.armed with
  | some (b, _, _, _) => s.send (.control (.exchangeConfirm b))
  | none => s

/-! ### Joining (R396, R397) -/

/-- A program starts a cycle in the joiner; when every one in RUN has, digests count from the next beat. -/
def State.noteStarted (s : State) (p : Nat) : State :=
  match s.pair.join with
  | .ready waiting none _ =>
    let w := waiting.filter (· != p)
    s.modPair (fun x => { x with join := .ready w (if w = [] then some (s.beat + 1) else none) 0 })
  | _ => s

/-- Join ready: the programs the owner runs go on at their next scheduled starts without initialisation, the loops at once. -/
def State.joinReady (s : State) (run : Nat) : State :=
  let s := (List.range 32).foldl (fun s p =>
    if (s.slot p).mode = .empty then s
    else s.modSlot p (fun x => { x with mode := if bit run p then .run else .stop, cycle := none, suspended := false, stepping := false, req := none,
                                        resumeAt := s.beat + 1 })) s
  let ws := (maskSlots run).filter (fun p => (s.slot p).mode == .run)
  (s.modPair (fun p => { p with join := .ready ws (if ws = [] then some (s.beat + 1) else none) 0 })).scanRefresh

/-- An equal digest in a joiner: DIV_CLEAR of them in a row make it the standby. -/
def State.joinEqual (s : State) (equal : Bool) : State :=
  match s.pair.join with
  | .ready w f n =>
    if equal = false then s.modPair (fun p => { p with join := .ready w f 0 })
    else if n + 1 < s.fld Reg.PAIR_CFG 15 11 then s.modPair (fun p => { p with join := .ready w f (n + 1) })
    else ((s.setPair Pair.standby).incSat Reg.JOIN_CNT).evt Head.pair 11
  | _ => s

/-! ### The lamp check (R404 to R406) -/

/-- The unit tests itself. -/
def State.lampRuns (s : State) : Bool := s.pairSt == Pair.standby || s.pairSt == Pair.cold

/-- A bit of a pair of registers. -/
def State.setBit64 (s : State) (lo n : Nat) (b : Bool) : State :=
  let a := if n < 32 then lo else lo + 4
  s.setFld a (n % 32) (n % 32) (b2n b)

/-- An item completes its test: its bits, its coverage and count; the pass is closed when every item is done. -/
def State.lampItem (s : State) (item : Nat) (ok : Bool) (coverage : Nat) : State :=
  let s := if s.pair.lampStart.isNone then s.modPair (fun p => { p with lampStart := some s.beat, lampFailed := false }) else s
  let c := s.rg (Reg.LAMP_COV item)
  let n := wbits c 31 16
  let s := s.setRg (Reg.LAMP_COV item) (BitVec.ofNat 32 (min coverage 10000 + 65536 * (if n < 65535 then n + 1 else n)))
  let s := (s.setBit64 Reg.LAMP_FAIL_LO item (!ok)).setBit64 Reg.LAMP_DONE_LO item true
  let s := if ok then s else (s.evt Head.pair 9).modPair (fun p => { p with lampFailed := true, lampClean := false })
  let s :=
    if s.rg64 Reg.LAMP_DONE_LO = 2 ^ 64 - 1 then
      let start := s.pair.lampStart.getD s.beat
      let s := ((s.incSat Reg.LAMP_PASS_CNT).setRg Reg.LAMP_PASS_BEATS (BitVec.ofNat 32 (s.beat - start))).setRg64 Reg.LAMP_DONE_LO 0
      (s.modPair (fun p => { p with lampClean := !p.lampFailed, lampFull := some s.beat, lampStart := some s.beat, lampFailed := false })).evt Head.pair 10
    else s
  s.pairRefresh

/-- `LAMP_FULL_EXPIRE` (R406). -/
def execLampFullExpire (s : State) : Host.Outcome State Fault Refusal := .next s.pairRefresh

/-- `LISTEN_ONLY_TIMEOUT` (R405): the standby sends the twin it withheld. -/
def execListenOnlyTimeout (ch : Nat) (s : State) : Host.Outcome State Fault Refusal :=
  .next (s.modChan ch (fun c => { c with pend := c.pend.map (fun f => { f with withheld := false }) }))

/-! ### Opcodes (R416) -/

/-- PAIR's state as a refusal. -/
def pairState : Refuse := .state Head.pair
/-- Legal for a pair member. -/
def pairMemberOnly (s : State) (_ : OctahReq) : Option Refuse := if s.role = Role.pairMember then none else some pairState

/-- `PAIR_STATUS_READ`. -/
def execPairStatusRead (req : OctahReq) (s : State) : Host.Outcome State Fault Refusal :=
  .next (octah { opcode := 0x0800, owner := false, len := fun n => n == 0, args := noArgs, legal := pairMemberOnly
                 run := fun s req => s.opOk req.tag (leBytes 8 s.beat ++ (List.range 26).flatMap (fun k => leBytes 4 (s.rg (Reg.PAIR_CFG + 4 * k)).toNat) ++
                   bytesAt s.pair.hb 0 64) } req s)

/-- A handover begins: the notice goes to the partner (R400, R401). -/
def State.beginHandover (s : State) (h : Nat) (tag : Option Nat) : State :=
  (s.modPair (fun p => { p with handover := some { h := h, tag := tag, known := false } })).send (.control (.handoverNotice h))

/-- `PAIR_HANDOVER` (R401): it completes at h. -/
def execPairHandover (req : OctahReq) (s : State) : Host.Outcome State Fault Refusal :=
  .next (octah { opcode := 0x0801, owner := false, len := fun n => n == 8
                 args := fun s p => if s.role = Role.pairMember ∧ s.pairOwner ∧ s.peerState = Pair.standby ∧ s.fld Reg.PAIR_STATUS 5 5 = 1 then
                                      firstBad [(0, decide (s.beat + max 8 (s.leaseBeats + 1) ≤ natAt p 0 8 ∧ natAt p 0 8 ≤ s.beat + 4000))]
                                    else none
                 legal := fun s _ => if s.role = Role.pairMember ∧ s.pairOwner ∧ s.peerState = Pair.standby ∧ s.fld Reg.PAIR_STATUS 5 5 = 1 ∧ s.pair.handover = none then none
                                     else some pairState
                 run := fun s req => (s.opStart req.tag).beginHandover (natAt req.pl 0 8) (some req.tag) } req s)

/-- `PAIR_DETACH`. -/
def execPairDetach (req : OctahReq) (s : State) : Host.Outcome State Fault Refusal :=
  .next (octah { opcode := 0x0802, owner := false, len := fun n => n == 0, args := noArgs
                 legal := fun s _ => if s.lampRuns then none else some pairState
                 run := fun s req => (((s.opStart req.tag).setFld Reg.PAIR_STATUS 12 12 1).setPair Pair.joining).opOk req.tag [] } req s)

/-- `PAIR_REJOIN`. -/
def execPairRejoin (req : OctahReq) (s : State) : Host.Outcome State Fault Refusal :=
  .next (octah { opcode := 0x0803, owner := false, len := fun n => n == 0, args := noArgs
                 legal := fun s _ => if s.heldOut then none else some pairState
                 run := fun s req => ((s.opStart req.tag).setFld Reg.PAIR_STATUS 12 12 0).opOk req.tag [] } req s)

/-- `LAMP_READ`. -/
def execLampRead (req : OctahReq) (s : State) : Host.Outcome State Fault Refusal :=
  .next (octah { opcode := 0x0804, owner := false, len := fun n => n == 0, args := noArgs, legal := pairMemberOnly
                 run := fun s req => s.opOk req.tag (leBytes 8 (s.rg64 Reg.LAMP_FAIL_LO) ++ leBytes 8 (s.rg64 Reg.LAMP_DONE_LO) ++
                   leBytes 4 (s.rg Reg.LAMP_PASS_CNT).toNat ++ leBytes 4 (s.rg Reg.LAMP_PASS_BEATS).toNat ++
                   (List.range 64).flatMap (fun k => leBytes 4 (s.rg (Reg.LAMP_COV k)).toNat)) } req s)

/-- A record of the divergence log. -/
def divRecord (beat kind idx own owner : Nat) : List Byte :=
  leBytes 8 beat ++ leBytes 1 kind ++ leBytes 1 0 ++ leBytes 2 idx ++ leBytes 8 own ++ leBytes 8 owner ++ leBytes 4 0

/-- The log with a record more. -/
def State.logDivergence (s : State) (kind idx own owner : Nat) : State :=
  s.modPair (fun p => { p with divLog := (divRecord s.beat kind idx own owner :: p.divLog).take 16 })

/-- `DIV_LOG_READ`. -/
def execDivLogRead (req : OctahReq) (s : State) : Host.Outcome State Fault Refusal :=
  .next (octah { opcode := 0x0805, owner := false, len := fun n => n == 0, args := noArgs, legal := pairMemberOnly
                 run := fun s req => s.opOk req.tag (bytesAt s.pair.divLog.flatten 0 512) } req s)

/-- `BANKSMAN_STATUS`. -/
def execBanksmanStatus (req : OctahReq) (s : State) : Host.Outcome State Fault Refusal :=
  .next (octah { opcode := 0x0807, owner := false, len := fun n => n == 0, args := noArgs
                 legal := fun s _ => if s.role = Role.witness then none else some pairState
                 run := fun s req =>
                   let w := s.pair.witness
                   s.opOk req.tag (leBytes 1 (w.holder.getD 0xFF) ++ leBytes 3 0 ++ leBytes 4 w.epoch ++ leBytes 8 w.stop ++ leBytes 8 w.lastRenew ++
                     leBytes 4 w.taken ++ leBytes 4 w.discarded) } req s)

end Sys2Proof.Machine
end

