-- ==== Sys2Proof/Machine/Fault.lean ====
section
/-!
DEFINITION. The safety fault collector (R40 to R50, R399, R544, R545): recording and merging, reactions, what a block does
on a BLOCK_FAULT, going fail-silent, and the faults of engines and clocks.
-/
namespace Sys2Proof.Machine

/-- The safety block with its state replaced by a function of it. -/
def State.modSafety (s : State) (f : SafetyState → SafetyState) : State := { s with safety := f s.safety }

/-! ### Reactions (R40, R42, R44, R399) -/

/-- SAFETY_CLASS_CFGn.REACTION of a class. -/
def State.classReaction (s : State) (cls : Nat) : Nat := s.fld (Reg.SAFETY_CLASS_CFG (cls - 1)) 1 0

/-- The source head page and the reaction of an SRAM area. -/
def areaFault : MemArea → Option (Nat × Nat)
  | .programCode | .programData => some (Head.scan, 3)
  | .loopState => some (Head.loop, 3)
  | .tally => some (Head.bus 0, 3)
  | .system => some (Head.dev, 3)
  | .dispatchModel | .planTable _ | .candidate => some (Head.dispatch, 2)
  | .metering => some (Head.meter, 2)
  | .raft => some (Head.pair, 2)
  | .modelCopy | .staged => none

/-- The head page of a fault's source: of an uncorrectable SRAM error, the block of its area. -/
def faultHead (f : FaultReport) : Nat :=
  match (if f.cls = 6 then f.area.bind areaFault else none) with
  | some (h, _) => h
  | none => headOfType f.srcType f.srcInst

/-- The blocks whose BLOCK_FAULT silences a unit with a STANDBY partner (R399). -/
def silencing (head : Nat) : Bool :=
  head == Head.scan || head == Head.loop || typeOf head == 0x140 || head == Head.dispatch || head == Head.meter || head == Head.clk

/-- The reaction applied to a fault. -/
def State.reaction (s : State) (f : FaultReport) : Nat :=
  let area := match (if f.cls = 6 then f.area.bind areaFault else none) with
    | some (_, r) => r
    | none => 0
  let r := max (s.classReaction f.cls) area
  if r = 2 ∧ s.inPair = true ∧ s.pairSt = Pair.active ∧ silencing (faultHead f) = true then 3 else r

/-! ### The fault log (R46 to R48) -/

/-- The newest entry. -/
def SafetyState.newest (x : SafetyState) : Option FaultEntry :=
  match x.ring with
  | e :: _ => some e
  | [] => x.kept.getLast?

/-- An entry merged with one more occurrence (R47). -/
def FaultEntry.merge (e : FaultEntry) (reaction : Nat) : FaultEntry :=
  { e with repeated := true, count := min (e.count + 1) 65535, reaction := max e.reaction reaction }

/-- A fault recorded or merged. -/
def State.recordFault (s : State) (f : FaultReport) (r : Nat) : State :=
  let ty := typeOf (faultHead f)
  let inst := instOf (faultHead f)
  let same := match s.safety.newest with
    | some e => e.srcType == ty && e.srcInst == inst && e.cls == f.cls && e.info0 == f.info0
    | none => false
  if same then
    (if s.safety.ring = [] then s.modSafety (fun x => { x with kept := modifyNth (fun e => e.merge r) (x.kept.length - 1) x.kept })
     else s.modSafety (fun x => { x with ring := modifyNth (fun e => e.merge r) 0 x.ring }))
  else
    let seq := (s.rg Reg.FLOG_HEAD).toNat + 1
    let rep := s.role == Role.pairMember && bit s.draw.1.toNat 0
    let e : FaultEntry := { timeNs := s.nsCount, beat := s.beat % 2 ^ 32, seq := seq, srcType := ty, srcInst := inst, cls := f.cls, reaction := r, repeated := false,
                            reported := rep, count := 1, info0 := f.info0, info1 := f.info1 }
    let s := if s.role = Role.pairMember then s.draw.2 else s
    let s := s.setRg Reg.FLOG_HEAD (BitVec.ofNat 32 seq)
    if s.safety.kept.length < 8 then s.modSafety (fun x => { x with kept := x.kept ++ [e] })
    else
      let s := if 248 ≤ s.safety.ring.length then s.incSat Reg.FLOG_LOST else s
      s.modSafety (fun x => { x with ring := e :: x.ring.take 247 })

/-! ### Faults in force (R544) -/

/-- SAFETY_STATE brought up to date: the mode, and the class of the strongest fault in force, the earliest of equals. -/
def State.safetyRefresh (s : State) : State :=
  let l := s.safety.inForce
  let top := (l.map (·.reaction)).foldl max 0
  let cls := ((l.find? (fun x => x.reaction == top)).map (·.cls)).getD 0
  (s.setFld Reg.SAFETY_STATE 1 0 (top - 1)).setFld Reg.SAFETY_STATE 15 8 cls

/-- BLOCK_FAULTs of a block whose FAULT bit is cleared are no longer in force. -/
def State.faultCleared (s : State) (head : Nat) : State :=
  ((s.setFaultBit head false).modSafety (fun x => { x with inForce := x.inForce.filter (fun y => y.head != head || y.reaction == 3) })).safetyRefresh

/-! ### What a block does on a fault -/

/-- A scan engine stops with its programs (R125, R127). -/
def State.scanEngineFault (s : State) (e : Nat) : State :=
  let ps := (List.range 32).filter (fun p => ((s.slot p).mode == .run || (s.slot p).mode == .hold) && Image.engine (s.image p) == e)
  let s := ps.foldl (fun s p => (s.exchFailOf p 4).stopProg p 5) s
  let s := { s with scan := { s.scan with dead := e :: s.scan.dead.filter (· != e) } }
  if ps = [] then s else s.evt Head.scan 9

/-- A loop engine stops (R198). -/
def State.loopEngineFault (s : State) (e : Nat) : State := ((s.setFld Reg.LE_FAULT_MAP e e 1).evt Head.loop 4).loopRefresh

/-- The channels of a bus engine go recessive (R281). -/
def State.busEngineFault (s : State) (e : Nat) : State :=
  (List.range 4).foldl (fun s k =>
    let ch := 4 * e + k
    ((s.setFaultBit (Head.bus ch) true).setReady (Head.bus ch) false).modChan ch (fun c => { c with pend := [] })) s

/-- A raft is late (R392): the event, the counts, and JOINING after 16 beats of them. -/
def State.raftLate (s : State) : State :=
  let s := ((s.incSat Reg.RAFT_LATE_CNT).evt Head.pair 3).modPair (fun p => { p with lateRun := p.lateRun + 1, lateAt := some s.beat })
  if 16 ≤ s.pair.lateRun ∧ s.pairSt = Pair.standby then s.setPair Pair.joining else s.pairRefresh

/-- The DE stops (R243). -/
def State.dispFault (s : State) : State := ((s.dispAbort).modDisp (fun d => { d with stopped := true })).dispRefresh

/-- A cell of the plan table is lost: its channel falls back until the next cut-over (R237). -/
def State.planCellLost (s : State) (ch : Nat) : State :=
  let s := s.modDisp (fun d => { d with plan := d.plan.map (fun p => { p with lost := ch :: p.lost.filter (· != ch) }) })
  ((s.setFld Reg.PLAN_POS 17 17 1).setRg Reg.DISP_INFO (BitVec.ofNat 32 ch)).evt Head.dispatch 8

/-- A block acts on its BLOCK_FAULT as its chapter defines; INFO0 of a watchdog fault is the engine's number. -/
def State.blockFault (s : State) (f : FaultReport) : State :=
  let h := (faultHead f)
  let e := f.info0.toNat % 8
  let s := match f.area with
    | some (.planTable ch) => s.planCellLost ch
    | _ => s
  if h = Head.scan ∧ f.cls = 3 then s.scanEngineFault e
  else if h = Head.loop ∧ f.cls = 3 then s.loopEngineFault e
  else if typeOf h = 0x140 ∧ f.cls = 3 then s.busEngineFault (e % 2)
  else if h = Head.frame ∧ f.cls = 3 then { s with frame := { s.frame with withheld := true } }
  else if h = Head.dispatch then s.dispFault
  else if h = Head.meter then (if f.cls = 6 then s.modMe (fun m => { m with lostWord := true }) else s).meterFault
  else if h = Head.pair ∧ f.cls = 6 ∧ s.pairSt = Pair.standby then s.raftLate
  else s

/-! ### Fail-silent (R41) -/

/-- The unit goes fail-silent: the gate closes, transmissions stop, LIO outputs go to high impedance, PWR_ON is released
(R515), commands make no progress. -/
def State.goSilent (s : State) : State :=
  if s.silent then s else
  let s := s.modSafety (fun x => { x with silentSince := some s.beat })
  let s := (s.setBlkState Head.frame 3).setBlkState Head.host 1
  let s := if s.inPair then s.setBlkState Head.pair Pair.silent else s
  let s := { s with frame := { s.frame with stopping := false, withheld := true } }
  let s := if s.fld Reg.BK_STATUS 5 5 = 1 then (s.setFld Reg.BK_STATUS 5 5 0).emit (.pwrOn false) else s
  s.dropFrames.lioGate

/-! ### Detection (R40, R45, R545) -/

/-- One fault: the log, the event, its reaction on its own source block. -/
def State.oneFault (s : State) (f : FaultReport) : State :=
  let r := s.reaction f
  let s := s.recordFault f r
  let s := if f.cls = 5 ∨ (f.cls = 7 ∧ wbits f.info1 31 31 = 0) then s.incSat Reg.ECC_CE_COUNT
           else if f.cls = 6 ∨ f.cls = 7 then s.incSat Reg.ECC_UE_COUNT else s
  let s := if f.cls = 4 ∧ (faultHead f) = Head.clk then s.incSat Reg.CLK_FAULT_CNT else s
  let s := match f.area with
    | some .modelCopy => if wbits f.info1 31 31 = 1 then s.modDisp (fun d => { d with copyLost := true }) else s
    | _ => s
  let s := if 1 ≤ r then s.evt Head.safety f.cls else s
  if r < 2 then s else
  let s := (s.setFaultBit (faultHead f) true).modSafety (fun x =>
    if x.inForce.any (fun y => y.head == (faultHead f) && y.cls == f.cls && y.reaction == r) then x
    else { x with inForce := x.inForce ++ [{ head := (faultHead f), cls := f.cls, reaction := r }] })
  (s.blockFault f).safetyRefresh

/-- Faults of one timestamp interval, in ascending order of class; the unit takes the strongest reaction (R45). -/
def State.faults (s : State) (fs : List FaultReport) : State :=
  let rs := fs.map (fun f => s.reaction f)
  let s := (inOrder (fun a b => decide (a.cls ≤ b.cls)) fs).foldl State.oneFault s
  if rs.contains 3 then s.goSilent.pairRefresh else s

/-- A fault that the device's own checks raise. -/
def State.fault (s : State) (cls head : Nat) (info0 info1 : Word) : State :=
  s.faults [{ cls := cls, srcType := typeOf head, srcInst := instOf head, info0 := info0, info1 := info1, area := none }]

/-- A word the manual states, or a free one where it states none (notes/assumptions/1.md). -/
def State.orFree (s : State) : Option Word → Word × State
  | some w => (w, s)
  | none => s.draw

/-- A fault that the device's own checks raise, whose INFO words the manual does not all state. -/
def State.faultInfo (s : State) (cls head : Nat) (info0 info1 : Option Word) : State :=
  let (a, s) := s.orFree info0
  let (b, s) := s.orFree info1
  s.fault cls head a b

/-- Fault classes. -/
abbrev Cls.watchdog : Nat := 3
/-- CLOCK -/ abbrev Cls.clock : Nat := 4
/-- LINK_CRC -/ abbrev Cls.linkCrc : Nat := 8
/-- DISPATCH_RESIDUAL -/ abbrev Cls.residual : Nat := 9
/-- SEAM_VERIFY -/ abbrev Cls.seamVerify : Nat := 10
/-- DIVERGE -/ abbrev Cls.diverge : Nat := 11
/-- LATENT -/ abbrev Cls.latent : Nat := 12

/-- `FAULT_DETECTED` (R40, R44, R45): only faults of classes 1 to 12. -/
def execFaultDetected (faults : List FaultReport) (s : State) : Host.Outcome State Fault Refusal :=
  .next (s.faults (faults.filter (fun f => decide (1 ≤ f.cls ∧ f.cls ≤ 12))))

/-- The block of an engine's watchdog fault and the engine's number in it (R17, R42; notes/assumptions/61.md). -/
def engineSource : Engine → Nat × Nat
  | .sc n => (Head.dev, n)
  | .se n => (Head.scan, n)
  | .le n => (Head.loop, n)
  | .de => (Head.dispatch, 0)
  | .be n => (Head.bus (4 * (n % 2)), n)
  | .te => (Head.time, 0)
  | .me => (Head.meter, 0)
  | .ke => (Head.keys, 0)

/-- A watchdog that was not serviced in a beat (R42). -/
def State.watchdog (s : State) (e : Engine) : State := s.faultInfo Cls.watchdog (engineSource e).1 (some (BitVec.ofNat 32 (engineSource e).2)) none

/-- `CLOCK_LOSS` (R107): the reference or the PLL lock is lost; the die runs on its fallback oscillator, every base enters
FAULT. -/
def execClockLoss (s : State) : Host.Outcome State Fault Refusal :=
  let s := s.faultInfo Cls.clock Head.clk none none
  let s := ((s.setFld Reg.CLK_STATUS 0 0 0).setFld Reg.CLK_STATUS 1 1 0).setFld Reg.CLK_STATUS 4 4 1
  .next ((List.range 4).foldl (fun s n => if s.baseState n = 0 then s else s.enterBase n 5) s)

end Sys2Proof.Machine
end

