-- ==== Sys2Proof/Machine/Backup.lean ====
section
/-!
DEFINITION. The backup domain (R503 to R518): the tick edge with its count, waiting writes, alarm and WAKE_IN; PWR_ON; the
crystal detector; its power-on reset; and the snapshot pairs of R108.
A tick edge is given by BK_TICK, or by the name of what happens at it; each edge is one command.
-/
namespace Sys2Proof.Machine

/-- The domain with its state replaced by a function of it. -/
def State.modBk (s : State) (f : BackupState → BackupState) : State := { s with bk := f s.bk }

/-- A bit of BK_STATUS set. -/
def State.bkStatus (s : State) (n : Nat) (b : Bool) : State := s.setFld Reg.BK_STATUS n n (b2n b)

/-- VALID, XT_STOPPED, ARMED and PWR_ON_ASSERTED as they stand. -/
def State.bkBit (s : State) (n : Nat) : Bool := bit (s.rg Reg.BK_STATUS).toNat n

/-- BLK_STATUS of BACKUP and the live bits of BK_STATUS brought up to date (R507, R509, R516, R517). -/
def State.bkRefresh (s : State) : State :=
  let s := s.bkStatus 3 (!s.bk.writes.isEmpty)
  let s := s.bkStatus 4 (s.fld Reg.BK_CHG 2 0 != 0 && s.fld Reg.PWR_STATUS 0 0 == 1)
  (s.setBlkState Head.backup (if s.bk.xtRuns = false then 2 else if s.bkBit 0 then 1 else 0)).setReady Head.backup true

/-! ### PWR_ON (R513 to R515) -/

/-- The ball is released. -/
def State.pwrOff (s : State) : State := if s.bkBit 5 then (s.bkStatus 5 false).emit (.pwrOn false) else s

/-- A source asserts PWR_ON: its cause is recorded; in a fail-silent unit the ball is not driven. -/
def State.pwrAssert (s : State) (cause : Nat) : State :=
  let s := s.setFld Reg.BK_WAKE_CAUSE cause cause 1
  if s.safety.silentSince.isSome then s
  else
    let s := if s.bkBit 5 then s else (s.bkStatus 5 true).emit (.pwrOn true)
    s.modBk (fun b => { b with since := 0 })

/-! ### The alarm (R510 to R512) -/

/-- The alarm count. -/
def State.alarmCount (s : State) : Nat := (s.rg Reg.BK_ALARM_LO).toNat + 2 ^ 32 * s.fld Reg.BK_ALARM_HI 15 0

/-- A signed difference of counts (R510). -/
def tickDiff (a b : Nat) : Int := sext 48 (a + 2 ^ 48 - b % 2 ^ 48)

/-- The alarm fires with a CAUSE and is disarmed. -/
def State.alarmFire (s : State) (cause : Nat) : State :=
  let s := ((s.setFld Reg.BK_ALARM_CTRL 5 4 cause).bkStatus 2 false).evt Head.backup 1
  if s.fld Reg.BK_ALARM_CTRL 0 0 = 1 then s.pwrAssert 0 else s.setFld Reg.BK_WAKE_CAUSE 0 0 1

/-- BK_ALARM_HI is written: armed, and judged against the count. -/
def State.alarmArm (s : State) (v : Word) : State :=
  let s := (s.setRg Reg.BK_ALARM_HI (BitVec.ofNat 32 (wbits v 15 0))).bkStatus 2 true
  if tickDiff s.alarmCount s.bk.cnt ≤ 0 then s.alarmFire 3 else s

/-- BK_CNT_HI is written: the count loads, the alarm is judged under R511. -/
def State.counterSet (s : State) (v : Word) : State :=
  let old := s.bk.cnt
  let new := s.bk.setLo.toNat + 2 ^ 32 * wbits v 15 0
  let s := ((s.modBk (fun b => { b with cnt := new })).bkStatus 0 true).bkStatus 1 false
  if s.bkBit 2 ∧ 0 < tickDiff s.alarmCount old ∧ 0 ≤ tickDiff new s.alarmCount then s.alarmFire 2 else s

/-! ### The tick edge -/

/-- A waiting write reaches its register (R509). -/
def State.bkApply (s : State) (a : Nat) (v : Word) : State :=
  if a = Reg.BK_CNT_LO then s.modBk (fun b => { b with setLo := v })
  else if a = Reg.BK_CNT_HI then s.counterSet v
  else if a = Reg.BK_ALARM_HI then s.alarmArm v
  else if a = Reg.BK_ALARM_CTRL then
    let s := s.setFld Reg.BK_ALARM_CTRL 0 0 (wbits v 0 0)
    if wbits v 1 1 = 1 then s.bkStatus 2 false else s
  else if a = Reg.BK_PWR then
    let s := s.setRg Reg.BK_PWR (BitVec.ofNat 32 (2 ^ 16 * wbits v 25 16 + 8 * wbits v 4 3))
    let s := if wbits v 0 0 = 1 then s.pwrAssert 2 else s
    if wbits v 1 1 = 1 then s.pwrOff else s
  else if a = Reg.BK_WAKE_CAUSE then s.setRg a (s.rg a &&& ~~~ v)
  else s.setRg a v

/-- WAKE_IN is sampled (R513): low at 33 consecutive edges is recognised once, until it has been high at 33. -/
def State.wakeSample (s : State) (level : Bool) : State :=
  let s := s.bkStatus 6 level
  let s := s.modBk (fun b => { b with
    wakeLow := if level then 0 else min (b.wakeLow + 1) 33
    wakeHigh := if level then min (b.wakeHigh + 1) 33 else 0 })
  if s.bk.wakeHigh = 33 then s.modBk (fun b => { b with wakeReady := true })
  else if s.bk.wakeLow = 33 ∧ s.bk.wakeReady = true ∧ s.fld Reg.BK_PWR 4 4 = 1 then
    (s.modBk (fun b => { b with wakeReady := false })).pwrAssert 1
  else s

/-- One rising tick edge with the level of WAKE_IN (R506 to R513): the count moves on, unless this edge loads it; an armed
alarm whose count is reached fires; the waiting writes apply in arrival order; WAKE_IN is sampled. -/
def State.bkTick (s : State) (wake : Bool) : State :=
  let s := if s.bk.xtRuns then s else (s.modBk (fun b => { b with xtRuns := true })).setFld Reg.CLK_STATUS 2 2 1
  let ws := s.bk.writes
  let sets := ws.any (fun w => w.1 == Reg.BK_CNT_HI)
  let s := s.modBk (fun b => { b with cnt := if sets then b.cnt else (b.cnt + 1) % 2 ^ 48, writes := [], since := b.since + 1 })
  let s := if sets = false ∧ s.bkBit 2 ∧ s.bk.cnt = s.alarmCount then s.alarmFire 1 else s
  let s := ws.foldl (fun s w => s.bkApply w.1 w.2) s
  (s.wakeSample wake).bkRefresh

/-- A tick edge at which a write that meets a condition reaches the domain; without such a write nothing happens. -/
def State.bkEdge (s : State) (wake : Bool) (p : Nat → Word → Bool) : State :=
  if s.bk.writes.any (fun w => p w.1 w.2) then s.bkTick wake else s

/-- `BK_TICK`. -/
def execBkTick (wake : Bool) (s : State) : Host.Outcome State Fault Refusal := .next (s.bkTick wake)

/-- `BK_CNT_SET` (R508): the edge after a write of BK_CNT_HI. -/
def execBkCntSet (wake : Bool) (s : State) : Host.Outcome State Fault Refusal :=
  .next (s.bkEdge wake (fun a _ => a == Reg.BK_CNT_HI))

/-- `BK_ALARM_ARM` (R510): the edge after a write of BK_ALARM_HI. -/
def execBkAlarmArm (wake : Bool) (s : State) : Host.Outcome State Fault Refusal :=
  .next (s.bkEdge wake (fun a _ => a == Reg.BK_ALARM_HI))

/-- `BK_ALARM_DISARM` (R510): the edge after a write of DISARM = 1. -/
def execBkAlarmDisarm (wake : Bool) (s : State) : Host.Outcome State Fault Refusal :=
  .next (s.bkEdge wake (fun a v => a == Reg.BK_ALARM_CTRL && bit v.toNat 1))

/-- `PWR_ASSERT` (R514): the edge after a write of ASSERT = 1. -/
def execPwrAssert (wake : Bool) (s : State) : Host.Outcome State Fault Refusal :=
  .next (s.bkEdge wake (fun a v => a == Reg.BK_PWR && bit v.toNat 0))

/-- `PWR_RELEASE` (R514): the edge after a write of RELEASE = 1. -/
def execPwrRelease (wake : Bool) (s : State) : Host.Outcome State Fault Refusal :=
  .next (s.bkEdge wake (fun a v => a == Reg.BK_PWR && bit v.toNat 1))

/-- `ALARM_REACHED` (R510, R512): the edge at which the count becomes the armed alarm's. -/
def execAlarmReached (wake : Bool) (s : State) : Host.Outcome State Fault Refusal :=
  .next (if s.bkBit 2 ∧ (s.bk.cnt + 1) % 2 ^ 48 = s.alarmCount ∧ s.bk.writes.any (fun w => w.1 == Reg.BK_CNT_HI) = false then s.bkTick wake else s)

/-- `WAKE_IN` (R513, R514): the edge at which the input has been low for the 33rd time. -/
def execWakeIn (s : State) : Host.Outcome State Fault Refusal :=
  .next (if 32 ≤ s.bk.wakeLow ∧ s.bk.wakeReady = true then s.bkTick false else s)

/-- `PWR_ON_PULSE_END` (R514): in PULSE mode, PULSE_MS after the last assertion; while the crystal runs, its edges measure
the time. -/
def execPwrOnPulseEnd (s : State) : Host.Outcome State Fault Refusal :=
  let due := !s.bk.xtRuns || decide (s.fld Reg.BK_PWR 25 16 * 32768 ≤ s.bk.since * 1000)
  .next (if s.bkBit 5 ∧ s.fld Reg.BK_PWR 3 3 = 0 ∧ due then s.pwrOff else s)

/-! ### The crystal, the supply, the start -/

/-- `XT_STOPPED` (R107, R507): no edge for 1 ms; with main power present a CLOCK fault, and an RTC measurement stops. -/
def execXtStopped (s : State) : Host.Outcome State Fault Refusal :=
  if s.bk.xtRuns = false then .next s else
  let was := s.bkBit 1
  let s := ((s.modBk (fun b => { b with xtRuns := false })).bkStatus 1 true).bkRefresh
  let s := if was then s else s.evt Head.backup 4
  let s := s.setFld Reg.CLK_STATUS 2 2 0
  let s := if s.time.rtc.isSome then ({ s with time := { s.time with rtc := none } }).setFld Reg.RTC_CFG 0 0 0 else s
  .next (if s.fld Reg.PWR_STATUS 0 0 = 1 then s.faultInfo Cls.clock Head.backup none none else s)

/-- The block-specific registers of BACKUP with "backup" fields. -/
def backupRegs : List Nat :=
  [Reg.BK_CNT_LO, Reg.BK_CNT_HI, Reg.BK_ALARM_LO, Reg.BK_ALARM_HI, Reg.BK_ALARM_CTRL, Reg.BK_CHG, Reg.BK_PWR, Reg.BK_WAKE_CAUSE] ++
    (List.range 16).map Reg.BK_REG

/-- `BACKUP_POR` (R504): the supply has been below 1.2 V; every backup field takes its reset value, VALID is 0. -/
def execBackupPor (s : State) : Host.Outcome State Fault Refusal :=
  let s := s.pwrOff
  let s := backupRegs.foldl (fun s a => s.setRg a (regReset a)) s
  let s := ((s.bkStatus 0 false).bkStatus 1 false).bkStatus 2 false
  .next (s.modBk (fun b => { BackupState.reset with xtRuns := b.xtRuns })).bkRefresh

/-- The reports of step 10 of a start (R518). -/
def State.bkStartReport (s : State) : State :=
  let s := if s.bkBit 0 then s else s.evt Head.backup 3
  let s := if s.fld Reg.BK_WAKE_CAUSE 2 0 = 0 then s else s.evt Head.backup 2
  if s.bkBit 1 then s.evt Head.backup 4 else s

/-- `RTC_SNAPSHOT` (R108): with SNAP_EN, at a whole second of device time, the tick count and device time as one pair. -/
def execRtcSnapshot (s : State) : Host.Outcome State Fault Refusal :=
  .next (if s.fld Reg.RTC_CFG 16 16 = 1 ∧ s.time.ns % 1000000000 = 0 then
    (s.setRg64 Reg.RTC_SNAP_TICK_LO s.bk.cnt).setRg64 Reg.RTC_SNAP_NS_LO s.nsCount else s)

end Sys2Proof.Machine
end

