-- ==== Sys2Proof/Machine/PairRun.lean ====
section
/-!
DEFINITION. The mirror link (R386 to R397) and what else raises faults: messages and their CRC, rafts received, joins,
divergence (R395), verification of a candidate (R232 to R234, R240, R241), the AFE link, twin mismatches, the lamp check's
failures.
-/
namespace Sys2Proof.Machine

/-! ### Link messages (R386) -/

/-- A LINK_CRC fault: the manual gives its INFO words no values for a striped message, so they are free
(notes/assumptions/1.md). -/
def State.linkCrcFault (s : State) (head : Nat) : State :=
  s.faultInfo Cls.linkCrc head none none

/-- A message of the mirror link: discarded and counted when its CRC fails, and asked for again where it is a block. -/
def State.linkMsg (s : State) (crcOk : Bool) (again : Option (Nat × Nat)) (f : State → State) : State :=
  if s.silent ∨ s.inPair = false then s
  else if crcOk then f s
  else
    let s := (s.incSat Reg.LINK_CRC_CNT).linkCrcFault Head.pair
    match again with
    | some (r, b) => s.send (.control (.blockResend r b))
    | none => s

/-- `LEASE_RELAY` (R384): a request goes on to the banksman, an answer is taken as received. -/
def execLeaseRelay (crcOk : Bool) (msg : List Byte) (s : State) : Host.Outcome State Fault Refusal :=
  .next (s.linkMsg crcOk none (fun s => if natAt msg 5 1 = 1 then s.send (.lease s.leasePorts msg) else s.leaseReceive msg true))

/-- `TIMING` (R95). -/
def execTiming (crcOk : Bool) (t1 t2 t3 t4 : Rat) (s : State) : Host.Outcome State Fault Refusal :=
  .next (s.linkMsg crcOk none (fun s => s.timingWord t1 t2 t3 t4))

/-- `FOLLOW_VALUE` (R101). -/
def execFollowValue (crcOk : Bool) (values : List (Nat × Int)) (s : State) : Host.Outcome State Fault Refusal :=
  .next (s.linkMsg crcOk none (fun s => s.followValues values))

/-! ### Divergence (R395) -/

/-- Word 0 of the own digest. -/
def State.digestWord (s : State) : Word := BitVec.ofNat 32 ((s.pair.last.map (·.2)).getD Digest.zero).s

/-- A divergence: the fault, the count, the log; the standby enters JOINING at the next boundary, the owner goes on. -/
def State.diverge (s : State) (kind idx own owner : Nat) : State :=
  let s := s.logDivergence kind idx own owner
  let s := (s.fault Cls.diverge Head.pair (BitVec.ofNat 32 s.beat) s.digestWord).incSat Reg.DIVERGE_CNT
  (s.evt Head.pair 2).modPair (fun p => { p with leave := p.leave || s.pairSt == Pair.standby })

/-- The digests of a beat are compared once both are there. -/
def State.judgeDigest (s : State) : State :=
  match s.pair.last with
  | none => s
  | some (n, d) =>
    if s.pair.hbBeat ≠ some n ∨ s.pair.compared = some n ∨ s.peerFlag 0 = false ∨ s.digestValid = false then s else
    let hb := s.pair.hb
    let equal := natAt hb 8 8 == d.s && natAt hb 16 4 == d.n && natAt hb 20 4 == d.x
    let s := s.modPair (fun p => { p with compared := some n })
    if s.pairSt = Pair.standby then (if equal then s else s.diverge 0 0 d.s (natAt hb 8 8))
    else if s.pairSt = Pair.joining ∧ s.peerFlag 1 = true then s.joinEqual equal
    else s

/-- Twin mismatches the bus engines reported are judged (R276, R395). -/
def State.judgeTwins (s : State) : State :=
  let es := s.bus.mismatch
  es.foldl (fun s e => s.diverge 1 e ((s.pair.last.map (·.2)).getD Digest.zero).s (natAt s.pair.hb 8 8)) { s with bus := { s.bus with mismatch := [] } }

/-- `BUS_FRAME_RX` (R250 to R259). -/
def execBusFrameRx (ch : Nat) (f : BusFrame) (sofNs : Nat) (s : State) : Host.Outcome State Fault Refusal := .next (s.busRx ch f sofNs).judgeTwins

/-- `BUS_ERROR` (R265 to R268). -/
def execBusError (ch : Nat) (kind : BusErr) (collide dominant exempt : Bool) (s : State) : Host.Outcome State Fault Refusal :=
  .next (s.busError ch kind collide dominant exempt).judgeTwins

/-! ### Heartbeats (R375, R393, R396, R402) -/

/-- A program of this unit has a suspended cycle (R129). -/
def State.suspended (s : State) : Bool := s.scan.slots.any (fun x => x.suspended)

/-- The join of a unit that hears the owner (R396, R402). -/
def State.joinStep (s : State) : State :=
  if s.pairSt ≠ Pair.joining ∨ s.peerFlag 1 = false ∨ s.pair.join ≠ .idle then s
  else if s.fld Reg.RAFT_FMT 15 0 ≠ natAt s.pair.hb 0x1A 2 ∨ s.rg Reg.BUNDLE_TAG ≠ BitVec.ofNat 32 (natAt s.pair.hb 0x1C 4) then
    (if s.heldOut then s else (s.setPair Pair.cold).evt Head.pair 8)
  else if s.heldOut ∨ s.pair.peer.suspended then s
  else s.send (.control .joinRequest)

/-- A partner heartbeat. -/
def State.heartbeatRx (s : State) (data : List Byte) (peer : PeerReport) : State :=
  let d := bytesAt data 0 64
  let n := natAt d 0 8
  let s := s.modPair (fun p => { p with hb := d, hbBeat := some n, peer := peer, peerConsent := natAt d 0x28 8,
                                        ownerSeen := if bit (natAt d 0x19 1) 1 then some n else p.ownerSeen })
  let s := { s with time := { s.time with partnerLocked := peer.locked, roleAt := peer.role.orElse (fun _ => s.time.roleAt) } }
  let s := s.modStage (fun g => { g with partnerReady := peer.staged })
  let s := (s.setFld Reg.RAFT_FMT 31 16 (natAt d 0x1A 2)).setRg Reg.PEER_BUNDLE_TAG (BitVec.ofNat 32 (natAt d 0x1C 4))
  let s := if s.pairSt = Pair.solo ∧ s.peerState = Pair.standby then s.setPair Pair.active
           else if s.pairSt = Pair.active ∧ s.peerState ≠ Pair.standby then s.setPair Pair.solo else s
  let s := if s.pairOwner = false ∧ s.pair.handover.isSome ∧ s.peerFlag 1 = true then s.endHandover Code.ok else s
  let s := s.judgeDigest
  let s := if s.pairSt = Pair.standby ∧ s.peerFlag 1 = true ∧ s.pair.leave = false ∧ peer.suspended ≠ s.suspended then
             s.diverge 4 0 ((s.pair.last.map (·.2)).getD Digest.zero).s (natAt d 8 8) else s
  s.joinStep.pairRefresh

/-- `HEARTBEAT` (R375, R378, R393 to R396). -/
def execHeartbeat (crcOk : Bool) (data : List Byte) (peer : PeerReport) (s : State) : Host.Outcome State Fault Refusal :=
  .next (s.linkMsg crcOk none (fun s => s.heartbeatRx data peer))

/-- `HEARTBEAT_MISSED` (R375, R393): none has come for the running beat by its end. -/
def execHeartbeatMissed (s : State) : Host.Outcome State Fault Refusal :=
  .next (if s.silent ∨ s.running = false ∨ s.frame.phase ≠ .p3 then s else (s.judgeHeartbeat s.beat).pairRefresh)

/-! ### The state raft received (R391, R392) -/

/-- The unit applies rafts. -/
def State.takesRaft (s : State) : Bool := s.pairSt == Pair.standby || s.pairSt == Pair.joining

/-- The open raft, or a new one of the beat whose P2 ended last. -/
def State.openRaft (s : State) : RaftIn :=
  (s.pair.rafts.find? (fun r => r.total.isNone)).getD { beat := if s.frame.phase = .p3 then s.beat else s.beat - 1, got := 0, total := none }

/-- The rafts with one replaced, or added at the end. -/
def putRaft (r : RaftIn) : List RaftIn → List RaftIn
  | [] => [r]
  | x :: t => if x.beat = r.beat then r :: t else x :: putRaft r t

/-- A raft that has all its blocks is done. -/
def State.raftDone (s : State) (r : RaftIn) : State :=
  if r.total.any (fun t => decide (t ≤ r.got)) then
    let s := s.modPair (fun p => { p with rafts := p.rafts.filter (fun x => x.beat != r.beat), raftDone := max p.raftDone r.beat })
    if r.beat < s.beat then s.peak Reg.RAFT_END_MAX s.beatOfs else s
  else s.modPair (fun p => { p with rafts := putRaft r p.rafts })

/-- A raft block is applied unless this unit has written it since the end of P2 of the raft's beat. -/
def State.stateBlock (s : State) (region block : Nat) (data : List Byte) : State :=
  if s.takesRaft = false ∨ 4 < region ∨ regionBlocks.getD region 0 ≤ block then s else
  let r := s.openRaft
  let s := if s.wroteSince r.beat (region, block) then s else s.putBlock region block (bytesAt data 0 256)
  s.raftDone { r with got := r.got + 1 }

/-- `STATE_BLOCK` (R391). -/
def execStateBlock (crcOk : Bool) (region block : Nat) (data : List Byte) (s : State) : Host.Outcome State Fault Refusal :=
  .next (s.linkMsg crcOk (some (region, block)) (fun s => s.stateBlock region block data))

/-- `STATE_END` (R390). -/
def execStateEnd (crcOk : Bool) (beat blocks : Nat) (s : State) : Host.Outcome State Fault Refusal :=
  .next (s.linkMsg crcOk none (fun s =>
    if s.takesRaft then (s.raftDone { s.openRaft with beat := beat, total := some blocks }).pairRefresh else s))

/-- `RAFT_DEADLINE` (R392): at P2, the raft of the beat before. -/
def execRaftDeadline (s : State) : Host.Outcome State Fault Refusal :=
  .next (if s.silent ∨ s.running = false ∨ s.inPair = false ∨ s.pairSt ≠ Pair.standby ∨ s.frame.phase = .p3 then s
         else if s.pair.raftDone + 1 < s.beat ∨ s.pair.rafts ≠ [] then s.raftLate
         else (s.modPair (fun p => { p with lateRun := 0 })).pairRefresh)

/-! ### Joins and copies (R240, R396, R397) -/

/-- `JOIN_REQUEST` (R396): the owner begins the copy. -/
def execJoinRequest (crcOk : Bool) (s : State) : Host.Outcome State Fault Refusal :=
  .next (s.linkMsg crcOk none (fun s => if s.pairOwner then s.modPair (fun p => { p with copyNext := some 0 }) else s))

/-- A candidate copied from the owner, block by block; the descriptor comes last, and with it the owner's digest (R240). -/
def State.candidateBlock (s : State) (block : Nat) (data : List Byte) : State :=
  let c := (s.disp.candidate.getD Plan.blank).putBlock block data
  let s := s.modDisp (fun d => { d with candidate := some c })
  if block = 6144 ∧ s.pair.ownerDigest = some (c.digest, true) then s.modDisp (fun d => { d with copied := true, agreed := true }) else s

/-- `COPY_BLOCK`: for a join in the order of arrival, of a candidate in the standby, of a staged package (region 8,
notes/assumptions/62.md). -/
def State.copyBlock (s : State) (region block : Nat) (data : List Byte) : State :=
  let data := bytesAt data 0 256
  if region = 8 then
    s.modStage (fun g => if g.owner.isSome then { g with data := g.data.putN (256 * block) (data.take (g.len - 256 * block)),
                                                         units := block :: g.units.filter (· != block) } else g)
  else if regionBlocks.getD region 0 ≤ block then s
  else if s.pairSt = Pair.joining then
    (if s.joinedReady then s else
     let n := s.fld Reg.JOIN_PROGRESS 15 0
     let s := if s.pair.join = .idle then (s.modPair (fun p => { p with join := .copying })).setRg Reg.JOIN_PROGRESS 1
              else s.setRg Reg.JOIN_PROGRESS (BitVec.ofNat 32 (min (n + 1) 65535))
     s.putBlock region block data)
  else if s.pairSt = Pair.standby ∧ region = 5 then s.candidateBlock block data
  else s

/-- `COPY_BLOCK`. -/
def execCopyBlock (crcOk : Bool) (region block : Nat) (data : List Byte) (s : State) : Host.Outcome State Fault Refusal :=
  .next (s.linkMsg crcOk (some (region, block)) (fun s => s.copyBlock region block data))

/-- `JOIN_READY` (R397). -/
def execJoinReady (crcOk : Bool) (run : Nat) (s : State) : Host.Outcome State Fault Refusal :=
  .next (s.linkMsg crcOk none (fun s => if s.pairSt = Pair.joining ∧ s.heldOut = false ∧ s.joinedReady = false then s.joinReady run else s))

/-- `EXCHANGE_CONFIRM` (R145). -/
def execExchangeConfirm (crcOk : Bool) (beat : Nat) (s : State) : Host.Outcome State Fault Refusal :=
  .next (s.linkMsg crcOk none (fun s => s.modStage (fun g => { g with partnerBeat := some beat })))

/-- `HANDOVER_NOTICE` (R401). -/
def execHandoverNotice (crcOk : Bool) (h : Nat) (s : State) : Host.Outcome State Fault Refusal :=
  .next (s.linkMsg crcOk none (fun s => if s.pairSt = Pair.standby then s.modPair (fun p => { p with notice := some (h, s.beat, false) }) else s))

/-- `BLOCK_RESEND` (R386): a block of the raft as it was sent, or any other as it stands. -/
def execBlockResend (crcOk : Bool) (region block : Nat) (s : State) : Host.Outcome State Fault Refusal :=
  .next (s.linkMsg crcOk none (fun s =>
    if s.pairOwner = false then s else
    match s.pair.raftSent.find? (fun x => x.1 == region && x.2.1 == block) with
    | some x => s.send (.mirror 0x03 region block x.2.2)
    | none => if region = 8 then s.send (.mirror 0x08 8 block (s.scan.stage.data.getN (256 * block) 256))
              else s.send (.mirror 0x08 region block (s.blockBytes region block))))

/-- `LAMP_PATTERN` (R404): the partner of the unit that tests a lane sends the pattern back. -/
def execLampPattern (crcOk : Bool) (lane pattern : Nat) (data : List Byte) (s : State) : Host.Outcome State Fault Refusal :=
  .next (s.linkMsg crcOk none (fun s => if s.lampRuns then s else s.send (.mirror 0x0B lane pattern (bytesAt data 0 64))))

/-- `LAMP_ITEM_DONE` (R404, R406): a failed item is a LATENT fault of PAIR. -/
def execLampItemDone (item : Nat) (ok : Bool) (coverage : Nat) (s : State) : Host.Outcome State Fault Refusal :=
  .next (if s.inPair = false ∨ s.lampRuns = false ∨ 64 ≤ item then s else
    (if ok then s else s.faultInfo Cls.latent Head.pair (some (BitVec.ofNat 32 item)) none).lampItem item ok coverage)

/-! ### Verification and agreement (R232 to R234, R239 to R241) -/

/-- Owner and standby hold candidates of the same digest, or the standby's is replaced by the owner's copy (R240). In the
standby: the owner's digest against the own candidate once its verdict is there; in the owner: the standby's report. -/
def State.judgeCandidate (s : State) : State :=
  match s.pair.ownerDigest, s.disp.candidate with
  | some (d, true), c =>
    if s.pairSt ≠ Pair.standby ∨ s.disp.agreed = true ∨ (s.verdict = 0 ∧ c.isSome) ∨ s.pair.copyAsked = true then s else
    let own := (c.map Plan.digest).getD []
    if s.verdict = 1 ∧ own = d then (s.modDisp (fun x => { x with agreed := true })).send (.control (.candidateDigest own true))
    else
      let s := s.faultInfo Cls.diverge Head.dispatch none none
      let s := (s.incSat Reg.PLAN_COPY_CNT).evt Head.dispatch 9
      (s.modPair (fun p => { p with copyAsked := true })).send (.control (.candidateDigest own (s.verdict == 1)))
  | _, _ => s

/-- `CANDIDATE_DIGEST` (R240). -/
def State.candidateDigest (s : State) (digest : List Byte) (verified : Bool) : State :=
  if s.pairSt = Pair.standby then (s.modPair (fun p => { p with ownerDigest := some (digest, verified), copyAsked := false })).judgeCandidate
  else if s.pairOwner ∧ s.verdict = 1 then
    match s.disp.candidate with
    | none => s
    | some c =>
      if verified ∧ digest = c.digest then s.modDisp (fun d => { d with agreed := true })
      else
        let s := (s.incSat Reg.PLAN_COPY_CNT).evt Head.dispatch 9
        s.modPair (fun p => { p with planCopy := some 0 })
  else s

/-- `CANDIDATE_DIGEST`. -/
def execCandidateDigest (crcOk : Bool) (digest : List Byte) (verified : Bool) (s : State) : Host.Outcome State Fault Refusal :=
  .next (s.linkMsg crcOk none (fun s => s.candidateDigest digest verified))

/-- The copy of a candidate goes out in capacity the raft leaves, 60,000 bytes or 223 blocks a beat at least (R240). -/
def State.planCopySend (s : State) : State :=
  match s.pair.planCopy, s.disp.candidate with
  | some k, some c =>
    let n := min 223 (6145 - k)
    let s := (List.range n).foldl (fun s j =>
      s.send (.mirror 0x08 5 (k + j) (if k + j < 6144 then c.cells.getN (256 * (k + j)) 256 else bytesAt c.desc 0 256))) s
    s.modPair (fun p => { p with planCopy := if k + n < 6145 then some (k + n) else none })
  | _, _ => s.modPair (fun p => { p with planCopy := none })

/-- `VERIFY_DONE` (R232 to R234): the verdict of a candidate, by boundary c − 2. -/
def execVerifyDone (us : Nat) (s : State) : Host.Outcome State Fault Refusal :=
  match s.disp.solve, s.disp.candidate with
  | some v, some c =>
    if s.silent ∨ s.verdict ≠ 0 ∨ v.cut < s.beat + 2 ∨ (v.cut = s.beat + 2 ∧ s.beatOfs ≠ 0) then .next s else
    let s := s.setRg Reg.VERIFY_US (BitVec.ofNat 32 us)
    if s.disp.copyLost then
      .next (((s.setVerdict 7).modDisp (fun d => { d with copyLost := false, copy := d.model })).dispRefresh)
    else
      let (vd, step, r) := verifyResult s.disp.copy v.params v.snapshot s.disp.result (c.cells == planCells s.disp.map c.nsteps s.disp.result.x)
      let s := (((s.setRg Reg.VER_PRIM r.1).setRg Reg.VER_DUAL r.2.1).setRg Reg.VER_GAP r.2.2).setVerdict vd
      let s := if vd = 3 ∨ (vd = 2 ∧ c.status = 1) then s.fault Cls.residual Head.dispatch (BitVec.ofNat 32 v.id) (BitVec.ofNat 32 step) else s
      let s := if vd = 1 then s.evt Head.dispatch 3 else s
      let s := if s.inPair ∧ s.pairOwner ∧ vd = 1 then s.send (.control (.candidateDigest c.digest true)) else s
      .next (s.judgeCandidate.dispRefresh)
  | _, _ => .next s

/-- `VERIFY_MISSED` (R233, R241): at boundary c − 2 without a verdict, or in the standby without agreement. -/
def execVerifyMissed (s : State) : Host.Outcome State Fault Refusal :=
  match s.disp.candidate with
  | none => .next s
  | some c =>
    let cut := (s.disp.solve.map (·.cut)).getD c.origin
    if s.silent ∨ s.beat + 2 < cut ∨ cut ≤ s.beat then .next s
    else if s.verdict = 0 ∧ s.disp.copied = false then .next ((s.setVerdict 5).dispRefresh)
    else if s.pairSt = Pair.standby ∧ s.disp.agreed = false ∧ s.verdict ≠ 5 then
      let s := s.setVerdict 5
      let s := if s.pair.ownerDigest.any (·.2) then s.diverge 2 0 ((s.pair.last.map (·.2)).getD Digest.zero).s (natAt s.pair.hb 8 8) else s
      .next s.dispRefresh
    else .next s

/-! ### The AFE link and the generator -/

/-- `AFE_SAMPLES` (R290, R316): the samples of the beat before; a failed CRC is a LINK_CRC fault of METER. -/
def execAfeSamples (crcOk : Bool) (codes : List (List Int)) (clips : List Nat) (s : State) : Host.Outcome State Fault Refusal :=
  .next (if s.afeDue = false then s else (if crcOk then s else s.linkCrcFault Head.meter).afeBeat crcOk codes clips)

/-- `AFE_LINK_DEGRADE` (R316); an owner with a STANDBY partner hands over (R400). -/
def execAfeLinkDegrade (s : State) : Host.Outcome State Fault Refusal :=
  let t := s.afeDegrade
  .next (if s.blkState Head.meter ≠ 3 ∧ t.blkState Head.meter = 3 ∧ t.inPair ∧ t.pairSt = Pair.active ∧ t.pair.handover = none then
    t.beginHandover (t.beat + max 8 (t.leaseBeats + 1)) none else t)

/-- `RNG_HEALTH_FAIL` (R468): the generator stops until the next start. -/
def execRngHealthFail (s : State) : Host.Outcome State Fault Refusal :=
  .next (if s.keys.rngOk = false then s else ((s.modKeys (fun k => { k with rngOk := false })).keysRefresh).faultInfo Cls.latent Head.keys none none)

end Sys2Proof.Machine
end

