-- ==== Sys2Proof/Machine/Cascade.lean ====
section
/-!
DEFINITION. The cascade (R411 to R415, R420): ring, timing, configuration, the input records an extender sends, the output
records a master sends, and what a missing message does.
-/
namespace Sys2Proof.Machine

/-- The cascade block with its state replaced by a function of it. -/
def State.modCasc (s : State) (f : CascadeState → CascadeState) : State := { s with casc := f s.casc }

/-- The unit is the master of a cascade that runs. -/
def State.cascMaster (s : State) : Bool := s.role == Role.cascadeMaster && s.enabled Head.cascade
/-- The unit is an extender whose cascade block runs. -/
def State.cascExt (s : State) : Bool := s.role == Role.extender && s.enabled Head.cascade
/-- Extenders configured, by number. -/
def State.extenders (s : State) : List Nat := (List.range (s.fld Reg.CASC_CFG 1 0)).map (· + 1)
/-- POSITION. -/
def State.cascPos (s : State) : Nat := s.fld Reg.CASC_STATUS 5 4
/-- CASCADE states. -/
abbrev Casc.training : Nat := 1
/-- RUNNING -/ abbrev Casc.up : Nat := 2
/-- DEGRADED -/ abbrev Casc.degraded : Nat := 3
/-- RING_DOWN -/ abbrev Casc.down : Nat := 4

/-- CASCADE's state; it works while the ring is whole and nothing is lost. -/
def State.setCasc (s : State) (x : Nat) : State := (s.setBlkState Head.cascade x).setReady Head.cascade (x == Casc.up)

/-- A message of the cascade link (R411, R420): one that fails its CRC is discarded and counted. -/
def State.cascMsg (s : State) (crcOk : Bool) (f : State → State) : State :=
  if s.silent ∨ (s.cascMaster = false ∧ s.cascExt = false) then s
  else if crcOk then f s
  else (s.incSat Reg.CASC_CRC_CNT).linkCrcFault Head.cascade

/-! ### Records (R413) -/

/-- KIND -/ def CRec.kind (r : List Byte) : Nat := natAt r 0 1
/-- PROG -/ def CRec.prog (r : List Byte) : Nat := natAt r 1 1
/-- SRC -/ def CRec.src (r : List Byte) : Nat := natAt r 2 2
/-- SRC_OFS -/ def CRec.ofs (r : List Byte) : Nat := natAt r 4 1
/-- LEN -/ def CRec.len (r : List Byte) : Nat := natAt r 5 1
/-- SECTION_OFS -/ def CRec.sofs (r : List Byte) : Nat := natAt r 8 4
/-- Bytes of a record in the I or Q section. -/
def CRec.bytes (r : List Byte) : Nat := if CRec.kind r = 2 ∨ CRec.kind r = 3 then 4 * CRec.len r else if CRec.kind r = 4 then 4 else CRec.len r
/-- Bytes an extender sends for it: STATUS_IN is the master's own word. -/
def CRec.sent (r : List Byte) : Nat := if CRec.kind r = 4 then 0 else CRec.bytes r
/-- It is an output record. -/
def CRec.out (r : List Byte) : Bool := decide (5 ≤ CRec.kind r)

/-- What an extender reads for a record: the entry under the Tally hold, the line levels, the meter's latched words. -/
def State.extRead (s : State) (r : List Byte) : List Byte :=
  let src := CRec.src r
  match CRec.kind r with
  | 0 => s.latchBytes src (CRec.ofs r) (CRec.len r)
  | 1 => (List.range (CRec.len r)).map (fun k => if bit s.lio.levels (src + k) then 1 else 0)
  | 2 => (List.range (CRec.len r)).flatMap (fun k => leBytes 4 (s.rg (meterWordAt (src % 256) (src / 256 + k))).toNat)
  | 3 => (List.range (CRec.len r)).flatMap (fun k => leBytes 4 (s.rg (thermWordAt (src % 256) (src / 256 + k))).toNat)
  | _ => []

/-- The records of extender e. -/
def State.cascRecs (s : State) (e : Nat) : List (List Byte) := (s.casc.cfg.getD (e - 1) ([], [])).2
/-- Link bytes of a message with a payload. -/
def cascLink (n : Nat) : Nat := 12 + (n + 3) / 4 * 4

/-! ### The ring (R411, R413, R415) -/

/-- `RING_TRAINING_DONE` (R411, R413): the ring is whole and the node has its number; the master sends the configurations. -/
def execRingTrainingDone (position : Nat) (s : State) : Host.Outcome State Fault Refusal :=
  if s.silent ∨ (s.cascMaster = false ∧ s.cascExt = false) then .next s else
  let pos := if s.cascMaster then 0 else position % 4
  let s := ((s.setFld Reg.CASC_STATUS 0 0 1).setFld Reg.CASC_STATUS 5 4 pos).evt Head.cascade 1
  let s := s.modCasc (fun c => { c with trained := true, lost := [], lateRun := [0, 0, 0], outMiss := 0, timeMiss := 0 })
  if s.cascExt then .next (s.setCasc Casc.training)
  else
    .next (s.extenders.foldl (fun s e =>
      let (t, rs) := s.casc.cfg.getD (e - 1) ([], [])
      let progs := (rs.map CRec.prog ++ (cfgRounds t).map (·.prog)).eraseDups
      s.send (.cascade 0x24 e 0 (leBytes 4 t.length ++ t ++ leBytes 4 (12 * rs.length) ++ rs.flatten ++
        progs.flatMap (fun p => leBytes 4 p ++ leBytes 2 (Image.k (s.image p)) ++ leBytes 2 (Image.phase (s.image p)))))) (s.setCasc Casc.up))

/-- An extender is lost (R415). -/
def State.extLost (s : State) (e : Nat) : State :=
  if s.casc.lost.contains e then s else
  ((s.modCasc (fun c => { c with lost := e :: c.lost })).incSat Reg.CASC_LOST_CNT).evt Head.cascade 3

/-- `RING_BREAK` (R415): a broken ring loses every extender. -/
def execRingBreak (s : State) : Host.Outcome State Fault Refusal :=
  if s.silent ∨ (s.cascMaster = false ∧ s.cascExt = false) then .next s else
  let s := ((s.setFld Reg.CASC_STATUS 0 0 0).setFld Reg.CASC_STATUS 3 1 0).evt Head.cascade 2
  let s := if s.cascMaster then s.extenders.foldl State.extLost s else s
  .next (s.setCasc Casc.down)

/-- What an extender keeps of a master program: an image without content but for period, phase and the rounds tied to it
(notes/assumptions/70.md). -/
def extImage (k phase : Nat) (ties : List (Nat × Nat)) : Image :=
  leBytes 8 0 ++ leBytes 2 k ++ leBytes 2 phase ++ leBytes 4 0 ++ List.replicate 40 0 ++ leBytes 4 0x60 ++ leBytes 4 ties.length ++ List.replicate 32 0 ++
    ties.flatMap (fun t => leBytes 1 t.1 ++ leBytes 1 t.2 ++ leBytes 2 0)

/-- The configuration an extender received is put in force, if it keeps the rules of R277 to R279. -/
def State.extConfig (s : State) (tally : List Byte) (recs : List (List Byte)) (progs : List (Nat × Nat × Nat)) : State :=
  let ties (p : Nat) := ((cfgRounds tally).filter (fun r => r.prog == p)).map (fun r => (r.ch, r.round))
  let images : List Image := (List.range 32).map (fun p =>
    match progs.find? (fun x => x.1 == p) with
    | some (_, k, f) => extImage k f (ties p)
    | none => [])
  if tallyOk tally images [] = false ∨ cfgCopies tally ≠ [] then s else
  let s := { s with scan := { s.scan with slots := s.scan.slots.mapIdx (fun p (x : ProgSlot) => { x with image := images.getD p [] }) } }
  ((s.loadTally tally).modCasc (fun c => { c with cfg := [(tally, recs)] })).setCasc Casc.up

/-- `CONFIG_BLOCK` (R413). -/
def execConfigBlock (crcOk : Bool) (ext : Nat) (tally : List Byte) (recs : List (List Byte)) (progs : List (Nat × Nat × Nat)) (s : State) :
    Host.Outcome State Fault Refusal :=
  .next (s.cascMsg crcOk (fun s => if s.cascExt = false ∨ ext ≠ s.cascPos ∨ s.stopped = false then s else s.extConfig tally recs progs))

/-! ### Timing (R412) -/

/-- `CASC_TIMING` (R412): the time at arrival is what the message carries and the cable delay from the previous node; the
node forwards it with its own delay added. The first one steps device time while FRAME is STOPPED and makes it valid, the
others give the d of R84. -/
def execCascTiming (crcOk : Bool) (ns : Rat) (rxQ : Nat) (delay : Rat) (s : State) : Host.Outcome State Fault Refusal :=
  .next (s.cascMsg crcOk (fun s =>
    if s.cascExt = false then s else
    let t : Rat := ns + ((sext 32 (s.rg Reg.CASC_HOP_COMP).toNat : Int) : Rat)
    let s := s.send (.cascTiming (t + delay))
    let s := s.modCasc (fun c => { c with timeSeen := true, timeMiss := 0, timeLost := false })
    let d : Rat := t - s.stampR rxQ
    if s.fld Reg.DT_STATUS 5 5 = 0 then
      (if s.casc.trained ∧ s.stopped then
        ((s.setDevice ((s.time.ns : Rat) + (s.time.frac : Rat) / 65536 + d)).setFld Reg.DT_STATUS 5 5 1).timeRefresh
       else s)
    else
      ((s.modCasc (fun c => { c with measured := some d })).setRg Reg.DT_OFFSET (BitVec.ofNat 32 (unsx 32 (satS 32 (Config.roundNs d))))).timeRefresh))

/-- `CASC_TIMING_LOST` (R412): after 4 beats in a row without CASC_TIMING. -/
def execCascTimingLost (s : State) : Host.Outcome State Fault Refusal :=
  .next (if s.cascExt ∧ 4 ≤ s.casc.timeMiss then (s.modCasc (fun c => { c with timeLost := true })).timeRefresh else s)

/-! ### Inputs (R414, R415) -/

/-- In an extender, at P0: the input records of the master programs whose cycles begin at this beat, in record order, are
sent in one message; NEW and LOST are cleared (R260). -/
def State.extSend (s : State) : State :=
  if s.cascExt = false then s else
  let rs := (s.cascRecs 1).filter (fun r => !CRec.out r && schedAt (s.image (CRec.prog r)) s.beat)
  let s := s.send (.cascade 0x21 s.cascPos (s.beat % 2 ^ 32) (rs.flatMap s.extRead))
  ((List.range 32).filter (fun p => s.image p != [] && schedAt (s.image p) s.beat)).foldl State.clearNew s

/-- The bytes of an extender's message go to the I sections its records name. -/
def State.putExt (s : State) : List (List Byte) → List Byte → State
  | [], _ => s
  | r :: t, data =>
    let bs := if CRec.kind r = 4 then leBytes 4 (s.rg Reg.CASC_STATUS).toNat else bytesAt data 0 (CRec.bytes r)
    (s.putData (s.secBase (CRec.prog r) 0 + CRec.sofs r) bs).putExt t (data.drop (CRec.sent r))

/-- An EXT_INPUT complete at a beat offset. -/
def State.extInput (s : State) (e : Nat) (data : List Byte) (ofs : Nat) : State :=
  if s.cascMaster = false ∨ s.running = false ∨ s.frame.phase ≠ .p0 ∨ s.frame.latched = true ∨ s.extenders.contains e = false ∨ s.casc.got.contains e = true ∨
      20000 < ofs then s else
  let s := s.advanceTo ofs
  let n := s.casc.inBytes + cascLink data.length
  let s := s.modCasc (fun c => { c with got := e :: c.got, inBytes := n, lateRun := c.lateRun.set (e - 1) 0 })
  let s := (s.peak Reg.CASC_IN_BYTES_MAX n).setFld Reg.CASC_STATUS e e 1
  let s :=
    if s.casc.lost.contains e then
      let s := (s.modCasc (fun c => { c with lost := c.lost.filter (· != e) })).evt Head.cascade 4
      if s.casc.lost = [] ∧ s.blkState Head.cascade = Casc.degraded then s.setCasc Casc.up else s
    else s
  let s := if s.extenders.all s.casc.got.contains then s.peak Reg.CASC_ARRIVE_MAX ofs else s
  let rs := (s.cascRecs e).filter (fun r => !CRec.out r && schedAt (s.image (CRec.prog r)) s.beat)
  s.putExt rs data

/-- `EXT_INPUT` (R414). -/
def execExtInput (crcOk : Bool) (ext : Nat) (data : List Byte) (ofs : Nat) (s : State) : Host.Outcome State Fault Refusal :=
  .next (s.cascMsg crcOk (fun s => s.extInput ext data ofs))

/-- The inputs of an extender are late in this beat (R415). -/
def State.extLate (s : State) (e : Nat) : State :=
  let n := s.casc.lateRun.getD (e - 1) 0 + 1
  let s := (s.setFld Reg.CASC_STATUS e e 0).modCasc (fun c => { c with lateRun := c.lateRun.set (e - 1) n })
  let s := (s.incSat Reg.CASC_IN_LATE_CNT).evt Head.cascade 5
  if 4 ≤ n ∧ s.blkState Head.cascade ≠ Casc.down then
    let s := s.extLost e
    if s.blkState Head.cascade = Casc.degraded then s else s.setCasc Casc.degraded
  else s

/-- `EXT_INPUT_DEADLINE` (R415): at 20 µs. -/
def execExtInputDeadline (s : State) : Host.Outcome State Fault Refusal :=
  .next (if s.silent ∨ s.cascMaster = false ∨ s.running = false ∨ s.frame.phase ≠ .p0 ∨ s.frame.latched = true ∨ 20000 < s.beatOfs then s
         else
           let s := s.advanceTo 20000
           let s := (s.extenders.filter (fun e => !s.casc.got.contains e)).foldl State.extLate s
           s.modCasc (fun c => { c with got := s.extenders }))

/-! ### Outputs (R414, R415) -/

/-- The master sends, after its commit, the output records of the programs that posted in this beat, behind a mask of those
programs. -/
def State.cascP2 (s : State) : State :=
  if s.cascMaster = false ∨ s.fld Reg.CASC_STATUS 0 0 = 0 then s else
  let posted := s.scan.posted
  let mask := ((List.range 32).map (fun p => if posted.contains p then 2 ^ p else 0)).sum
  let body (e : Nat) : List Byte := leBytes 4 mask ++ ((s.cascRecs e).filter (fun r => CRec.out r && posted.contains (CRec.prog r))).flatMap (fun r =>
    bytesAt (s.scan.committed.getD (CRec.prog r) []) (CRec.sofs r) (CRec.bytes r))
  let n := (s.extenders.map (fun e => cascLink (body e).length)).sum
  (s.extenders.foldl (fun s e => s.send (.cascade 0x22 e (s.beat % 2 ^ 32) (body e))) s).peak Reg.CASC_OUT_BYTES_MAX n

/-- The bytes of a MASTER_OUTPUT go to the entries and lines its records name. -/
def State.takeOutput (s : State) : List (List Byte) → List Byte → State
  | [], _ => s
  | r :: t, data =>
    let bs := bytesAt data 0 (CRec.bytes r)
    let s :=
      if CRec.kind r = 5 then s.postTally (CRec.src r) (CRec.ofs r - 0x20) bs
      else s.modCasc (fun c => { c with lioOut := c.lioOut ++ bs.mapIdx (fun k b => (CRec.src r + k, b != 0)) })
    s.takeOutput t (data.drop (CRec.bytes r))

/-- A valid MASTER_OUTPUT. Outputs that had stopped return. -/
def State.masterOutput (s : State) (data : List Byte) : State :=
  let s := s.modCasc (fun c => { c with outSeen := true, outMiss := 0, floating := false })
  let mask := natAt data 0 4
  (s.takeOutput ((s.cascRecs 1).filter (fun r => CRec.out r && bit mask (CRec.prog r))) (data.drop 4)).lioGate

/-- `MASTER_OUTPUT` (R414). -/
def execMasterOutput (crcOk : Bool) (ext : Nat) (data : List Byte) (s : State) : Host.Outcome State Fault Refusal :=
  .next (s.cascMsg crcOk (fun s => if s.cascExt = false ∨ ext ≠ s.cascPos ∨ s.running = false then s else s.masterOutput data))

/-- `MASTER_OUTPUT_LOST` (R415): after 4 beats in a row without MASTER_OUTPUT the extender's scheduled frames stop and its
LIO outputs float. -/
def execMasterOutputLost (s : State) : Host.Outcome State Fault Refusal :=
  .next (if s.cascExt ∧ 4 ≤ s.casc.outMiss then (s.modCasc (fun c => { c with floating := true })).dropFrames.lioGate else s)

/-- The cascade at a boundary: the levels of the last MASTER_OUTPUT take effect, an extender counts what it missed in the
beat that ends, a master begins a new beat's inputs. -/
def State.cascBoundary (s : State) : State :=
  if s.cascExt then
    let s := s.casc.lioOut.foldl (fun s x => if x.1 < 48 then s.setBit64 Reg.LIO_OUT_LO x.1 x.2 else s) s
    s.modCasc (fun c => { c with lioOut := [], outSeen := false, timeSeen := false,
                                 outMiss := if c.outSeen then 0 else c.outMiss + 1, timeMiss := if c.timeSeen then 0 else c.timeMiss + 1 })
  else s.modCasc (fun c => { c with got := [], inBytes := 0 })

/-- `CASCADE_STATUS`. -/
def execCascadeStatus (req : OctahReq) (s : State) : Host.Outcome State Fault Refusal :=
  .next (octah { opcode := 0x0806, owner := false, len := fun n => n == 0, args := noArgs
                 legal := fun s _ => if s.role = Role.cascadeMaster ∨ s.role = Role.extender then none else some (.state Head.cascade)
                 run := fun s req => s.opOk req.tag (leBytes 8 s.beat ++ (List.range 9).flatMap (fun k => leBytes 4 (s.rg (Reg.CASC_CFG + 4 * k)).toNat)) } req s)

end Sys2Proof.Machine
end

