-- ==== Sys2Proof/Machine/SeamRun.lean ====
section
/-!
DEFINITION. The end of a Seam store and what waits for its seal (R340, R353 to R355, R365, R456, R462, R466, R469), and the
power-failure sequence (R342, R360 to R363, R526).
-/
namespace Sys2Proof.Machine

/-! ### The statement of ATTEST (R469) -/

/-- The 488 bytes of a statement with a leaf, for the request's nonce and slots. -/
def State.attestStatement (s : State) (p : List Byte) (leaf : Nat) : List Byte :=
  let n := natAt p 32 1
  let (man, parts, bundle) := s.boot.cached.getD ([], [], [])
  let fw := ((parts.find? (fun x => x.1 == 1)).map (·.2)).getD []
  leBytes 4 0x54414553 ++ leBytes 2 1 ++ leBytes 1 n ++ leBytes 1 0 ++ idHash ++ bytesAt p 0 32 ++ leBytes 4 leaf ++ leBytes 4 0 ++
    leBytes 8 s.beat ++ leBytes 8 (if s.fld Reg.DT_STATUS 5 5 = 1 then s.nsCount else 0) ++ leBytes 8 s.keys.counter ++
    bytesAt man 0 32 ++ bytesAt fw 0 32 ++ bytesAt bundle 0 32 ++ (List.range 32).map Config.romDigest ++
    (List.range 8).flatMap (fun k => if k < n then (s.keySlot (natAt p (36 + k) 1)).desc else List.replicate 32 0)

/-- The payload of an ATTEST: the statement and the identity's signature over it. -/
def State.attestPayload (s : State) (tag leaf : Nat) : List Byte :=
  let p := ((s.host.inflight.find? (fun x => x.1 == tag)).map (fun x => x.2.pl)).getD []
  let st := s.attestStatement p leaf
  st ++ (List.range 2820).map (Config.xmssSign st leaf)

/-! ### What a store completes (R354) -/

/-- A seal of a generation is written: what waited for it goes on. -/
def State.sealServes (s : State) (gen : Nat) (f : StoreFor) : State :=
  match f with
  | .plain => s
  | .command tag => s.opOk tag (leBytes 8 gen)
  | .billing seq ns => s.billStored true seq ns
  | .keyUpdate => s.kuSealed
  | .attest tag leaf => s.opOk tag (s.attestPayload tag leaf)
  | .keyUse tag payload => s.opOk tag payload
  | .release msgs => msgs.foldl (fun s m => s.send m) s
  | .sealedRec addr bytes bill => (s.seamFw addr bytes).requestStore (match bill with
      | some (q, ns) => .billing q ns
      | none => .plain)

/-- The store failed: a command that waited ends with ABORTED, a record stays unsaved, nothing is released. -/
def State.storeFails (s : State) (f : StoreFor) : State :=
  match f with
  | .plain | .release _ => s
  | .command tag | .keyUse tag _ | .attest tag _ => s.opFail tag (.code Code.aborted)
  | .billing seq ns => s.billStored false seq ns
  | .keyUpdate => s.kuFailed
  | .sealedRec _ _ bill => match bill with
      | some (q, ns) => s.billStored false q ns
      | none => s

/-- In a silent unit the entries of commands stand as they were (R438). -/
def State.keepingEntries (s t : State) : State := if s.silent then { t with host := s.host } else t

/-- Writes of the SC and the KE that a store deferred reach the SRAM; no store runs any more (R353). -/
def State.storeOver (s : State) : State :=
  let d := s.seam.deferred
  let s := s.modSeam (fun m => { m with run := none, deferred := [], sec := m.secDeferred.getD m.sec, secDeferred := none })
  d.foldl (fun s x => s.seamPut x.1 x.2 false) s

/-- The seal of the running store is written to its target (R352, R353), and its count (R365). -/
def State.writeSeal (s : State) (r : StoreRun) : State :=
  let gen := match s.newestBank with
    | some k => (s.bank k).gen + 1
    | none => 1
  let s := s.modSeam (fun m => { m with
    banks := modifyNth (fun (b : SeamBank) =>
      { b with stores := b.stores + 1, sealed := sealOf (b.stores + 1) gen (crc32c (imageBytes b.sec b.image)).toNat r.stampNs }) r.target m.banks })
  let s := if (s.bank r.target).stores = 900000000 then s.evt Head.seam 4 else s
  (s.evt Head.seam 1).setBlkState Head.seam 1

/-- `SEAM_STORE_DONE`: the running store's comparison holds and its seal is written after `us` µs, or it fails from a page
on (R353, R355). -/
def execSeamStoreDone (ok : Bool) (page us : Nat) (s : State) : Host.Outcome State Fault Refusal :=
  match s.seam.run with
  | some r =>
    if ok then
      let s := s.writeSeal r
      let gen := (s.bank r.target).gen
      let s := ((s.setRg Reg.STORE_US_LAST (BitVec.ofNat 32 us)).peak Reg.STORE_US_MAX us).storeOver.seamRefresh
      .next (s.keepingEntries (r.fors.foldl (fun s f => s.sealServes gen f) s))
    else
      let s := (((s.incSat Reg.VERIFY_FAIL_CNT).evt Head.seam 2).setBlkState Head.seam 3).storeOver.seamRefresh
      let s := s.faultInfo Cls.seamVerify Head.seam (some (BitVec.ofNat 32 page)) none
      .next (s.keepingEntries (r.fors.foldl (fun s f => s.storeFails f) s))
  | none => .next s

/-! ### Power failure (R360 to R363, R526) -/

/-- The automatic store begins step 2 (R361): the device's own, for nothing that waits. -/
def State.pfBegin (s : State) : State :=
  (s.beginStore []).modSeam (fun m => { m with pf := some .storing })

/-- PFI is accepted, once (R361, R526): a running store is abandoned, the gate closes, everything stops, and the power-fail
record and PF_END are written; with no bracket open the store begins. -/
def State.pfiAccept (s : State) : State :=
  if s.seam.pf.isSome then s else
  let ns := s.nsCount
  let s := s.setFld Reg.PWR_STATUS 4 4 0
  let s := s.storeOver.modSeam (fun m => { m with queued := none, pf := some .waiting })
  let s := { s with frame := { s.frame with stopping := false, withheld := true } }
  let s := ((s.setBlkState Head.frame 3).dropFrames).lioGate
  let s := s.modMe (fun m => { m with acc := false, thermAcc := false })
  let s := s.seamPut pfAddr (s.pfRecord ns []) false
  let flags := (s.seam.sram.get (pageAddr 32 + 9)).toNat
  let s := s.seamPut (pageAddr 32 + 9) [BitVec.ofNat 8 (setBits flags 2 2 1)] false
  if s.seam.bracket.isSome then s.seamRefresh else s.pfBegin

/-- `PFI_ACCEPTED`. -/
def execPfiAccepted (q : Nat) (s : State) : Host.Outcome State Fault Refusal :=
  .next (if s.seam.pf.isSome then s else (s.advanceTo (q / 4)).pfiAccept)

/-- `PFI_BRACKET_WAIT_END` (R360): the pages written inside a bracket still open are TORN, and the store begins. -/
def execPfiBracketWaitEnd (s : State) : Host.Outcome State Fault Refusal :=
  if s.seam.pf ≠ some .waiting then .next s else
  let torn := match s.seam.bracket with
    | some (_, pages) => pages
    | none => []
  let s := s.seamPut (pfAddr + 6) (leBytes 2 torn.length) false
  let s := s.seamPut (pfAddr + 0x20) ((List.range 16).flatMap (fun k => leBytes 2 (torn.getD k 0xFFFF))) false
  .next (s.modSeam (fun m => { m with bracket := none })).pfBegin

/-- The host bracket; closed while the power-failure sequence waits for it, the store begins (R360). -/
def State.seamHoldPf (s : State) (value : Word) : State :=
  let s := s.seamHold value
  if s.seam.pf = some .waiting ∧ s.seam.bracket.isNone then s.pfBegin else s

/-- `POWER_FAIL_SEAL` (R361, R362): the seal is written, if the comparison held, and the device is held in reset. -/
def execPowerFailSeal (ok : Bool) (s : State) : Host.Outcome State Fault Refusal :=
  match s.seam.pf, s.seam.run with
  | some .storing, some r =>
    let s := if ok then s.writeSeal r else s
    .next ((s.storeOver.modSeam (fun m => { m with pf := some .held })).seamRefresh)
  | _, _ => .next s

/-- `VHOLD_COLLAPSE` (R363): below 5.0 V before the seal is written, no seal is written. -/
def execVholdCollapse (s : State) : Host.Outcome State Fault Refusal :=
  match s.seam.pf with
  | some .waiting | some .storing => .next ((s.storeOver.modSeam (fun m => { m with pf := some .held })).seamRefresh)
  | _ => .next s

end Sys2Proof.Machine
end

