-- ==== Sys2Proof/Machine/Update.lean ====
section
/-!
DEFINITION. The firmware slots, the manifest and its checks (R476 to R479, R488), the boot record (R487, R490), the update
session (R482 to R485, R496), and the opcodes of R499 with ACTIVATE and BOOT_RESET (R486).
-/
namespace Sys2Proof.Machine

/-- The UPDATE block with its state replaced by a function of it. -/
def State.modUpd (s : State) (f : UpdState → UpdState) : State := { s with upd := f s.upd }
/-- The BOOT block with its state replaced by a function of it. -/
def State.modBoot (s : State) (f : BootState → BootState) : State := { s with boot := f s.boot }
/-- A firmware slot. -/
def State.nor (s : State) (k : Nat) : NorSlot := s.upd.nor.getD k NorSlot.erased
/-- A firmware slot replaced by a function of it. -/
def State.modNor (s : State) (k : Nat) (f : NorSlot → NorSlot) : State := s.modUpd (fun u => { u with nor := modifyNth f k u.nor })

/-! ### The boot record (R487) -/

/-- The address of the boot record: Seam page 32. -/
abbrev bootAddr : Nat := 256 * 32

/-- A field of the boot record, a deferred firmware write included. -/
def State.br (s : State) (ofs n : Nat) : Nat := (s.seam.deferred.foldl (fun (m : Mem) x => m.putN x.1 x.2) s.seam.sram).nat (bootAddr + ofs) n
/-- A field of the boot record written. -/
def State.brPut (s : State) (ofs n v : Nat) : State := s.seamFw (bootAddr + ofs) (leBytes n v)

/-- ACTIVE_SLOT -/ def State.activeSlot (s : State) : Nat := s.br 6 1
/-- PENDING_SLOT, if any -/ def State.pendingSlot (s : State) : Option Nat := if s.br 7 1 = 0xFF then none else some (s.br 7 1)
/-- GOOD_SLOT, if any -/ def State.goodSlot (s : State) : Option Nat := if s.br 8 1 = 0xFF then none else some (s.br 8 1)
/-- A flag of the boot record. -/
def State.bootFlag (s : State) (n : Nat) : Bool := bit (s.br 9 1) n
/-- A flag of the boot record written. -/
def State.setBootFlag (s : State) (n : Nat) (b : Bool) : State := s.brPut 9 1 (setBits (s.br 9 1) n n (b2n b))
/-- ACTIVE_SLOT is the last confirmed slot. -/
def State.slotConfirmed (s : State) : Bool := s.goodSlot == some s.activeSlot
/-- SVN_FLOOR of a part type. -/
def State.svnFloor (s : State) (ty : Nat) : Nat := s.br (0x20 + 4 * (ty - 1)) 4

/-- LAST_RESULT and DETAIL. -/
def State.bootResult (s : State) (result check ty : Nat) : State := (s.brPut 0x0B 1 result).brPut 0x10 4 (check + 256 * ty)

/-- A rebuilt boot record. -/
def bootRebuilt : List Byte := leBytes 4 0x52424553 ++ leBytes 2 1 ++ [0, 0xFF, 0xFF] ++ List.replicate 247 0

/-- A slot number as BOOT_SLOTS has it. -/
def slotField : Option Nat → Nat
  | some k => k
  | none => 3

/-- The BOOT registers that show the boot record (R502). -/
def State.bootRefresh (s : State) : State :=
  let w := s.activeSlot + 4 * slotField s.pendingSlot + 16 * slotField s.goodSlot + 64 * b2n (s.bootFlag 0) + 128 * b2n (s.bootFlag 1)
  let s := (s.setRg Reg.BOOT_SLOTS (BitVec.ofNat 32 w)).setRg Reg.BOOT_ATTEMPTS (BitVec.ofNat 32 (s.br 0x0A 1 % 16))
  (s.setRg Reg.BOOT_SEQ (BitVec.ofNat 32 (s.br 0x0C 4))).setRg Reg.BOOT_RESULT (BitVec.ofNat 32 (s.br 0x0B 1 + 256 * (s.br 0x10 2)))

/-! ### The manifest (R477, R478) -/

/-- An entry of a manifest. -/
structure PartEntry where
  ty : Nat
  flags : Nat
  raftFmt : Nat
  svn : Nat
  ofs : Nat
  len : Nat
  digest : List Byte
  raw : List Byte
deriving DecidableEq, Repr

/-- CARRY -/ def PartEntry.carry (p : PartEntry) : Bool := bit p.flags 0

/-- Bytes of a manifest. -/
abbrev manifestLen : Nat := 6728

/-- An entry of a manifest, by its 64 bytes. -/
def partEntry (r : List Byte) : PartEntry :=
  { ty := natAt r 0 1, flags := natAt r 1 1, raftFmt := natAt r 2 2, svn := natAt r 8 4, ofs := natAt r 0x0C 4, len := natAt r 0x10 4,
    digest := bytesAt r 0x20 32, raw := r }

/-- The entries in use. -/
def manifestParts (m : List Byte) : List PartEntry := (List.range (natAt m 6 1)).map (fun k => partEntry (bytesAt m (0x40 + 64 * k) 64))

/-- No two of the parts overlap. -/
def partsApart : List PartEntry → Bool
  | [] => true
  | p :: t => t.all (fun q => decide (p.ofs + p.len ≤ q.ofs) || decide (q.ofs + q.len ≤ p.ofs)) && partsApart t

/-- The structure of a manifest under R477 and R478, for an image of a length. -/
def manifestOk (m : List Byte) (len : Nat) : Bool :=
  let n := natAt m 6 1
  let ps := manifestParts m
  natAt m 0 4 == 0x464D4553 && natAt m 4 2 == 1 && (n == 9 || n == 10) && natAt m 0x0C 4 == len &&
    (bytesAt m (0x40 + 64 * n) (64 * (16 - n))).all (· == 0) &&
    (List.range 9).all (fun k => (ps.filter (fun p => p.ty == k + 1)).length == 1) &&
    (ps.filter (fun p => p.ty == 10)).length == n - 9 &&
    ps.all (fun p => p.raftFmt == (if p.ty = 10 then 0 else natAt m 8 2) && p.ofs % 4096 == 0 && decide (0x2000 ≤ p.ofs) && decide (1 ≤ p.len) &&
      decide (p.ofs + p.len ≤ len)) &&
    partsApart ps

/-- SHAKE256, 32 bytes, of a part of an image. -/
def partDigest (img : Mem) (p : PartEntry) : List Byte := shake (img.getN p.ofs p.len) 32

/-- The manifest of an image. -/
def Mem.manifest (m : Mem) : List Byte := m.getN 0 manifestLen
/-- The manifest digest. -/
def manifestDigest (m : List Byte) : List Byte := shake m 32

/-- The message VENDOR_SIG signs (R479). -/
def vendorMessage (m : List Byte) : List Byte :=
  let ps := manifestParts m
  asciiBytes "FM9400 FW" ++ (List.range 9).flatMap (fun k =>
    match ps.find? (fun p => p.ty == k + 1) with
    | some p => setBytes (setBytes p.raw 1 [0]) 0x0C [0, 0, 0, 0]
    | none => [])

/-! ### A slot's verification (R488) -/

/-- A slot's header is good: MAGIC, FMT, COMPLETE, MANIFEST_DIGEST. -/
def NorSlot.headerOk (k : NorSlot) : Bool :=
  natAt k.header 0 4 == 0x48534553 && natAt k.header 4 2 == 1 && k.header.length == 64 && natAt k.header 0x30 4 == 0 &&
    bytesAt k.header 0x10 32 == manifestDigest k.image.manifest

/-- The first check of R488 that fails, with the type of the failing part. -/
def State.slotCheck (s : State) (n : Nat) : Option (Nat × Nat) :=
  let k := s.nor n
  let m := k.image.manifest
  let ps := manifestParts m
  if k.headerOk = false then some (1, 0)
  else if manifestOk m (natAt k.header 8 4) = false then some (2, 0)
  else if Config.xmssVerify (bytesAt (s.keySlot 1).material 0 68) (vendorMessage m) (bytesAt m 0x440 2820) = false then some (3, 0)
  else if (s.keySlot 2).type ≠ 0 ∧ Config.xmssVerify (bytesAt (s.keySlot 2).material 0 68) (m.take 0xF44) (bytesAt m 0xF44 2820) = false then some (4, 0)
  else match ps.find? (fun p => decide (p.svn < s.svnFloor p.ty)) with
    | some p => some (5, p.ty)
    | none =>
      match ps.find? (fun p => partDigest k.image p != p.digest) with
      | some p => some (6, p.ty)
      | none => none

/-! ### The session (R482 to R484) -/

/-- Units of an image. -/
def unitCount (len : Nat) : Nat := (len + 255) / 256
/-- Units of the manifest. -/
abbrev manifestUnits : Nat := 27

/-- The image as received: staged, or in stump mode in the target slot. -/
def State.updImage (s : State) (x : UpdSession) (target : Nat) : Mem × List Nat :=
  if s.stump then ((s.nor target).image, (s.nor target).units) else (x.data, x.units)

/-- The slot an update goes to (R485, R496). -/
def State.updTarget (s : State) : Nat :=
  if s.stump then (match s.goodSlot with
    | some g => 1 - g
    | none => 0)
  else 1 - s.activeSlot

/-- The units required (R484); none are known before the manifest's units have arrived. -/
def requiredUnits (len : Nat) (img : Mem) (units : List Nat) : Option (List Nat) :=
  if (List.range manifestUnits).all (fun u => units.contains u) then
    let ps := (manifestParts img.manifest).filter (fun p => !p.carry)
    some ((List.range (unitCount len)).filter (fun u =>
      decide (u < manifestUnits) || ps.any (fun p => decide (p.ofs < 256 * (u + 1)) && decide (256 * u < p.ofs + p.len))))
  else none

/-- Units required, and required units received. -/
def State.updCounts (s : State) (x : UpdSession) : Nat × Nat :=
  let (img, units) := s.updImage x s.updTarget
  match requiredUnits x.len img units with
  | some l => (l.length, (l.filter (fun u => units.contains u)).length)
  | none => (0, ((List.range manifestUnits).filter (fun u => units.contains u)).length)

/-- UPDATE's registers and state brought up to date (R501). -/
def State.updRefresh (s : State) : State :=
  match s.upd.session with
  | some x =>
    let (q, r) := s.updCounts x
    let s := (s.setRg Reg.UPD_LEN (BitVec.ofNat 32 x.len)).setRg Reg.UPD_UNITS_REQ (BitVec.ofNat 32 q)
    let s := (s.setRg Reg.UPD_UNITS_RX (BitVec.ofNat 32 r)).setRg Reg.UPD_SESSION x.owner
    let s := s.setRg Reg.UPD_INFO (BitVec.ofNat 32 (x.path + 16 * s.updTarget))
    let s := s.setRg Reg.UPD_MAN_TAG (BitVec.ofNat 32 (natAt x.digest 0 4))
    s.setBlkState Head.update (if x.closing.isSome then 3 else if x.orphanNs.isSome then 2 else 1)
  | none =>
    let s := [Reg.UPD_LEN, Reg.UPD_UNITS_REQ, Reg.UPD_UNITS_RX, Reg.UPD_SESSION, Reg.UPD_INFO, Reg.UPD_MAN_TAG].foldl (fun s a => s.setRg a 0) s
    s.setBlkState Head.update (if s.pendingSlot.isSome then 4 else 0)

/-- The session is discarded. -/
def State.updDiscard (s : State) : State := ((s.modUpd (fun u => { u with session := none })).evt Head.update 4).updRefresh

/-- An Octah session has ended: an update session it owns is ORPHANED (R482). -/
def State.updOrphan (s : State) (sid : Word) : State :=
  match s.upd.session with
  | some x =>
    if x.owner = sid ∧ sid ≠ 0 ∧ x.orphanNs.isNone then
      ((s.modUpd (fun u => { u with session := some { x with orphanNs := some s.nsCount } })).evt Head.update 1).updRefresh
    else s
  | none => s

/-- The key slot of a request's session; 256 for a local one. -/
def State.reqKeySlot (s : State) (req : OctahReq) : Nat :=
  match s.session? req.sid with
  | some y => y.keySlot
  | none => 256

/-- The request comes from the session that owns the update session. -/
def ownsUpdate (x : UpdSession) (req : OctahReq) : Bool := x.owner == req.sid && (x.owner != 0 || x.path == req.src.link.num)

/-- The request may take an ORPHANED session over: the same key slot, or the same local path. -/
def State.mayResume (s : State) (x : UpdSession) (req : OctahReq) : Bool :=
  if req.sid = 0 then x.owner == 0 && x.path == req.src.link.num else x.owner != 0 && s.reqKeySlot req == x.keySlot

/-- A unit's bytes as written, the last of an image shorter. -/
def unitsOf (ofs n : Nat) : List Nat := (List.range (unitCount n)).map (fun k => ofs / 256 + k)

/-- The target slot is erased. -/
def NorSlot.erase (k : NorSlot) : NorSlot := { NorSlot.erased with closes := k.closes }

/-- STATE of UPDATE. -/
abbrev updState : Refuse := .state Head.update

/-- `UPDATE_OPEN` (R482, R496). -/
def execUpdateOpen (req : OctahReq) (s : State) : Host.Outcome State Fault Refusal :=
  .next (octah { opcode := 0x0A00, owner := false, len := fun n => n == 40
                 args := fun _ p => firstBad [(0, decide (manifestLen ≤ natAt p 0 4 ∧ natAt p 0 4 ≤ 50327552)), (4, natAt p 4 1 < 2), (5, zeroAt p 5 3)]
                 legal := fun s req =>
                   let resume := bit (natAt req.pl 4 1) 0
                   match s.upd.session with
                   | some x =>
                     if resume ∧ x.orphanNs.isSome ∧ x.closing.isNone then
                       (if s.mayResume x req ∧ x.digest = bytesAt req.pl 8 32 then none else some (.code Code.notOwner))
                     else some (.code Code.busy)
                   | none =>
                     if resume then some (.code Code.notOwner)
                     else if s.slotConfirmed = false ∧ s.goodSlot = some s.updTarget then some updState else none
                 run := fun s req =>
                   let s := s.opStart req.tag
                   let d := bytesAt req.pl 8 32
                   let s := match s.upd.session with
                     | some x =>
                       let y : UpdSession := { x with owner := req.sid, path := req.src.link.num, keySlot := s.reqKeySlot req, orphanNs := none }
                       s.modUpd (fun u => { u with session := some y })
                     | none =>
                       let y : UpdSession := { owner := req.sid, path := req.src.link.num, keySlot := s.reqKeySlot req, len := natAt req.pl 0 4, digest := d,
                                               data := [], units := [], orphanNs := none, closing := none }
                       let s := s.modUpd (fun u => { u with session := some y })
                       if s.stump then s.modNor s.updTarget NorSlot.erase else s
                   let s := s.updRefresh
                   let len := match s.upd.session with
                     | some x => x.len
                     | none => 0
                   s.opOk req.tag (leBytes 1 s.updTarget ++ leBytes 3 0 ++ leBytes 4 (unitCount len)) } req s)

/-- A unit written again holds other data in the NOR (R496). -/
def NorSlot.conflicts (k : NorSlot) (ofs : Nat) (d : List Byte) : Bool :=
  (unitsOf ofs d.length).any (fun u =>
    let n := min 256 (d.length - (256 * u - ofs))
    k.units.contains u && k.image.getN (256 * u) n != bytesAt d (256 * u - ofs) n)

/-- `UPDATE_WRITE` (R483, R496). -/
def execUpdateWrite (req : OctahReq) (s : State) : Host.Outcome State Fault Refusal :=
  .next (octah { opcode := 0x0A01, owner := false, len := fun n => decide (9 ≤ n ∧ n ≤ 3848)
                 args := fun _ p => firstBad [(0, natAt p 0 4 % 256 == 0), (4, zeroAt p 4 4)]
                 legal := fun s req =>
                   let o := natAt req.pl 0 4
                   let n := req.pl.length - 8
                   match s.upd.session with
                   | some x =>
                     if ownsUpdate x req = false then some (.code Code.notOwner)
                     else if x.closing.isSome ∨ x.orphanNs.isSome then some updState
                     else if x.len < o + n ∨ (n % 256 ≠ 0 ∧ o + n ≠ x.len) then some (.arg 0)
                     else if s.stump ∧ (s.nor s.updTarget).conflicts o (req.pl.drop 8) then some (.arg 8) else none
                   | none => some (.code Code.notOwner)
                 run := fun s req =>
                   let o := natAt req.pl 0 4
                   let d := req.pl.drop 8
                   let us := unitsOf o d.length
                   let s := s.opStart req.tag
                   let s :=
                     if s.stump then s.modNor s.updTarget (fun (k : NorSlot) => { k with image := k.image.putN o d, units := k.units ++ us.filter (fun u => !k.units.contains u) })
                     else s.modUpd (fun u => { u with session := u.session.map (fun (x : UpdSession) =>
                       { x with data := x.data.putN o d, units := x.units ++ us.filter (fun v => !x.units.contains v) }) })
                   s.updRefresh.opOk req.tag [] } req s)

/-- Eight bits as a byte, least significant first. -/
def packByte (f : Nat → Bool) : Byte := BitVec.ofNat 8 ((List.range 8).foldl (fun a k => a + 2 ^ k * b2n (f k)) 0)

/-- `UPDATE_STATUS` (R484). -/
def execUpdateStatus (req : OctahReq) (s : State) : Host.Outcome State Fault Refusal :=
  .next (octah { opcode := 0x0A02, owner := false, len := fun n => n == 8
                 args := fun _ p => firstBad [(0, natAt p 0 4 % 8 == 0), (4, decide (1 ≤ natAt p 4 2 ∧ natAt p 4 2 ≤ 4000)), (6, zeroAt p 6 2)]
                 legal := fun s _ => if s.upd.session.isSome then none else some updState
                 run := fun s req =>
                   let bits := match s.upd.session with
                     | some x =>
                       let units := (s.updImage x s.updTarget).2
                       (List.range (natAt req.pl 4 2)).map (fun k => packByte (fun j => units.contains (natAt req.pl 0 4 + 8 * k + j)))
                     | none => []
                   s.opOk req.tag (leBytes 4 (s.blkState Head.update) ++ leBytes 4 (s.rg Reg.UPD_UNITS_REQ).toNat ++ leBytes 4 (s.rg Reg.UPD_UNITS_RX).toNat ++ bits) } req s)

/-! ### Closing (R485, R496) -/

/-- Steps 1 to 3: why a close fails. -/
def State.closeCheck (s : State) (x : UpdSession) : Option Nat :=
  let (img, units) := s.updImage x s.updTarget
  let m := img.manifest
  let ps := manifestParts m
  let active := (s.nor s.activeSlot).image
  if manifestDigest m ≠ x.digest then some Code.badArg
  else match requiredUnits x.len img units with
    | none => some Code.state
    | some l =>
      if l.all (fun u => units.contains u) = false then some Code.state
      else if manifestOk m x.len = false then some Code.badArg
      else if s.stump ∧ ps.any PartEntry.carry then some Code.badArg
      else if (ps.filter PartEntry.carry).all (fun p => (manifestParts active.manifest).any (fun q => q.ty == p.ty && q.digest == p.digest)) = false then some Code.badArg
      else none

/-- The image with its carried parts copied from the active slot. -/
def carryParts (img active : Mem) : Mem :=
  ((manifestParts img.manifest).filter PartEntry.carry).foldl (fun m p =>
    match (manifestParts active.manifest).find? (fun q => q.ty == p.ty && q.digest == p.digest) with
    | some q => m.putN p.ofs (active.getN q.ofs p.len)
    | none => m) img

/-- The bytes of an image in the units received; the others are zero (R484). -/
def onlyUnits (img : Mem) (units : List Nat) : Mem := img.filter (fun c => units.contains (c.1 / 256))

/-- A slot header (R476); an erased byte is 0xFF. -/
def slotHeader (len seq : Nat) (digest : List Byte) : List Byte :=
  leBytes 4 0x48534553 ++ leBytes 2 1 ++ [0xFF, 0xFF] ++ leBytes 4 len ++ leBytes 4 seq ++ bytesAt digest 0 32 ++ leBytes 4 0 ++ List.replicate 12 0xFF

/-- The target slot is programmed and its header closed. -/
def State.slotClosed (s : State) (t : Nat) (img : Mem) (len : Nat) (digest : List Byte) : State :=
  s.modNor t (fun (k : NorSlot) => { k with header := slotHeader len (k.closes + 1) digest, image := img, closes := k.closes + 1 })

/-- PENDING_SLOT is written. -/
def State.setPending (s : State) (p : Option Nat) : State :=
  ((s.brPut 7 1 (match p with
    | some k => k
    | none => 0xFF)).requestStore .plain).bootRefresh

/-- A close failed in steps 1 to 3 or in the check of R496; STATE carries UPDATE's state. -/
def State.closeFail (s : State) (tag code : Nat) : State :=
  (s.evt Head.update 3).opFail tag (if code = Code.state then updState else if code = Code.badArg then .arg 0 else .code code)

/-- The code a failed check of R488 answers in stump mode. -/
def checkCode (c : Nat) : Nat := if c = 3 ∨ c = 4 then Code.auth else if c = 5 then Code.version else Code.badArg

/-- UPDATE_CLOSE in stump mode (R496): the header, then the checks of R488. -/
def State.stumpClose (s : State) (tag : Nat) (x : UpdSession) : State :=
  let t := s.updTarget
  let k := s.nor t
  let s := s.slotClosed t k.image x.len x.digest
  match s.slotCheck t with
  | some (c, ty) => ((s.brPut 0x10 4 (c + 256 * ty)).bootRefresh).closeFail tag (checkCode c)
  | none =>
    let s := (s.modUpd (fun u => { u with session := none })).setPending (some t)
    (s.evt Head.update 2).updRefresh.opOk tag (leBytes 1 t ++ leBytes 3 0 ++ leBytes 4 ((x.len + 65535) / 65536))

/-- `UPDATE_CLOSE` (R485): the checks of steps 1 to 3; then PENDING is cleared and stored, and the target erased. -/
def execUpdateClose (req : OctahReq) (s : State) : Host.Outcome State Fault Refusal :=
  .next (octah { opcode := 0x0A03, owner := false, len := fun n => n == 0, args := noArgs
                 legal := fun s req =>
                   match s.upd.session with
                   | some x => if ownsUpdate x req = false then some (.code Code.notOwner) else if x.closing.isSome ∨ x.orphanNs.isSome then some updState else none
                   | none => some (.code Code.notOwner)
                 run := fun s req =>
                   match s.upd.session with
                   | some x =>
                     (match s.closeCheck x with
                      | some c => s.closeFail req.tag c
                      | none =>
                        let s := s.opStart req.tag
                        if s.stump then s.stumpClose req.tag x
                        else
                          let s := s.setPending none
                          let s := s.modNor s.updTarget NorSlot.erase
                          let s := s.modUpd (fun u => { u with session := some { x with closing := some req.tag } })
                          (s.setRg Reg.UPD_PROG 0).updRefresh)
                   | none => s } req s)

/-- `UPDATE_CLOSE_DONE` (R485): the image is programmed, the header closed, the slot PENDING. -/
def execUpdateCloseDone (s : State) : Host.Outcome State Fault Refusal :=
  match s.upd.session with
  | some x =>
    match x.closing with
    | some tag =>
      if s.silent then .next s else
      let t := s.updTarget
      let blocks := (x.len + 65535) / 65536
      let img := carryParts (onlyUnits x.data x.units) (s.nor s.activeSlot).image
      let s := s.slotClosed t img x.len x.digest
      let s := (s.modUpd (fun u => { u with session := none })).setPending (some t)
      let s := ((s.setRg Reg.UPD_PROG (BitVec.ofNat 32 blocks)).evt Head.update 2).updRefresh
      .next (s.opOk tag (leBytes 1 t ++ leBytes 3 0 ++ leBytes 4 blocks))
    | none => .next s
  | none => .next s

/-- `UPDATE_ABORT` (R499): an ORPHANED session is aborted by one that could take it over. -/
def execUpdateAbort (req : OctahReq) (s : State) : Host.Outcome State Fault Refusal :=
  .next (octah { opcode := 0x0A04, owner := false, len := fun n => n == 0, args := noArgs
                 legal := fun s req =>
                   match s.upd.session with
                   | some x =>
                     if (ownsUpdate x req || (x.orphanNs.isSome && s.mayResume x req)) = false then some (.code Code.notOwner)
                     else if x.closing.isSome then some updState else none
                   | none => some (.code Code.notOwner)
                 run := fun s req => ((s.opStart req.tag).updDiscard).opOk req.tag [] } req s)

/-- `UPDATE_ORPHAN_TIMEOUT` (R482): 300 s have passed. -/
def execUpdateOrphanTimeout (s : State) : Host.Outcome State Fault Refusal :=
  match s.upd.session with
  | some x =>
    match x.orphanNs with
    | some t => .next (if x.closing.isNone ∧ t + 300000000000 ≤ s.nsCount then s.updDiscard else s)
    | none => .next s
  | none => .next s

/-! ### Starts commanded (R486, R499) -/

/-- A start is due: at the second boundary after acceptance, in stump mode at once. -/
def State.startDue (s : State) (kind : Nat) (stump : Bool) : State :=
  s.modBoot (fun b => { b with due := some (if s.stump then 0 else s.beat + 2, kind, stump) })

/-- STATE of BOOT. -/
abbrev bootState : Refuse := .state Head.boot

/-- `ACTIVATE` (R486, R496): the response is sent, the flag written into the boot record, the start due. -/
def execActivate (req : OctahReq) (s : State) : Host.Outcome State Fault Refusal :=
  .next (octah { opcode := 0x0A05, owner := false, len := fun n => n == 4
                 args := fun _ p => firstBad [(0, natAt p 0 1 < 2), (1, zeroAt p 1 3)]
                 legal := fun s _ =>
                   let busy : Bool := match s.upd.session with
                     | some x => x.closing.isSome || x.orphanNs.isNone
                     | none => false
                   if s.pendingSlot.isNone ∨ busy = true then some bootState else none
                 run := fun s req =>
                   let s := (s.opStart req.tag).setBootFlag 0 (bit (natAt req.pl 0 1) 0)
                   let s := if s.stump then s.brPut 0x0A 1 0 else s
                   (((s.requestStore .plain).bootRefresh).opOk req.tag []).startDue 2 false } req s)

/-- `SLOT_CANCEL`. -/
def execSlotCancel (req : OctahReq) (s : State) : Host.Outcome State Fault Refusal :=
  .next (octah { opcode := 0x0A06, owner := false, len := fun n => n == 0, args := noArgs
                 legal := fun s _ => if s.pendingSlot.isNone ∨ s.blkState Head.update = 3 then some bootState else none
                 run := fun s req => (((s.opStart req.tag).setPending none).updRefresh).opOk req.tag [] } req s)

/-- `BOOT_INFO`: the words 0x040 to 0x064, and both headers as the NOR holds them. -/
def execBootInfo (req : OctahReq) (s : State) : Host.Outcome State Fault Refusal :=
  .next (octah { opcode := 0x0A07, owner := false, len := fun n => n == 0, args := noArgs, legal := always
                 run := fun s req =>
                   let hdr := fun (k : NorSlot) => if k.header = [] then List.replicate 64 0xFF else bytesAt k.header 0 64
                   s.opOk req.tag ((List.range 10).flatMap (fun k => leBytes 4 (s.rg (Reg.BOOT_CAUSE + 4 * k)).toNat) ++ hdr (s.nor 0) ++ hdr (s.nor 1)) } req s)

/-- `BOOT_RESET`: the response is sent and the start due. -/
def execBootReset (req : OctahReq) (s : State) : Host.Outcome State Fault Refusal :=
  .next (octah { opcode := 0x0A08, owner := false, len := fun n => n == 8
                 args := fun _ p => firstBad [(0, natAt p 0 1 < 3), (1, zeroAt p 1 3), (4, natAt p 4 4 == 0x54455352)]
                 legal := always
                 run := fun s req =>
                   let k := natAt req.pl 0 1
                   ((s.opStart req.tag).opOk req.tag []).startDue (if k = 0 then 4 else 3) (k == 2) } req s)

/-! ### Confirmation (R490) -/

/-- `START_CONFIRM`: FRAME has been RUNNING for 4,000 beats with no start in between. -/
def execStartConfirm (s : State) : Host.Outcome State Fault Refusal :=
  match s.boot.since with
  | some b =>
    if s.silent ∨ s.blkState Head.boot ≠ 1 ∨ s.beat < b + 4000 then .next s else
    let s := ((s.brPut 8 1 s.activeSlot).brPut 0x0A 1 0).setBootFlag 1 true
    let s := (manifestParts (s.nor s.activeSlot).image.manifest).foldl (fun s p =>
      if s.svnFloor p.ty < p.svn then s.brPut (0x20 + 4 * (p.ty - 1)) 4 p.svn else s) s
    let s := ((s.requestStore .plain).bootRefresh).setBlkState Head.boot 2
    .next (s.evt Head.boot 1)
  | none => .next s

end Sys2Proof.Machine
end

