-- ==== Sys2Proof/Machine/Bundle.lean ====
section
/-!
DEFINITION. The application bundle (R480, R481): its sections, the checks of step 8 of a cold start, its digest, and what
loading it leaves in the blocks (R23, R97, R132, R176, R203, R213, R279, R280, R318, R336, R413, R418, R445, R449, R493).
-/
namespace Sys2Proof.Machine

/-! ### The sections -/

/-- The sections of a bundle by TYPE: offset and length from its directory. -/
def bundleDir (b : List Byte) : List (Nat × Nat × Nat) :=
  (List.range (natAt b 6 1)).map (fun k => (natAt b (64 + 16 * k) 1, natAt b (68 + 16 * k) 4, natAt b (72 + 16 * k) 4))

/-- A section's bytes. -/
def bundleSec (b : List Byte) (ty : Nat) : Option (List Byte) :=
  ((bundleDir b).find? (fun x => x.1 == ty)).map (fun x => bytesAt b x.2.1 x.2.2)

/-- Header and directory are those of R480. -/
def bundleShape (b : List Byte) : Bool :=
  let d := bundleDir b
  natAt b 0 4 == 0x42414553 && natAt b 4 2 == 1 && decide (64 + 16 * d.length ≤ b.length) &&
    d.all (fun x => decide (1 ≤ x.1 ∧ x.1 ≤ 8 ∧ x.2.1 + x.2.2 ≤ b.length)) && decide ((d.map (·.1)).Nodup) && d.any (fun x => x.1 == 1)

/-- The bundle digest: every section but DEVICE_CFG, in ascending TYPE, each preceded by its length; none without a bundle. -/
def bundleDigest (b : List Byte) : List Byte :=
  if b = [] then [] else
  shake ((List.range 7).flatMap (fun k =>
    match bundleSec b (k + 2) with
    | some x => leBytes 4 x.length ++ x
    | none => [])) 32

/-- DEVICE_CFG (R481). -/
def devCfgOk (c : List Byte) : Bool := decide (0x60 ≤ c.length) && decide (natAt c 0 1 ≤ 5) && decide (natAt c 1 1 ≤ 3)

/-- The images of PROGRAM_SET; 32 empty slots without one. -/
def bundleImages (b : List Byte) : List Image :=
  match bundleSec b 2 with
  | some x => directoryImages x 0 0
  | none => List.replicate 32 []

/-- The Tally fields that the loops of LOOP_SET write, as fields of an entry (R195). -/
def bundleLoopRefs (b : List Byte) : List (Nat × Nat × Nat) :=
  match bundleSec b 3 with
  | some x => (List.range 1024).filterMap (fun n =>
      let w (o : Nat) : Word := BitVec.ofNat 32 (natAt x (256 * n + o) 4)
      if wbits (w 4) 11 0 = 0 then none else (outField (w 0) (w 0x54)).map (fun f => (f.1, 0x20 + f.2.1, f.2.2)))
  | none => []

/-- A record of LIO_CONFIG. -/
def lioRec (b : List Byte) (k : Nat) : LioRec :=
  { line := natAt b (140 + 8 * k) 1, dir := natAt b (141 + 8 * k) 1, slot := natAt b (142 + 8 * k) 1, ofs := natAt b (144 + 8 * k) 4 }

/-- The records of LIO_CONFIG. -/
def lioRecs (b : List Byte) : List LioRec := (List.range (natAt b 136 4)).map (lioRec b)

/-- LIO_CONFIG: its length, its records inside their sections, exactly one Q record for a line that is an output; in an
extender the master's records move the lines. -/
def lioOk (b : List Byte) (images : List Image) (ext : Bool) : Bool :=
  let rs := lioRecs b
  let outs := natAt b 0 8 % 2 ^ 48
  b.length == 140 + 8 * natAt b 136 4 &&
    rs.all (fun r => decide (r.line < 48) && decide (r.dir ≤ 1) && decide (r.slot < 32) &&
      (let m := images.getD r.slot []
       m != [] && decide (r.ofs < (if r.dir = 0 then Image.iLen m else Image.qLen m)))) &&
    (ext || (List.range 48).all (fun n => !bit outs n || (rs.filter (fun r => r.line == n && r.dir == 1)).length == 1))

/-- The CASCADE section: for each extender its Tally configuration and its records, each preceded by its length. -/
def cascSections : Nat → List Byte → Option (List (List Byte × List (List Byte)))
  | 0, _ => some []
  | n + 1, b =>
    let t := natAt b 0 4
    let r := natAt b (4 + t) 4
    if 8 + t + r ≤ b.length ∧ r % 12 = 0 ∧ r / 12 ≤ 1024 then
      (cascSections n (b.drop (8 + t + r))).map (fun l => (bytesAt b 4 t, (List.range (r / 12)).map (fun k => bytesAt b (8 + t + 12 * k) 12)) :: l)
    else none

/-- A role that runs programs, loops and dispatch (R23). -/
def runsPrograms (role : Nat) : Bool := role == Role.single || role == Role.pairMember || role == Role.cascadeMaster

/-- The first section whose check fails: 0 the header, else its TYPE. DISPATCH_MODEL refuses no bundle (R213). -/
def bundleRefused (b : List Byte) : Option Nat :=
  let cfg := (bundleSec b 1).getD []
  let role := natAt cfg 0 1
  let images := bundleImages b
  let opt (ty : Nat) (f : List Byte → Bool) : Bool := match bundleSec b ty with
    | some x => f x
    | none => true
  if bundleShape b = false then some 0
  else if devCfgOk cfg = false then some 1
  else if runsPrograms role = false then
    (if role = Role.extender ∧ opt 6 (fun x => lioOk x images true) = false then some 6 else none)
  else if setOk images = false then some 2
  else if opt 3 (fun x => x.length == 262144) = false then some 3
  else if opt 5 (fun x => tallyOk x images (bundleLoopRefs b)) = false then some 5
  else if opt 6 (fun x => lioOk x images false) = false then some 6
  else if opt 7 (fun x => x.length % 32 == 0 && decide (x.length / 32 ≤ 64)) = false then some 7
  else if role = Role.cascadeMaster ∧ (cascSections (natAt cfg 1 1) ((bundleSec b 8).getD [])).isNone then some 8
  else none

/-! ### Loading -/

/-- A register taken from a little-endian word of a byte string. -/
def State.takeReg (s : State) (a : Nat) (b : List Byte) (o : Nat) : State := s.setRg a (BitVec.ofNat 32 (natAt b o 4))

/-- DEVICE_CFG is loaded: the role, PAIR_CFG and PAIR_NAME, the ETH registers, the extenders. -/
def State.loadDevCfg (s : State) (c : List Byte) : State :=
  let role := natAt c 0 1
  let s := s.setFld Reg.DEV_CONFIG 2 0 role
  let s := ((s.takeReg Reg.PAIR_CFG c 4).takeReg Reg.PAIR_NAME_LO c 8).takeReg Reg.PAIR_NAME_HI c 12
  let s := s.modBoot (fun b => { b with devCfg := c })
  let s := if bit (natAt c 2 1) 0 then
      [Reg.ETH_CFG, Reg.ETH_MTU, Reg.OCTAH_PORT, Reg.IPV4_ADDR, Reg.IPV4_MASK, Reg.IPV4_GW, Reg.IPV6_ADDR 0, Reg.IPV6_ADDR 1, Reg.IPV6_ADDR 2,
       Reg.IPV6_ADDR 3, Reg.IPV6_PREFIX].zipIdx.foldl (fun s x => s.takeReg x.1 c (0x24 + 4 * x.2)) s
    else s
  if role = Role.cascadeMaster then s.setRg Reg.CASC_CFG (BitVec.ofNat 32 (natAt c 1 1 + 4)) else s

/-- A slot as a cold start leaves it (R132): in STOP, NOT_STARTED; with AUTOSTART it starts at its first scheduled start. -/
def coldSlot (m : Image) : ProgSlot :=
  if m = [] then ProgSlot.empty
  else { ProgSlot.empty with image := m, mode := .stop, req := if Image.autostart m then some (0, .start 0) else none }

/-- The program set is loaded: slots, shared data, the bytes of code. -/
def State.loadPrograms (s : State) (images : List Image) : State :=
  let s := { s with scan := { ScanState.reset with slots := images.map coldSlot, data := initShared images [] } }
  (s.setRg Reg.CODE_ACTIVE (BitVec.ofNat 32 (codeBytes images))).scanRefresh

/-- LIO_CONFIG is applied (R152). -/
def State.loadLio (s : State) (b : List Byte) : State :=
  let s := (s.takeReg Reg.LIO_DIR_LO b 0).takeReg Reg.LIO_DIR_HI b 4
  let s := (List.range 32).foldl (fun s k => s.takeReg (Reg.LIO_PCFG k) b (8 + 4 * k)) s
  { s with lio := { s.lio with recs := lioRecs b, applied := true } }

/-- One base of a pair member has source PARTNER (R97). -/
def State.partnerBase (s : State) : State :=
  if s.role ≠ Role.pairMember ∨ (List.range 4).any (fun n => s.baseSource n == 3) then s
  else match ([3, 2, 1, 0] : List Nat).find? (fun n => s.baseSource n == 0) with
    | some n => (s.setFld (Reg.TB_CFG n) 2 0 3).startBase n
    | none => ((s.setFld (Reg.TB_CFG 3) 2 0 3).startBase 3).errBlk Head.time Code.state 3

/-- What a bundle that passed its checks loads, by role. The metering and thermal setups have been loaded before. -/
def State.loadBundle (s : State) (b : List Byte) : State :=
  let s := s.loadDevCfg ((bundleSec b 1).getD [])
  let role := s.role
  let s := s.partnerBase
  let s := if runsPrograms role then
      let s := match bundleSec b 5 with
        | some x => s.loadTally x
        | none => s
      let s := s.loadPrograms (bundleImages b)
      let s := match bundleSec b 3 with
        | some x => s.loadLoops x
        | none => s
      let s := match bundleSec b 4 with
        | some x => s.loadModel x
        | none => s
      let recs := (bundleSec b 7).getD []
      s.modBoot (fun t => { t with pubs := (List.range (recs.length / 32)).map (fun k => bytesAt recs (32 * k) 32) })
    else s
  let s := if runsPrograms role ∨ role = Role.extender then
      (match bundleSec b 6 with
       | some x => s.loadLio x
       | none => s)
    else s
  let s := if role = Role.cascadeMaster then
      s.modCasc (fun c => { c with cfg := (cascSections (s.fld Reg.CASC_CFG 1 0) ((bundleSec b 8).getD [])).getD [] })
    else s
  s.lioGate

end Sys2Proof.Machine
end

