-- ==== Sys2Proof/Machine/Start.lean ====
section
/-!
DEFINITION. Starts (R13, R112, R133, R152, R356 to R358, R486 to R495, R518, R523 to R525): the recall of Seam, the boot
record, the choice of the slot, cold and warm starts, stump mode, and step 10.
-/
namespace Sys2Proof.Machine

/-! ### What a reset leaves -/

/-- A slot of the command window at a start (R423). -/
def CmdSlot.atStart (x : CmdSlot) : CmdSlot := if x.mode = .posted then { x with mode := .discarded } else x

/-- The host side at a start, but for the journal: no session, nothing waiting, posted slots discarded (R423, R432). -/
def HostState.atStart (h : HostState) (journal : List JEntry) : HostState :=
  { h with slots := h.slots.map CmdSlot.atStart, waiting := [], sessions := [], journal := journal, inflight := [], due := [], qspiErr := false,
           reasm := [], prpSeen := [] }

/-- Registers that outlive a cold start: those of the backup domain (R505), and the levels of supplies and straps. -/
def coldKeep (a : Nat) : Bool :=
  (decide (a / 0x1000 = 0x1F0 ∧ 0x40 ≤ a % 0x1000) && a != Reg.VBAT_MV) || a == Reg.PWR_STATUS || a == Reg.VHOLD_MV

/-- The blocks that work whatever ENABLE holds, or once step 1 is done. -/
def readyHeads : List Nat := [Head.dev, Head.clk, Head.pwr, Head.boot, Head.safety, Head.host, Head.frame]

/-- The device at the beginning of a cold start: everything at its reset value but the non-volatile memories, the SRAM of
Seam, the backup domain, the slot memory of the command window and the levels on its balls. PAIR_ID is sampled (R13, R524). -/
def State.blank (s : State) (pairId : Bool) : State :=
  let t : State := { State.reset with
    pending := s.pending, out := s.out, freeCtr := s.freeCtr, seam := s.seam, bk := s.bk
    keys := { KeysState.reset with slots := s.keys.slots, file := s.keys.file, counter := s.keys.counter, nextLeaf := s.keys.nextLeaf }
    upd := { nor := s.upd.nor, session := none }
    boot := { BootState.reset with vio := s.boot.vio }
    lio := { LioState.reset with levels := s.lio.levels }
    host := s.host.atStart (List.replicate 256 JEntry.free)
    reg := { RegState.reset with vals := s.reg.vals.filter (fun x => coldKeep x.1) } }
  let t := (t.setFld Reg.DEV_STRAPS 0 0 (b2n pairId)).setRg Reg.CLK_STATUS (BitVec.ofNat 32 (3 + 4 * b2n s.bk.xtRuns + 8 * s.fld Reg.CLK_STATUS 3 3))
  readyHeads.foldl (fun t h => t.setReady h true) t

/-! ### Step 2: Seam and the boot record -/

/-- A bank's seal is intact, whatever its image. -/
def SeamBank.sealOk (b : SeamBank) : Bool :=
  b.sealed.length == 32 && natAt b.sealed 0 4 == 0x4C534553 && natAt b.sealed 0x1C 4 == (crc32c (b.sealed.take 0x1C)).toNat

/-- The bank whose intact seal has the higher GEN. -/
def State.newestSeal (s : State) : Option Nat :=
  let o0 := (s.bank 0).sealOk
  let o1 := (s.bank 1).sealOk
  if o0 ∧ o1 then some (if (s.bank 0).gen < (s.bank 1).gen then 1 else 0) else if o0 then some 0 else if o1 then some 1 else none

/-- SEAM as it stands while no store runs (R372). -/
def State.seamShow (s : State) (valid : Bool) : State := ((s.setBlkState Head.seam (b2n valid)).setReady Head.seam true).seamRefresh

/-- The recall (R356, R357). `carry` holds the boot record across the start that ACTIVATE asked for. -/
def State.recall (s : State) (carry : Bool) : State :=
  let page := s.seam.sram.getN bootAddr 256
  let src := s.newestBank
  let newer := s.newestSeal.isSome && s.newestSeal != src
  let (m, sec) : Mem × SecPages := match src with
    | some k => ((s.bank k).image, (s.bank k).sec)
    | none => ([], SecPages.zero)
  let m := if carry then m.putN bootAddr page else m
  let s := s.modSeam (fun x => { x with sram := m, sec := sec, secDeferred := none, run := none, queued := none, bracket := none, deferred := [], pf := none })
  let s := s.setRg Reg.RECALL_INFO (BitVec.ofNat 32 ((match src with
    | some k => k + 1
    | none => 0) + 4 * b2n newer))
  let torn := if s.seam.sram.nat pfAddr 4 = 0x46504553 then s.seam.sram.nat (pfAddr + 6) 2 else 0
  let s := (s.setRg Reg.TORN_LAST (BitVec.ofNat 32 torn)).setRg Reg.SEAM_HOLD 0
  let s := if newer then s.evt Head.seam 6 else s
  s.seamShow src.isSome

/-- The boot record is valid. -/
def State.bootValid (s : State) : Bool := s.br 0 4 == 0x52424553 && s.br 4 2 == 1

/-- The boot record at step 2 (R487, R491): rebuilt if invalid; the previous start counted as failed; the flags cleared.
A start that leaves stump mode by ACTIVATE counts nothing (R496). -/
def State.bootCount (s : State) (leaves : Bool) : State :=
  let s :=
    if s.bootValid = false then s.seamFw bootAddr bootRebuilt
    else if s.bootFlag 1 ∨ s.bootFlag 2 ∨ leaves then s
    else s.brPut 0x0A 1 (min (s.br 0x0A 1 + 1) 255)
  let s := ((s.setBootFlag 1 false).setBootFlag 2 false).brPut 0x0C 4 (s.br 0x0C 4 + 1)
  ((s.bootResult 0 0 0).requestStore .plain).bootRefresh

/-- Stump mode is entered (R495): the result is recorded, nothing runs. -/
def State.enterStump (s : State) (result check ty : Nat) : State :=
  let s := ((s.bootResult result check ty).requestStore .plain).bootRefresh
  ((s.setBlkState Head.boot 3).evt Head.boot 4).updRefresh

/-- A slot becomes ACTIVE_SLOT with a result. -/
def State.runSlot (s : State) (k result check ty : Nat) : State :=
  ((((s.brPut 6 1 k).bootResult result check ty).requestStore .plain).bootRefresh)

/-- A revert is reported. -/
def State.noteRevert (s : State) : State := (s.setFld Reg.BOOT_CAUSE 9 9 1).evt Head.boot 2

/-- GOOD_SLOT, where a revert may go to it: ACTIVE_SLOT is unconfirmed, NO_REVERT is 0, and it passes R488. -/
def State.revertTo (s : State) : Option Nat :=
  match s.goodSlot with
  | some g => if s.slotConfirmed = false ∧ s.bootFlag 0 = false ∧ (s.slotCheck g).isNone then some g else none
  | none => none

/-- After three failed starts (R491). -/
def State.judgeAttempts (s : State) : State :=
  if s.br 0x0A 1 < 3 then s
  else match s.revertTo with
    | some g => ((s.brPut 0x0A 1 0).runSlot g 3 0 0).noteRevert
    | none => s.enterStump 7 0 0

/-- ACTIVE_SLOT has failed a check of R488 (R489): GOOD_SLOT where it is unconfirmed, else the other slot. -/
def State.slotFailed (s : State) (c ty : Nat) : State :=
  if s.slotConfirmed = false ∧ s.goodSlot.isSome then
    (match s.revertTo with
     | some g => (s.runSlot g 2 c ty).noteRevert
     | none => s.enterStump 6 c ty)
  else
    let o := 1 - s.activeSlot
    if (s.slotCheck o).isNone then s.runSlot o 4 c ty else s.enterStump 6 c ty

/-- Step 4 of a cold start (R489). -/
def State.chooseSlot (s : State) : State :=
  let s := match s.pendingSlot with
    | some p => (((s.brPut 7 1 0xFF).runSlot p 1 0 0))
    | none => s
  match s.slotCheck s.activeSlot with
  | none => s
  | some (c, ty) => s.slotFailed c ty

/-! ### The set that runs -/

/-- The active image's manifest. -/
def State.activeManifest (s : State) : List Byte := (s.nor s.activeSlot).image.manifest

/-- The application bundle of the active slot; empty without one. -/
def State.activeBundle (s : State) : List Byte :=
  match (manifestParts s.activeManifest).find? (fun p => p.ty == 10) with
  | some p => (s.nor s.activeSlot).image.getN p.ofs p.len
  | none => []

/-- What a verified slot leaves: the cached digests (R488). -/
def State.digests (s : State) : List Byte × List (Nat × List Byte) × List Byte :=
  (manifestDigest s.activeManifest, (manifestParts s.activeManifest).map (fun p => (p.ty, p.digest)), bundleDigest s.activeBundle)

/-- The registers that name the running set (R393, R402, R502). -/
def State.showSet (s : State) : State :=
  match s.boot.cached with
  | some (man, parts, bundle) =>
    let fw := ((parts.find? (fun x => x.1 == 1)).map (·.2)).getD []
    let m := s.activeManifest
    let s := (s.takeReg Reg.FW_TAG fw 0).takeReg Reg.MANIFEST_TAG man 0
    let s := (s.setRg Reg.RAFT_FMT_ACT (BitVec.ofNat 32 (natAt m 8 2))).takeReg Reg.SET_VERSION m 0x10
    (s.setFld Reg.RAFT_FMT 15 0 (natAt m 8 2)).takeReg Reg.BUNDLE_TAG bundle 0
  | none => s

/-! ### The cold start (R493) -/

/-- Steps 5 to 8: time is started, the key store loaded, the setups and the bundle. -/
def State.coldLoad (s : State) : State :=
  let s := s.modBoot (fun b => { b with cached := some s.digests, bundle := s.activeBundle })
  let s := (s.showSet.setFld (Reg.ctrl Head.time) 0 0 1).setFld Reg.DT_STATUS 2 2 1
  let s := (List.range 4).foldl (fun s n => s.startBase n) s
  let s := s.meterCold.1
  let b := s.boot.bundle
  let s :=
    if b = [] then s
    else match bundleRefused b with
      | none => s.loadBundle b
      | some sec => ((s.bootResult 5 0 sec).requestStore .plain).bootRefresh
  let s := s.setFld Reg.DT_STATUS 7 7 (b2n (s.role != Role.pairMember))
  (s.timeRefresh.updRefresh).modBoot (fun t => { t with waiting := some false })

/-- A cold start from step 3 on, with its KIND; the boot record has been counted. -/
def State.coldFrom3 (s : State) (stump : Bool) : State :=
  let s := s.keysCold
  if stump then s.enterStump 8 0 0
  else
    let s := s.judgeAttempts
    if s.stump then s else
    let s := s.chooseSlot
    if s.stump then s else s.coldLoad

/-- A cold start of a kind (R492): steps 1 to 8. -/
def State.coldStart (s : State) (kind : Nat) (pairId stump : Bool) : State :=
  let leaves := kind = 2 ∧ s.stump = true
  let act := kind = 2
  let s := (s.blank pairId).setRg Reg.BOOT_CAUSE (BitVec.ofNat 32 kind)
  ((s.recall (decide act)).bootCount (decide leaves)).coldFrom3 stump

/-- What of a cold start a warm one continues with (R494): the memories of Seam as they are, KIND ESCALATED. -/
def State.escalate (s : State) (pairId : Bool) : State :=
  let s := (s.blank pairId).setRg Reg.BOOT_CAUSE (BitVec.ofNat 32 (7 + 256))
  (((s.seamShow s.newestBank.isSome).bootRefresh).evt Head.boot 3).coldFrom3 false

/-! ### The warm start (R493, R494) -/

/-- Registers a warm start leaves unchanged: those marked "kept", the time blocks (R112), the metering results (R318), LIO
(R152), the blocks' status, and the levels of links and supplies. -/
def warmKeep (a : Nat) : Bool :=
  let page := a / 0x1000
  regKept a || page == 0x001 || decide (0x030 ≤ page ∧ page ≤ 0x037) || page == 0x290 ||
    (a % 0x1000 == 0x00C && isHeadPage page) || [Reg.JSEQ_LAST, Reg.HOST_STATUS, Reg.ETH_STATUS, Reg.PWR_STATUS, Reg.VHOLD_MV, Reg.CODE_ACTIVE].contains a ||
    (decide (page = 0x182) && [0x1C, 0x20, 0x24, 0x28].contains ((a % 0x40)))

/-- A store that had been requested goes on; what waited for it does not answer any more (R438). -/
def StoreFor.atWarm : StoreFor → StoreFor
  | .billing seq ns => .billing seq ns
  | .sealedRec a bs bill => .sealedRec a bs bill
  | _ => .plain

/-- An entry at a warm start (R442). -/
def JEntry.atWarm (e : JEntry) : JEntry := if e.state = .accepted ∨ e.state = .started then { e with state := .indeterminate } else e

/-- Seam at a warm start (R358): retained, or recalled where the CRC differs. -/
def State.seamWarm (s : State) (crcOk : Bool) : State :=
  if crcOk then
    let s := s.modSeam (fun m => { m with bracket := none, pf := none
                                          run := m.run.map (fun (r : StoreRun) => { r with fors := r.fors.map StoreFor.atWarm })
                                          queued := m.queued.map (fun l => l.map StoreFor.atWarm) })
    ((s.setFld Reg.RECALL_INFO 1 0 3).setRg Reg.SEAM_HOLD 0).seamRefresh
  else (s.recall false).evt Head.seam 7

/-- Faults in force after a warm start (R544): those whose source's FAULT bit stands, as BLOCK_FAULTs. -/
def State.faultsWarm (s : State) : State :=
  (s.modSafety (fun x => { x with silentSince := none
                                  inForce := (x.inForce.filter (fun f => s.blkFault f.head)).map (fun (f : InForce) => { f with reaction := 2 }) })).safetyRefresh

/-- An armed exchange fails with cause RESET (R133, R145); its journal entry has its state from R442. -/
def State.exchReset (s : State) : State :=
  if s.exchState = 3 ∧ s.scan.stage.armed.isSome then (s.setRg Reg.EXCH_STATUS (BitVec.ofNat 32 (5 + 256 * 7))).evt Head.scan 8
  else if s.exchState = 5 then s else s.setRg Reg.EXCH_STATUS 0

/-- The blocks at a warm start, each under its own rule (R133, R152, R203, R245, R262, R318, R403, R455). -/
def State.blocksWarm (s : State) : State :=
  let s := s.exchReset.progWarm
  let s := { s with scan := { s.scan with stage := Staging.idle, used := List.replicate 8 0, dead := [], forceQ := [], hostQ := [], symReads := [], posted := [], forcePost := [] } }
  let s := s.forceCount.scanRefresh
  let s := s.loopWarm.dispWarm.busWarm.meterWarm
  let s := s.keysStart
  let s := { s with pair := PairState.reset, frame := State.reset.frame }
  let s := (s.setBlkState Head.pair Pair.off).setReady Head.pair false
  let s := if s.role = Role.cascadeMaster ∨ s.role = Role.extender then (s.modCasc (fun c => { CascadeState.reset with cfg := c.cfg })).setCasc Casc.training else s
  s.lioGate

/-- A warm start of a kind: `crcOk` and `partsOk` are the comparison of R358, and of the reloaded parts with the cached
digests (R494). -/
def State.warmStart (s : State) (kind : Nat) (pairId crcOk partsOk : Bool) : State :=
  let exch := s.fld Reg.EXCH_STATUS 15 0
  let lost := s.host.journal.any (fun e => e.state == .accepted || e.state == .started)
  let s : State := { s with
    host := s.host.atStart (s.host.journal.map JEntry.atWarm)
    reg := { RegState.reset with vals := s.reg.vals.filter (fun x => warmKeep x.1) }
    upd := { s.upd with session := none }
    boot := { s.boot with due := none, ms := none, since := none, held := false, waiting := none, ethRst := false } }
  let s := headPages.foldl (fun s h => s.setFld (Reg.ctrl h) 2 2 0) s
  let s := (s.setFld Reg.DEV_STRAPS 0 0 (b2n pairId)).setFld Reg.DEV_CONFIG 2 0 (if s.boot.devCfg = [] then 0 else natAt s.boot.devCfg 0 1)
  let s := (s.setRg Reg.EXCH_STATUS (BitVec.ofNat 32 exch)).setRg Reg.BOOT_CAUSE (BitVec.ofNat 32 kind)
  let s := ((s.setBlkState Head.boot 0).setBlkState Head.host 0).setBlkState Head.frame 0
  let s := if lost then s.evt Head.host 4 else s
  let s := ((s.seamWarm crcOk).bootCount false).judgeAttempts
  if s.stump then (((s.blank pairId).setRg Reg.BOOT_CAUSE (BitVec.ofNat 32 kind)).seamShow s.newestBank.isSome).enterStump 7 0 0
  else if crcOk = false ∨ partsOk = false ∨ s.boot.cached ≠ some s.digests then s.escalate pairId
  else
    let s := s.faultsWarm.showSet.blocksWarm
    (s.bootRefresh.updRefresh).modBoot (fun b => { b with waiting := some true })

/-! ### Step 10 -/

/-- A block's ENABLE set. -/
def State.setEnable (s : State) (head : Nat) (b : Bool) : State := s.setFld (Reg.ctrl head) 0 0 (b2n b)

/-- The ENABLE of a metering block as its setup record holds it, where its checks let it through (R288, R318, R325). -/
def State.enableMeters (s : State) : State :=
  let e1 := s.loadMeterSetup.2
  let e2 := s.loadThermSetup.2
  let s := if e1 = some true ∧ s.meterRefused.isNone then (s.setEnable Head.meter true).meterEnable true else s
  if e2 = some true ∧ s.thermRefused.isNone then (s.setEnable Head.therm true).thermEnable true else s

/-- The channels whose record asks for it are enabled (R278). -/
def State.enableBuses (s : State) : State :=
  (List.range 8).foldl (fun s ch =>
    if natAt s.bus.cfg (0x40 + 32 * ch + 0x1C) 1 % 2 = 1 ∧ (s.busEnableRefused ch).isNone then (s.setEnable (Head.bus ch) true).busEnable ch true else s) s

/-- The block enables of a cold start (notes/assumptions/80.md). -/
def State.coldEnables (s : State) : State :=
  let role := s.role
  let s := [Head.seam, Head.keys, Head.update, Head.lio, Head.backup].foldl (fun s h => s.setEnable h true) s
  let s := s.keysRefresh.bkRefresh.setReady Head.update true
  let s := if bit (natAt s.boot.devCfg 2 1) 0 then (s.setEnable Head.eth true).modBoot (fun b => { b with ethRst := true }) else s
  let s := if runsPrograms role then
      let s := ((s.setEnable Head.loop true).loopRefresh).setEnable Head.dispatch true
      (((s.dispEnable true).enableBuses).setEnable Head.scan true).scanRefresh
    else s
  let s := if role = Role.pairMember then s.setEnable Head.pair true else s
  let s := if role = Role.cascadeMaster ∨ role = Role.extender then (s.setEnable Head.cascade true).setCasc Casc.training else s
  let s := if role = Role.witness then s else s.enableMeters
  s.setReady Head.lio s.lio.applied

/-- `START_ENABLE` (R493, step 10): once VHOLD_OK and VALID hold, the blocks, SCAN and FRAME_CTRL.RUN; `ms` is the time from
the reset to the first boundary in RUNNING. -/
def execStartEnable (ms : Nat) (s : State) : Host.Outcome State Fault Refusal :=
  match s.boot.waiting with
  | none => .next s
  | some warm =>
    if s.silent ∨ s.stump ∨ s.fld Reg.PWR_STATUS 3 3 = 0 ∨ s.fld Reg.DT_STATUS 5 5 = 0 then .next s else
    let s := if warm then (if runsPrograms s.role then (s.setEnable Head.scan true).scanRefresh else s) else s.coldEnables
    let s := s.modBoot (fun b => { b with ethRst := s.enabled Head.eth })
    let s := s.bkStartReport
    let s := (s.setFld Reg.FRAME_CTRL 0 0 1).setBlkState Head.frame 1
    .next (s.modBoot (fun b => { b with waiting := none, ms := some ms }))

/-! ### What begins a start -/

/-- A start that a command asked for is due. -/
def State.dueNow (s : State) : Option (Nat × Bool) :=
  match s.boot.due with
  | some (b, kind, stump) => if s.stump ∨ b ≤ s.beat then some (kind, stump) else none
  | none => none

/-- `COLD_START` (R486, R493, R499): the cold start that ACTIVATE or BOOT_RESET asked for. -/
def execColdStart (pairId : Bool) (s : State) : Host.Outcome State Fault Refusal :=
  match s.dueNow with
  | some (kind, stump) => .next (if kind = 4 then s else s.coldStart kind pairId stump)
  | none => .next s

/-- `WARM_START` (R493): the warm start that BOOT_RESET asked for; in stump mode, with nothing retained, it escalates. -/
def execWarmStart (pairId crcOk partsOk : Bool) (s : State) : Host.Outcome State Fault Refusal :=
  match s.dueNow with
  | some (kind, _) => .next (if kind = 4 then s.warmStart 4 pairId crcOk partsOk else s)
  | none => .next s

/-- Every supply in range and PFI high (R373); VIN_BUS takes no part in the release from reset (R524). -/
def State.suppliesGood (s : State) (vinBus : Bool) : State :=
  let s := s.setRg Reg.PWR_STATUS (BitVec.ofNat 32 (setBits (s.rg Reg.PWR_STATUS).toNat 2 0 (5 + 2 * b2n vinBus)))
  (s.setFld Reg.PWR_STATUS 4 4 1).modBoot (fun b => { b with vio := 15 })

/-- `POWER_UP` (R524): the supplies and RESET_N come good. -/
def execPowerUp (pairId vinBus : Bool) (s : State) : Host.Outcome State Fault Refusal :=
  .next ((s.suppliesGood vinBus).coldStart 0 pairId false)

/-- `POWER_RESTORE` (R362): PFI high for 10 ms after a power-failure store. -/
def execPowerRestore (pairId vinBus : Bool) (s : State) : Host.Outcome State Fault Refusal :=
  .next (if s.seam.pf = some .held then (s.suppliesGood vinBus).coldStart 1 pairId false else s)

/-- `RESET_N_ASSERT` (R525): low for 10 µs; the device is held in reset and drives nothing. -/
def execResetNAssert (s : State) : Host.Outcome State Fault Refusal :=
  .next (((s.dropFrames).modBoot (fun b => { b with held := true })))

/-- `RESET_N_RELEASE` (R525): a warm start after less than 1 s low, else a cold one. -/
def execResetNRelease (lowUs : Nat) (pairId crcOk partsOk : Bool) (s : State) : Host.Outcome State Fault Refusal :=
  .next (if s.boot.held = false ∨ s.seam.pf.isSome then s
    else if lowUs < 1000000 then s.warmStart 4 pairId crcOk partsOk
    else s.coldStart 3 pairId false)

/-- AUTO_RESTART is judged (R41): silent for 4,000 beats, and the bit set. -/
def State.autoRestart (s : State) (pairId crcOk partsOk : Bool) : State :=
  match s.safety.silentSince with
  | some b => if b + 4000 ≤ s.beat ∧ s.fld Reg.SAFETY_CTRL 0 0 = 1 ∧ s.boot.held = false ∧ s.seam.pf.isNone then s.warmStart 6 pairId crcOk partsOk else s
  | none => s

/-- `AUTO_RESTART`. -/
def execAutoRestart (pairId crcOk partsOk : Bool) (s : State) : Host.Outcome State Fault Refusal :=
  .next (s.autoRestart pairId crcOk partsOk)

/-- `ENGINE_WATCHDOG_EXPIRE` (R42, R492): the fault; of a system core, a warm start follows. -/
def execEngineWatchdogExpire (engine : Engine) (pairId crcOk partsOk : Bool) (s : State) : Host.Outcome State Fault Refusal :=
  if s.silent then .next s else
  let s := s.watchdog engine
  match engine with
  | .sc _ => .next (s.warmStart 5 pairId crcOk partsOk)
  | _ => .next s

end Sys2Proof.Machine
end

