-- ==== Sys2Proof/Machine/RegRead.lean ====
section
/-!
DEFINITION. Reading a register or a window word (R8, R9, R12, R26 to R30, R37, R39, R50, R350, R447, R475, R495): the value as
it stands, the frozen view, the latches of a host path, and the record of a refused access.
-/
namespace Sys2Proof.Machine

/-! ### Errors of a host path (R447) -/

/-- The first refused access of a path is recorded; a later one sets OVF. Octah accesses have no such record. -/
def State.pathErr (s : State) (p : HostPath) (addr : Nat) (window write : Bool) (code : Nat) : State :=
  let put (s : State) (a : Nat) : State :=
    let s := if wbits (s.rg (a + 4)) 7 0 = 0 then
        (s.setRg a (BitVec.ofNat 32 addr)).setRg (a + 4) (BitVec.ofNat 32 (code + 256 * b2n write + 512 * b2n window))
      else s.setFld (a + 4) 30 30 1
    s.evt Head.host 2
  match p with
  | .pcie => put s Reg.PCIE_ERR_ADDR
  | .qspi => put s Reg.QSPI_ERR_ADDR
  | .octah _ _ => s

/-! ### Values that stand outside the register file -/

/-- SLOT_STATE. -/
def SlotMode.num : SlotMode → Nat
  | .free => 0 | .posted => 1 | .response => 2 | .discarded => 3

/-- The 32 bytes of a fault-log entry (R46). -/
def FaultEntry.bytes (e : FaultEntry) : List Byte :=
  leBytes 8 e.timeNs ++ leBytes 4 e.beat ++ leBytes 4 e.seq ++ leBytes 2 e.srcType ++ leBytes 1 e.srcInst ++ leBytes 1 e.cls ++
    leBytes 1 e.reaction ++ leBytes 1 (b2n e.repeated + 2 * b2n e.reported) ++ leBytes 2 e.count ++ leBytes 4 e.info0.toNat ++ leBytes 4 e.info1.toNat

/-- The words of the entry FLOG_SEL selects (R49); an empty place reads zero. -/
def State.flogEntry (s : State) : List Word :=
  let k := s.fld Reg.FLOG_SEL 7 0
  let e := if k < 8 then s.safety.kept[k]? else s.safety.ring[k - 8]?
  match e with
  | some e => (List.range 8).map (fun j => BitVec.ofNat 32 (natAt e.bytes (4 * j) 4))
  | none => List.replicate 8 0

/-- PEND_MAPk (R39). -/
def State.pendMap (s : State) (k : Nat) : Nat :=
  ((headPages.filter (fun h => h / 32 == k && s.evtPend h != 0)).map (fun h => 2 ^ (h % 32))).sum

/-- PROG_STATUS of a slot. -/
def State.progStatus (s : State) (p : Nat) : Nat :=
  let x := s.slot p
  let m := x.image
  if m = [] then 0
  else x.mode.num + 16 * x.cause + 256 * Image.engine m + 4096 * b2n x.suspended + 8192 * b2n (Image.overrunStop m) +
    16384 * b2n (Image.stopSafe m) + 32768 * b2n (Image.autostart m)

/-- The slots in a mode as a mask. -/
def State.modeMap (s : State) (m : ProgMode) : Nat :=
  ((List.range 32).map (fun p => if (s.slot p).mode = m then 2 ^ p else 0)).sum

/-- The phase of the running beat for BEAT_PHASE (R54). -/
def Phase.num : Phase → Nat
  | .p0 => 0 | .p1 => 1 | .p2 => 2 | .p3 => 3

/-- A word of a MAC address: octets 0–3, or 4 and 5; with PRP both ports carry that of E0. -/
def State.macWord (s : State) (port half : Nat) : Nat :=
  let p := if s.fld Reg.ETH_CFG 0 0 = 1 then 0 else port
  leNat ((List.range (if half = 0 then 4 else 2)).map (fun k => Config.macOctet p (4 * half + k)))

/-- BLK_ID (R26, R29) of a page. -/
def blkId (page : Nat) : Nat :=
  let h := headOf page
  typeOf h * 65536 + instOf h * 256 + (if isHeadPage page then 1 else 2)

/-- BLK_REV. -/
def blkRev (page : Nat) : Nat :=
  let h := typeOf (headOf page)
  0xB0000000 + (if Config.firmwareServed h then 256 else 0) + (Config.fwMinor h).toNat

/-- HOST_STATUS with the number of open sessions. -/
def State.hostStatus (s : State) : Nat := setBits (s.rg Reg.HOST_STATUS).toNat 11 8 s.host.sessions.length

/-- The common registers of a head page (R29). -/
def State.commonReg (s : State) (h ofs : Nat) : Word :=
  if ofs = 0x000 then BitVec.ofNat 32 (blkId h)
  else if ofs = 0x004 then BitVec.ofNat 32 (blkRev h)
  else if ofs = 0x008 then wset (s.rg (Reg.ctrl h)) 0 0 (b2n (s.enabled h))
  else if ofs = 0x018 then s.evtPend h
  else if ofs = 0x028 then (if s.reg.prot.contains (h, .opened) then 1 else 0)
  else if ofs ≤ 0x02C then s.rg (h * 0x1000 + ofs)
  else 0

/-- A block-specific register of HOST, SCAN, TIME and the others whose value stands elsewhere; none: it is stored. -/
def State.computed (s : State) (a : Nat) : Option Nat :=
  let page := a / 0x1000
  let o := a % 0x1000
  let ns := s.nsCount
  if page = 0x000 then (if 0x100 ≤ o ∧ o < 0x180 then some (s.pendMap ((o - 0x100) / 4)) else none)
  else if page = 0x010 then
    (if a = Reg.HOST_STATUS then some s.hostStatus
     else if a = Reg.JOURNAL_USED then some (s.host.journal.filter (fun e => e.state != .free)).length
     else if a = Reg.SLOT_DONE_MAP then some ((s.host.slots.mapIdx (fun k x => if x.mode = .response then 2 ^ k else 0)).sum)
     else none)
  else if page = 0x011 then
    (let x := s.host.slots[(o - 0x40) / 16]?
     if o % 16 = 4 then x.map (fun x => x.mode.num) else if o % 16 = 8 then x.map (fun x => x.rlen) else some 0)
  else if page = 0x020 then
    (if a = Reg.MAC0_LO then some (s.macWord 0 0) else if a = Reg.MAC0_HI then some (s.macWord 0 1)
     else if a = Reg.MAC1_LO then some (s.macWord 1 0) else if a = Reg.MAC1_HI then some (s.macWord 1 1) else none)
  else if page = 0x030 then
    (if a = Reg.DT_NS_LO then some ns else if a = Reg.DT_NS_HI then some (ns / 2 ^ 32)
     else if a = Reg.DT_SEC_LO then some (ns / 1000000000) else if a = Reg.DT_SEC_HI then some (ns / 1000000000 / 2 ^ 32)
     else if a = Reg.DT_NANO then some (ns % 1000000000) else if a = Reg.DT_FRAC then some s.time.frac else none)
  else if 0x031 ≤ page ∧ page ≤ 0x034 then
    (let t := (s.tbase (page - 0x031)).ns.floor.toNat
     if o = 0x68 then some t else if o = 0x6C then some (t / 2 ^ 32) else none)
  else if page = 0x035 then
    (if a = Reg.PORT_STATE 0 ∨ a = Reg.PORT_STATE 1 then
       -- the instance with the lowest number whose base runs PTP on the port
       (let port := if a = Reg.PORT_STATE 0 then 0 else 1
        match (List.range 4).find? (fun b => s.ptpOn b port) with
        | some b => some (s.ptpPort b port).state
        | none => none)
     else none)
  else if page = 0x040 then
    (if a = Reg.BEAT_CNT_LO then some s.beat else if a = Reg.BEAT_CNT_HI then some (s.beat / 2 ^ 32)
     else if a = Reg.BEAT_PHASE then some (s.beatOfs + 2 ^ 20 * s.frame.phase.num) else none)
  else if page = 0x080 then
    (if a = Reg.PROG_RUN_MAP then some (s.modeMap .run) else if a = Reg.PROG_HOLD_MAP then some (s.modeMap .hold)
     else if a = Reg.PROG_STOP_MAP then some (s.modeMap .stop) else none)
  else if page = 0x081 then
    (let p := (o - 0x40) / 0x40
     let m := s.image p
     if o % 0x40 = 0x00 then some (s.progStatus p)
     else if o % 0x40 = 0x04 then some (if m = [] then 0 else Image.k m + 65536 * Image.phase m)
     else if o % 0x40 = 0x24 then some (if m = [] then 0 else natAt (Image.digest m) 0 4)
     else none)
  else if a = Reg.LOOP_ACTIVE then some ((List.range 1024).filter (fun n => s.loopExists n && s.modeSel n != 0)).length
  else if a = Reg.LIVE_CRC then some s.liveCrc.toNat
  else if page = 0x1F0 then
    (if a = Reg.BK_CNT_LO then some s.bk.cnt else if a = Reg.BK_CNT_HI then some (s.bk.cnt / 2 ^ 32) else none)
  else if page = 0x260 then
    (if Reg.ID_HASH 0 ≤ a ∧ a < Reg.ID_HASH 8 then some (natAt idHash (a - Reg.ID_HASH 0) 4) else none)
  else if 0x261 ≤ page ∧ page ≤ 0x264 ∧ 0x40 ≤ o ∧ o < 0x840 then
    some (natAt (s.keySlot (64 * (page - 0x261) + (o - 0x40) / 32)).desc ((o - 0x40) % 32) 4)
  else if page = 0x290 then
    (if (a = Reg.LIO_OUT_LO ∨ a = Reg.LIO_OUT_HI) ∧ s.lio.hiZ = true then some 0 else none)
  else none

/-- A page that some block defines (R25, R26). -/
def pageDefined (page : Nat) : Bool := isHeadPage page || pageTable page != [] || (decide (0x261 ≤ page) && decide (page ≤ 0x264))

/-- Stump mode serves the pages of DEV, HOST, BOOT and UPDATE alone (R495). -/
def State.pageServed (s : State) (page : Nat) : Bool :=
  pageDefined page && (!s.stump || page == 0x000 || page == 0x003 || (decide (0x010 ≤ page) && decide (page ≤ 0x01F)) || page == 0x280)

/-- A register as it stands, by its address (R9: reserved offsets and pages read zero). -/
def State.regNow (s : State) (a : Nat) : Word :=
  let page := a / 0x1000
  let o := a % 0x1000
  if s.pageServed page = false then 0
  else if o < 0x40 then (if isHeadPage page then s.commonReg page o else if o = 0 then BitVec.ofNat 32 (blkId page) else 0)
  else match s.computed a with
    | some v => BitVec.ofNat 32 v
    | none => if (regDef? a).isSome then s.rg a else 0

/-! ### Data windows (R27, R28, R119, R350) -/

/-- A word of a data window; a refused read of Seam reads zero and is recorded. -/
def State.windowRead (s : State) (a : Nat) : Word × State :=
  if s.stump then (0, s)
  else if 0x400000 ≤ a ∧ a < 0x500000 then (s.bus.tally.word (a - 0x400000), s)
  else if 0x500000 ≤ a ∧ a < 0x540000 then (s.loop.blocks.word (a - 0x500000), s)
  else if 0x600000 ≤ a ∧ a < 0x800000 then (s.scan.data.word (a - 0x600000), s)
  else if 0x800000 ≤ a ∧ a < 0x880000 then
    (if pageReadable ((a - 0x800000) / 256) then (BitVec.ofNat 32 (leNat (s.seamRead (a - 0x800000) 4)), s)
     else (0, s.err Head.seam a true Code.badArg 0))
  else (0, s)

/-! ### Latches and frozen views (R12, R30, R50) -/

/-- The quantities of two registers, and what a read of their first word latches. -/
def latchGroup (a : Nat) : List Nat :=
  if a = Reg.DT_NS_LO then [4, 8, 12, 16, 20].map (a + ·)
  else if a = Reg.RTC_SNAP_TICK_LO then [4, 8, 12].map (a + ·)
  else if [Reg.BEAT_CNT_LO, Reg.PPS_IN_LO, Reg.EXCH_BEAT_LO, Reg.SOLVE_BEAT_LO, Reg.CUTOVER_BEAT_LO, Reg.PLAN_ORIGIN_LO, Reg.GEN_LO,
           Reg.LEASE_END_LO, Reg.KU_COUNTER_LO, Reg.BILL_SAVE_NS_LO, Reg.BK_CNT_LO, Reg.RTC_SNAP_NS_LO].contains a then [a + 4]
  else if (List.range 4).any (fun n => a == Reg.TB_NS_LO n) ∨ (List.range 32).any (fun p => a == Reg.PROG_CYCLES_LO p) ∨
          (List.range 16).any (fun c => a == Reg.SPEC_NS_LO c) then [a + 4]
  else []

/-- A register with no writable field: the RO registers a FREEZE holds; the fault log is never frozen (R30). -/
def freezable (a : Nat) : Bool :=
  decide (0x40 ≤ a % 0x1000) && !(decide (Reg.FLOG_DATA 0 ≤ a) && decide (a ≤ Reg.FLOG_DATA 7)) &&
    (match regDef? a with
     | some d => d.fields == [] && a != Reg.SEAM_CMD
     | none => decide (0x261 ≤ a / 0x1000) && decide (a / 0x1000 ≤ 0x264))

/-- The register addresses of a table. -/
def RegDef.addrs (page : Nat) (d : RegDef) : List Nat := (List.range d.count).map (fun k => page * 0x1000 + d.off + d.stride * k)

/-- The pages of a block that its chapter defines. -/
def blockPages (head : Nat) : List Nat := (List.range 0x400).filter (fun p => headOf p == head && pageDefined p)

/-- The addresses of the registers a FREEZE of a block holds. -/
def frozenAddrs (head : Nat) : List Nat :=
  (blockPages head).flatMap (fun p =>
    if 0x261 ≤ p ∧ p ≤ 0x264 then (List.range 512).map (fun k => p * 0x1000 + 0x40 + 4 * k)
    else ((pageTable p).flatMap (RegDef.addrs p)).filter freezable)

/-- The frozen views at a boundary (R30): one whose FREEZE was set in an earlier beat is taken. -/
def State.freezeViews (s : State) : State :=
  { s with reg := { s.reg with frozen := s.reg.frozen.map (fun (f : Frozen) =>
      if f.view.isNone then { f with view := some ((frozenAddrs f.head).map (fun a => (a, s.regNow a))) } else f) } }

/-- The value a read returns before any latch. -/
def State.regShown (s : State) (a : Nat) : Word :=
  match s.reg.frozen.find? (fun f => f.head == headOf (a / 0x1000)) with
  | some f =>
    match f.view.bind (fun v => (v.find? (fun x => x.1 == a)).map (·.2)) with
    | some w => w
    | none => s.regNow a
  | none => s.regNow a

/-- The word a path has latched for an address, not yet consumed. -/
def State.latched (s : State) (p : HostPath) (a : Nat) : Option Word :=
  match s.reg.latches.find? (fun l => l.path == p && l.words.any (fun w => w.1 == a)) with
  | some l => (l.words.find? (fun w => w.1 == a)).map (·.2)
  | none => none

/-- A latch without an address, which a read has consumed. -/
def Latch.drop (l : Latch) (p : HostPath) (a : Nat) : Latch :=
  if l.path = p then { l with words := l.words.filter (fun w => w.1 != a) } else l

/-- A read of a register by a path (R12, R50): its value, and what the read latches or consumes. -/
def State.regRead (s : State) (p : HostPath) (a : Nat) : Word × State :=
  if a = Reg.FLOG_DATA 0 then
    let ws := s.flogEntry
    (ws.getD 0 0, { s with reg := { s.reg with flogLatch := (p, ws) :: s.reg.flogLatch.filter (fun x => x.1 != p) } })
  else if Reg.FLOG_DATA 1 ≤ a ∧ a ≤ Reg.FLOG_DATA 7 then
    ((((s.reg.flogLatch.find? (fun x => x.1 == p)).map (·.2)).getD []).getD ((a - Reg.FLOG_DATA 0) / 4) 0, s)
  else
    match s.latched p a with
    | some w => (w, { s with reg := { s.reg with latches := s.reg.latches.map (fun l => l.drop p a) } })
    | none =>
      let g := latchGroup a
      if g = [] then (s.regShown a, s)
      else
        let l : Latch := { path := p, low := a, words := g.map (fun h => (h, s.regShown h)) }
        (s.regShown a, { s with reg := { s.reg with latches := l :: s.reg.latches.filter (fun x => !(x.path == p && x.low == a)) } })

/-- A 32-bit read by a path, as data (R8, R9). A read that is not aligned reads zero and is recorded. -/
def State.readWord (s : State) (p : HostPath) (a : Nat) : Word × State :=
  if s.boot.held ∨ s.seam.pf = some .held ∨ 0x1000000 ≤ a then (0, s)
  else if a % 4 ≠ 0 then (0, s.pathErr p a (decide (0x400000 ≤ a)) false Code.badLength)
  else if 0x400000 ≤ a then s.windowRead a
  else if s.pageServed (a / 0x1000) = false then (0, s)
  else s.regRead p a

/-- `LOW_WORD_READ` (R12): a read of a register or a window word. -/
def execLowWordRead (path : HostPath) (addr : Nat) (s : State) : Host.Outcome State Fault Refusal :=
  let r := s.readWord path addr
  .next (r.2.emit (.readData path addr r.1))

/-- `FLOG_DATA0_READ` (R50). -/
def execFlogData0Read (path : HostPath) (s : State) : Host.Outcome State Fault Refusal :=
  let r := s.readWord path (Reg.FLOG_DATA 0)
  .next (r.2.emit (.readData path (Reg.FLOG_DATA 0) r.1))

end Sys2Proof.Machine
end

