-- ==== Sys2Proof/Machine/RegWrite.lean ====
section
/-!
DEFINITION. Writing a register or a window word (R8 to R11, R29 to R36, R50, R111, R119, R244, R253, R288, R372, R423,
R447, R449): the common page layout, the unlock sequence, the checks of a field, and the registers that act.
-/
namespace Sys2Proof.Machine

/-! ### The unlock sequence (R34) -/

/-- How far a block's sequence has come. -/
def State.protOf (s : State) (head : Nat) : Option ProtStage := (s.reg.prot.find? (fun x => x.1 == head)).map (·.2)

/-- The sequence of a block set. -/
def State.setProt (s : State) (head : Nat) (x : Option ProtStage) : State :=
  let rest := s.reg.prot.filter (fun y => y.1 != head)
  { s with reg := { s.reg with prot := match x with
      | some st => (head, st) :: rest
      | none => rest } }

/-- What a write of PROT_KEY leaves. -/
def protNext (old : Option ProtStage) (v : Word) : Option ProtStage :=
  if v = 0x9A3C then some .first else if v = 0x65C3 ∧ old = some .first then some .opened else none

/-! ### The fields of a register (R10, R11, R34, R111) -/

/-- The value meets a range check. -/
def FieldCheck.inRange : FieldCheck → Nat → Bool
  | .range lo hi, x => decide (lo ≤ x) && decide (x ≤ hi)
  | .srange n lo hi, x => decide (lo ≤ sext n x) && decide (sext n x ≤ hi)
  | _, _ => true

/-- The value is one the field's table lists. -/
def FieldCheck.listed : FieldCheck → Nat → Bool
  | .oneOf vs, x => vs.contains x
  | _, _ => true

/-- A field that accepts writes only while its block is disabled, in a register whose other fields accept them always
(R253, R288). -/
def disabledOnly (a : Nat) (f : FieldDef) : Bool := ((List.range 8).any (fun n => a == Reg.FB_CTRL n) && f.prot) || (a == Reg.METER_CTRL && f.hi == 3)

/-- The field accepts no write now. -/
def State.fieldClosed (s : State) (a : Nat) (opened : Bool) (f : FieldDef) : Bool :=
  (f.prot && !opened) || (s.enabled (headOf (a / 0x1000)) && disabledOnly a f)

/-- What a write makes of a register's fields: the new word, whether a closed field would have changed, whether an
enumeration was refused. -/
def State.fieldWrite (s : State) (a : Nat) (opened : Bool) (cur v : Word) : List FieldDef → Word × Bool × Bool
  | [] => (cur, false, false)
  | f :: fs =>
    let (w, st, bad) := s.fieldWrite a opened cur v fs
    let x := wbits v f.hi f.lo
    if s.fieldClosed a opened f then (w, st || x != wbits cur f.hi f.lo, bad)
    else if f.check.listed x then (wset w f.hi f.lo x, st, bad)
    else (w, st, true)

/-- A field that would accept the write lies outside its range (R111); VID counts only with VLAN_EN (R449). -/
def State.outOfRange (s : State) (a : Nat) (opened : Bool) (v : Word) (fs : List FieldDef) : Bool :=
  fs.any (fun f => !s.fieldClosed a opened f && !f.check.inRange (wbits v f.hi f.lo)) ||
    (a == Reg.ETH_CFG && opened && wbits v 4 4 == 1 && (wbits v 27 16 == 0 || wbits v 27 16 == 4095))

/-! ### Requests that a reset of their block ends -/

/-- The commands of a list of tags end with ABORTED. -/
def State.abortTags (s : State) (tags : List Nat) : State := tags.foldl (fun s t => s.opFail t (.code Code.aborted)) s

/-! ### ETH (R449) -/

/-- BLK_STATUS of ETH. -/
def State.ethRefresh (s : State) : State :=
  let down (en st : Nat) : Bool := s.fld Reg.ETH_CFG en en == 1 && s.fld Reg.ETH_STATUS st st == 0
  let x := if s.enabled Head.eth = false then 0 else if down 1 0 ∨ down 2 1 then 2 else 1
  (s.setBlkState Head.eth x).setReady Head.eth (x != 0)

/-! ### ENABLE (R29) -/

/-- The channel of a head page of BUS. -/
def busHead (head : Nat) : Bool := decide (0x140 ≤ head ∧ head ≤ 0x17F)

/-- What a block does when its ENABLE has changed. -/
def State.enableActs (s : State) (head : Nat) (on : Bool) : State :=
  if head = Head.scan then s.scanRefresh
  else if head = Head.loop then s.loopRefresh
  else if head = Head.dispatch then s.dispEnable on
  else if head = Head.meter then s.meterEnable on
  else if head = Head.therm then s.thermEnable on
  else if busHead head then s.busEnable (instOf head) on
  else if head = Head.pair then (if on then s else s.setPair Pair.off)
  else if head = Head.cascade then
    (if on = false then s.setCasc 0 else if s.role = Role.cascadeMaster ∨ s.role = Role.extender then s.setCasc Casc.training else s)
  else if head = Head.eth then (if on then s.modBoot (fun b => { b with ethRst := true }) else s).ethRefresh
  else if head = Head.keys then s.keysRefresh
  else if head = Head.backup then s.bkRefresh
  else if head = Head.update then s.setReady Head.update on
  else if head = Head.lio then s.setReady Head.lio (on && s.lio.applied)
  else s

/-- The refusal of a block's own enable rules: its code and ERR_INFO (R254, R288, R347, R528). -/
def State.enableRefused (s : State) (head : Nat) (v : Word) : Option (Nat × Word) :=
  if busHead head then (s.busEnableRefused (instOf head)).map (fun c => (c, v))
  else if head = Head.meter then s.meterRefused.map (fun w => (Code.badArg, w))
  else if head = Head.therm then s.thermRefused.map (fun w => (Code.badArg, w))
  else none

/-- A write of ENABLE. -/
def State.enableWrite (s : State) (head : Nat) (v : Word) : State :=
  let on := bit v.toNat 0
  if alwaysEnabled head ∨ s.enabled head = on then s
  else match (if on then s.enableRefused head v else none) with
    | some (c, w) => s.errAt (Reg.ctrl head) c w
    | none => (s.setEnable head on).enableActs head on

/-! ### Soft reset (R31, R32) -/

/-- The chapter of the block permits a soft reset after a fault (R244, R317). -/
def resettable (head : Nat) : Bool := head == Head.dispatch || head == Head.meter

/-- The registers of a block that have RW fields. -/
def rwRegs (head : Nat) : List Nat :=
  (blockPages head).flatMap (fun p => ((pageTable p).filter (fun d => d.fields != [])).flatMap (RegDef.addrs p))

/-- EVT_RAW, ERR_CODE and ERR_INFO cleared. -/
def State.clearEvents (s : State) (head : Nat) : State :=
  ((s.setRg (Reg.evtRaw head) 0).setRg (Reg.errCode head) 0).setRg (Reg.errInfo head) 0

/-- The block's internal state discarded: what waits in its queues and what its engines keep; counters that are RO, what
the bundle loaded, program modes and device time stand. -/
def State.discardInternal (s : State) (head : Nat) : State :=
  if head = Head.time then
    let s := { s with time := { s.time with tod := none, rtc := none, ports := List.replicate 8 PtpPort.reset } }
    ((List.range 4).foldl (fun s n => s.startBase n) s).timeRefresh
  else if head = Head.scan then
    let tags := s.scan.hostQ.filterMap (·.tag) ++ s.scan.symReads.map (·.1)
    ({ s with scan := { s.scan with hostQ := [], forceQ := [], symReads := [],
                                    slots := s.scan.slots.map (fun (x : ProgSlot) => { x with breaks := List.replicate 8 none }) } }).abortTags tags
  else if head = Head.loop then
    let tags := s.loop.changes.map (·.2.1) ++ s.loop.reads.map (·.1)
    ({ s with loop := { s.loop with winQ := [], changes := [], reads := [] } }).abortTags tags
  else if head = Head.dispatch then s.dispSoftReset.faultCleared Head.dispatch
  else if busHead head then s.modChan (instOf head) (fun _ => BusChan.reset)
  else if head = Head.meter then s.meterRecover.faultCleared Head.meter
  else if head = Head.therm then
    s.modMe (fun m => { m with therms := m.therms.map (fun (t : ThermMeter) => { ThermMeter.reset with regs := t.regs }) })
  else if head = Head.pair then ({ s with pair := PairState.reset }).setPair Pair.off
  else if head = Head.cascade then (s.modCasc (fun c => { CascadeState.reset with cfg := c.cfg })).setCasc 0
  else if head = Head.keys then s.keysRefresh
  else if head = Head.update then
    (match s.upd.session with
     | some x => (s.abortTags x.closing.toList).updDiscard
     | none => s)
  else if head = Head.eth then ({ s with host := { s.host with reasm := [], prpSeen := [] } }).ethRefresh
  else s

/-- The soft reset of a block. SEAM loses its non-kept counters and its events alone (R372), BACKUP its events (R505). -/
def State.softReset (s : State) (head : Nat) : State :=
  if head = Head.seam then
    ([Reg.STORE_US_LAST, Reg.STORE_US_MAX, Reg.HOLD_TIMEOUT_CNT].foldl (fun s a => s.setRg a 0) s).clearEvents head
  else if head = Head.backup then s.clearEvents head
  else
    let s := (rwRegs head).foldl (fun s a => s.setRg a (regReset a)) s
    let s := ((s.setRg (Reg.ctrl head) 0).setRg (Reg.evtMask head) 0).setRg (Reg.evtRoute head) 0x00800000
    let s := { s with reg := { s.reg with frozen := s.reg.frozen.filter (fun f => f.head != head) } }
    (s.discardInternal head).clearEvents head

/-- A write of SOFT_RESET, judged after ENABLE. -/
def State.softResetWrite (s : State) (head : Nat) (v : Word) : State :=
  if bit v.toNat 1 = false then s
  else if s.enabled head ∨ (s.blkFault head ∧ resettable head = false) then s.errAt (Reg.ctrl head) Code.state v
  else s.softReset head

/-! ### The common page layout (R29 to R36) -/

/-- FREEZE set or cleared (R30). -/
def State.freezeWrite (s : State) (head : Nat) (v : Word) : State :=
  let on := bit v.toNat 2
  if on = (s.fld (Reg.ctrl head) 2 2 == 1) then s
  else
    let rest := s.reg.frozen.filter (fun f => f.head != head)
    let f : Frozen := { head := head, setBeat := s.beat, view := none }
    ({ s with reg := { s.reg with frozen := if on then f :: rest else rest } }).setFld (Reg.ctrl head) 2 2 (b2n on)

/-- A write to EVT_RAW or EVT_MASK that leaves EVT_PEND non-zero sends the message again (R36). -/
def State.resignal (s : State) (head : Nat) : State := if s.evtPend head = 0 then s else s.signalHost head

/-- A write to a register of the common layout. -/
def State.commonWrite (s : State) (head ofs : Nat) (old : Option ProtStage) (v : Word) : State :=
  if ofs = 0x008 then ((s.freezeWrite head v).enableWrite head v).softResetWrite head v
  else if ofs = 0x010 then (s.setRg (Reg.evtRaw head) (s.rg (Reg.evtRaw head) &&& ~~~ v)).resignal head
  else if ofs = 0x014 then (s.setRg (Reg.evtMask head) v).resignal head
  else if ofs = 0x01C then s.setRg (Reg.evtRoute head) (v &&& 0x0083009F)
  else if ofs = 0x020 then (if bit v.toNat 31 then (s.setRg (Reg.errCode head) 0).setRg (Reg.errInfo head) 0 else s)
  else if ofs = 0x028 then s.setProt head (protNext old v)
  else s

/-! ### Registers that act -/

/-- FRAME_CTRL (R52). -/
def State.frameCtrl (s : State) (opened : Bool) (v : Word) : State :=
  let s := if bit v.toNat 1 then { s with frame := { s.frame with clrMax := true } } else s
  let run := wbits v 0 0
  if run = s.fld Reg.FRAME_CTRL 0 0 then s
  else if opened = false ∨ s.blkState Head.frame = 3 then s.errAt Reg.FRAME_CTRL Code.state v
  else
    let s := s.setFld Reg.FRAME_CTRL 0 0 run
    if run = 1 then
      (if s.stopped then s.setBlkState Head.frame 1 else { s with frame := { s.frame with stopping := false } })
    else if s.running then { s with frame := { s.frame with stopping := true } }
    else s.setBlkState Head.frame 0

/-- The beat alarm fires (R72). -/
def State.beatMatch (s : State) : State := ({ s with frame := { s.frame with alarm := none } }).evt Head.frame 5

/-- BEAT_ALARM_HI arms the alarm (R72). -/
def State.alarmWrite (s : State) (v : Word) : State :=
  let s := s.setRg Reg.BEAT_ALARM_HI v
  let b := s.rg64 Reg.BEAT_ALARM_LO
  if stampDiff b s.beat ≤ 0 then s.beatMatch else { s with frame := { s.frame with alarm := some b } }

/-- SCAN_CTRL: with DEBUG_EN at 0 no breakpoint stands (R128). -/
def State.debugOff (s : State) : State :=
  if s.debugEn then s else
  { s with scan := { s.scan with slots := s.scan.slots.map (fun (x : ProgSlot) => { x with breaks := List.replicate 8 none }) } }

/-- A slot of the command window at work (R423): POST and RELEASE by a path. LEN outside 64 to 4,096 is no packet's, and
the posted request is discarded. -/
def State.slotCtrl (s : State) (p : HostPath) (n : Nat) (v : Word) : State :=
  let addr := Reg.SLOT_CTRL n
  let len := wbits v 12 0
  match s.host.slots[n]? with
  | none => s
  | some x =>
    let put (s : State) (y : CmdSlot) : State := { s with host := { s.host with slots := s.host.slots.set n y } }
    let s :=
      if bit v.toNat 16 = false then s
      else if x.mode ≠ .free ∨ s.silent then s.pathErr p addr false true Code.state
      else
        let link : Link := match p with
          | .pcie => .pcie
          | .qspi => .qspi
          | .octah l _ => l
        let req : OctahReq := { src := .slot link n, packet := s.host.slotMem.getN (0x1000 * n) len }
        if Pkt.sound req.packet = false then (put s { x with mode := .discarded, len := len }).incSat Reg.CRC_DROP_CNT
        else if 64 ≤ s.host.waiting.length then (put s { x with mode := .discarded, len := len }).incSat Reg.RX_DROP_CNT
        else
          let s := put s { x with mode := .posted, len := len }
          { s with host := { s.host with waiting := s.host.waiting ++ [req] } }
    if bit v.toNat 17 = false then s
    else if bit v.toNat 16 ∨ x.mode = .posted then s.pathErr p addr false true Code.state
    else put s { x with mode := .free, rlen := 0 }

/-- CLEAR of a path's error record (R447). -/
def State.pathErrClear (s : State) (infoAddr : Nat) (v : Word) : State :=
  if bit v.toNat 31 then (s.setRg (infoAddr - 4) 0).setRg infoAddr 0 else s

/-- The bits of a BACKUP register that act when the domain takes the write, beside its RW fields. -/
def bkActs (a : Nat) : List (Nat × Nat) :=
  if a = Reg.BK_ALARM_CTRL then [(1, 1)] else if a = Reg.BK_PWR then [(1, 0)] else if a = Reg.BK_WAKE_CAUSE then [(2, 0)] else []

/-- A write to the backup domain waits for its tick edge (R509). -/
def State.bkWrite (s : State) (a : Nat) (opened : Bool) (v : Word) (fs : List FieldDef) : State :=
  if s.enabled Head.backup = false then s.errAt a Code.state v
  else if s.outOfRange a opened v fs then s.errAt a Code.badArg v
  else
    let cur := s.regNow a
    let (w, st, bad) := s.fieldWrite a opened cur v fs
    let s := if st then s.errAt a Code.state v else s
    let s := if bad then s.errAt a Code.badArg v else s
    if fs ≠ [] ∧ fs.all (s.fieldClosed a opened) then s
    else
      let w := if fs = [] then 0 else w
      let w := (bkActs a).foldl (fun w f => wset w f.1 f.2 (wbits v f.1 f.2)) w
      (s.modBk (fun b => { b with writes := b.writes ++ [(a, w)] })).bkRefresh

/-- A register of a table takes a write: its fields under R10, R11, R34 and R111, and what the register does. -/
def State.regStore (s : State) (p : HostPath) (a : Nat) (opened : Bool) (v : Word) (d : RegDef) : State :=
  let head := headOf (a / 0x1000)
  let tb := (List.range 4).find? (fun n => a == Reg.TB_CFG n)
  if d.gated ∧ s.enabled head then s.errAt a Code.state v
  else if s.outOfRange a opened v d.fields then s.errAt a Code.badArg v
  else
    let cur := s.rg a
    let (w, st, bad) := s.fieldWrite a opened cur v d.fields
    match tb.bind (fun n => if w = cur then none else s.tbCfgRefused n w) with
    | some c => s.errAt a c v
    | none =>
      let s := if st then s.errAt a Code.state v else s
      let s := if bad then s.errAt a Code.badArg v else s
      match tb with
      | some n => if s.selBase = some n ∧ st = false then s.errAt a Code.state v else s.tbCfgSet n w
      | none =>
        if a = Reg.RTC_CFG then s.rtcCfgSet w
        else if a = Reg.BEAT_ALARM_HI then s.alarmWrite w
        else if a = Reg.SEAM_HOLD then s.seamHoldPf w
        else
          let s := s.setRg a w
          if a = Reg.FLOG_SEL then { s with reg := { s.reg with flogLatch := s.reg.flogLatch.filter (fun x => x.1 != p) } }
          else if a = Reg.SCAN_CTRL then s.debugOff
          else if a = Reg.LEAF_LOW_MARK then s.keysRefresh
          else if a = Reg.SAFETY_CTRL then s.autoRestart (s.fld Reg.DEV_STRAPS 0 0 == 1) true true
          else match (List.range 8).find? (fun n => a == Reg.FB_CTRL n) with
            | some n => if bit v.toNat 7 then s.clrCnt n else s
            | none => s

/-- A write to a block-specific register (R9: a reserved offset takes none). -/
def State.pageWrite (s : State) (p : HostPath) (a : Nat) (opened : Bool) (v : Word) : State :=
  match regDef? a with
  | none => s
  | some d =>
    if a = Reg.FRAME_CTRL then s.frameCtrl opened v
    else if a = Reg.SEAM_CMD then s.seamCmd v
    else if a = Reg.PCIE_ERR_INFO ∨ a = Reg.QSPI_ERR_INFO then s.pathErrClear a v
    else if a / 0x1000 = 0x011 then (if a % 16 = 0 then s.slotCtrl p ((a - Reg.SLOT_CTRL 0) / 16) v else s)
    else if a / 0x1000 = 0x1F0 ∧ (d.fields ≠ [] ∨ a = Reg.BK_WAKE_CAUSE) then s.bkWrite a opened v d.fields
    else if d.fields = [] then s
    else s.regStore p a opened v d

/-- A write to a page of a block: first the unlock sequence, then the register. -/
def State.regPut (s : State) (p : HostPath) (a : Nat) (v : Word) : State :=
  let page := a / 0x1000
  let head := headOf page
  let old := s.protOf head
  let s := s.setProt head none
  if a % 0x1000 < 0x40 then (if isHeadPage page then s.commonWrite head (a % 0x1000) old v else s)
  else s.pageWrite p a (decide (old = some .opened)) v

/-! ### Data windows -/

/-- A host write to the process-image window (R120): queued for P0, or refused. -/
def State.imageWindow (s : State) (addr : Nat) (v : Word) : State :=
  let refuse (s : State) (c : Nat) : State := (s.incSat Reg.HOSTQ_REFUSED).err Head.scan addr true c v
  if addr < 0x700000 then refuse s Code.badArg
  else if s.owns = false then refuse s Code.notOwner
  else if s.fld Reg.SCAN_CTRL 1 1 = 0 then refuse s Code.state
  else if 256 ≤ s.scan.hostQ.length then refuse s Code.busy
  else
    let w : HostWrite := { ofs := addr - 0x600000, bytes := leBytes 4 v.toNat, tag := none }
    ({ s with scan := { s.scan with hostQ := s.scan.hostQ ++ [w] } }).noteWindow addr v

/-- A write to a data window (R27, R119, R200, R261, R351). -/
def State.windowWrite (s : State) (a : Nat) (v : Word) : State :=
  if s.stump then s
  else if 0x400000 ≤ a ∧ a < 0x500000 then s.tallyWindow a v
  else if 0x500000 ≤ a ∧ a < 0x540000 then s.loopWindow a v
  else if 0x600000 ≤ a ∧ a < 0x800000 then s.imageWindow a v
  else if 0x800000 ≤ a ∧ a < 0x880000 then s.seamWindow a v
  else s

/-- A write by a path, as data: of a width in bytes, of a value. -/
def State.regWrite (s : State) (p : HostPath) (a width : Nat) (v : Word) : State :=
  if s.boot.held ∨ s.seam.pf = some .held ∨ 0x1000000 ≤ a then s
  else if width ≠ 4 ∨ a % 4 ≠ 0 then s.pathErr p a (decide (0x400000 ≤ a)) true Code.badLength
  else if 0x400000 ≤ a then s.windowWrite a v
  else if s.pageServed (a / 0x1000) = false then s
  else s.regPut p a v

/-- The block at which a refused access to an address is recorded (R33). -/
def errHead (a : Nat) : Nat :=
  if a < 0x400000 then headOf (a / 0x1000)
  else if a < 0x500000 then Head.bus 0
  else if a < 0x540000 then Head.loop
  else if a < 0x800000 then Head.scan
  else Head.seam

/-- The code a word's write is refused with, 0 where it is not: what it records where nothing is held yet. -/
def State.writeCode (s : State) (p : HostPath) (a : Nat) (v : Word) : Nat :=
  wbits (((s.setRg (Reg.errCode (errHead a)) 0).regWrite p a 4 v).rg (Reg.errCode (errHead a))) 7 0

/-! ### The commands -/

/-- A write of a word to a register. -/
abbrev State.putWord (s : State) (p : HostPath) (a : Nat) (v : Word) : State := s.regWrite p a 4 v

/-- `REGISTER_WRITE` (R10). -/
def execRegisterWrite (path : HostPath) (addr width : Nat) (value : Word) (s : State) : Host.Outcome State Fault Refusal :=
  .next (s.regWrite path addr width value)

/-- `FLOG_SEL_WRITE` (R50). -/
def execFlogSelWrite (path : HostPath) (value : Word) (s : State) : Host.Outcome State Fault Refusal :=
  .next (s.putWord path Reg.FLOG_SEL value)

/-- `SOFT_RESET` (R31): a write of BLK_CTRL. -/
def execSoftReset (path : HostPath) (head : Nat) (value : Word) (s : State) : Host.Outcome State Fault Refusal :=
  .next (s.putWord path (Reg.ctrl head) value)

/-- `FREEZE` (R30): a write of BLK_CTRL. -/
def execFreeze (path : HostPath) (head : Nat) (value : Word) (s : State) : Host.Outcome State Fault Refusal :=
  .next (s.putWord path (Reg.ctrl head) value)

/-- `FREEZE_EXPIRE` (R30): 4,000 beats after it was set. -/
def execFreezeExpire (head : Nat) (s : State) : Host.Outcome State Fault Refusal :=
  .next (match s.reg.frozen.find? (fun f => f.head == head) with
    | some f => if f.setBeat + 4000 ≤ s.beat then s.freezeWrite head 0 else s
    | none => s)

/-- `BLOCK_ENABLE` (R29): a write of BLK_CTRL. -/
def execBlockEnable (path : HostPath) (head : Nat) (value : Word) (s : State) : Host.Outcome State Fault Refusal :=
  .next (s.putWord path (Reg.ctrl head) value)

/-- `BUS_CHANNEL_ENABLE` (R254): a write of BLK_CTRL of a channel. -/
def execBusChannelEnable (path : HostPath) (ch : Nat) (value : Word) (s : State) : Host.Outcome State Fault Refusal :=
  .next (s.putWord path (Reg.ctrl (Head.bus (ch % 8))) value)

/-- `METER_ENABLE` (R288). -/
def execMeterEnable (path : HostPath) (value : Word) (s : State) : Host.Outcome State Fault Refusal :=
  .next (s.putWord path (Reg.ctrl Head.meter) value)

/-- `THERM_ENABLE` (R347). -/
def execThermEnable (path : HostPath) (value : Word) (s : State) : Host.Outcome State Fault Refusal :=
  .next (s.putWord path (Reg.ctrl Head.therm) value)

/-- `ERR_CLEAR` (R33): a write of ERR_CODE. -/
def execErrClear (path : HostPath) (head : Nat) (value : Word) (s : State) : Host.Outcome State Fault Refusal :=
  .next (s.putWord path (Reg.errCode head) value)

/-- `PROT_KEY_WRITE` (R34). -/
def execProtKeyWrite (path : HostPath) (head : Nat) (value : Word) (s : State) : Host.Outcome State Fault Refusal :=
  .next (s.putWord path (head * 0x1000 + 0x028) value)

/-- `EVT_RAW_CLEAR` (R35, R36). -/
def execEvtRawClear (path : HostPath) (head : Nat) (value : Word) (s : State) : Host.Outcome State Fault Refusal :=
  .next (s.putWord path (Reg.evtRaw head) value)

/-- `EVT_MASK_WRITE` (R36). -/
def execEvtMaskWrite (path : HostPath) (head : Nat) (value : Word) (s : State) : Host.Outcome State Fault Refusal :=
  .next (s.putWord path (Reg.evtMask head) value)

/-- `SAFETY_CTRL_WRITE` (R41): AUTO_RESTART set past 4,000 beats of silence starts the warm start at once, with what that
start compares. -/
def execSafetyCtrlWrite (path : HostPath) (value : Word) (pairId crcOk partsOk : Bool) (s : State) : Host.Outcome State Fault Refusal :=
  let t := ({ s with safety := { s.safety with silentSince := none } }).putWord path Reg.SAFETY_CTRL value
  .next (({ t with safety := { t.safety with silentSince := s.safety.silentSince } }).autoRestart pairId crcOk partsOk)

/-- `FRAME_RUN` (R52): a write of FRAME_CTRL. -/
def execFrameRun (path : HostPath) (value : Word) (s : State) : Host.Outcome State Fault Refusal :=
  .next (s.putWord path Reg.FRAME_CTRL value)

/-- `FRAME_STOP` (R52): a write of FRAME_CTRL. -/
def execFrameStop (path : HostPath) (value : Word) (s : State) : Host.Outcome State Fault Refusal :=
  .next (s.putWord path Reg.FRAME_CTRL value)

/-- `CLR_MAX` (R52, R71): a write of FRAME_CTRL. -/
def execClrMax (path : HostPath) (value : Word) (s : State) : Host.Outcome State Fault Refusal :=
  .next (s.putWord path Reg.FRAME_CTRL value)

/-- `BEAT_ALARM_ARM` (R72): a write of BEAT_ALARM_HI. -/
def execBeatAlarmArm (path : HostPath) (value : Word) (s : State) : Host.Outcome State Fault Refusal :=
  .next (s.putWord path Reg.BEAT_ALARM_HI value)

/-- `TB_CFG_WRITE` (R88). -/
def execTbCfgWrite (path : HostPath) (base : Nat) (value : Word) (s : State) : Host.Outcome State Fault Refusal :=
  .next (s.putWord path (Reg.TB_CFG (base % 4)) value)

/-- `RTC_MEASURE` (R108): a write of RTC_CFG. -/
def execRtcMeasure (path : HostPath) (value : Word) (s : State) : Host.Outcome State Fault Refusal :=
  .next (s.putWord path Reg.RTC_CFG value)

/-- `PROCESS_IMAGE_WRITE` (R120); an address elsewhere is no write to this window. -/
def execProcessImageWrite (path : HostPath) (addr : Nat) (value : Word) (s : State) : Host.Outcome State Fault Refusal :=
  .next (if 0x600000 ≤ addr ∧ addr < 0x800000 then s.putWord path addr value else s)

/-- `SCAN_CTRL_WRITE` (R128). -/
def execScanCtrlWrite (path : HostPath) (value : Word) (s : State) : Host.Outcome State Fault Refusal :=
  .next (s.putWord path Reg.SCAN_CTRL value)

/-- `LOOP_WINDOW_WRITE` (R200); an address elsewhere is no write to this window. -/
def execLoopWindowWrite (path : HostPath) (addr : Nat) (value : Word) (s : State) : Host.Outcome State Fault Refusal :=
  .next (if 0x500000 ≤ addr ∧ addr < 0x540000 then s.putWord path addr value else s)

/-- `TALLY_WINDOW_WRITE` (R261); an address elsewhere is no write to this window. -/
def execTallyWindowWrite (path : HostPath) (addr : Nat) (value : Word) (s : State) : Host.Outcome State Fault Refusal :=
  .next (if 0x400000 ≤ addr ∧ addr < 0x500000 then s.putWord path addr value else s)

/-- `CLR_CNT` (R284): a write of FB_CTRL. -/
def execClrCnt (path : HostPath) (ch : Nat) (value : Word) (s : State) : Host.Outcome State Fault Refusal :=
  .next (s.putWord path (Reg.FB_CTRL (ch % 8)) value)

/-- `SEAM_WINDOW_WRITE` (R350, R351); an address elsewhere is no write to this window. -/
def execSeamWindowWrite (path : HostPath) (addr : Nat) (value : Word) (s : State) : Host.Outcome State Fault Refusal :=
  .next (if 0x800000 ≤ addr ∧ addr < 0x880000 then s.putWord path addr value else s)

/-- `SEAM_CMD_STORE` (R354). -/
def execSeamCmdStore (path : HostPath) (value : Word) (s : State) : Host.Outcome State Fault Refusal :=
  .next (s.putWord path Reg.SEAM_CMD value)

/-- `SEAM_HOLD_WRITE` (R359). -/
def execSeamHoldWrite (path : HostPath) (value : Word) (s : State) : Host.Outcome State Fault Refusal :=
  .next (s.putWord path Reg.SEAM_HOLD value)

/-- `PATH_ERR_CLEAR` (R447): a write of a path's INFO register. -/
def execPathErrClear (path : HostPath) (qspi : Bool) (value : Word) (s : State) : Host.Outcome State Fault Refusal :=
  .next (s.putWord path (if qspi then Reg.QSPI_ERR_INFO else Reg.PCIE_ERR_INFO) value)

end Sys2Proof.Machine
end

