-- ==== Sys2Proof/Machine/HostOps.lean ====
section
/-!
DEFINITION. The host paths and Octah's own opcodes (R421 to R449): the command window, quad-SPI, Ethernet, sessions,
register access by Octah, the journal; and the supplies and links of R422 and R527.
-/
namespace Sys2Proof.Machine

/-! ### The command window (R422, R423) -/

/-- The address a command-window access is recorded with (R447): the BAR2 offset, or the quad-SPI address. -/
def windowAddr (p : HostPath) (ofs : Nat) : Nat := if p = .pcie then ofs else 0x1000000 + ofs

/-- Bytes written to slot memory by a path. -/
def State.slotWrite (s : State) (p : HostPath) (ofs : Nat) (data : List Byte) : State :=
  if s.boot.held ∨ s.seam.pf = some .held ∨ data = [] ∨ 0x10000 < ofs + data.length then s
  else if ofs % 4 ≠ 0 ∨ data.length % 4 ≠ 0 then s.pathErr p (windowAddr p ofs) true true Code.badLength
  else
    let touched := (List.range 16).filter (fun k => decide (0x1000 * k < ofs + data.length ∧ ofs < 0x1000 * (k + 1)))
    if touched.all (fun k => (s.host.slots.map (·.mode))[k]? == some .free) then
      { s with host := { s.host with slotMem := s.host.slotMem.putN ofs data } }
    else s.pathErr p (windowAddr p ofs) true true Code.state

/-- `COMMAND_WINDOW_WRITE` (R423). -/
def execCommandWindowWrite (path : HostPath) (ofs : Nat) (data : List Byte) (s : State) : Host.Outcome State Fault Refusal :=
  .next (s.slotWrite path ofs data)

/-- `SLOT_POST` (R423): a write of SLOT_CTRL. -/
def execSlotPost (path : HostPath) (n : Nat) (value : Word) (s : State) : Host.Outcome State Fault Refusal :=
  .next (s.putWord path (Reg.SLOT_CTRL (n % 16)) value)

/-- `SLOT_RELEASE` (R423): a write of SLOT_CTRL. -/
def execSlotRelease (path : HostPath) (n : Nat) (value : Word) (s : State) : Host.Outcome State Fault Refusal :=
  .next (s.putWord path (Reg.SLOT_CTRL (n % 16)) value)

/-! ### Quad-SPI (R424 to R426) -/

/-- The host has used quad-SPI. -/
def State.qspiActive (s : State) : State := s.setFld Reg.HOST_STATUS 6 6 1

/-- A burst R424 allows: 1 to 256 words within a page of 4 KiB. -/
def burstOk (addr count : Nat) : Bool := decide (1 ≤ count ∧ count ≤ 256) && decide (addr / 4096 = (addr + 4 * count - 1) / 4096)

/-- A word at a quad-SPI address. -/
def State.qspiWord (s : State) (a : Nat) : Word × State :=
  if 0x1000000 ≤ a ∧ a < 0x1010000 then
    (if a % 4 ≠ 0 then (0, s.pathErr .qspi a true false Code.badLength) else (s.host.slotMem.word (a - 0x1000000), s))
  else s.readWord .qspi a

/-- The words of a burst, in order. -/
def State.qspiWords (s : State) (a : Nat) : Nat → List Word × State
  | 0 => ([], s)
  | n + 1 =>
    let (w, s1) := s.qspiWord a
    let (ws, s2) := s1.qspiWords (a + 4) n
    (w :: ws, s2)

/-- `QSPI_READ` (R424, R425): the marker, the words and the CRC; ended early it has no effect. -/
def execQspiRead (addr count : Nat) (stop : QspiEnd) (s : State) : Host.Outcome State Fault Refusal :=
  if s.boot.held ∨ s.seam.pf = some .held then .next s else
  let win := decide (0x400000 ≤ addr)
  let s := s.qspiActive
  match stop with
  | .early => .next s
  | .noMarker => .next (s.pathErr .qspi addr win false Code.timeout)
  | .full =>
    if burstOk addr count = false then .next (s.pathErr .qspi addr win false Code.badLength)
    else
      let (ws, s) := s.qspiWords addr count
      let body := ws.flatMap (fun w => leBytes 4 w.toNat)
      let crc := crc32c (leBytes 1 0x3C ++ leBytes 4 addr ++ leBytes 2 count ++ body)
      .next (s.emit (.qspi (leBytes 1 0xA5 ++ body ++ leBytes 4 crc.toNat)))

/-- The words of a WRITE applied in order. -/
def State.qspiApply (s : State) (a : Nat) : List Word → State
  | [] => s
  | w :: ws =>
    let s := if 0x1000000 ≤ a then s.slotWrite .qspi (a - 0x1000000) (leBytes 4 w.toNat) else s.regWrite .qspi a 4 w
    s.qspiApply (a + 4) ws

/-- A WRITE is discarded: WERR, and the path's record. -/
def State.qspiDiscard (s : State) (addr code : Nat) : State :=
  ({ s with host := { s.host with qspiErr := true } }).pathErr .qspi addr (decide (0x400000 ≤ addr)) true code

/-- `QSPI_WRITE` (R424, R426): `busy` is WBUSY as it began. Its words go through the write buffer in order. -/
def execQspiWrite (addr count : Nat) (words : List Word) (crcOk busy : Bool) (s : State) : Host.Outcome State Fault Refusal :=
  if s.boot.held ∨ s.seam.pf = some .held then .next s else
  let s := s.qspiActive
  if busy then .next (s.qspiDiscard addr Code.busy)
  else if crcOk = false then
    -- the CODE of a CRC failure is not stated
    let (w, s) := s.draw
    .next (s.qspiDiscard addr (w.toNat % 256))
  else if words.length ≠ count then .next (s.qspiDiscard addr Code.badLength)
  else if burstOk addr count = false then .next (s.pathErr .qspi addr (decide (0x400000 ≤ addr)) true Code.badLength)
  else .next (s.qspiApply addr words)

/-- `QSPI_STATUS` (R424, R426): WERR is reported once; `busy` is WBUSY. -/
def execQspiStatus (busy : Bool) (s : State) : Host.Outcome State Fault Refusal :=
  if s.boot.held ∨ s.seam.pf = some .held then .next s else
  let b := b2n busy + 2 * b2n s.host.qspiErr + 4 * b2n (!s.hostIntLow)
  .next ((({ s with host := { s.host with qspiErr := false } }).qspiActive).emit (.qspi [BitVec.ofNat 8 b]))

/-! ### Ethernet (R427, R428) -/

/-- The ETH block works: enabled, not silent, not in stump mode. -/
def State.ethLive (s : State) : Bool := s.enabled Head.eth && !s.silent && !s.stump

/-- With PRP on. -/
def State.prpOn (s : State) : Bool := s.fld Reg.ETH_CFG 0 0 == 1

/-- How long a PRP duplicate is remembered, ns: 400 ms. -/
abbrev prpForget : Nat := 400000000

/-- The first layer of a received frame: whether it goes on, errors and PRP duplicates taken out. PRP off, E1 carries PTP
alone. -/
def State.ethTake (s : State) (f : EthFrame) : Bool × State :=
  let err := if f.port = 0 then Reg.E0_RX_ERR else Reg.E1_RX_ERR
  if s.ethLive = false ∨ 1 < f.port ∨ s.fld Reg.ETH_CFG (f.port + 1) (f.port + 1) = 0 then (false, s)
  else if f.good = false then (false, s.incSat err)
  else if (if s.fld Reg.ETH_CFG 4 4 = 1 then f.vid != some (s.fld Reg.ETH_CFG 27 16) else f.vid.isSome) then (false, s)
  else if s.prpOn = false then (decide (f.port = 0), s)
  else match f.prp with
    | none => (true, s)
    | some (src, seq, lan) =>
      let s := if lan = f.port then s else s.incSat Reg.PRP_WRONG_LAN_CNT
      let live := s.host.prpSeen.filter (fun x => decide (s.nsCount < x.2.2 + prpForget))
      if live.any (fun x => x.1 == src && x.2.1 == seq) then (false, s.incWrap Reg.PRP_DUP_CNT)
      else (true, { s with host := { s.host with prpSeen := (src, seq, s.nsCount) :: live } })

/-- A datagram, or the fragments of one, is dropped. -/
def State.fragDrop (s : State) : State := (s.incSat Reg.FRAG_DROP_CNT).evt Head.eth 2

/-- A packet arrives (R431): discarded, or it waits. -/
def State.packetIn (s : State) (req : OctahReq) : State :=
  if Pkt.sound req.packet = false then s.incSat Reg.CRC_DROP_CNT
  else if 64 ≤ s.host.waiting.length then s.incSat Reg.RX_DROP_CNT
  else { s with host := { s.host with waiting := s.host.waiting ++ [req] } }

/-- The bytes of a reassembly, once its parts cover it. -/
def Reassembly.whole (r : Reassembly) : Option (List Byte) :=
  match r.total with
  | none => none
  | some n =>
    let m : Mem := r.parts.foldl (fun (m : Mem) x => m.putN x.1 x.2) []
    if (List.range n).all (fun k => r.parts.any (fun x => decide (x.1 ≤ k ∧ k < x.1 + x.2.length))) then some (m.getN 0 n) else none

/-- The longest datagram: 8 bytes of UDP header and a packet of 4,096. -/
abbrev datagramMax : Nat := 4104

/-- A datagram or fragment is taken (R428). -/
def State.datagram (s : State) (g : EthFragment) : State :=
  let src : ReqSource := .eth g.addr g.udp
  if datagramMax < g.ofs + g.data.length then
    ({ s with host := { s.host with reasm := s.host.reasm.filter (fun r => !(r.addr == g.addr && r.ident == g.ident)) } }).fragDrop
  else if g.ofs = 0 ∧ g.more = false then s.packetIn { src := src, packet := g.data.drop 8 }
  else
    let mine := fun (r : Reassembly) => r.addr == g.addr && r.ident == g.ident
    let held := s.host.reasm.find? mine
    if held.isNone ∧ 4 ≤ s.host.reasm.length then (if g.ofs = 0 then s.fragDrop else s)
    else
      let r0 : Reassembly := held.getD { addr := g.addr, ident := g.ident, startNs := s.nsCount, parts := [], total := none }
      let r : Reassembly := { r0 with parts := r0.parts ++ [(g.ofs, g.data)], total := if g.more then r0.total else some (g.ofs + g.data.length) }
      let rest := s.host.reasm.filter (fun r => !mine r)
      match r.whole with
      | some bs => ({ s with host := { s.host with reasm := rest } }).packetIn { src := src, packet := bs.drop 8 }
      | none => { s with host := { s.host with reasm := rest ++ [r] } }

/-- `OCTAH_DATAGRAM_RX` (R428). -/
def execOctahDatagramRx (f : EthFrame) (g : EthFragment) (s : State) : Host.Outcome State Fault Refusal :=
  let r := s.ethTake f
  .next (if r.1 then r.2.datagram g else r.2)

/-- `REASSEMBLY_TIMEOUT` (R428): those begun 1 s ago are dropped. -/
def execReassemblyTimeout (s : State) : Host.Outcome State Fault Refusal :=
  let old := s.host.reasm.filter (fun r => decide (r.startNs + 1000000000 ≤ s.nsCount))
  let s := { s with host := { s.host with reasm := s.host.reasm.filter (fun r => decide (s.nsCount < r.startNs + 1000000000)) } }
  .next (old.foldl (fun s _ => s.fragDrop) s)

/-- The MAC address of a port, 6 octets. -/
def State.mac (s : State) (port : Nat) : List Byte := leBytes 4 (s.macWord port 0) ++ leBytes 2 (s.macWord port 1)

/-- The IPv4 address. -/
def State.ipv4 (s : State) : List Byte := leBytes 4 (s.rg Reg.IPV4_ADDR).toNat

/-- The IPv6 addresses: the one set, and the link-local one from the MAC of E0. -/
def State.ipv6 (s : State) : List (List Byte) :=
  let m := s.mac 0
  [(List.range 4).flatMap (fun k => leBytes 4 (s.rg (Reg.IPV6_ADDR k)).toNat),
   [0xFE, 0x80, 0, 0, 0, 0, 0, 0, m.getD 0 0 ^^^ 2, m.getD 1 0, m.getD 2 0, 0xFF, 0xFE, m.getD 3 0, m.getD 4 0, m.getD 5 0]]

/-- An address is the device's own. -/
def State.ownAddr (s : State) (a : List Byte) : Bool :=
  if a.length = 4 then a == s.ipv4 else s.fld Reg.ETH_CFG 3 3 == 1 && s.ipv6.contains a

/-- The ports a reply goes out on. -/
def State.ethPorts (s : State) : List Nat := if s.prpOn then (List.range 2).filter (fun k => s.fld Reg.ETH_CFG (k + 1) (k + 1) == 1) else [0]

/-- A reply on the ports. -/
def State.netReply (s : State) (kind : String) (dest content : List Byte) : State :=
  s.ethPorts.foldl (fun s k => s.send (.netReply kind k dest content)) s

/-- `ARP_REQUEST` (R427): the reply gives the MAC address. -/
def execArpRequest (f : EthFrame) (senderMac senderIp target : List Byte) (s : State) : Host.Outcome State Fault Refusal :=
  let r := s.ethTake f
  .next (if r.1 ∧ target = r.2.ipv4 then r.2.netReply "ARP" senderMac (r.2.mac 0 ++ r.2.ipv4 ++ senderMac ++ senderIp) else r.2)

/-- `ICMP_ECHO` (R427): the reply carries the same content. -/
def execIcmpEcho (f : EthFrame) (src target content : List Byte) (s : State) : Host.Outcome State Fault Refusal :=
  let r := s.ethTake f
  .next (if r.1 ∧ r.2.ownAddr target = true then r.2.netReply (if target.length = 4 then "ICMP" else "ICMPv6") src content else r.2)

/-- `NEIGHBOR_DISCOVERY` (R427): a Neighbor Solicitation for an own IPv6 address is answered. -/
def execNeighborDiscovery (f : EthFrame) (src target : List Byte) (s : State) : Host.Outcome State Fault Refusal :=
  let r := s.ethTake f
  .next (if r.1 ∧ target.length = 16 ∧ r.2.ownAddr target = true then r.2.netReply "ND" src (target ++ r.2.mac 0) else r.2)

/-- `PRP_SUPERVISION` (R427): a frame on both LANs. -/
def execPrpSupervision (s : State) : Host.Outcome State Fault Refusal :=
  .next (if s.ethLive ∧ s.prpOn = true then
    let n := s.host.prpSup
    let s := s.ethPorts.foldl (fun s k => s.send (.prpSupervision k n (s.mac 0))) s
    { s with host := { s.host with prpSup := (n + 1) % 65536 } }
  else s)

/-- `LINK_CHANGE` (R449). -/
def execLinkChange (port : Nat) (up gbit : Bool) (s : State) : Host.Outcome State Fault Refusal :=
  if 1 < port then .next s else
  let was := s.fld Reg.ETH_STATUS port port
  let s := (s.setFld Reg.ETH_STATUS port port (b2n up)).setFld Reg.ETH_STATUS (port + 2) (port + 2) (b2n (up && gbit))
  .next ((if was = b2n up then s else s.evt Head.eth 1).ethRefresh)

/-! ### Opcodes (R440) -/

/-- A defined request opcode. -/
def opcodeDefined (o : Nat) : Bool :=
  let n := o % 256
  match o / 256 with
  | 0x00 => n ≤ 3
  | 0x01 | 0x0C => n ≤ 1
  | 0x02 => n ≤ 0x12
  | 0x03 => n ≤ 4
  | 0x04 => n ≤ 0x0A
  | 0x05 => n ≤ 6
  | 0x06 => n ≤ 9 || (0x10 ≤ n && n ≤ 0x18)
  | 0x07 | 0x09 | 0x0B => n ≤ 5
  | 0x08 => n ≤ 7
  | 0x0A => n ≤ 8
  | _ => false

/-- `OCTAH_UNDEFINED_OPCODE` (R435, row 4). -/
def execOctahUndefinedOpcode (req : OctahReq) (s : State) : Host.Outcome State Fault Refusal :=
  .next (if opcodeDefined (Pkt.opcode req.packet) ∨ req.src = .mirror then s
    else octah { opcode := Pkt.opcode req.packet, owner := false, len := fun _ => true, args := noArgs
                 legal := fun _ _ => some (.code Code.badOpcode), run := fun s _ => s } req s)

/-- `DEV_INFO`. -/
def execDevInfo (req : OctahReq) (s : State) : Host.Outcome State Fault Refusal :=
  .next (octah { opcode := 0x0000, owner := false, len := fun n => n == 0, args := noArgs, legal := always
                 run := fun s req => s.opOk req.tag
                   (leBytes 4 (s.rg Reg.DEV_PART).toNat ++ leBytes 4 (blkRev Head.dev) ++ leBytes 1 s.role ++ leBytes 1 (b2n (s.pairId == 1)) ++ leBytes 2 0 ++
                    s.mac 0 ++ s.mac 1 ++ leBytes 4 (s.rg Reg.FW_TAG).toNat ++ leBytes 4 (s.rg Reg.BUNDLE_TAG).toNat ++ idHash) } req s)

/-- A session identifier that is not zero (R432). -/
def sessionId (w : Word) : Word := BitVec.ofNat 32 (w.toNat % (2 ^ 32 - 1) + 1)

/-- `SESSION_OPEN` (R432, R456, R468). -/
def execSessionOpen (req : OctahReq) (s : State) : Host.Outcome State Fault Refusal :=
  .next (octah { opcode := opSessionOpen, owner := false, len := fun n => n == 20
                 args := fun _ p => firstBad [(1, zeroAt p 1 3)]
                 legal := always
                 run := fun s req =>
                   let n := natAt req.pl 0 1
                   match slotRefused (s.keySlot n) 2 2 with
                   | some c => (s.keyFail c).opFail req.tag (slotRefuse c)
                   | none =>
                   if 8 ≤ s.host.sessions.length then s.opFail req.tag (.code Code.noResource)
                   else if s.keys.rngOk = false then s.opFail req.tag (.code Code.aborted)
                   else
                   let (w, s) := s.draw
                   let (nonce, s) := s.drawBytes 16
                   let sid := sessionId w
                   let key := kmac (s.keySlot n).material (bytesAt req.pl 4 16 ++ nonce ++ leBytes 4 sid.toNat) (asciiBytes "FM9400 SESSION") 32
                   let x : Session := { id := sid, link := req.src.link, keySlot := n, key := key, rxHigh := 0, rxSeen := [], txCount := 0, lastNs := s.nsCount }
                   let s := { s with host := { s.host with sessions := s.host.sessions ++ [x] } }
                   (s.opStart req.tag).keyDone req.tag n (leBytes 4 sid.toNat ++ nonce) } req s)

/-- A session ends (R432): an update session it owns is ORPHANED. -/
def State.endSession (s : State) (id : Word) : State :=
  ({ s with host := { s.host with sessions := s.host.sessions.filter (fun x => x.id != id) } }).updOrphan id

/-- `SESSION_CLOSE`: its response still carries the session's MAC. -/
def execSessionClose (req : OctahReq) (s : State) : Host.Outcome State Fault Refusal :=
  .next (octah { opcode := 0x0002, owner := false, len := fun n => n == 0, args := noArgs, legal := always
                 run := fun s req => ((s.opStart req.tag).opOk req.tag []).endSession req.sid } req s)

/-- `SESSION_TIMEOUT` (R432): 60 s without a request. -/
def execSessionTimeout (id : Word) (s : State) : Host.Outcome State Fault Refusal :=
  .next (match s.session? id with
    | some x => if x.lastNs + 60000000000 ≤ s.nsCount then s.endSession id else s
    | none => s)

/-- `ECHO`. -/
def execEcho (req : OctahReq) (s : State) : Host.Outcome State Fault Refusal :=
  .next (octah { opcode := 0x0003, owner := false, len := fun n => decide (n ≤ 4032), args := noArgs, legal := always
                 run := fun s req => s.opOk req.tag req.pl } req s)

/-- The checks of a range of register words (R440, R543). -/
def regRange (p : List Byte) : List (Nat × Bool) :=
  let a := natAt p 0 4
  let n := natAt p 4 2
  [(0, a % 4 == 0 && decide (a < 0x1000000)), (4, decide (1 ≤ n ∧ n ≤ 1000) && decide (a + 4 * n ≤ 0x1000000)), (6, zeroAt p 6 2)]

/-- The words of consecutive addresses, in order. -/
def State.readWords (s : State) (p : HostPath) (a : Nat) : Nat → List Word × State
  | 0 => ([], s)
  | n + 1 =>
    let (w, s1) := s.readWord p a
    let (ws, s2) := s1.readWords p (a + 4) n
    (w :: ws, s2)

/-- The host path of an Octah register access. -/
def reqPath (req : OctahReq) : HostPath := .octah req.src.link req.sid

/-- `REG_READ`. -/
def execRegRead (req : OctahReq) (s : State) : Host.Outcome State Fault Refusal :=
  .next (octah { opcode := 0x0100, owner := false, len := fun n => n == 8, args := fun _ p => firstBad (regRange p), legal := always
                 run := fun s req =>
                   let r := s.readWords (reqPath req) (natAt req.pl 0 4) (natAt req.pl 4 2)
                   r.2.opOk req.tag (r.1.flatMap (fun w => leBytes 4 w.toNat)) } req s)

/-- The words written in order, up to the first that is refused, which still leaves its record: how many were applied, and
the refusing code and address. -/
def State.writeWords (s : State) (p : HostPath) (a done : Nat) : List Word → State × Nat × Option (Nat × Nat)
  | [] => (s, done, none)
  | w :: ws =>
    let c := s.writeCode p a w
    if c = 0 then (s.regWrite p a 4 w).writeWords p (a + 4) (done + 1) ws
    else (s.regWrite p a 4 w, done, some (c, a))

/-- `REG_WRITE`. -/
def execRegWrite (req : OctahReq) (s : State) : Host.Outcome State Fault Refusal :=
  .next (octah { opcode := 0x0101, owner := false, len := fun n => decide (8 ≤ n), fits := fun p => p.length == 8 + 4 * natAt p 4 2
                 args := fun _ p => firstBad (regRange p), legal := always
                 run := fun s req =>
                   let p := req.pl
                   let ws := (List.range (natAt p 4 2)).map (fun k => BitVec.ofNat 32 (natAt p (8 + 4 * k) 4))
                   let (s, n, bad) := (s.opStart req.tag).writeWords (reqPath req) (natAt p 0 4) 0 ws
                   match bad with
                   | none => s.opEnd req.tag Code.ok (leBytes 2 n ++ leBytes 2 0) n
                   | some (c, a) =>
                     if n ≠ 0 then s.opEnd req.tag Code.partialDone (leBytes 2 n ++ leBytes 2 0) n
                     else s.opFail req.tag (if c = Code.state then .state (errHead a) else if c = Code.badArg then .arg 8 else .code c) } req s)

/-- `JOURNAL_READ`. -/
def execJournalRead (req : OctahReq) (s : State) : Host.Outcome State Fault Refusal :=
  .next (octah { opcode := 0x0C00, owner := false, len := fun n => n == 4
                 args := fun _ p => firstBad [(1, decide (1 ≤ natAt p 1 1 ∧ natAt p 1 1 ≤ 15 ∧ natAt p 0 1 + natAt p 1 1 ≤ 256)), (2, zeroAt p 2 2)]
                 legal := always
                 run := fun s req => s.opOk req.tag
                   ((List.range (natAt req.pl 1 1)).flatMap (fun k => JEntry.bytes (natAt req.pl 0 1 + k) (s.jentry (natAt req.pl 0 1 + k)))) } req s)

/-- `JOURNAL_RELEASE` (R442): the final entries of the mask become FREE. -/
def execJournalRelease (req : OctahReq) (s : State) : Host.Outcome State Fault Refusal :=
  .next (octah { opcode := 0x0C01, owner := false, len := fun n => n == 32, args := noArgs, legal := always
                 run := fun s req =>
                   let ts := (List.range 256).filter (fun t => bit (natAt req.pl 0 32) t && (s.jentry t).state.final)
                   let s := ts.foldl (fun s t => s.modJ t (fun _ => JEntry.free)) (s.opStart req.tag)
                   s.opOk req.tag (leBytes 2 ts.length ++ leBytes 2 0) } req s)

/-! ### Supplies and the PCI Express link (R422, R527) -/

/-- A supply's flag. -/
def State.supplyFlag (s : State) (x : Supply) (ok : Bool) : State :=
  match x with
  | .vinBus => s.setFld Reg.PWR_STATUS 1 1 (b2n ok)
  | .vinAfe => s.setFld Reg.PWR_STATUS 2 2 (b2n ok)
  | .vio k => if 1 ≤ k ∧ k ≤ 4 then s.modBoot (fun b => { b with vio := setBits b.vio (k - 1) (k - 1) (b2n ok) }) else s

/-- `SUPPLY_OUT_OF_RANGE` (R527): the transceivers release their buses, the AFE stops, or the bank's balls float and read
low. -/
def execSupplyOutOfRange (supply : Supply) (s : State) : Host.Outcome State Fault Refusal := .next (s.supplyFlag supply false)

/-- `SUPPLY_RETURN` (R527). -/
def execSupplyReturn (supply : Supply) (s : State) : Host.Outcome State Fault Refusal := .next (s.supplyFlag supply true)

/-- `PCIE_RESET`: PERST_N low holds the endpoint in reset; it has no link. -/
def execPcieReset (s : State) : Host.Outcome State Fault Refusal := .next (s.setFld Reg.HOST_STATUS 5 0 0)

/-- `PCIE_LINK_CHANGE` (R422, R448): the link trains up, of a width and speed, or goes down. -/
def execPcieLinkChange (up : Bool) (width speed : Nat) (msix : Bool) (s : State) : Host.Outcome State Fault Refusal :=
  .next (s.setFld Reg.HOST_STATUS 5 0 (if up then 1 + 2 * (width % 4) + 8 * (speed % 4) + 32 * b2n msix else 0))

end Sys2Proof.Machine
end

