-- ==== Sys2Proof/Machine/Latch.lean ====
section
/-!
DEFINITION. Phase P0 (R55, R56, R61, R120, R138, R200, R219, R261, R306): the latch of a beat from the unit's own inputs, and
in a standby from the owner's input raft (R388, R389, R394).
-/
namespace Sys2Proof.Machine

/-- FRAME with its state replaced by a function of it. -/
def State.modFrame (s : State) (f : FrameState → FrameState) : State := { s with frame := f s.frame }

/-- The pair's log of what the latch writes, on or off. -/
def State.setLogging (s : State) (b : Bool) : State := s.modPair (fun p => { p with logging := b })

/-! ### Mode and force changes (R125, R130, R138, R139) -/

/-- A suspended cycle continues in the interval that begins now (R130). -/
def State.goOn (s : State) (p : Nat) : State :=
  s.modSlot p (fun x => { x with suspended := false, cycle := if x.suspended then x.cycle.map (fun (c : Cycle) => { c with f0 := s.beat, passed := true }) else x.cycle })

/-- A mode change takes effect at a scheduled start of its slot. One that starts a program waits for its initialisation
(R126), which P3 of a beat makes for the next; a slot whose engine has stopped starts none (R127). -/
def State.applyReq (s : State) (p : Nat) : State :=
  match (s.slot p).req with
  | none => s
  | some (at_, r) =>
    if s.beat < at_ ∨ schedAt (s.image p) s.beat = false then s else
    let clear := s.modSlot p (fun x => { x with req := none })
    match r with
    | .start 2 =>
      if s.scan.dead.contains (Image.engine (s.image p)) then clear
      else (clear.modSlot p (fun x => { x with suspended := false, stepping := false, cycle := none, resumeAt := 0, safeDue := false })).setMode p .run
    | .start _ => s
    | .stop => clear.stopProg p (if (s.slot p).suspended then 2 else 1)
    | .hold => (clear.exchFailOf p 2).setMode p .hold
    | .resume => (clear.goOn p).setMode p .run
    | .step => (clear.goOn p).modSlot p (fun x => { x with stepping := true })

/-- PROG_STOP with ABORT takes effect at its boundary. -/
def State.applyAbort (s : State) (p : Nat) : State :=
  match (s.slot p).abortAt with
  | some b => if b ≤ s.beat then s.stopProg p 2 else s
  | none => s

/-- The mode changes of a boundary. -/
def State.modeChanges (s : State) : State := (List.range 32).foldl (fun s p => (s.applyAbort p).applyReq p) s

/-- The force changes accepted in the beat before. -/
def State.forceChanges (s : State) : State :=
  s.scan.forceQ.foldl State.applyForce { s with scan := { s.scan with forceQ := [] } }

/-! ### Cycles that begin (R60, R61) -/

/-- A slot begins a cycle at this beat's latch: in RUN, or under PROG_STEP, at a scheduled start, with none in progress. -/
def State.starts (s : State) (p : Nat) : Bool :=
  let x := s.slot p
  s.enabled Head.scan && (x.mode == .run || (x.mode == .hold && x.stepping)) && x.req.isNone && x.cycle.isNone && schedAt x.image s.beat &&
    decide (x.resumeAt ≤ s.beat)

/-- The slots that do, ascending. -/
def State.starting (s : State) : List Nat := (List.range 32).filter s.starts

/-- The levels of the lines a slot's LIO records name (R151, R481), as BOOLs of its I section. -/
def State.lioCopies (s : State) (p : Nat) : State :=
  (s.lio.recs.filter (fun r => r.dir == 0 && r.slot == p)).foldl (fun s r =>
    s.putData (s.secBase p 0 + r.ofs) [if bit s.lio.levels r.line then 1 else 0]) s

/-- The input forces of a slot, written last (R138). -/
def State.inputForces (s : State) (p : Nat) : State :=
  s.forces.foldl (fun s e =>
    if e.2.2.2.1 = 0 then
      (match (Image.syms (s.image p)).find? (fun y => y.id == e.2.1 && y.area == 0) with
       | some y => s.putData (s.symAddr p y) (valueBytes y.type e.2.2.2.2)
       | none => s)
    else s) s

/-- Step 2 of R55 for a program that begins a cycle. -/
def State.latchProgram (s : State) (p : Nat) : State :=
  (((s.latchCopies p).lioCopies p).meterCopies p).inputForces p

/-- A program's cycle begins with what the latch took. -/
def State.beginCycle (s : State) (p : Nat) : State :=
  (s.setCycle p (Cycle.start (s.image p) s.beat (s.planSnap s.beat) (s.scan.data.slice lArea (forceArea - lArea)))).noteStarted p

/-! ### The input raft (R388) -/

/-- A section's bytes for the loops due with a Tally measurement: loop, two reserved bytes, the raw field. -/
def State.loopSection (s : State) : List Byte :=
  s.loop.inputs.flatMap (fun x => leBytes 2 x.1 ++ leBytes 2 0 ++ bytesAt x.2.1 (s.lbits x.1 0x44 17 12) 4)

/-- Section LIO. -/
def State.lioSection (s : State) : List Byte :=
  leBytes 4 (s.rg Reg.LIO_IN_LO).toNat ++ leBytes 4 (s.rg Reg.LIO_IN_HI).toNat ++
    ([Reg.LIO_FWD, Reg.LIO_REV, Reg.LIO_PTS].flatMap (fun r => (List.range 32).flatMap (fun n => leBytes 4 (s.rg (r n)).toNat)))

/-- The binding values of a solve that starts at this beat (R216). -/
def State.bindSection (s : State) : List Byte :=
  if s.disp.model ≠ [] ∧ s.solveDue.isSome ∧ s.disp.solve.isNone then (Model.bindings s.disp.model).flatMap (fun x => leBytes 8 (s.bindSource x)) else []

/-- Section PLAN_SNAP: the step, and whether every channel is at fallback. -/
def State.snapSection (s : State) : List Byte :=
  let n := s.planSnap s.beat
  leBytes 2 n.step ++ leBytes 1 (b2n n.plan.isNone) ++ leBytes 1 0

/-- Link bytes of a message: header, padded payload, CRC (R386). -/
def linkBytes (n : Nat) : Nat := 12 + (n + 3) / 4 * 4

/-- The owner sends the input raft of the beat, then, with the timing role, the SOF_OFFSET values (R71, R101). -/
def State.inputRaft (s : State) : State :=
  let own := s.pair.sections
  let more := [(1, (s.loop.inputs.head?.map (·.1)).getD 0, s.loopSection), (2, 0, s.lioSection), (3, 0, s.bindSection),
               (4, 0, s.pair.hostRecs.flatten), (5, 0, s.snapSection)].filter (fun x => x.2.2 != [])
  let all := own ++ more
  let s := all.foldl (fun s x => s.send (.mirror 0x01 x.1 x.2.1 x.2.2)) s
  let bytes := (all.map (fun x => x.2.2.length)).sum
  let s := s.send (.mirror 0x02 0 (s.beat % 2 ^ 32) (leBytes 8 s.beat ++ leBytes 4 all.length ++ leBytes 4 bytes))
  let s := s.peak Reg.INPUT_RAFT_MAX ((all.map (fun x => linkBytes x.2.2.length)).sum + linkBytes 16)
  s.modPair (fun p => { p with sections := [], hostRecs := [] })

/-- The SOF_OFFSET values of the unit with the timing role (R101). -/
def State.followSend (s : State) : State :=
  if s.inPair ∧ s.timingRole then s.send (.followValue ((List.range 8).map (fun ch => (ch, s.sofOffset ch)))) else s

/-! ### HOST records in the standby (R121, R131, R140, R202, R239) -/

/-- The state a step goes on with. -/
def nextOr (s : State) : Host.Outcome State Fault Refusal → State
  | .next t => t
  | _ => s

/-- The commands the owner forwards, by opcode. -/
def mirrorExec (opcode : Nat) (req : OctahReq) (s : State) : Host.Outcome State Fault Refusal :=
  match opcode with
  | 0x0201 => execProgStart req s
  | 0x0202 => execProgStop req s
  | 0x0203 => execProgHold req s
  | 0x0204 => execProgResume req s
  | 0x0205 => execProgStep req s
  | 0x0206 => execBreakSet req s
  | 0x0207 => execBreakClear req s
  | 0x0208 => execForceSet req s
  | 0x0209 => execForceClear req s
  | 0x020C => execSymWrite req s
  | 0x020D => execStageOpen req s
  | 0x020F => execStageCheck req s
  | 0x0210 => execExchange req s
  | 0x0211 => execStageDiscard req s
  | 0x0302 => execLoopMode req s
  | 0x0303 => execLoopParamSet req s
  | 0x0304 => execLoopClear req s
  | 0x0401 => execDispParamSet req s
  | 0x0402 => execDispSchedSet req s
  | 0x0403 => execDispSolve req s
  | 0x0404 => execDispAbort req s
  | 0x0405 => execDispDataWrite req s
  | 0x0502 => execTallyWrite req s
  | 0x0607 => execMeterCopySet req s
  | 0x0614 => execThermCopySet req s
  | 0x0616 => execBillSave req s
  | _ => .next s

/-- A record applied as if this unit had accepted it: a window write, or a request. -/
def State.hostRecord (s : State) (opcode : Nat) (payload : List Byte) : State :=
  if opcode = 0xFFFF then s.windowWrite (natAt payload 0 4) (BitVec.ofNat 32 (natAt payload 4 4))
  else nextOr s (mirrorExec opcode { src := .mirror, packet := Pkt.build 4 0 0 opcode 0 0 0 0 payload [] 0 } s)

/-- The records of a section in their order; each is at least 4 bytes. -/
def State.hostRecords (s : State) : Nat → List Byte → State
  | 0, _ => s
  | _, [] => s
  | n + 1, bs => (s.hostRecord (natAt bs 0 2) (bytesAt bs 4 (natAt bs 2 2))).hostRecords n (bs.drop (4 + natAt bs 2 2))

/-- The HOST records of a beat: accepted in the owner in the beat before, by the unit that owns control. -/
def State.takeRecords (s : State) (bs : List Byte) : State :=
  let ns := s.time.ns
  let st := s.rg (Reg.status Head.pair)
  let recs := s.pair.hostRecs
  let s := ({ s with time := { s.time with ns := ns - 250000 } }).setRg (Reg.status Head.pair) (wset st 7 4 Pair.active)
  let s := s.hostRecords bs.length bs
  (({ s with time := { s.time with ns := ns } }).setRg (Reg.status Head.pair) st).modPair (fun p => { p with hostRecs := recs })

/-- The sections of a kind received in this beat. -/
def State.sectionsOf (s : State) (kind : Nat) : List (Nat × Nat × List Byte) := s.pair.sections.filter (fun x => x.1 == kind)

/-- LOOP_IN over the own input copies: the raw field of each loop listed. -/
def State.overlayLoops (s : State) (bs : List Byte) : State :=
  let raw := (List.range (bs.length / 8)).map (fun k => (natAt bs (8 * k) 2, bytesAt bs (8 * k + 4) 4))
  { s with loop := { s.loop with inputs := s.loop.inputs.map (fun x =>
      match raw.find? (fun r => r.1 == x.1) with
      | some r =>
        let n := if s.lbits x.1 0x44 20 18 ≤ 1 then 2 else 4
        (x.1, setBytes x.2.1 (s.lbits x.1 0x44 17 12) (r.2.take n), x.2.2)
      | none => x) } }

/-- The LIO registers shown: levels, counters and stamps. -/
def State.showLio (s : State) : State :=
  let s := (s.setRg Reg.LIO_IN_LO (BitVec.ofNat 32 s.lio.levels)).setRg Reg.LIO_IN_HI (BitVec.ofNat 32 (s.lio.levels / 2 ^ 32))
  (List.range 32).foldl (fun s n => ((s.setRg (Reg.LIO_FWD n) (s.lio.fwd.getD n 0)).setRg (Reg.LIO_REV n) (s.lio.rev.getD n 0)).setRg
    (Reg.LIO_PTS n) (s.lio.stamp.getD n 0)) s

/-- Section LIO in the standby. -/
def State.overlayLio (s : State) (bs : List Byte) : State :=
  let words (o : Nat) : List Word := (List.range 32).map (fun n => BitVec.ofNat 32 (natAt bs (o + 4 * n) 4))
  ({ s with lio := { s.lio with levels := natAt bs 0 8 % 2 ^ 48, fwd := words 8, rev := words 136, stamp := words 264 } }).showLio

/-- What the raft holds beside the I bytes is taken in place of own inputs (R388). -/
def State.takeSections (s : State) : State :=
  let s := (s.sectionsOf 2).foldl (fun s x => s.overlayLio x.2.2) s
  let s := (s.sectionsOf 3).foldl (fun s x => s.modPair (fun p => { p with
    bind := some ((List.range (x.2.2.length / 8)).map (fun k => natAt x.2.2 (8 * k) 8)) })) s
  (s.sectionsOf 5).foldl (fun s x => s.modPair (fun p => { p with snapIn := some (natAt x.2.2 0 2, natAt x.2.2 2 1 == 1) })) s

/-! ### The latch (R55) -/

/-- Step 2 of R55: the I sections of the programs that begin a cycle, from own inputs or from the raft; then NEW and LOST of
their rounds' entries are cleared (R260). -/
def State.latchInputs (s : State) (raft : Bool) (ps : List Nat) : State :=
  let s :=
    if raft then (s.sectionsOf 0).foldl (fun s x => s.putData x.2.1 x.2.2) s
    else (ps.foldl State.latchProgram (s.setLogging (s.inPair && s.pairOwner))).setLogging false
  ps.foldl State.clearNew s

/-- The latch of a unit that does process work. In the standby a force or mode change that takes effect at this beat comes
with the raft (R131, R140). -/
def State.latchWork (s : State) (raft : Bool) : State :=
  let s := if raft then ((s.sectionsOf 4).foldl (fun s x => s.takeRecords x.2.2) s).forceChanges.modeChanges.takeSections else s
  let s := s.applyHostCtrl.applyLoopChanges.applyHostData.takeCopies
  let ps := s.starting
  let s := (s.latchInputs raft ps).latchLoops
  let s := if raft then (s.sectionsOf 1).foldl (fun s x => s.overlayLoops x.2.2) s else s
  let s := s.applyHostQ.latchPlan
  (ps.foldl State.beginCycle s).extSend

/-- What follows the latch in P0: the input raft, the SOF_OFFSET values and the lease messages. -/
def State.latchSend (s : State) : State :=
  let s := if s.inPair ∧ s.pairOwner then s.inputRaft else s
  (s.followSend).leaseSend

/-- LATCH_LATE (R56): once in a beat, at 25 µs. -/
def State.latchLate (s : State) : State :=
  if s.running = false ∨ s.frame.phase ≠ .p0 ∨ s.frame.latched = true ∨ s.frame.late = true then s
  else (((s.advanceTo 25000).incSat Reg.LATCH_LATE_CNT).evt Head.frame 1).modFrame (fun f => { f with late := true })

/-- LATCH_TIMEOUT (R56): at 100 µs, a WATCHDOG fault of FRAME, by which the beat's work and commit are withheld. -/
def State.latchTimeout (s : State) : State :=
  if s.running = false ∨ s.frame.phase ≠ .p0 ∨ s.frame.latched = true ∨ s.frame.withheld = true then s
  else (s.advanceTo 100000).faultInfo Cls.watchdog Head.frame none none

/-- The latch of a beat completes at an offset; one past 25 µs, or past 100 µs, is late as R56 says. -/
def State.latch (s : State) (raft : Bool) (ofs : Nat) : State :=
  if s.running = false ∨ s.frame.phase ≠ .p0 ∨ s.frame.latched = true then s else
  let s := if 25000 < ofs then s.latchLate else s
  let s := if 100000 < ofs then s.latchTimeout else s
  let s := s.advanceTo ofs
  if s.running = false then s else
  let s := if s.works ∧ s.frame.withheld = false then s.latchWork raft else s
  let s := (s.modFrame (fun f => { f with latched := true })).peak Reg.LATCH_END_MAX s.beatOfs
  s.latchSend

/-- The unit latches from the owner's input raft. -/
def State.fromRaft (s : State) : Bool := s.inPair && (s.pairSt == Pair.standby || (s.pairSt == Pair.joining && s.joinedReady))

/-- `P0_LATCH` (R55): a unit that latches from the input raft waits for it. -/
def execP0Latch (ofs : Nat) (s : State) : Host.Outcome State Fault Refusal :=
  .next (if s.silent ∨ s.fromRaft then s else s.latch false ofs)

/-- `LATCH_LATE` (R56). -/
def execLatchLate (s : State) : Host.Outcome State Fault Refusal := .next (if s.silent then s else s.latchLate)

/-- `LATCH_TIMEOUT` (R56). -/
def execLatchTimeout (s : State) : Host.Outcome State Fault Refusal := .next (if s.silent then s else s.latchTimeout)

/-! ### The raft received (R388, R389) -/

/-- The input raft is awaited: in P0 before the latch. -/
def State.awaitsRaft (s : State) : Bool := s.fromRaft && s.running && s.frame.phase == .p0 && !s.frame.latched

/-- `INPUT_SECTION` (R388). -/
def execInputSection (crcOk : Bool) (kind : Nat) (arg : Nat) (data : List Byte) (s : State) : Host.Outcome State Fault Refusal :=
  .next (s.linkMsg crcOk none (fun s =>
    if s.awaitsRaft then s.modPair (fun p => { p with sections := p.sections ++ [(kind, arg, data)] }) else s))

/-- `INPUT_END` (R388): a complete raft of this beat completes the latch. -/
def execInputEnd (crcOk : Bool) (beat : Nat) (sections : Nat) (bytes : Nat) (s : State) : Host.Outcome State Fault Refusal :=
  .next (s.linkMsg crcOk none (fun s =>
    if s.awaitsRaft ∧ beat = s.beat ∧ s.pair.sections.length = sections ∧ (s.pair.sections.map (fun x => x.2.2.length)).sum = bytes then
      (s.latch true s.beatOfs).modPair (fun p => { p with inputEnd := some (sections, bytes), inputDone := true })
    else s))

/-- `INPUT_RAFT_DEADLINE` (R389): at 25 µs without the complete raft the unit latches its own inputs; unless the partner's
heartbeat of the beat before was missed too, a STANDBY unit enters JOINING and INPUT_LATE is logged. -/
def execInputRaftDeadline (s : State) : Host.Outcome State Fault Refusal :=
  .next (if s.silent ∨ s.awaitsRaft = false then s else
    let s := (s.modPair (fun p => { p with sections := [] })).latch false 25000
    if s.pairSt ≠ Pair.standby ∨ s.pair.missAt = some (s.beat - 1) then s
    else (s.logDivergence 3 0 ((s.pair.last.map (·.2)).getD Digest.zero).s (natAt s.pair.hb 8 8)).setPair Pair.joining)

end Sys2Proof.Machine
end

