-- ==== Sys2Proof/Machine/Blocks.lean ====
section
/-!
DEFINITION. The block instructions over instance records (R134 to R136, R166, R167).
-/
namespace Sys2Proof.Machine

/-- An instance record (R167), by its fields. -/
structure BlockRec where
  q : Bool
  prev : Bool
  prevB : Bool
  fresh : Bool
  active : Bool
  qd : Bool
  count : Int
  preset : Int
deriving DecidableEq, Repr

/-- Counts saturate (R135). -/
def cnt32 (i : Int) : Int := satS 32 i

/-- The record after an evaluation with its inputs, in the order of R166, and its preset: PT_c of a timer, PV of a counter
(R135, R136). -/
def blockEval (kind : Nat) (inp : Nat → Bool) (preset : Int) (r : BlockRec) : BlockRec :=
  let i := inp 0
  let fresh := r.fresh
  let prev := if fresh then i else r.prev
  let prevB := if fresh then inp 1 else r.prevB
  let rising := i && !prev
  let falling := !i && prev
  let r := { r with prev := i, fresh := false, preset := preset }
  let up (c : Int) : Int := min (c + 1) preset
  match kind with
  | 0 =>
    let c := if !i then 0 else if rising then 0 else if fresh then r.count else up r.count
    { r with count := c, q := i && decide (preset ≤ c) }
  | 1 =>
    let c := if i then 0 else if falling then 0 else up r.count
    let act := if i then false else if falling then true else r.active
    let act := if !i && decide (preset ≤ c) then false else act
    { r with count := c, active := act, q := i || act }
  | 2 =>
    let c := if r.active then up r.count else r.count
    let act := r.active && decide (c < preset)
    let begins := rising && !act
    let c := if begins then 0 else c
    let act := if begins then decide (0 < preset) else act
    { r with count := c, active := act, q := act }
  | 3 =>
    let c := if inp 1 then 0 else if rising then cnt32 (r.count + 1) else r.count
    { r with count := c, q := decide (preset ≤ c) }
  | 4 =>
    let c := if inp 1 then preset else if rising then cnt32 (r.count - 1) else r.count
    { r with count := c, q := decide (c ≤ 0) }
  | 5 =>
    let down := inp 1 && !prevB
    let c := if inp 2 then 0 else if inp 3 then preset
      else cnt32 (cnt32 (r.count + (if rising then 1 else 0)) - (if down then 1 else 0))
    { r with prevB := inp 1, count := c, q := decide (preset ≤ c), qd := decide (c ≤ 0) }
  | 6 => { r with q := rising }
  | _ => { r with q := falling }

/-- The number of inputs a block takes from registers, a preset register not counted. -/
def blockInputs (kind : Nat) : Nat := if kind = 3 ∨ kind = 4 then 2 else if kind = 5 then 4 else 1

/-- An input register lies beyond g31, which is illegal (R166). -/
def blockIllegal (kind : Nat) (a : SReg) (vp : Bool) : Bool := decide (31 < a.toNat + blockInputs kind - 1 + b2n vp)

/-- The register `n` above a register. -/
def SReg.up (a : SReg) (n : Nat) : SReg := BitVec.ofNat 5 (a.toNat + n)

/-- The fields of a record at an address of program data. -/
def blockRead (d : Mem) (a : Nat) : BlockRec :=
  let st := d.nat (a + 5) 1
  { q := bit st 0, prev := bit st 1, prevB := bit st 2, fresh := bit st 3, active := bit st 4, qd := bit st 5,
    count := sext 32 (d.nat (a + 8) 4), preset := sext 32 (d.nat (a + 12) 4) }

/-- A record written back: STATE, COUNT, PRESET and, for a timer, ET. -/
def blockWrite (d : Mem) (a kind k : Nat) (r : BlockRec) : Mem :=
  let st := b2n r.q + 2 * b2n r.prev + 4 * b2n r.prevB + 8 * b2n r.fresh + 16 * b2n r.active + 32 * b2n r.qd
  let d := ((d.putNat (a + 5) 1 st).putNat (a + 8) 4 (unsx 32 r.count)).putNat (a + 12) 4 (unsx 32 r.preset)
  d.putNat (a + 16) 8 (if isTimer kind then unsx 64 (r.count * (k * 250 : Nat)) else 0)

/-- A block instruction (R166). -/
def scanBlock (kind : Nat) (s : State) (p : Nat) (c : Cycle) (d a x : SReg) (vp rs : Bool) (num : BitVec 9) : ScanRes :=
  if blockIllegal kind a vp ∨ (vp = true ∧ 6 ≤ kind) then .trap Trap.illegal (0x30 + kind) else
  let m := s.image p
  let n := (num.toNat + (c.rd x).toNat) % 2 ^ 64
  if (if rs then Image.instR m else Image.instN m) ≤ n then .trap Trap.inst kind else
  let adr := s.secBase p (if rs then 7 else 6) + 32 * n
  if s.scan.data.nat (adr + 4) 1 ≠ kind then .trap Trap.inst kind else
  let r := blockRead s.scan.data adr
  let pr : Int :=
    if vp then
      let v := ival false (c.rd (SReg.up a (blockInputs kind)))
      if isTimer kind then (presetCycles (Image.k m) v : Nat) else v
    else r.preset
  let r := blockEval kind (fun i => c.rd (SReg.up a i) != 0) pr r
  let dt := blockWrite s.scan.data adr kind (Image.k m) r
  let s := ({ s with scan := { s.scan with data := dt } }).foldMem 0 dt adr 32
  writeNext s c d (bres r.q)

end Sys2Proof.Machine
end

