-- ==== Sys2Proof/Machine/ScanIsa.lean ====
section
/-!
DEFINITION. The scan instructions (R162 to R170): one operation each on the state and the cycle that executes it, the
cost of each, and the meaning of each as a command: the instruction executes on the cycle in progress of a slot.
-/
namespace Sys2Proof.Machine

/-! ### Integer and bit operations (R163, R547) -/

/-- An integer operation of a width on two registers. -/
def intOp (f : Int → Int → Int) (w : Bool) (s : State) (c : Cycle) (d a b : SReg) : ScanRes :=
  writeNext s c d (ires w (f (ival w (c.rd a)) (ival w (c.rd b))))

/-- A bitwise operation of a width. -/
def bitOp (f : DWord → DWord → DWord) (w : Bool) (s : State) (c : Cycle) (d a b : SReg) : ScanRes :=
  let v := f (c.rd a) (c.rd b)
  writeNext s c d (if w then v else (v.setWidth 32).signExtend 64)

/-- An integer comparison. -/
def cmpOp (f : Int → Int → Bool) (w : Bool) (s : State) (c : Cycle) (d a b : SReg) : ScanRes :=
  writeNext s c d (bres (f (ival w (c.rd a)) (ival w (c.rd b))))

/-- A division or remainder: DIV_ZERO on a zero divisor. -/
def divOp (f : Int → Int → Int) (w : Bool) (s : State) (c : Cycle) (d a b : SReg) : ScanRes :=
  if ival w (c.rd b) = 0 then .trap Trap.divZero 0 else intOp f w s c d a b

/-- A shift count: the low 5 or 6 bits of [b] (R162). -/
def shiftCount (w : Bool) (v : DWord) : Nat := if w then v.toNat % 64 else v.toNat % 32

/-- A shift of a width. -/
def shiftOp (f64v : BitVec 64 → Nat → BitVec 64) (f32v : BitVec 32 → Nat → BitVec 32) (w : Bool) (s : State) (c : Cycle) (d a b : SReg) : ScanRes :=
  let n := shiftCount w (c.rd b)
  writeNext s c d (if w then f64v (c.rd a) n else (f32v ((c.rd a).setWidth 32) n).signExtend 64)

/-- A floating operation on two registers. -/
def fltOp (f : Fmt → Nat → Nat → Nat) (w : Bool) (s : State) (c : Cycle) (d a b : SReg) : ScanRes :=
  writeNext s c d (fres (f (ffmt w) (fval w (c.rd a)) (fval w (c.rd b))))

/-- A floating operation on one register. -/
def fltOp1 (f : Fmt → Nat → Nat) (w : Bool) (s : State) (c : Cycle) (d a : SReg) : ScanRes :=
  writeNext s c d (fres (f (ffmt w) (fval w (c.rd a))))

/-- A floating comparison. -/
def fcmpOp (f : Fmt → Nat → Nat → Bool) (w : Bool) (s : State) (c : Cycle) (d a b : SReg) : ScanRes :=
  writeNext s c d (bres (f (ffmt w) (fval w (c.rd a)) (fval w (c.rd b))))

/-- FTOI and FRND: the integer of a float. -/
def toIntOp (nearest w dbl : Bool) (s : State) (c : Cycle) (d a : SReg) : ScanRes :=
  writeNext s c d (ires w ((ffmt dbl).toInt (if w then 64 else 32) nearest (fval dbl (c.rd a))))

/-! ### Branches (R165) -/

/-- A branch: to its target inside the code section, or CODE_BOUND. -/
def branchTo (s : State) (p : Nat) (c : Cycle) (ofs : Int) (f : Cycle → Nat → Cycle) : ScanRes :=
  let t : Int := (c.pc : Int) + 4 * ofs
  if t < 0 ∨ (Image.codeLen (s.image p) : Int) ≤ t then .trap Trap.codeBound 0 else .ok s (f c t.toNat)

/-- A conditional branch. -/
def branchIf (cond : Bool) (s : State) (p : Nat) (c : Cycle) (imm : BitVec 16) : ScanRes :=
  if cond then branchTo s p c imm.toInt (fun c t => { c with pc := t }) else .ok s c.next

/-! ### Plan and loop instructions (R168, R169) -/

/-- The channel [a] + IMM16, or CHANNEL. -/
def chanOp (s : State) (c : Cycle) (d a : SReg) (imm : Nat) (f : Nat → DWord) : ScanRes :=
  let ch := ((c.rd a).toNat + imm) % 2 ^ 64
  if 8192 ≤ ch then .trap Trap.channel 0 else writeNext s c d (f ch)

/-- The status word of a channel. -/
def State.planStatus (s : State) (n : PlanSnap) (ch : Nat) : Nat :=
  if s.planFallback n ch then 1 else n.step * 256 + n.left * 65536

/-- The address of the L word IMM16 names, or none for a loop of 1,024 or more. -/
def lWord (c : Cycle) (a : SReg) (imm : BitVec 16) : Option Nat :=
  let n := ((c.rd a).toNat + imm.toNat / 32) % 2 ^ 64
  if 1024 ≤ n then none else some (lArea + 128 * n + 4 * (imm.toNat % 32))

/-! ### One instruction -/

/-- What an instruction does to the state and the cycle that executes it; a constructor that is no scan instruction is
illegal with no OP. -/
def scanEffect (i : Instr) (s : State) (p : Nat) (c : Cycle) : ScanRes :=
  match i with
  | .opNop _ => .ok s c.next
  | .opEnd _ => .ok (s.endCycle p c) { c with done := true }
  | .opRet _ =>
    match c.stack with
    | [] => .trap Trap.callDepth 1
    | t :: r => .ok s { c with pc := t, stack := r }
  | .opTrap _ detail => .trap Trap.user detail.toNat
  | .opIllegalInstruction _ w => .trap Trap.illegal (wbits w 31 26)
  | .opAdd _ w d a b => intOp (· + ·) w s c d a b
  | .opSub _ w d a b => intOp (· - ·) w s c d a b
  | .opMul _ w d a b => intOp (· * ·) w s c d a b
  | .opDiv _ w d a b => divOp Int.tdiv w s c d a b
  | .opRem _ w d a b => divOp Int.tmod w s c d a b
  | .opAbs _ w d a => writeNext s c d (ires w ((ival w (c.rd a)).natAbs : Nat))
  | .opMin _ w d a b => intOp min w s c d a b
  | .opMax _ w d a b => intOp max w s c d a b
  | .opAnd _ w d a b => bitOp (· &&& ·) w s c d a b
  | .opOr _ w d a b => bitOp (· ||| ·) w s c d a b
  | .opXor _ w d a b => bitOp (· ^^^ ·) w s c d a b
  | .opNot _ w d a => bitOp (fun x _ => ~~~x) w s c d a 0
  | .opShl _ w d a b => shiftOp (· <<< ·) (· <<< ·) w s c d a b
  | .opShr _ w d a b => shiftOp (· >>> ·) (· >>> ·) w s c d a b
  | .opSar _ w d a b => shiftOp BitVec.sshiftRight BitVec.sshiftRight w s c d a b
  | .opSel _ d a b cc => writeNext s c d (if c.rd cc = 0 then c.rd b else c.rd a)
  | .opFadd _ w d a b => fltOp Fmt.add w s c d a b
  | .opFsub _ w d a b => fltOp Fmt.sub w s c d a b
  | .opFmul _ w d a b => fltOp Fmt.mul w s c d a b
  | .opFdiv _ w d a b => fltOp Fmt.div w s c d a b
  | .opFma _ w d a b cc => fltOp (fun f x y => f.fma x y (fval w (c.rd cc))) w s c d a b
  | .opFneg _ w d a => fltOp1 Fmt.neg w s c d a
  | .opFabs _ w d a => fltOp1 Fmt.abs w s c d a
  | .opFsqrt _ w d a => fltOp1 Fmt.sqrt w s c d a
  | .opFmin _ w d a b => fltOp Fmt.min w s c d a b
  | .opFmax _ w d a b => fltOp Fmt.max w s c d a b
  | .opCeq _ w d a b => cmpOp (fun x y => x == y) w s c d a b
  | .opCne _ w d a b => cmpOp (fun x y => x != y) w s c d a b
  | .opClt _ w d a b => cmpOp (fun x y => decide (x < y)) w s c d a b
  | .opCle _ w d a b => cmpOp (fun x y => decide (x ≤ y)) w s c d a b
  | .opFceq _ w d a b => fcmpOp Fmt.eq w s c d a b
  | .opFclt _ w d a b => fcmpOp Fmt.lt w s c d a b
  | .opFcle _ w d a b => fcmpOp Fmt.le w s c d a b
  | .opFcun _ w d a b => fcmpOp (fun f x y => f.isNan x || f.isNan y) w s c d a b
  | .opItof _ w dbl d a => writeNext s c d (fres ((ffmt dbl).ofInt (ival w (c.rd a))))
  | .opFtoi _ w dbl d a => toIntOp false w dbl s c d a
  | .opFrnd _ w dbl d a => toIntOp true w dbl s c d a
  | .opSatw _ d a => writeNext s c d (ires false (satS 32 (c.rd a).toInt))
  | .opFwid _ d a => writeNext s c d (fres (f32.conv f64 (fval false (c.rd a))))
  | .opFnar _ d a => writeNext s c d (fres (f64.conv f32 (c.rd a).toNat))
  | .opAddiw _ d a imm => writeNext s c d (ires false (ival false (c.rd a) + imm.toInt))
  | .opAddil _ d a imm => writeNext s c d (ires true (ival true (c.rd a) + imm.toInt))
  | .opAndi _ d a imm => writeNext s c d (c.rd a &&& imm.setWidth 64)
  | .opOri _ d a imm => writeNext s c d (c.rd a ||| imm.setWidth 64)
  | .opXori _ d a imm => writeNext s c d (c.rd a ^^^ imm.setWidth 64)
  | .opLui _ d imm => writeNext s c d (wres (imm.toNat * 65536))
  | .opBtst _ d a n => writeNext s c d (bres (bit (c.rd a).toNat n.toNat))
  | .opBset _ d a n => writeNext s c d (c.rd a ||| BitVec.ofNat 64 (2 ^ n.toNat))
  | .opBclr _ d a n => writeNext s c d (c.rd a &&& ~~~(BitVec.ofNat 64 (2 ^ n.toNat)))
  | .opLdb _ d a ar disp => scanLoad s p c d a ar disp 1 (fun v => bres (v != 0))
  | .opLdw _ d a ar disp => scanLoad s p c d a ar disp 4 wres
  | .opLdd _ d a ar disp => scanLoad s p c d a ar disp 8 (BitVec.ofNat 64)
  | .opStb _ d a ar disp => scanStore s p c .store a ar disp [if c.rd d = 0 then 0 else 1] (s.forceHolds p)
  | .opStw _ d a ar disp => scanStore s p c .store a ar disp (leBytes 4 (c.rd d).toNat) (s.forceHolds p)
  | .opStd _ d a ar disp => scanStore s p c .store a ar disp (leBytes 8 (c.rd d).toNat) (s.forceHolds p)
  | .opStfb _ d a ar disp => scanStore s p c .force a ar disp [if c.rd d = 0 then 0 else 1] (s.forceHolds p)
  | .opStfw _ d a ar disp => scanStore s p c .force a ar disp (leBytes 4 (c.rd d).toNat) (s.forceHolds p)
  | .opStfd _ d a ar disp => scanStore s p c .force a ar disp (leBytes 8 (c.rd d).toNat) (s.forceHolds p)
  | .opBr _ ofs => branchTo s p c ofs.toInt (fun c t => { c with pc := t })
  | .opCall _ ofs =>
    if 16 ≤ c.stack.length then .trap Trap.callDepth 0
    else branchTo s p c ofs.toInt (fun c t => { c with pc := t, stack := (c.pc + 4) :: c.stack })
  | .opBt _ d imm => branchIf (c.rd d != 0) s p c imm
  | .opBf _ d imm => branchIf (c.rd d == 0) s p c imm
  | .opSpr _ d a imm => chanOp s c d a imm.toNat (fun ch => (s.planValue c.snap ch 0).setWidth 64)
  | .opSpra _ d a b =>
    if 48 ≤ (c.rd b).toNat ∧ (c.rd a).toNat < 8192 then .trap Trap.channel 1
    else chanOp s c d a 0 (fun ch => (s.planValue c.snap ch (c.rd b).toNat).setWidth 64)
  | .opSps _ d a imm => chanOp s c d a imm.toNat (fun ch => BitVec.ofNat 64 (s.planStatus c.snap ch))
  | .opLin _ d a imm =>
    match lWord c a imm with
    | none => .trap Trap.loopIndex 0
    | some o => writeNext s c d (wres ((if 16 ≤ imm.toNat % 32 then c.lArea else s.scan.data).nat o 4))
  | .opLout _ d a imm =>
    match lWord c a imm with
    | none => .trap Trap.loopIndex 0
    | some o => if 16 ≤ imm.toNat % 32 then .trap Trap.areaWrite 8 else .ok ((s.putData o (leBytes 4 (c.rd d).toNat)).modSlot p (fun x => { x with lWrote := o :: x.lWrote })) c.next
  | .opTon _ d a x vp rs num => scanBlock 0 s p c d a x vp rs num
  | .opTof _ d a x vp rs num => scanBlock 1 s p c d a x vp rs num
  | .opTp _ d a x vp rs num => scanBlock 2 s p c d a x vp rs num
  | .opCtu _ d a x vp rs num => scanBlock 3 s p c d a x vp rs num
  | .opCtd _ d a x vp rs num => scanBlock 4 s p c d a x vp rs num
  | .opCtud _ d a x vp rs num => scanBlock 5 s p c d a x vp rs num
  | .opRTrig _ d a x rs num => scanBlock 6 s p c d a x false rs num
  | .opFTrig _ d a x rs num => scanBlock 7 s p c d a x false rs num
  | _ => .trap Trap.illegal 0

/-- The cost of an instruction in engine cycles (R162); TRAP and an illegal one cost 1 (R170). -/
def scanCost (i : Instr) : Nat :=
  let two (w : Bool) (n l : Nat) : Nat := if w then l else n
  let blk (kind : Nat) (a : SReg) (vp : Bool) (n v : Nat) : Nat := if blockIllegal kind a vp then 1 else if vp then v else n
  match i with
  | .opEnd _ => 4
  | .opRet _ => 3
  | .opMul _ w _ _ _ => two w 3 4
  | .opDiv _ w _ _ _ => two w 18 34
  | .opRem _ w _ _ _ => two w 18 34
  | .opFadd _ _ _ _ _ => 4
  | .opFsub _ _ _ _ _ => 4
  | .opFmul _ w _ _ _ => two w 4 5
  | .opFdiv _ w _ _ _ => two w 14 28
  | .opFma _ w _ _ _ _ => two w 5 6
  | .opFsqrt _ w _ _ => two w 16 30
  | .opFmin _ _ _ _ _ => 2
  | .opFmax _ _ _ _ _ => 2
  | .opFceq _ _ _ _ _ => 2
  | .opFclt _ _ _ _ _ => 2
  | .opFcle _ _ _ _ _ => 2
  | .opFcun _ _ _ _ _ => 2
  | .opItof _ _ _ _ _ => 3
  | .opFtoi _ _ _ _ _ => 3
  | .opFrnd _ _ _ _ _ => 3
  | .opFwid _ _ _ => 2
  | .opFnar _ _ _ => 3
  | .opLdb _ _ _ _ _ => 2
  | .opLdw _ _ _ _ _ => 2
  | .opLdd _ _ _ _ _ => 2
  | .opStb _ _ _ _ _ => 2
  | .opStw _ _ _ _ _ => 2
  | .opStd _ _ _ _ _ => 2
  | .opStfb _ _ _ _ _ => 3
  | .opStfw _ _ _ _ _ => 3
  | .opStfd _ _ _ _ _ => 3
  | .opBr _ _ => 2
  | .opCall _ _ => 3
  | .opBt _ _ _ => 2
  | .opBf _ _ _ => 2
  | .opSpr _ _ _ _ => 6
  | .opSpra _ _ _ _ => 8
  | .opSps _ _ _ _ => 4
  | .opLin _ _ _ _ => 3
  | .opLout _ _ _ _ => 3
  | .opTon _ _ a _ vp _ _ => blk 0 a vp 10 34
  | .opTof _ _ a _ vp _ _ => blk 1 a vp 10 34
  | .opTp _ _ a _ vp _ _ => blk 2 a vp 10 34
  | .opCtu _ _ a _ vp _ _ => blk 3 a vp 8 9
  | .opCtd _ _ a _ vp _ _ => blk 4 a vp 8 9
  | .opCtud _ _ a _ vp _ _ => blk 5 a vp 10 11
  | .opRTrig _ _ _ _ _ _ => 6
  | .opFTrig _ _ _ _ _ _ => 6
  | _ => 1

/-- The cycle in progress of a slot, that an engine may run: not suspended and not at its END. -/
def State.liveCycle (s : State) (p : Nat) : Option Cycle :=
  match (s.slot p).cycle with
  | some c => if (s.slot p).suspended || c.done then none else some c
  | none => none

/-- An instruction whose whole cost has been delivered takes its effect, or traps (R170, R171). -/
def State.scanApply (s : State) (p : Nat) (c : Cycle) (i : Instr) : State :=
  match scanEffect i s p c with
  | .ok t c' => t.setCycle p { c' with paid := 0, passed := false }
  | .trap code detail => s.trap p c code detail

/-- An instruction executes on the cycle in progress of a slot: what is left of its cost, and of the 40 cycles of entry work
before the first, is delivered, and it takes its effect. A slot without one executes nothing. -/
def State.scanInstr (s : State) (p : Nat) (i : Instr) : State :=
  match s.liveCycle p with
  | none => s
  | some c =>
    let left := scanCost i + (if c.entered then 0 else 40) - c.paid
    (s.useEngine (Image.engine (s.image p)) left).scanApply p { c with cost := c.cost + left, entered := true } i

/-! ### The commands -/

/-- `NOP` (R162). -/
def execOpNop (slot : Nat) (s : State) : Host.Outcome State Fault Refusal :=
  .next (s.scanInstr slot (.opNop slot))

/-- `END` (R165). -/
def execOpEnd (slot : Nat) (s : State) : Host.Outcome State Fault Refusal :=
  .next (s.scanInstr slot (.opEnd slot))

/-- `RET` (R165). -/
def execOpRet (slot : Nat) (s : State) : Host.Outcome State Fault Refusal :=
  .next (s.scanInstr slot (.opRet slot))

/-- `TRAP` (R170). -/
def execOpTrap (slot : Nat) (detail : Byte) (s : State) : Host.Outcome State Fault Refusal :=
  .next (s.scanInstr slot (.opTrap slot detail))

/-- `ILLEGAL_INSTRUCTION` (R157). -/
def execOpIllegalInstruction (slot : Nat) (word : Word) (s : State) : Host.Outcome State Fault Refusal :=
  .next (s.scanInstr slot (.opIllegalInstruction slot word))

/-- `ADD` (R162). -/
def execOpAdd (slot : Nat) (w : Bool) (d : SReg) (a : SReg) (b : SReg) (s : State) : Host.Outcome State Fault Refusal :=
  .next (s.scanInstr slot (.opAdd slot w d a b))

/-- `SUB` (R162). -/
def execOpSub (slot : Nat) (w : Bool) (d : SReg) (a : SReg) (b : SReg) (s : State) : Host.Outcome State Fault Refusal :=
  .next (s.scanInstr slot (.opSub slot w d a b))

/-- `MUL` (R162). -/
def execOpMul (slot : Nat) (w : Bool) (d : SReg) (a : SReg) (b : SReg) (s : State) : Host.Outcome State Fault Refusal :=
  .next (s.scanInstr slot (.opMul slot w d a b))

/-- `DIV` (R163). -/
def execOpDiv (slot : Nat) (w : Bool) (d : SReg) (a : SReg) (b : SReg) (s : State) : Host.Outcome State Fault Refusal :=
  .next (s.scanInstr slot (.opDiv slot w d a b))

/-- `REM` (R163). -/
def execOpRem (slot : Nat) (w : Bool) (d : SReg) (a : SReg) (b : SReg) (s : State) : Host.Outcome State Fault Refusal :=
  .next (s.scanInstr slot (.opRem slot w d a b))

/-- `ABS` (R162). -/
def execOpAbs (slot : Nat) (w : Bool) (d : SReg) (a : SReg) (s : State) : Host.Outcome State Fault Refusal :=
  .next (s.scanInstr slot (.opAbs slot w d a))

/-- `MIN` (R162). -/
def execOpMin (slot : Nat) (w : Bool) (d : SReg) (a : SReg) (b : SReg) (s : State) : Host.Outcome State Fault Refusal :=
  .next (s.scanInstr slot (.opMin slot w d a b))

/-- `MAX` (R162). -/
def execOpMax (slot : Nat) (w : Bool) (d : SReg) (a : SReg) (b : SReg) (s : State) : Host.Outcome State Fault Refusal :=
  .next (s.scanInstr slot (.opMax slot w d a b))

/-- `AND` (R162). -/
def execOpAnd (slot : Nat) (w : Bool) (d : SReg) (a : SReg) (b : SReg) (s : State) : Host.Outcome State Fault Refusal :=
  .next (s.scanInstr slot (.opAnd slot w d a b))

/-- `OR` (R162). -/
def execOpOr (slot : Nat) (w : Bool) (d : SReg) (a : SReg) (b : SReg) (s : State) : Host.Outcome State Fault Refusal :=
  .next (s.scanInstr slot (.opOr slot w d a b))

/-- `XOR` (R162). -/
def execOpXor (slot : Nat) (w : Bool) (d : SReg) (a : SReg) (b : SReg) (s : State) : Host.Outcome State Fault Refusal :=
  .next (s.scanInstr slot (.opXor slot w d a b))

/-- `NOT` (R162). -/
def execOpNot (slot : Nat) (w : Bool) (d : SReg) (a : SReg) (s : State) : Host.Outcome State Fault Refusal :=
  .next (s.scanInstr slot (.opNot slot w d a))

/-- `SHL` (R162). -/
def execOpShl (slot : Nat) (w : Bool) (d : SReg) (a : SReg) (b : SReg) (s : State) : Host.Outcome State Fault Refusal :=
  .next (s.scanInstr slot (.opShl slot w d a b))

/-- `SHR` (R162). -/
def execOpShr (slot : Nat) (w : Bool) (d : SReg) (a : SReg) (b : SReg) (s : State) : Host.Outcome State Fault Refusal :=
  .next (s.scanInstr slot (.opShr slot w d a b))

/-- `SAR` (R162). -/
def execOpSar (slot : Nat) (w : Bool) (d : SReg) (a : SReg) (b : SReg) (s : State) : Host.Outcome State Fault Refusal :=
  .next (s.scanInstr slot (.opSar slot w d a b))

/-- `SEL` (R162). -/
def execOpSel (slot : Nat) (d : SReg) (a : SReg) (b : SReg) (c : SReg) (s : State) : Host.Outcome State Fault Refusal :=
  .next (s.scanInstr slot (.opSel slot d a b c))

/-- `FADD` (R164). -/
def execOpFadd (slot : Nat) (w : Bool) (d : SReg) (a : SReg) (b : SReg) (s : State) : Host.Outcome State Fault Refusal :=
  .next (s.scanInstr slot (.opFadd slot w d a b))

/-- `FSUB` (R164). -/
def execOpFsub (slot : Nat) (w : Bool) (d : SReg) (a : SReg) (b : SReg) (s : State) : Host.Outcome State Fault Refusal :=
  .next (s.scanInstr slot (.opFsub slot w d a b))

/-- `FMUL` (R164). -/
def execOpFmul (slot : Nat) (w : Bool) (d : SReg) (a : SReg) (b : SReg) (s : State) : Host.Outcome State Fault Refusal :=
  .next (s.scanInstr slot (.opFmul slot w d a b))

/-- `FDIV` (R164). -/
def execOpFdiv (slot : Nat) (w : Bool) (d : SReg) (a : SReg) (b : SReg) (s : State) : Host.Outcome State Fault Refusal :=
  .next (s.scanInstr slot (.opFdiv slot w d a b))

/-- `FMA` (R164). -/
def execOpFma (slot : Nat) (w : Bool) (d : SReg) (a : SReg) (b : SReg) (c : SReg) (s : State) : Host.Outcome State Fault Refusal :=
  .next (s.scanInstr slot (.opFma slot w d a b c))

/-- `FNEG` (R164). -/
def execOpFneg (slot : Nat) (w : Bool) (d : SReg) (a : SReg) (s : State) : Host.Outcome State Fault Refusal :=
  .next (s.scanInstr slot (.opFneg slot w d a))

/-- `FABS` (R164). -/
def execOpFabs (slot : Nat) (w : Bool) (d : SReg) (a : SReg) (s : State) : Host.Outcome State Fault Refusal :=
  .next (s.scanInstr slot (.opFabs slot w d a))

/-- `FSQRT` (R164). -/
def execOpFsqrt (slot : Nat) (w : Bool) (d : SReg) (a : SReg) (s : State) : Host.Outcome State Fault Refusal :=
  .next (s.scanInstr slot (.opFsqrt slot w d a))

/-- `FMIN` (R164). -/
def execOpFmin (slot : Nat) (w : Bool) (d : SReg) (a : SReg) (b : SReg) (s : State) : Host.Outcome State Fault Refusal :=
  .next (s.scanInstr slot (.opFmin slot w d a b))

/-- `FMAX` (R164). -/
def execOpFmax (slot : Nat) (w : Bool) (d : SReg) (a : SReg) (b : SReg) (s : State) : Host.Outcome State Fault Refusal :=
  .next (s.scanInstr slot (.opFmax slot w d a b))

/-- `CEQ` (R162). -/
def execOpCeq (slot : Nat) (w : Bool) (d : SReg) (a : SReg) (b : SReg) (s : State) : Host.Outcome State Fault Refusal :=
  .next (s.scanInstr slot (.opCeq slot w d a b))

/-- `CNE` (R162). -/
def execOpCne (slot : Nat) (w : Bool) (d : SReg) (a : SReg) (b : SReg) (s : State) : Host.Outcome State Fault Refusal :=
  .next (s.scanInstr slot (.opCne slot w d a b))

/-- `CLT` (R162). -/
def execOpClt (slot : Nat) (w : Bool) (d : SReg) (a : SReg) (b : SReg) (s : State) : Host.Outcome State Fault Refusal :=
  .next (s.scanInstr slot (.opClt slot w d a b))

/-- `CLE` (R162). -/
def execOpCle (slot : Nat) (w : Bool) (d : SReg) (a : SReg) (b : SReg) (s : State) : Host.Outcome State Fault Refusal :=
  .next (s.scanInstr slot (.opCle slot w d a b))

/-- `FCEQ` (R164). -/
def execOpFceq (slot : Nat) (w : Bool) (d : SReg) (a : SReg) (b : SReg) (s : State) : Host.Outcome State Fault Refusal :=
  .next (s.scanInstr slot (.opFceq slot w d a b))

/-- `FCLT` (R164). -/
def execOpFclt (slot : Nat) (w : Bool) (d : SReg) (a : SReg) (b : SReg) (s : State) : Host.Outcome State Fault Refusal :=
  .next (s.scanInstr slot (.opFclt slot w d a b))

/-- `FCLE` (R164). -/
def execOpFcle (slot : Nat) (w : Bool) (d : SReg) (a : SReg) (b : SReg) (s : State) : Host.Outcome State Fault Refusal :=
  .next (s.scanInstr slot (.opFcle slot w d a b))

/-- `FCUN` (R162). -/
def execOpFcun (slot : Nat) (w : Bool) (d : SReg) (a : SReg) (b : SReg) (s : State) : Host.Outcome State Fault Refusal :=
  .next (s.scanInstr slot (.opFcun slot w d a b))

/-- `ITOF` (R162). -/
def execOpItof (slot : Nat) (w : Bool) (dbl : Bool) (d : SReg) (a : SReg) (s : State) : Host.Outcome State Fault Refusal :=
  .next (s.scanInstr slot (.opItof slot w dbl d a))

/-- `FTOI` (R164). -/
def execOpFtoi (slot : Nat) (w : Bool) (dbl : Bool) (d : SReg) (a : SReg) (s : State) : Host.Outcome State Fault Refusal :=
  .next (s.scanInstr slot (.opFtoi slot w dbl d a))

/-- `FRND` (R164). -/
def execOpFrnd (slot : Nat) (w : Bool) (dbl : Bool) (d : SReg) (a : SReg) (s : State) : Host.Outcome State Fault Refusal :=
  .next (s.scanInstr slot (.opFrnd slot w dbl d a))

/-- `SATW` (R162). -/
def execOpSatw (slot : Nat) (d : SReg) (a : SReg) (s : State) : Host.Outcome State Fault Refusal :=
  .next (s.scanInstr slot (.opSatw slot d a))

/-- `FWID` (R162). -/
def execOpFwid (slot : Nat) (d : SReg) (a : SReg) (s : State) : Host.Outcome State Fault Refusal :=
  .next (s.scanInstr slot (.opFwid slot d a))

/-- `FNAR` (R162). -/
def execOpFnar (slot : Nat) (d : SReg) (a : SReg) (s : State) : Host.Outcome State Fault Refusal :=
  .next (s.scanInstr slot (.opFnar slot d a))

/-- `ADDIW` (R547). -/
def execOpAddiw (slot : Nat) (d : SReg) (a : SReg) (imm : BitVec 16) (s : State) : Host.Outcome State Fault Refusal :=
  .next (s.scanInstr slot (.opAddiw slot d a imm))

/-- `ADDIL` (R547). -/
def execOpAddil (slot : Nat) (d : SReg) (a : SReg) (imm : BitVec 16) (s : State) : Host.Outcome State Fault Refusal :=
  .next (s.scanInstr slot (.opAddil slot d a imm))

/-- `ANDI` (R547). -/
def execOpAndi (slot : Nat) (d : SReg) (a : SReg) (imm : BitVec 16) (s : State) : Host.Outcome State Fault Refusal :=
  .next (s.scanInstr slot (.opAndi slot d a imm))

/-- `ORI` (R547). -/
def execOpOri (slot : Nat) (d : SReg) (a : SReg) (imm : BitVec 16) (s : State) : Host.Outcome State Fault Refusal :=
  .next (s.scanInstr slot (.opOri slot d a imm))

/-- `XORI` (R547). -/
def execOpXori (slot : Nat) (d : SReg) (a : SReg) (imm : BitVec 16) (s : State) : Host.Outcome State Fault Refusal :=
  .next (s.scanInstr slot (.opXori slot d a imm))

/-- `LUI` (R162). -/
def execOpLui (slot : Nat) (d : SReg) (imm : BitVec 16) (s : State) : Host.Outcome State Fault Refusal :=
  .next (s.scanInstr slot (.opLui slot d imm))

/-- `BTST` (R162). -/
def execOpBtst (slot : Nat) (d : SReg) (a : SReg) (n : BitVec 6) (s : State) : Host.Outcome State Fault Refusal :=
  .next (s.scanInstr slot (.opBtst slot d a n))

/-- `BSET` (R162). -/
def execOpBset (slot : Nat) (d : SReg) (a : SReg) (n : BitVec 6) (s : State) : Host.Outcome State Fault Refusal :=
  .next (s.scanInstr slot (.opBset slot d a n))

/-- `BCLR` (R162). -/
def execOpBclr (slot : Nat) (d : SReg) (a : SReg) (n : BitVec 6) (s : State) : Host.Outcome State Fault Refusal :=
  .next (s.scanInstr slot (.opBclr slot d a n))

/-- `LDB` (R159). -/
def execOpLdb (slot : Nat) (d : SReg) (a : SReg) (area : BitVec 3) (disp : BitVec 13) (s : State) : Host.Outcome State Fault Refusal :=
  .next (s.scanInstr slot (.opLdb slot d a area disp))

/-- `LDW` (R159). -/
def execOpLdw (slot : Nat) (d : SReg) (a : SReg) (area : BitVec 3) (disp : BitVec 13) (s : State) : Host.Outcome State Fault Refusal :=
  .next (s.scanInstr slot (.opLdw slot d a area disp))

/-- `LDD` (R159). -/
def execOpLdd (slot : Nat) (d : SReg) (a : SReg) (area : BitVec 3) (disp : BitVec 13) (s : State) : Host.Outcome State Fault Refusal :=
  .next (s.scanInstr slot (.opLdd slot d a area disp))

/-- `STB` (R159). -/
def execOpStb (slot : Nat) (d : SReg) (a : SReg) (area : BitVec 3) (disp : BitVec 13) (s : State) : Host.Outcome State Fault Refusal :=
  .next (s.scanInstr slot (.opStb slot d a area disp))

/-- `STW` (R159). -/
def execOpStw (slot : Nat) (d : SReg) (a : SReg) (area : BitVec 3) (disp : BitVec 13) (s : State) : Host.Outcome State Fault Refusal :=
  .next (s.scanInstr slot (.opStw slot d a area disp))

/-- `STD` (R159). -/
def execOpStd (slot : Nat) (d : SReg) (a : SReg) (area : BitVec 3) (disp : BitVec 13) (s : State) : Host.Outcome State Fault Refusal :=
  .next (s.scanInstr slot (.opStd slot d a area disp))

/-- `STFB` (R160). -/
def execOpStfb (slot : Nat) (d : SReg) (a : SReg) (area : BitVec 3) (disp : BitVec 13) (s : State) : Host.Outcome State Fault Refusal :=
  .next (s.scanInstr slot (.opStfb slot d a area disp))

/-- `STFW` (R160). -/
def execOpStfw (slot : Nat) (d : SReg) (a : SReg) (area : BitVec 3) (disp : BitVec 13) (s : State) : Host.Outcome State Fault Refusal :=
  .next (s.scanInstr slot (.opStfw slot d a area disp))

/-- `STFD` (R160). -/
def execOpStfd (slot : Nat) (d : SReg) (a : SReg) (area : BitVec 3) (disp : BitVec 13) (s : State) : Host.Outcome State Fault Refusal :=
  .next (s.scanInstr slot (.opStfd slot d a area disp))

/-- `BR` (R165). -/
def execOpBr (slot : Nat) (ofs : BitVec 26) (s : State) : Host.Outcome State Fault Refusal :=
  .next (s.scanInstr slot (.opBr slot ofs))

/-- `CALL` (R165). -/
def execOpCall (slot : Nat) (ofs : BitVec 26) (s : State) : Host.Outcome State Fault Refusal :=
  .next (s.scanInstr slot (.opCall slot ofs))

/-- `BT` (R162). -/
def execOpBt (slot : Nat) (d : SReg) (imm : BitVec 16) (s : State) : Host.Outcome State Fault Refusal :=
  .next (s.scanInstr slot (.opBt slot d imm))

/-- `BF` (R162). -/
def execOpBf (slot : Nat) (d : SReg) (imm : BitVec 16) (s : State) : Host.Outcome State Fault Refusal :=
  .next (s.scanInstr slot (.opBf slot d imm))

/-- `SPR` (R168). -/
def execOpSpr (slot : Nat) (d : SReg) (a : SReg) (imm : BitVec 16) (s : State) : Host.Outcome State Fault Refusal :=
  .next (s.scanInstr slot (.opSpr slot d a imm))

/-- `SPRA` (R168). -/
def execOpSpra (slot : Nat) (d : SReg) (a : SReg) (b : SReg) (s : State) : Host.Outcome State Fault Refusal :=
  .next (s.scanInstr slot (.opSpra slot d a b))

/-- `SPS` (R168). -/
def execOpSps (slot : Nat) (d : SReg) (a : SReg) (imm : BitVec 16) (s : State) : Host.Outcome State Fault Refusal :=
  .next (s.scanInstr slot (.opSps slot d a imm))

/-- `LIN` (R169). -/
def execOpLin (slot : Nat) (d : SReg) (a : SReg) (imm : BitVec 16) (s : State) : Host.Outcome State Fault Refusal :=
  .next (s.scanInstr slot (.opLin slot d a imm))

/-- `LOUT` (R169). -/
def execOpLout (slot : Nat) (d : SReg) (a : SReg) (imm : BitVec 16) (s : State) : Host.Outcome State Fault Refusal :=
  .next (s.scanInstr slot (.opLout slot d a imm))

/-- `TON` (R135). -/
def execOpTon (slot : Nat) (d : SReg) (a : SReg) (x : SReg) (vp : Bool) (rs : Bool) (num : BitVec 9) (s : State) : Host.Outcome State Fault Refusal :=
  .next (s.scanInstr slot (.opTon slot d a x vp rs num))

/-- `TOF` (R135). -/
def execOpTof (slot : Nat) (d : SReg) (a : SReg) (x : SReg) (vp : Bool) (rs : Bool) (num : BitVec 9) (s : State) : Host.Outcome State Fault Refusal :=
  .next (s.scanInstr slot (.opTof slot d a x vp rs num))

/-- `TP` (R135). -/
def execOpTp (slot : Nat) (d : SReg) (a : SReg) (x : SReg) (vp : Bool) (rs : Bool) (num : BitVec 9) (s : State) : Host.Outcome State Fault Refusal :=
  .next (s.scanInstr slot (.opTp slot d a x vp rs num))

/-- `CTU` (R135). -/
def execOpCtu (slot : Nat) (d : SReg) (a : SReg) (x : SReg) (vp : Bool) (rs : Bool) (num : BitVec 9) (s : State) : Host.Outcome State Fault Refusal :=
  .next (s.scanInstr slot (.opCtu slot d a x vp rs num))

/-- `CTD` (R135). -/
def execOpCtd (slot : Nat) (d : SReg) (a : SReg) (x : SReg) (vp : Bool) (rs : Bool) (num : BitVec 9) (s : State) : Host.Outcome State Fault Refusal :=
  .next (s.scanInstr slot (.opCtd slot d a x vp rs num))

/-- `CTUD` (R135). -/
def execOpCtud (slot : Nat) (d : SReg) (a : SReg) (x : SReg) (vp : Bool) (rs : Bool) (num : BitVec 9) (s : State) : Host.Outcome State Fault Refusal :=
  .next (s.scanInstr slot (.opCtud slot d a x vp rs num))

/-- `R_TRIG` (R135). -/
def execOpRTrig (slot : Nat) (d : SReg) (a : SReg) (x : SReg) (rs : Bool) (num : BitVec 9) (s : State) : Host.Outcome State Fault Refusal :=
  .next (s.scanInstr slot (.opRTrig slot d a x rs num))

/-- `F_TRIG` (R135). -/
def execOpFTrig (slot : Nat) (d : SReg) (a : SReg) (x : SReg) (rs : Bool) (num : BitVec 9) (s : State) : Host.Outcome State Fault Refusal :=
  .next (s.scanInstr slot (.opFTrig slot d a x rs num))

end Sys2Proof.Machine
end

