-- ==== Sys2Proof/Machine/Beat.lean ====
section
/-!
DEFINITION. The beat boundary (R51, R52, R59, R84, R85, R125) and phases P1 to P3 (R57, R58, R63, R126, R127, R171): what the
engines run, what the output gate releases, what the pair and the ring send.
-/
namespace Sys2Proof.Machine

/-! ### The boundary -/

/-- The scrubbers' work of a beat (R43): 32 bytes of the 52 MiB SRAM, 128 bytes of the 1 GiB LPDDR4X. -/
def State.scrub (s : State) : State :=
  let a := s.safety.scrubSram + 32
  let b := s.safety.scrubDram + 128
  let s := s.modSafety (fun x => { x with scrubSram := a % 54525952, scrubDram := b % 1073741824 })
  let s := if a = 54525952 then s.incWrap Reg.SCRUB_SRAM_PASS else s
  if b = 1073741824 then s.incWrap Reg.SCRUB_DRAM_PASS else s

/-- The registers FRAME_CTRL.CLR_MAX zeroes. -/
def clearedMax : List Nat :=
  [Reg.LATCH_END_MAX, Reg.COMMIT_END_MAX, Reg.RAFT_END_MAX, Reg.STORE_US_MAX, Reg.RAFT_BYTES_MAX, Reg.INPUT_RAFT_MAX, Reg.CASC_IN_BYTES_MAX,
   Reg.CASC_OUT_BYTES_MAX, Reg.CASC_ARRIVE_MAX] ++ (List.range 8).map Reg.SE_PEAK ++ (List.range 8).map Reg.LE_PEAK ++
    (List.range 32).map Reg.PROG_COST_MAX ++ (List.range 8).flatMap (fun n => (List.range 32).map (Reg.RND_END_MAX n))

/-- CLR_MAX takes effect. -/
def State.clearMax (s : State) : State :=
  if s.frame.clrMax then (clearedMax.foldl (fun s a => s.setRg a 0) s).modFrame (fun f => { f with clrMax := false }) else s

/-- Time at a boundary (R84 to R87, R98, R412): device time is steered by the beat's measurement, then the timing role and the
selection may change. -/
def State.timeBoundary (s : State) (stoppedBefore : Bool) : State :=
  let s := (s.steer stoppedBefore).modCasc (fun c => { c with measured := none })
  let own := s.role == Role.pairMember && !s.partnerPresent && s.time.roleAt.isNone && s.wantsRole != s.timingRole
  let s := if own then { s with time := { s.time with roleAt := some (s.beat, s.wantsRole) } } else s
  s.applyRole.applySelection

/-- The lines sampled (R151): a bank of VIO out of its range reads low (R527); banks 1 and 2 supply LIO0 to LIO23 and LIO24 to
LIO47. -/
def State.sampleLio (s : State) (levels : Nat) : State :=
  let live := (if bit s.boot.vio 0 then levels % 2 ^ 24 else 0) + (if bit s.boot.vio 1 then levels / 2 ^ 24 % 2 ^ 24 * 2 ^ 24 else 0)
  if s.enabled Head.lio then ({ s with lio := { s.lio with levels := live } }).showLio else s

/-- FRAME at a boundary (R52): an armed beat starts, a cleared RUN stops it. -/
def State.frameBoundary (s : State) : State :=
  if s.blkState Head.frame = 1 then
    let s := (s.setBlkState Head.frame 2).evt Head.frame 6
    let s := match s.boot.ms with
      | some ms => s.setRg Reg.BOOT_MS (BitVec.ofNat 32 ms)
      | none => s
    let s := if s.blkState Head.boot = 0 then s.setBlkState Head.boot 1 else s
    s.modBoot (fun b => { b with ms := none, since := some s.beat })
  else if s.running ∧ s.frame.stopping = true then
    ((s.setBlkState Head.frame 0).busStop.modBoot (fun b => { b with since := none })).modFrame (fun f => { f with stopping := false })
  else s

/-! ### The previous commit takes effect (R59, R151, R446) -/

/-- The committed Q section of a slot, at its length. -/
def State.outputsOf (s : State) (p : Nat) : List Byte := bytesAt (s.scan.committed.getD p []) 0 (Image.secLen (s.image p) 1)

/-- The output lines of the slots that posted take their committed levels. -/
def State.commitLio (s : State) : State :=
  (s.lio.recs.filter (fun r => r.dir == 1 && s.scan.posted.contains r.slot)).foldl (fun s r =>
    s.setBit64 Reg.LIO_OUT_LO r.line ((s.scan.committed.getD r.slot []).getD r.ofs 0 != 0)) s

/-- The packet of publication i with a record (R446). -/
def State.pubPacket (s : State) (i : Nat) (r : List Byte) : List Byte :=
  let name := if s.role = Role.pairMember then s.pairName else leBytes 8 0
  let body := leBytes 2 i ++ leBytes 2 0 ++ name ++ bytesAt (s.scan.committed.getD (natAt r 0 1) []) (natAt r 4 4) (natAt r 2 2)
  let key := natAt r 0x1A 1
  let pkt (mac : List Byte) (c : Nat) : List Byte :=
    Pkt.build (if key = 0xFF then 6 else 2) 0 0 Config.publishOpcode.toNat (s.beat % 2 ^ 32) 0 s.beat 0 body mac c
  if key = 0xFF then pkt [] 0
  else pkt (kmac (s.keySlot key).material (Pkt.body (pkt [] s.beat) ++ leBytes 8 s.beat) (asciiBytes "FM9400 PUB") 16) s.beat

/-- A publication is sent; one whose key may not be used is not. -/
def State.publish (s : State) (i : Nat) (r : List Byte) : State :=
  let key := natAt r 0x1A 1
  let addr := bytesAt r 8 (if bit (natAt r 1 1) 0 then 16 else 4)
  let m : OutMsg := .publication i s.ethPorts addr (natAt r 0x18 2) (s.pubPacket i r)
  if key = 0xFF then s.send m
  else if (slotRefused (s.keySlot key) 2 2).isSome then s
  else s.keyEmit key [m]

/-- The publications of the slots that posted. -/
def State.publishAll (s : State) : State :=
  if s.ethLive ∧ s.sendsOutputs then
    (s.boot.pubs.zipIdx.filter (fun x => s.scan.posted.contains (natAt x.1 0 1))).foldl (fun s x => s.publish x.2 x.1) s
  else s

/-- What a boundary does while beats run: the previous commit takes effect, the pair and the ring take their turn, an
exchange is made, modes and forces change, rounds end and begin. -/
def State.workBoundary (s : State) (env : BoundaryEnv) : State :=
  let s := (s.pairBoundary env.arbIn).cascBoundary
  let s := s.commitLio.publishAll
  let s := { s with scan := { s.scan with used := List.replicate 8 0, posted := [], forcePost := [] } }
  let s := if s.works then s.exchangeBoundary.modeChanges.forceChanges else s
  let s := s.runDue
  if s.works then s.busBoundary else s

/-- BEAT_BOUNDARY: device time has reached the next boundary. In stump mode and while reset holds the device no beat passes;
at the boundary of a start that is due nothing else happens. -/
def State.boundary (s : State) (env : BoundaryEnv) : State :=
  if s.stump ∨ s.boot.held ∨ s.seam.pf = some .held then s else
  let stoppedBefore := s.stopped
  let s := s.elapse (250000 - s.beatOfs)
  if s.dueNow.isSome then s else
  let s := s.timeBoundary stoppedBefore
  let s := { s with reg := { s.reg with prot := s.reg.prot.filter (fun x => x.2 != ProtStage.opened) } }
  let s := s.modFrame (fun f => { f with phase := .p0, latched := false, withheld := s.silent, late := false })
  let s := ((s.setRg Reg.VHOLD_MV (BitVec.ofNat 32 env.vholdMv)).setRg Reg.VBAT_MV (BitVec.ofNat 32 env.vbatMv)).clearMax.scrub
  let s := if s.silent then s else s.frameBoundary
  let s := s.sampleLio env.lio
  let s := if s.running ∧ s.silent = false then s.workBoundary env else s
  (if s.silent then s else s.meterBoundary env.afeTemp).freezeViews

/-- `BEAT_BOUNDARY` (R59). -/
def execBeatBoundary (env : BoundaryEnv) (s : State) : Host.Outcome State Fault Refusal := .next (s.boundary env)

/-- `BEAT_MATCH` (R72): at the boundary of the armed alarm's beat, or once it has passed. -/
def execBeatMatch (s : State) : Host.Outcome State Fault Refusal :=
  .next (match s.frame.alarm with
    | some b => if b ≤ s.beat then s.beatMatch else s
    | none => s)

/-! ### Engines (R57, R63, R129, R171) -/

/-- The breakpoint at the next instruction of a cycle, unless it has been passed. -/
def State.breakAt (s : State) (p : Nat) (c : Cycle) : Option Nat :=
  if s.debugEn = false ∨ c.passed = true ∨ c.paid ≠ 0 then none
  else (List.range 8).find? (fun k => (s.slot p).breaks.getD k none == some c.pc)

/-- The instruction at the program counter of a cycle. -/
def State.fetch (s : State) (p : Nat) (c : Cycle) : Instr := decodeScan p (BitVec.ofNat 32 (natAt (s.image p) (Image.codeOfs (s.image p) + c.pc) 4))

/-- A slice of a slot's cycle with a number of engine cycles left: instructions execute in order; one whose cost the slice
cannot deliver whole takes what is left toward it (R171). The first number bounds the instructions. -/
def State.slice (p : Nat) : Nat → State → Nat → State × Nat
  | 0, s, left => (s, left)
  | n + 1, s, left =>
    match s.liveCycle p with
    | none => (s, left)
    | some c =>
      match s.breakAt p c with
      | some k => (s.breakHit p c k, left)
      | none =>
        let i := s.fetch p c
        let need := scanCost i + (if c.entered then 0 else 40) - c.paid
        if need ≤ left then State.slice p n (s.scanInstr p i) (left - need)
        else ((s.setCycle p { c with paid := c.paid + left, cost := c.cost + left }).useEngine (Image.engine (s.image p)) left, 0)

/-- The slots of an engine with a cycle to run in this beat, the earliest deadline first (R63), ties in slot order. -/
def State.runOrder (s : State) (e : Nat) : List Nat :=
  let due (p : Nat) : Nat := ((s.slot p).cycle.map (·.f0)).getD 0 + Image.k (s.image p)
  inOrder (fun a b => decide (due a < due b) || (due a == due b && decide (a ≤ b))) ((List.range 32).filter (fun p =>
    Image.engine (s.image p) == e && (match s.liveCycle p with
      | some c => decide (c.f0 ≤ s.beat)
      | none => false)))

/-- What a scan engine delivers in a window. -/
def State.runEngine (s : State) (cycles e : Nat) : State :=
  if s.scan.dead.contains e then s else
  let s := ((s.runOrder e).foldl (fun x p => State.slice p x.2 x.1 x.2) (s, cycles)).1
  s.peak (Reg.SE_PEAK e) (s.scan.used.getD e 0)

/-- All scan engines in a window. -/
def State.runEngines (s : State) (cycles : Nat) : State := (List.range 8).foldl (fun s e => s.runEngine cycles e) s

/-- The unit computes in this beat: it does process work, and the beat's work is not withheld (R56). -/
def State.computes (s : State) : Bool := s.works && !s.frame.withheld

/-- `P1_COMPUTE` (R57, R65): from 25 µs, or from the end of a late latch; `hung` are loops whose evaluation does not end. -/
def execP1Compute (hung : List Nat) (s : State) : Host.Outcome State Fault Refusal :=
  .next (if s.silent ∨ s.running = false ∨ s.frame.phase ≠ .p0 ∨ (s.frame.latched = false ∧ s.frame.withheld = false) then s else
    let s := (s.advanceTo 25000).modFrame (fun f => { f with phase := .p1 })
    if s.computes then (s.runEngines 167000).runLoops hung else s)

/-! ### The commit (R58, R127, R138, R142) -/

/-- Words posted at the output gate for the lines and publications of a slot (R394). -/
def State.foldPosted (s : State) (p : Nat) (q : List Byte) : State :=
  let s := (s.lio.recs.filter (fun r => r.dir == 1 && r.slot == p)).foldl (fun s r =>
    s.foldWord 15 r.line (if q.getD r.ofs 0 = 0 then 0 else 1)) s
  (s.boot.pubs.filter (fun r => natAt r 0 1 == p)).foldl (fun s r =>
    (List.range ((natAt r 2 2 + 3) / 4)).foldl (fun s k => s.foldWord 15 k (BitVec.ofNat 32 (natAt (bytesAt q (natAt r 4 4) (natAt r 2 2)) (4 * k) 4))) s) s

/-- A slot's outputs are posted: its Q section for the lines, the publications and the Tally. -/
def State.postQ (s : State) (p : Nat) (q : List Byte) : State :=
  let s := { s with scan := { s.scan with committed := modifyNth (fun _ => q) p s.scan.committed, posted := p :: s.scan.posted.filter (· != p) } }
  ((s.modSlot p (fun x => { x with lastQ := q })).postCopies p q).foldPosted p q

/-- A cycle's deadline lies at this P2, and it is done. -/
def State.dueCycle (s : State) (p : Nat) : Option Cycle :=
  match (s.slot p).cycle with
  | some c => if c.done && !(s.slot p).suspended && s.beat + 1 == c.f0 + Image.k (s.image p) then some c else none
  | none => none

/-- The L words a slot stored since its last commit become visible to loops (R67). -/
def State.commitL (s : State) (p : Nat) : State :=
  let s := { s with scan := { s.scan with lCommit := (s.slot p).lWrote.foldl (fun m a => m.putN a (s.scan.data.getN a 4)) s.scan.lCommit } }
  s.modSlot p (fun x => { x with lWrote := [] })

/-- A finished cycle leaves its slot at its deadline; one under PROG_STEP ends the step. -/
def State.closeCycle (s : State) (p : Nat) : State := s.modSlot p (fun x => { x with cycle := none, stepping := false })

/-- What a slot posts in P2: a finished cycle its Q section; a slot that stopped its safe values; a forced output of a slot
that does not run. -/
def State.postSlot (s : State) (p : Nat) : State :=
  match s.dueCycle p with
  | some c => if c.late then s.closeCycle p else ((s.postQ p (s.forceQ p (s.secBytes p 1))).commitL p).closeCycle p
  | none =>
    let x := s.slot p
    if x.safeDue then (s.postQ p (s.forceQ p (safeQ x.image (s.outputsOf p)))).modSlot p (fun x => { x with safeDue := false })
    else if s.scan.forcePost.contains p then s.postQ p (s.forceQ p (s.outputsOf p))
    else s

/-- The loops' Tally fields are posted (R195). -/
def State.postFields (s : State) : State :=
  s.loop.posted.foldl (fun s x => s.postTally x.1 x.2.1 x.2.2) { s with loop := { s.loop with posted := [] } }

/-- A released commit. -/
def State.commit (s : State) : State := ((List.range 32).foldl State.postSlot s).postLoops.postFields.postWrites

/-- A withheld commit (R56): nothing posted in the beat passes, and a TALLY_WRITE of the beat is lost. -/
def State.withhold (s : State) : State :=
  let s := (s.incSat Reg.COMMIT_HELD_CNT).evt Head.frame 4
  let s := (List.range 32).foldl (fun s p =>
    let s := if (s.dueCycle p).isSome then s.closeCycle p else s
    s.modSlot p (fun x => { x with safeDue := false })) s
  let lost := s.host.due.filter (fun x => decide (x.1 = s.beat + 1) && (s.jentry x.2.1).opcode == 0x0502)
  let s := { s with bus := { s.bus with writes := s.bus.writes.filter (fun w => decide (s.beat ≤ w.accepted)) },
                    loop := { s.loop with evaluated := [], posted := [] },
                    host := { s.host with due := s.host.due.filter (fun x => !lost.contains x) } }
  lost.foldl (fun s x => s.opEnd x.2.1 Code.aborted [] 0) s

/-- `P2_COMMIT` (R58): deadlines are judged, the commit is released at an offset, or withheld; reads are answered, the digest of
the beat is complete, a cascade master sends its outputs. -/
def execP2Commit (ofs : Nat) (s : State) : Host.Outcome State Fault Refusal :=
  .next (if s.silent ∨ s.running = false ∨ s.frame.phase ≠ .p1 then s else
    let s := s.advanceTo 200000
    let s := if s.works then (List.range 32).foldl State.deadline s else s
    let s := (s.modFrame (fun f => { f with phase := .p2 })).advanceTo ofs
    let s := if s.frame.withheld then s.withhold else if s.works then s.commit.peak Reg.COMMIT_END_MAX s.beatOfs else s
    s.runSymReads.runLoopReads.runTallyReads.pairP2.cascP2)

/-! ### P3 (R57, R71, R126) -/

/-- The words of a slot's sections written by an initialisation count for the pair (R390, R394). -/
def State.foldSections (s : State) (p : Nat) : State :=
  [0, 1, 3, 5, 6, 7].foldl (fun s a => s.foldMem 0 s.scan.data (s.secBase p a) (Image.secLen (s.image p) a)) s

/-- A program whose first cycle begins at the next beat is initialised. -/
def State.initSlot (s : State) (p : Nat) : State :=
  match (s.slot p).req with
  | some (at_, .start k) =>
    if 2 ≤ k ∨ s.beat + 1 < at_ ∨ schedAt (s.image p) (s.beat + 1) = false then s else
    let s := { s with scan := { s.scan with data := initProgram s.images p (k == 1) s.scan.data } }
    (s.modSlot p (fun x => { x with req := some (at_, .start 2) })).foldSections p
  | _ => s

/-- `P3_RAFT` (R71): the heartbeat and the digest, the state raft, slices of cycles of more than one beat, initialisations. -/
def execP3Raft (s : State) : Host.Outcome State Fault Refusal :=
  .next (if s.silent ∨ s.running = false ∨ s.frame.phase ≠ .p2 then s else
    let s := (s.advanceTo 215000).modFrame (fun f => { f with phase := .p3 })
    let s := s.heartbeatSend.judgeDigest.raftSend.planCopySend
    let s := if s.computes then s.runEngines 33000 else s
    if s.works then (List.range 32).foldl State.initSlot s else s)

end Sys2Proof.Machine
end

