-- ==== Sys2Proof/Machine/Dispatch.lean ====
section
/-!
DEFINITION. One arm a command: the call of its meaning, or its refusal by name.
-/
namespace Sys2Proof.Machine

/-- The effect of a command on everything but the queue. -/
def exec (i : Instr) (s : State) : Host.Outcome State Fault Refusal :=
  match i with
  | .registerWrite path addr width value => Sys2Proof.Machine.execRegisterWrite path addr width value s
  | .lowWordRead path addr => Sys2Proof.Machine.execLowWordRead path addr s
  | .flogData0Read path => Sys2Proof.Machine.execFlogData0Read path s
  | .flogSelWrite path value => Sys2Proof.Machine.execFlogSelWrite path value s
  | .softReset path head value => Sys2Proof.Machine.execSoftReset path head value s
  | .freeze path head value => Sys2Proof.Machine.execFreeze path head value s
  | .freezeExpire head => Sys2Proof.Machine.execFreezeExpire head s
  | .blockEnable path head value => Sys2Proof.Machine.execBlockEnable path head value s
  | .busChannelEnable path ch value => Sys2Proof.Machine.execBusChannelEnable path ch value s
  | .meterEnable path value => Sys2Proof.Machine.execMeterEnable path value s
  | .thermEnable path value => Sys2Proof.Machine.execThermEnable path value s
  | .errClear path head value => Sys2Proof.Machine.execErrClear path head value s
  | .protKeyWrite path head value => Sys2Proof.Machine.execProtKeyWrite path head value s
  | .evtRawClear path head value => Sys2Proof.Machine.execEvtRawClear path head value s
  | .evtMaskWrite path head value => Sys2Proof.Machine.execEvtMaskWrite path head value s
  | .faultDetected faults => Sys2Proof.Machine.execFaultDetected faults s
  | .engineWatchdogExpire engine pairId crcOk partsOk => Sys2Proof.Machine.execEngineWatchdogExpire engine pairId crcOk partsOk s
  | .autoRestart pairId crcOk partsOk => Sys2Proof.Machine.execAutoRestart pairId crcOk partsOk s
  | .safetyCtrlWrite path value pairId crcOk partsOk => Sys2Proof.Machine.execSafetyCtrlWrite path value pairId crcOk partsOk s
  | .beatBoundary env => Sys2Proof.Machine.execBeatBoundary env s
  | .p0Latch ofs => Sys2Proof.Machine.execP0Latch ofs s
  | .p1Compute hung => Sys2Proof.Machine.execP1Compute hung s
  | .p2Commit ofs => Sys2Proof.Machine.execP2Commit ofs s
  | .p3Raft => Sys2Proof.Machine.execP3Raft s
  | .latchLate => Sys2Proof.Machine.execLatchLate s
  | .latchTimeout => Sys2Proof.Machine.execLatchTimeout s
  | .loopLate => Sys2Proof.Machine.execLoopLate s
  | .programDeadline slot => Sys2Proof.Machine.execProgramDeadline slot s
  | .frameRun path value => Sys2Proof.Machine.execFrameRun path value s
  | .frameStop path value => Sys2Proof.Machine.execFrameStop path value s
  | .clrMax path value => Sys2Proof.Machine.execClrMax path value s
  | .beatAlarmArm path value => Sys2Proof.Machine.execBeatAlarmArm path value s
  | .beatMatch => Sys2Proof.Machine.execBeatMatch s
  | .revertHoldExpire => Sys2Proof.Machine.execRevertHoldExpire s
  | .ptpSync m => Sys2Proof.Machine.execPtpSync m s
  | .ptpFollowUp m => Sys2Proof.Machine.execPtpFollowUp m s
  | .ptpDelayReq m => Sys2Proof.Machine.execPtpDelayReq m s
  | .ptpDelayResp m => Sys2Proof.Machine.execPtpDelayResp m s
  | .ptpPdelayReq m => Sys2Proof.Machine.execPtpPdelayReq m s
  | .ptpPdelayResp m => Sys2Proof.Machine.execPtpPdelayResp m s
  | .ptpPdelayRespFollowUp m => Sys2Proof.Machine.execPtpPdelayRespFollowUp m s
  | .ptpAnnounce m a => Sys2Proof.Machine.execPtpAnnounce m a s
  | .ptpManagement m => Sys2Proof.Machine.execPtpManagement m s
  | .ptpMasterTx base port => Sys2Proof.Machine.execPtpMasterTx base port s
  | .ptpSourceLost base => Sys2Proof.Machine.execPtpSourceLost base s
  | .ppsInEdge q => Sys2Proof.Machine.execPpsInEdge q s
  | .ppsInLost => Sys2Proof.Machine.execPpsInLost s
  | .ppsOutPulse => Sys2Proof.Machine.execPpsOutPulse s
  | .tbCfgWrite path base value => Sys2Proof.Machine.execTbCfgWrite path base value s
  | .timeRead req => Sys2Proof.Machine.execTimeRead req s
  | .timeSet req => Sys2Proof.Machine.execTimeSet req s
  | .todSet req => Sys2Proof.Machine.execTodSet req s
  | .baseReacquire req => Sys2Proof.Machine.execBaseReacquire req s
  | .ptpDatasetRead req => Sys2Proof.Machine.execPtpDatasetRead req s
  | .utcSet req => Sys2Proof.Machine.execUtcSet req s
  | .clockLoss => Sys2Proof.Machine.execClockLoss s
  | .rtcMeasure path value => Sys2Proof.Machine.execRtcMeasure path value s
  | .rtcMeasureDone err => Sys2Proof.Machine.execRtcMeasureDone err s
  | .rtcSnapshot => Sys2Proof.Machine.execRtcSnapshot s
  | .timing crcOk t1 t2 t3 t4 => Sys2Proof.Machine.execTiming crcOk t1 t2 t3 t4 s
  | .followDue ch => Sys2Proof.Machine.execFollowDue ch s
  | .followValue crcOk values => Sys2Proof.Machine.execFollowValue crcOk values s
  | .progList req => Sys2Proof.Machine.execProgList req s
  | .progStart req => Sys2Proof.Machine.execProgStart req s
  | .progStop req => Sys2Proof.Machine.execProgStop req s
  | .progHold req => Sys2Proof.Machine.execProgHold req s
  | .progResume req => Sys2Proof.Machine.execProgResume req s
  | .progStep req => Sys2Proof.Machine.execProgStep req s
  | .breakSet req => Sys2Proof.Machine.execBreakSet req s
  | .breakClear req => Sys2Proof.Machine.execBreakClear req s
  | .forceSet req => Sys2Proof.Machine.execForceSet req s
  | .forceClear req => Sys2Proof.Machine.execForceClear req s
  | .forceList req => Sys2Proof.Machine.execForceList req s
  | .symRead req => Sys2Proof.Machine.execSymRead req s
  | .symWrite req => Sys2Proof.Machine.execSymWrite req s
  | .processImageWrite path addr value => Sys2Proof.Machine.execProcessImageWrite path addr value s
  | .scanCtrlWrite path value => Sys2Proof.Machine.execScanCtrlWrite path value s
  | .stageOpen req => Sys2Proof.Machine.execStageOpen req s
  | .stageWrite req => Sys2Proof.Machine.execStageWrite req s
  | .stageCheck req => Sys2Proof.Machine.execStageCheck req s
  | .exchange req => Sys2Proof.Machine.execExchange req s
  | .stageDiscard req => Sys2Proof.Machine.execStageDiscard req s
  | .exchangeStatus req => Sys2Proof.Machine.execExchangeStatus req s
  | .exchangeMigrate => Sys2Proof.Machine.execExchangeMigrate s
  | .lioPulseEdge line rising prevNs dir q => Sys2Proof.Machine.execLioPulseEdge line rising prevNs dir q s
  | .opNop slot => Sys2Proof.Machine.execOpNop slot s
  | .opEnd slot => Sys2Proof.Machine.execOpEnd slot s
  | .opRet slot => Sys2Proof.Machine.execOpRet slot s
  | .opTrap slot detail => Sys2Proof.Machine.execOpTrap slot detail s
  | .opIllegalInstruction slot word => Sys2Proof.Machine.execOpIllegalInstruction slot word s
  | .opAdd slot w d a b => Sys2Proof.Machine.execOpAdd slot w d a b s
  | .opSub slot w d a b => Sys2Proof.Machine.execOpSub slot w d a b s
  | .opMul slot w d a b => Sys2Proof.Machine.execOpMul slot w d a b s
  | .opDiv slot w d a b => Sys2Proof.Machine.execOpDiv slot w d a b s
  | .opRem slot w d a b => Sys2Proof.Machine.execOpRem slot w d a b s
  | .opAbs slot w d a => Sys2Proof.Machine.execOpAbs slot w d a s
  | .opMin slot w d a b => Sys2Proof.Machine.execOpMin slot w d a b s
  | .opMax slot w d a b => Sys2Proof.Machine.execOpMax slot w d a b s
  | .opAnd slot w d a b => Sys2Proof.Machine.execOpAnd slot w d a b s
  | .opOr slot w d a b => Sys2Proof.Machine.execOpOr slot w d a b s
  | .opXor slot w d a b => Sys2Proof.Machine.execOpXor slot w d a b s
  | .opNot slot w d a => Sys2Proof.Machine.execOpNot slot w d a s
  | .opShl slot w d a b => Sys2Proof.Machine.execOpShl slot w d a b s
  | .opShr slot w d a b => Sys2Proof.Machine.execOpShr slot w d a b s
  | .opSar slot w d a b => Sys2Proof.Machine.execOpSar slot w d a b s
  | .opSel slot d a b c => Sys2Proof.Machine.execOpSel slot d a b c s
  | .opFadd slot w d a b => Sys2Proof.Machine.execOpFadd slot w d a b s
  | .opFsub slot w d a b => Sys2Proof.Machine.execOpFsub slot w d a b s
  | .opFmul slot w d a b => Sys2Proof.Machine.execOpFmul slot w d a b s
  | .opFdiv slot w d a b => Sys2Proof.Machine.execOpFdiv slot w d a b s
  | .opFma slot w d a b c => Sys2Proof.Machine.execOpFma slot w d a b c s
  | .opFneg slot w d a => Sys2Proof.Machine.execOpFneg slot w d a s
  | .opFabs slot w d a => Sys2Proof.Machine.execOpFabs slot w d a s
  | .opFsqrt slot w d a => Sys2Proof.Machine.execOpFsqrt slot w d a s
  | .opFmin slot w d a b => Sys2Proof.Machine.execOpFmin slot w d a b s
  | .opFmax slot w d a b => Sys2Proof.Machine.execOpFmax slot w d a b s
  | .opCeq slot w d a b => Sys2Proof.Machine.execOpCeq slot w d a b s
  | .opCne slot w d a b => Sys2Proof.Machine.execOpCne slot w d a b s
  | .opClt slot w d a b => Sys2Proof.Machine.execOpClt slot w d a b s
  | .opCle slot w d a b => Sys2Proof.Machine.execOpCle slot w d a b s
  | .opFceq slot w d a b => Sys2Proof.Machine.execOpFceq slot w d a b s
  | .opFclt slot w d a b => Sys2Proof.Machine.execOpFclt slot w d a b s
  | .opFcle slot w d a b => Sys2Proof.Machine.execOpFcle slot w d a b s
  | .opFcun slot w d a b => Sys2Proof.Machine.execOpFcun slot w d a b s
  | .opItof slot w dbl d a => Sys2Proof.Machine.execOpItof slot w dbl d a s
  | .opFtoi slot w dbl d a => Sys2Proof.Machine.execOpFtoi slot w dbl d a s
  | .opFrnd slot w dbl d a => Sys2Proof.Machine.execOpFrnd slot w dbl d a s
  | .opSatw slot d a => Sys2Proof.Machine.execOpSatw slot d a s
  | .opFwid slot d a => Sys2Proof.Machine.execOpFwid slot d a s
  | .opFnar slot d a => Sys2Proof.Machine.execOpFnar slot d a s
  | .opAddiw slot d a imm => Sys2Proof.Machine.execOpAddiw slot d a imm s
  | .opAddil slot d a imm => Sys2Proof.Machine.execOpAddil slot d a imm s
  | .opAndi slot d a imm => Sys2Proof.Machine.execOpAndi slot d a imm s
  | .opOri slot d a imm => Sys2Proof.Machine.execOpOri slot d a imm s
  | .opXori slot d a imm => Sys2Proof.Machine.execOpXori slot d a imm s
  | .opLui slot d imm => Sys2Proof.Machine.execOpLui slot d imm s
  | .opBtst slot d a n => Sys2Proof.Machine.execOpBtst slot d a n s
  | .opBset slot d a n => Sys2Proof.Machine.execOpBset slot d a n s
  | .opBclr slot d a n => Sys2Proof.Machine.execOpBclr slot d a n s
  | .opLdb slot d a area disp => Sys2Proof.Machine.execOpLdb slot d a area disp s
  | .opLdw slot d a area disp => Sys2Proof.Machine.execOpLdw slot d a area disp s
  | .opLdd slot d a area disp => Sys2Proof.Machine.execOpLdd slot d a area disp s
  | .opStb slot d a area disp => Sys2Proof.Machine.execOpStb slot d a area disp s
  | .opStw slot d a area disp => Sys2Proof.Machine.execOpStw slot d a area disp s
  | .opStd slot d a area disp => Sys2Proof.Machine.execOpStd slot d a area disp s
  | .opStfb slot d a area disp => Sys2Proof.Machine.execOpStfb slot d a area disp s
  | .opStfw slot d a area disp => Sys2Proof.Machine.execOpStfw slot d a area disp s
  | .opStfd slot d a area disp => Sys2Proof.Machine.execOpStfd slot d a area disp s
  | .opBr slot ofs => Sys2Proof.Machine.execOpBr slot ofs s
  | .opCall slot ofs => Sys2Proof.Machine.execOpCall slot ofs s
  | .opBt slot d imm => Sys2Proof.Machine.execOpBt slot d imm s
  | .opBf slot d imm => Sys2Proof.Machine.execOpBf slot d imm s
  | .opSpr slot d a imm => Sys2Proof.Machine.execOpSpr slot d a imm s
  | .opSpra slot d a b => Sys2Proof.Machine.execOpSpra slot d a b s
  | .opSps slot d a imm => Sys2Proof.Machine.execOpSps slot d a imm s
  | .opLin slot d a imm => Sys2Proof.Machine.execOpLin slot d a imm s
  | .opLout slot d a imm => Sys2Proof.Machine.execOpLout slot d a imm s
  | .opTon slot d a x vp rs num => Sys2Proof.Machine.execOpTon slot d a x vp rs num s
  | .opTof slot d a x vp rs num => Sys2Proof.Machine.execOpTof slot d a x vp rs num s
  | .opTp slot d a x vp rs num => Sys2Proof.Machine.execOpTp slot d a x vp rs num s
  | .opCtu slot d a x vp rs num => Sys2Proof.Machine.execOpCtu slot d a x vp rs num s
  | .opCtd slot d a x vp rs num => Sys2Proof.Machine.execOpCtd slot d a x vp rs num s
  | .opCtud slot d a x vp rs num => Sys2Proof.Machine.execOpCtud slot d a x vp rs num s
  | .opRTrig slot d a x rs num => Sys2Proof.Machine.execOpRTrig slot d a x rs num s
  | .opFTrig slot d a x rs num => Sys2Proof.Machine.execOpFTrig slot d a x rs num s
  | .loopWindowWrite path addr value => Sys2Proof.Machine.execLoopWindowWrite path addr value s
  | .loopList req => Sys2Proof.Machine.execLoopList req s
  | .loopRead req => Sys2Proof.Machine.execLoopRead req s
  | .loopMode req => Sys2Proof.Machine.execLoopMode req s
  | .loopParamSet req => Sys2Proof.Machine.execLoopParamSet req s
  | .loopClear req => Sys2Proof.Machine.execLoopClear req s
  | .dispStatus req => Sys2Proof.Machine.execDispStatus req s
  | .dispParamSet req => Sys2Proof.Machine.execDispParamSet req s
  | .dispSchedSet req => Sys2Proof.Machine.execDispSchedSet req s
  | .dispSolve req => Sys2Proof.Machine.execDispSolve req s
  | .dispAbort req => Sys2Proof.Machine.execDispAbort req s
  | .dispDataWrite req => Sys2Proof.Machine.execDispDataWrite req s
  | .dispDataRead req => Sys2Proof.Machine.execDispDataRead req s
  | .planRead req => Sys2Proof.Machine.execPlanRead req s
  | .dispResultRead req => Sys2Proof.Machine.execDispResultRead req s
  | .dispBindRead req => Sys2Proof.Machine.execDispBindRead req s
  | .dispLogRead req => Sys2Proof.Machine.execDispLogRead req s
  | .solveStart => Sys2Proof.Machine.execSolveStart s
  | .hostDataOpenExpire => Sys2Proof.Machine.execHostDataOpenExpire s
  | .solveEnd us => Sys2Proof.Machine.execSolveEnd us s
  | .solveDeadline iters us => Sys2Proof.Machine.execSolveDeadline iters us s
  | .verifyDone us => Sys2Proof.Machine.execVerifyDone us s
  | .verifyMissed => Sys2Proof.Machine.execVerifyMissed s
  | .cutover => Sys2Proof.Machine.execCutover s
  | .planStep => Sys2Proof.Machine.execPlanStep s
  | .planFallback => Sys2Proof.Machine.execPlanFallback s
  | .candidateDigest crcOk digest verified => Sys2Proof.Machine.execCandidateDigest crcOk digest verified s
  | .busFrameRx ch f sofNs => Sys2Proof.Machine.execBusFrameRx ch f sofNs s
  | .tallyWindowWrite path addr value => Sys2Proof.Machine.execTallyWindowWrite path addr value s
  | .slotDue ch round idx listenOnly => Sys2Proof.Machine.execSlotDue ch round idx listenOnly s
  | .busFrameTxDone ch sofQ endNs loopNs => Sys2Proof.Machine.execBusFrameTxDone ch sofQ endNs loopNs s
  | .arbitrationLost ch => Sys2Proof.Machine.execArbitrationLost ch s
  | .busError ch kind collide dominant exempt => Sys2Proof.Machine.execBusError ch kind collide dominant exempt s
  | .aloneDetect ch => Sys2Proof.Machine.execAloneDetect ch s
  | .roundCutoff ch ofs => Sys2Proof.Machine.execRoundCutoff ch ofs s
  | .busIntegrationDone ch => Sys2Proof.Machine.execBusIntegrationDone ch s
  | .busRecoveryDone ch => Sys2Proof.Machine.execBusRecoveryDone ch s
  | .txdTimeout ch => Sys2Proof.Machine.execTxdTimeout ch s
  | .clrCnt path ch value => Sys2Proof.Machine.execClrCnt path ch value s
  | .busStatus req => Sys2Proof.Machine.execBusStatus req s
  | .tallyRead req => Sys2Proof.Machine.execTallyRead req s
  | .tallyWrite req => Sys2Proof.Machine.execTallyWrite req s
  | .catchRead req => Sys2Proof.Machine.execCatchRead req s
  | .busRecover req => Sys2Proof.Machine.execBusRecover req s
  | .schedRead req => Sys2Proof.Machine.execSchedRead req s
  | .tallyFind req => Sys2Proof.Machine.execTallyFind req s
  | .afeSamples crcOk codes clips => Sys2Proof.Machine.execAfeSamples crcOk codes clips s
  | .afeLinkDegrade => Sys2Proof.Machine.execAfeLinkDegrade s
  | .afeLinkResume => Sys2Proof.Machine.execAfeLinkResume s
  | .noSyncTimeout ch => Sys2Proof.Machine.execNoSyncTimeout ch s
  | .latchPublish => Sys2Proof.Machine.execLatchPublish s
  | .energyQuantum rtds => Sys2Proof.Machine.execEnergyQuantum rtds s
  | .calTakeEffect => Sys2Proof.Machine.execCalTakeEffect s
  | .meterLatchRead req => Sys2Proof.Machine.execMeterLatchRead req s
  | .meterHarmRead req => Sys2Proof.Machine.execMeterHarmRead req s
  | .meterEventRead req => Sys2Proof.Machine.execMeterEventRead req s
  | .meterCalWrite req => Sys2Proof.Machine.execMeterCalWrite req s
  | .meterCalRestore req => Sys2Proof.Machine.execMeterCalRestore req s
  | .meterCalRead req => Sys2Proof.Machine.execMeterCalRead req s
  | .meterSetupSave req => Sys2Proof.Machine.execMeterSetupSave req s
  | .meterCopySet req => Sys2Proof.Machine.execMeterCopySet req s
  | .meterCapture req => Sys2Proof.Machine.execMeterCapture req s
  | .captureDone => Sys2Proof.Machine.execCaptureDone s
  | .meterCaptureRead req => Sys2Proof.Machine.execMeterCaptureRead req s
  | .flowTimeout meter => Sys2Proof.Machine.execFlowTimeout meter s
  | .thermLatchPublish => Sys2Proof.Machine.execThermLatchPublish s
  | .thermCalEffect => Sys2Proof.Machine.execThermCalEffect s
  | .billSaveTrigger => Sys2Proof.Machine.execBillSaveTrigger s
  | .billSnapshot => Sys2Proof.Machine.execBillSnapshot s
  | .gapRecord => Sys2Proof.Machine.execGapRecord s
  | .thermLatchRead req => Sys2Proof.Machine.execThermLatchRead req s
  | .thermCalWrite req => Sys2Proof.Machine.execThermCalWrite req s
  | .thermCalRead req => Sys2Proof.Machine.execThermCalRead req s
  | .thermTableWrite req => Sys2Proof.Machine.execThermTableWrite req s
  | .thermCopySet req => Sys2Proof.Machine.execThermCopySet req s
  | .thermSetupSave req => Sys2Proof.Machine.execThermSetupSave req s
  | .billSave req => Sys2Proof.Machine.execBillSave req s
  | .billRead req => Sys2Proof.Machine.execBillRead req s
  | .gapRead req => Sys2Proof.Machine.execGapRead req s
  | .seamWindowWrite path addr value => Sys2Proof.Machine.execSeamWindowWrite path addr value s
  | .seamCmdStore path value => Sys2Proof.Machine.execSeamCmdStore path value s
  | .seamHoldWrite path value => Sys2Proof.Machine.execSeamHoldWrite path value s
  | .bracketTimeout => Sys2Proof.Machine.execBracketTimeout s
  | .seamStoreBegin => Sys2Proof.Machine.execSeamStoreBegin s
  | .seamStoreDone ok page us => Sys2Proof.Machine.execSeamStoreDone ok page us s
  | .pfiAccepted q => Sys2Proof.Machine.execPfiAccepted q s
  | .pfiBracketWaitEnd => Sys2Proof.Machine.execPfiBracketWaitEnd s
  | .powerFailSeal ok => Sys2Proof.Machine.execPowerFailSeal ok s
  | .powerRestore pairId vinBus => Sys2Proof.Machine.execPowerRestore pairId vinBus s
  | .vholdCollapse => Sys2Proof.Machine.execVholdCollapse s
  | .vholdOkChange ok => Sys2Proof.Machine.execVholdOkChange ok s
  | .seamStatus req => Sys2Proof.Machine.execSeamStatus req s
  | .seamRead req => Sys2Proof.Machine.execSeamRead req s
  | .seamWrite req => Sys2Proof.Machine.execSeamWrite req s
  | .seamStore req => Sys2Proof.Machine.execSeamStore req s
  | .seamLock req otpOk => Sys2Proof.Machine.execSeamLock req otpOk s
  | .seamBankInfo req => Sys2Proof.Machine.execSeamBankInfo req s
  | .grant msg => Sys2Proof.Machine.execGrant msg s
  | .refuse msg => Sys2Proof.Machine.execRefuse msg s
  | .leaseExpire => Sys2Proof.Machine.execLeaseExpire s
  | .banksmanRenew msg => Sys2Proof.Machine.execBanksmanRenew msg s
  | .banksmanTake msg => Sys2Proof.Machine.execBanksmanTake msg s
  | .banksmanHandover msg => Sys2Proof.Machine.execBanksmanHandover msg s
  | .banksmanRestart => Sys2Proof.Machine.execBanksmanRestart s
  | .leaseRelay crcOk msg => Sys2Proof.Machine.execLeaseRelay crcOk msg s
  | .inputSection crcOk kind arg data => Sys2Proof.Machine.execInputSection crcOk kind arg data s
  | .inputEnd crcOk beat sections bytes => Sys2Proof.Machine.execInputEnd crcOk beat sections bytes s
  | .inputRaftDeadline => Sys2Proof.Machine.execInputRaftDeadline s
  | .stateBlock crcOk region block data => Sys2Proof.Machine.execStateBlock crcOk region block data s
  | .stateEnd crcOk beat blocks => Sys2Proof.Machine.execStateEnd crcOk beat blocks s
  | .raftDeadline => Sys2Proof.Machine.execRaftDeadline s
  | .heartbeat crcOk data peer => Sys2Proof.Machine.execHeartbeat crcOk data peer s
  | .heartbeatMissed => Sys2Proof.Machine.execHeartbeatMissed s
  | .joinRequest crcOk => Sys2Proof.Machine.execJoinRequest crcOk s
  | .copyBlock crcOk region block data => Sys2Proof.Machine.execCopyBlock crcOk region block data s
  | .joinReady crcOk run => Sys2Proof.Machine.execJoinReady crcOk run s
  | .exchangeConfirm crcOk beat => Sys2Proof.Machine.execExchangeConfirm crcOk beat s
  | .handoverNotice crcOk h => Sys2Proof.Machine.execHandoverNotice crcOk h s
  | .blockResend crcOk region block => Sys2Proof.Machine.execBlockResend crcOk region block s
  | .handoverBeat => Sys2Proof.Machine.execHandoverBeat s
  | .handoverNoAnswer => Sys2Proof.Machine.execHandoverNoAnswer s
  | .lampPattern crcOk lane pattern data => Sys2Proof.Machine.execLampPattern crcOk lane pattern data s
  | .lampItemDone item ok coverage => Sys2Proof.Machine.execLampItemDone item ok coverage s
  | .listenOnlyTimeout ch => Sys2Proof.Machine.execListenOnlyTimeout ch s
  | .lampFullExpire => Sys2Proof.Machine.execLampFullExpire s
  | .pairStatusRead req => Sys2Proof.Machine.execPairStatusRead req s
  | .pairHandover req => Sys2Proof.Machine.execPairHandover req s
  | .pairDetach req => Sys2Proof.Machine.execPairDetach req s
  | .pairRejoin req => Sys2Proof.Machine.execPairRejoin req s
  | .lampRead req => Sys2Proof.Machine.execLampRead req s
  | .divLogRead req => Sys2Proof.Machine.execDivLogRead req s
  | .cascadeStatus req => Sys2Proof.Machine.execCascadeStatus req s
  | .banksmanStatus req => Sys2Proof.Machine.execBanksmanStatus req s
  | .ringTrainingDone position => Sys2Proof.Machine.execRingTrainingDone position s
  | .ringBreak => Sys2Proof.Machine.execRingBreak s
  | .configBlock crcOk ext tally recs progs => Sys2Proof.Machine.execConfigBlock crcOk ext tally recs progs s
  | .cascTiming crcOk ns rxQ delay => Sys2Proof.Machine.execCascTiming crcOk ns rxQ delay s
  | .cascTimingLost => Sys2Proof.Machine.execCascTimingLost s
  | .extInput crcOk ext data ofs => Sys2Proof.Machine.execExtInput crcOk ext data ofs s
  | .extInputDeadline => Sys2Proof.Machine.execExtInputDeadline s
  | .masterOutput crcOk ext data => Sys2Proof.Machine.execMasterOutput crcOk ext data s
  | .masterOutputLost => Sys2Proof.Machine.execMasterOutputLost s
  | .commandWindowWrite path ofs data => Sys2Proof.Machine.execCommandWindowWrite path ofs data s
  | .slotPost path n value => Sys2Proof.Machine.execSlotPost path n value s
  | .slotRelease path n value => Sys2Proof.Machine.execSlotRelease path n value s
  | .qspiRead addr count stop => Sys2Proof.Machine.execQspiRead addr count stop s
  | .qspiWrite addr count words crcOk busy => Sys2Proof.Machine.execQspiWrite addr count words crcOk busy s
  | .qspiStatus busy => Sys2Proof.Machine.execQspiStatus busy s
  | .octahDatagramRx f g => Sys2Proof.Machine.execOctahDatagramRx f g s
  | .reassemblyTimeout => Sys2Proof.Machine.execReassemblyTimeout s
  | .arpRequest f senderMac senderIp target => Sys2Proof.Machine.execArpRequest f senderMac senderIp target s
  | .icmpEcho f src target content => Sys2Proof.Machine.execIcmpEcho f src target content s
  | .neighborDiscovery f src target => Sys2Proof.Machine.execNeighborDiscovery f src target s
  | .prpSupervision => Sys2Proof.Machine.execPrpSupervision s
  | .linkChange port up gbit => Sys2Proof.Machine.execLinkChange port up gbit s
  | .octahUndefinedOpcode req => Sys2Proof.Machine.execOctahUndefinedOpcode req s
  | .devInfo req => Sys2Proof.Machine.execDevInfo req s
  | .sessionOpen req => Sys2Proof.Machine.execSessionOpen req s
  | .sessionClose req => Sys2Proof.Machine.execSessionClose req s
  | .sessionTimeout id => Sys2Proof.Machine.execSessionTimeout id s
  | .echo req => Sys2Proof.Machine.execEcho req s
  | .regRead req => Sys2Proof.Machine.execRegRead req s
  | .regWrite req => Sys2Proof.Machine.execRegWrite req s
  | .journalRead req => Sys2Proof.Machine.execJournalRead req s
  | .journalRelease req => Sys2Proof.Machine.execJournalRelease req s
  | .pathErrClear path qspi value => Sys2Proof.Machine.execPathErrClear path qspi value s
  | .keyList req => Sys2Proof.Machine.execKeyList req s
  | .keyPublicRead req => Sys2Proof.Machine.execKeyPublicRead req s
  | .keyUpdate req => Sys2Proof.Machine.execKeyUpdate req s
  | .attest req => Sys2Proof.Machine.execAttest req s
  | .keyMac req => Sys2Proof.Machine.execKeyMac req s
  | .keyCrypt req => Sys2Proof.Machine.execKeyCrypt req s
  | .xmssReady => Sys2Proof.Machine.execXmssReady s
  | .rngHealthFail => Sys2Proof.Machine.execRngHealthFail s
  | .updateOpen req => Sys2Proof.Machine.execUpdateOpen req s
  | .updateWrite req => Sys2Proof.Machine.execUpdateWrite req s
  | .updateStatus req => Sys2Proof.Machine.execUpdateStatus req s
  | .updateClose req => Sys2Proof.Machine.execUpdateClose req s
  | .updateCloseDone => Sys2Proof.Machine.execUpdateCloseDone s
  | .updateAbort req => Sys2Proof.Machine.execUpdateAbort req s
  | .updateOrphanTimeout => Sys2Proof.Machine.execUpdateOrphanTimeout s
  | .activate req => Sys2Proof.Machine.execActivate req s
  | .slotCancel req => Sys2Proof.Machine.execSlotCancel req s
  | .bootInfo req => Sys2Proof.Machine.execBootInfo req s
  | .bootReset req => Sys2Proof.Machine.execBootReset req s
  | .coldStart pairId => Sys2Proof.Machine.execColdStart pairId s
  | .warmStart pairId crcOk partsOk => Sys2Proof.Machine.execWarmStart pairId crcOk partsOk s
  | .startEnable ms => Sys2Proof.Machine.execStartEnable ms s
  | .startConfirm => Sys2Proof.Machine.execStartConfirm s
  | .resetNRelease lowUs pairId crcOk partsOk => Sys2Proof.Machine.execResetNRelease lowUs pairId crcOk partsOk s
  | .powerUp pairId vinBus => Sys2Proof.Machine.execPowerUp pairId vinBus s
  | .supplyOutOfRange supply => Sys2Proof.Machine.execSupplyOutOfRange supply s
  | .pcieReset => Sys2Proof.Machine.execPcieReset s
  | .backupPor => Sys2Proof.Machine.execBackupPor s
  | .bkCntSet wake => Sys2Proof.Machine.execBkCntSet wake s
  | .bkAlarmArm wake => Sys2Proof.Machine.execBkAlarmArm wake s
  | .bkAlarmDisarm wake => Sys2Proof.Machine.execBkAlarmDisarm wake s
  | .alarmReached wake => Sys2Proof.Machine.execAlarmReached wake s
  | .pwrAssert wake => Sys2Proof.Machine.execPwrAssert wake s
  | .pwrRelease wake => Sys2Proof.Machine.execPwrRelease wake s
  | .wakeIn => Sys2Proof.Machine.execWakeIn s
  | .pwrOnPulseEnd => Sys2Proof.Machine.execPwrOnPulseEnd s
  | .xtStopped => Sys2Proof.Machine.execXtStopped s
  | .bkTick wake => Sys2Proof.Machine.execBkTick wake s
  | .tclkInOkChange ok freq => Sys2Proof.Machine.execTclkInOkChange ok freq s
  | .referenceClockReturn => Sys2Proof.Machine.execReferenceClockReturn s
  | .supplyReturn supply => Sys2Proof.Machine.execSupplyReturn supply s
  | .receiveError ch kind eight => Sys2Proof.Machine.execReceiveError ch kind eight s
  | .resetNAssert => Sys2Proof.Machine.execResetNAssert s
  | .pcieLinkChange up width speed msix => Sys2Proof.Machine.execPcieLinkChange up width speed msix s
  | .ptpAnnounceTimeout base port => Sys2Proof.Machine.execPtpAnnounceTimeout base port s
  | .ptpDelayReqTx base port => Sys2Proof.Machine.execPtpDelayReqTx base port s

end Sys2Proof.Machine
end

