-- ==== Sys2Proof/WellFormed.lean ====
section
/-!
DEFINITION. What the operands of a command may be: the numbers that name a slot, a channel, a base, a port or a line lie in
the ranges the manual gives them, an offset of a beat lies within it, a request is a packet of R429, and a scan instruction
is one that a word spells (R157).
-/
namespace Sys2Proof

/-! ### The checks -/

/-- One of the 32 program slots (R113). -/
def slotWf (p : Nat) : Bool := decide (p < 32)
/-- One of the eight bus channels (R250). -/
def chanWf (ch : Nat) : Bool := decide (ch < 8)
/-- One of the four time bases (R78). -/
def baseWf (b : Nat) : Bool := decide (b < 4)
/-- E0 or E1 (R427). -/
def portWf (p : Nat) : Bool := decide (p < 2)
/-- One of the sixteen slots of the command window (R423). -/
def windowSlotWf (n : Nat) : Bool := decide (n < 16)
/-- A pulse input (R151). -/
def lineWf (n : Nat) : Bool := decide (n < 32)
/-- An offset in a beat, in ns (R3). -/
def offsetWf (ofs : Nat) : Bool := decide (ofs < 250000)
/-- An offset in a beat, in units of 0.25 ns (R77). -/
def quarterWf (q : Nat) : Bool := decide (q < 1000000)
/-- One of the eight thermal meters (R325). -/
def meterWf (m : Nat) : Bool := decide (m < 8)
/-- A page of the page map (R25). -/
def pageWf (h : Nat) : Bool := decide (h < 0x400)
/-- A packet of at least a header and a trailer and at most 4,096 bytes (R429), from a slot that exists. -/
def reqWf (req : OctahReq) : Bool :=
  decide (64 ≤ req.packet.length) && decide (req.packet.length ≤ 4096) &&
    (match req.src with | .slot _ n => windowSlotWf n | .eth _ _ => true | .mirror => true)
/-- An engine of R17. -/
def engineWf : Engine → Bool
  | .sc n => decide (n < 4)
  | .se n => decide (n < 8)
  | .le n => decide (n < 8)
  | .be n => decide (n < 2)
  | .de => true | .te => true | .me => true | .ke => true
/-- A class of R42. -/
def classWf (r : FaultReport) : Bool := decide (1 ≤ r.cls) && decide (r.cls ≤ 12)
/-- A frame of the field bus: an identifier of its format, a DLC and the bytes it can carry (R250, R255). -/
def frameWf (f : BusFrame) : Bool :=
  decide (f.ident < (if f.ide then 2 ^ 29 else 2 ^ 11)) && decide (f.dlc < 16) && decide (f.data.length ≤ 64)
/-- A VIO bank of R527. -/
def supplyWf : Supply → Bool
  | .vio k => decide (1 ≤ k) && decide (k ≤ 4)
  | .vinBus => true
  | .vinAfe => true
/-- An extender (R411). -/
def extWf (e : Nat) : Bool := decide (1 ≤ e) && decide (e ≤ 3)
/-- The input registers of a block instruction lie within g31 (R166). -/
def inputsWf (kind : Nat) (a : SReg) (vp : Bool) : Bool := inputsFit kind a.toNat (if vp then 1 else 0)
/-- A word that spells no instruction (R157). -/
def illegalWf (slot : Nat) (w : Word) : Bool := decide (decodeScan slot w = .opIllegalInstruction slot w)
/-- A PTP message names a port and an instance and carries a stamp within the beat (R77, R89). -/
def ptpWf (m : PtpMsg) : Bool := portWf m.port && baseWf m.base && quarterWf m.rxQ

/-- A well-formed command. -/
def Instr.wf (i : Instr) : Bool :=
  match i with
  | .registerWrite _ _ _ _ => true
  | .lowWordRead _ _ => true
  | .flogData0Read _ => true
  | .flogSelWrite _ _ => true
  | .softReset _ head _ => pageWf head
  | .freeze _ head _ => pageWf head
  | .freezeExpire head => pageWf head
  | .blockEnable _ head _ => pageWf head
  | .busChannelEnable _ ch _ => chanWf ch
  | .meterEnable _ _ => true
  | .thermEnable _ _ => true
  | .errClear _ head _ => pageWf head
  | .protKeyWrite _ head _ => pageWf head
  | .evtRawClear _ head _ => pageWf head
  | .evtMaskWrite _ head _ => pageWf head
  | .faultDetected faults => faults.all classWf
  | .engineWatchdogExpire engine _ _ _ => engineWf engine
  | .autoRestart _ _ _ => true
  | .safetyCtrlWrite _ _ _ _ _ => true
  | .beatBoundary _ => true
  | .p0Latch ofs => offsetWf ofs
  | .p1Compute _ => true
  | .p2Commit ofs => offsetWf ofs
  | .p3Raft => true
  | .latchLate => true
  | .latchTimeout => true
  | .loopLate => true
  | .programDeadline slot => slotWf slot
  | .frameRun _ _ => true
  | .frameStop _ _ => true
  | .clrMax _ _ => true
  | .beatAlarmArm _ _ => true
  | .beatMatch => true
  | .revertHoldExpire => true
  | .ptpSync m => ptpWf m
  | .ptpFollowUp m => ptpWf m
  | .ptpDelayReq m => ptpWf m
  | .ptpDelayResp m => ptpWf m
  | .ptpPdelayReq m => ptpWf m
  | .ptpPdelayResp m => ptpWf m
  | .ptpPdelayRespFollowUp m => ptpWf m
  | .ptpAnnounce m _ => ptpWf m
  | .ptpManagement m => ptpWf m
  | .ptpMasterTx base port => baseWf base && portWf port
  | .ptpSourceLost base => baseWf base
  | .ppsInEdge q => quarterWf q
  | .ppsInLost => true
  | .ppsOutPulse => true
  | .tbCfgWrite _ base _ => baseWf base
  | .timeRead req => reqWf req
  | .timeSet req => reqWf req
  | .todSet req => reqWf req
  | .baseReacquire req => reqWf req
  | .ptpDatasetRead req => reqWf req
  | .utcSet req => reqWf req
  | .clockLoss => true
  | .rtcMeasure _ _ => true
  | .rtcMeasureDone _ => true
  | .rtcSnapshot => true
  | .timing _ _ _ _ _ => true
  | .followDue ch => chanWf ch
  | .followValue _ _ => true
  | .progList req => reqWf req
  | .progStart req => reqWf req
  | .progStop req => reqWf req
  | .progHold req => reqWf req
  | .progResume req => reqWf req
  | .progStep req => reqWf req
  | .breakSet req => reqWf req
  | .breakClear req => reqWf req
  | .forceSet req => reqWf req
  | .forceClear req => reqWf req
  | .forceList req => reqWf req
  | .symRead req => reqWf req
  | .symWrite req => reqWf req
  | .processImageWrite _ _ _ => true
  | .scanCtrlWrite _ _ => true
  | .stageOpen req => reqWf req
  | .stageWrite req => reqWf req
  | .stageCheck req => reqWf req
  | .exchange req => reqWf req
  | .stageDiscard req => reqWf req
  | .exchangeStatus req => reqWf req
  | .exchangeMigrate => true
  | .lioPulseEdge line _ _ _ q => lineWf line && quarterWf q
  | .opNop slot => slotWf slot
  | .opEnd slot => slotWf slot
  | .opRet slot => slotWf slot
  | .opTrap slot _ => slotWf slot
  | .opIllegalInstruction slot word => slotWf slot && illegalWf slot word
  | .opAdd slot _ _ _ _ => slotWf slot
  | .opSub slot _ _ _ _ => slotWf slot
  | .opMul slot _ _ _ _ => slotWf slot
  | .opDiv slot _ _ _ _ => slotWf slot
  | .opRem slot _ _ _ _ => slotWf slot
  | .opAbs slot _ _ _ => slotWf slot
  | .opMin slot _ _ _ _ => slotWf slot
  | .opMax slot _ _ _ _ => slotWf slot
  | .opAnd slot _ _ _ _ => slotWf slot
  | .opOr slot _ _ _ _ => slotWf slot
  | .opXor slot _ _ _ _ => slotWf slot
  | .opNot slot _ _ _ => slotWf slot
  | .opShl slot _ _ _ _ => slotWf slot
  | .opShr slot _ _ _ _ => slotWf slot
  | .opSar slot _ _ _ _ => slotWf slot
  | .opSel slot _ _ _ _ => slotWf slot
  | .opFadd slot _ _ _ _ => slotWf slot
  | .opFsub slot _ _ _ _ => slotWf slot
  | .opFmul slot _ _ _ _ => slotWf slot
  | .opFdiv slot _ _ _ _ => slotWf slot
  | .opFma slot _ _ _ _ _ => slotWf slot
  | .opFneg slot _ _ _ => slotWf slot
  | .opFabs slot _ _ _ => slotWf slot
  | .opFsqrt slot _ _ _ => slotWf slot
  | .opFmin slot _ _ _ _ => slotWf slot
  | .opFmax slot _ _ _ _ => slotWf slot
  | .opCeq slot _ _ _ _ => slotWf slot
  | .opCne slot _ _ _ _ => slotWf slot
  | .opClt slot _ _ _ _ => slotWf slot
  | .opCle slot _ _ _ _ => slotWf slot
  | .opFceq slot _ _ _ _ => slotWf slot
  | .opFclt slot _ _ _ _ => slotWf slot
  | .opFcle slot _ _ _ _ => slotWf slot
  | .opFcun slot _ _ _ _ => slotWf slot
  | .opItof slot _ _ _ _ => slotWf slot
  | .opFtoi slot _ _ _ _ => slotWf slot
  | .opFrnd slot _ _ _ _ => slotWf slot
  | .opSatw slot _ _ => slotWf slot
  | .opFwid slot _ _ => slotWf slot
  | .opFnar slot _ _ => slotWf slot
  | .opAddiw slot _ _ _ => slotWf slot
  | .opAddil slot _ _ _ => slotWf slot
  | .opAndi slot _ _ _ => slotWf slot
  | .opOri slot _ _ _ => slotWf slot
  | .opXori slot _ _ _ => slotWf slot
  | .opLui slot _ _ => slotWf slot
  | .opBtst slot _ _ _ => slotWf slot
  | .opBset slot _ _ _ => slotWf slot
  | .opBclr slot _ _ _ => slotWf slot
  | .opLdb slot _ _ _ _ => slotWf slot
  | .opLdw slot _ _ _ _ => slotWf slot
  | .opLdd slot _ _ _ _ => slotWf slot
  | .opStb slot _ _ _ _ => slotWf slot
  | .opStw slot _ _ _ _ => slotWf slot
  | .opStd slot _ _ _ _ => slotWf slot
  | .opStfb slot _ _ _ _ => slotWf slot
  | .opStfw slot _ _ _ _ => slotWf slot
  | .opStfd slot _ _ _ _ => slotWf slot
  | .opBr slot _ => slotWf slot
  | .opCall slot _ => slotWf slot
  | .opBt slot _ _ => slotWf slot
  | .opBf slot _ _ => slotWf slot
  | .opSpr slot _ _ _ => slotWf slot
  | .opSpra slot _ _ _ => slotWf slot
  | .opSps slot _ _ _ => slotWf slot
  | .opLin slot _ _ _ => slotWf slot
  | .opLout slot _ _ _ => slotWf slot
  | .opTon slot _ a _ vp _ _ => slotWf slot && inputsWf 0 a vp
  | .opTof slot _ a _ vp _ _ => slotWf slot && inputsWf 1 a vp
  | .opTp slot _ a _ vp _ _ => slotWf slot && inputsWf 2 a vp
  | .opCtu slot _ a _ vp _ _ => slotWf slot && inputsWf 3 a vp
  | .opCtd slot _ a _ vp _ _ => slotWf slot && inputsWf 4 a vp
  | .opCtud slot _ a _ vp _ _ => slotWf slot && inputsWf 5 a vp
  | .opRTrig slot _ _ _ _ _ => slotWf slot
  | .opFTrig slot _ _ _ _ _ => slotWf slot
  | .loopWindowWrite _ _ _ => true
  | .loopList req => reqWf req
  | .loopRead req => reqWf req
  | .loopMode req => reqWf req
  | .loopParamSet req => reqWf req
  | .loopClear req => reqWf req
  | .dispStatus req => reqWf req
  | .dispParamSet req => reqWf req
  | .dispSchedSet req => reqWf req
  | .dispSolve req => reqWf req
  | .dispAbort req => reqWf req
  | .dispDataWrite req => reqWf req
  | .dispDataRead req => reqWf req
  | .planRead req => reqWf req
  | .dispResultRead req => reqWf req
  | .dispBindRead req => reqWf req
  | .dispLogRead req => reqWf req
  | .solveStart => true
  | .hostDataOpenExpire => true
  | .solveEnd _ => true
  | .solveDeadline _ _ => true
  | .verifyDone _ => true
  | .verifyMissed => true
  | .cutover => true
  | .planStep => true
  | .planFallback => true
  | .candidateDigest _ _ _ => true
  | .busFrameRx ch f _ => chanWf ch && frameWf f
  | .tallyWindowWrite _ _ _ => true
  | .slotDue ch _ _ _ => chanWf ch
  | .busFrameTxDone ch sofQ _ _ => chanWf ch && quarterWf sofQ
  | .arbitrationLost ch => chanWf ch
  | .busError ch _ _ _ _ => chanWf ch
  | .aloneDetect ch => chanWf ch
  | .roundCutoff ch ofs => chanWf ch && offsetWf ofs
  | .busIntegrationDone ch => chanWf ch
  | .busRecoveryDone ch => chanWf ch
  | .txdTimeout ch => chanWf ch
  | .clrCnt _ ch _ => chanWf ch
  | .busStatus req => reqWf req
  | .tallyRead req => reqWf req
  | .tallyWrite req => reqWf req
  | .catchRead req => reqWf req
  | .busRecover req => reqWf req
  | .schedRead req => reqWf req
  | .tallyFind req => reqWf req
  | .afeSamples _ _ _ => true
  | .afeLinkDegrade => true
  | .afeLinkResume => true
  | .noSyncTimeout ch => lineWf ch
  | .latchPublish => true
  | .energyQuantum _ => true
  | .calTakeEffect => true
  | .meterLatchRead req => reqWf req
  | .meterHarmRead req => reqWf req
  | .meterEventRead req => reqWf req
  | .meterCalWrite req => reqWf req
  | .meterCalRestore req => reqWf req
  | .meterCalRead req => reqWf req
  | .meterSetupSave req => reqWf req
  | .meterCopySet req => reqWf req
  | .meterCapture req => reqWf req
  | .captureDone => true
  | .meterCaptureRead req => reqWf req
  | .flowTimeout meter => meterWf meter
  | .thermLatchPublish => true
  | .thermCalEffect => true
  | .billSaveTrigger => true
  | .billSnapshot => true
  | .gapRecord => true
  | .thermLatchRead req => reqWf req
  | .thermCalWrite req => reqWf req
  | .thermCalRead req => reqWf req
  | .thermTableWrite req => reqWf req
  | .thermCopySet req => reqWf req
  | .thermSetupSave req => reqWf req
  | .billSave req => reqWf req
  | .billRead req => reqWf req
  | .gapRead req => reqWf req
  | .seamWindowWrite _ _ _ => true
  | .seamCmdStore _ _ => true
  | .seamHoldWrite _ _ => true
  | .bracketTimeout => true
  | .seamStoreBegin => true
  | .seamStoreDone _ _ _ => true
  | .pfiAccepted q => quarterWf q
  | .pfiBracketWaitEnd => true
  | .powerFailSeal _ => true
  | .powerRestore _ _ => true
  | .vholdCollapse => true
  | .vholdOkChange _ => true
  | .seamStatus req => reqWf req
  | .seamRead req => reqWf req
  | .seamWrite req => reqWf req
  | .seamStore req => reqWf req
  | .seamLock req _ => reqWf req
  | .seamBankInfo req => reqWf req
  | .grant _ => true
  | .refuse _ => true
  | .leaseExpire => true
  | .banksmanRenew _ => true
  | .banksmanTake _ => true
  | .banksmanHandover _ => true
  | .banksmanRestart => true
  | .leaseRelay _ _ => true
  | .inputSection _ _ _ _ => true
  | .inputEnd _ _ _ _ => true
  | .inputRaftDeadline => true
  | .stateBlock _ _ _ _ => true
  | .stateEnd _ _ _ => true
  | .raftDeadline => true
  | .heartbeat _ _ _ => true
  | .heartbeatMissed => true
  | .joinRequest _ => true
  | .copyBlock _ _ _ _ => true
  | .joinReady _ _ => true
  | .exchangeConfirm _ _ => true
  | .handoverNotice _ _ => true
  | .blockResend _ _ _ => true
  | .handoverBeat => true
  | .handoverNoAnswer => true
  | .lampPattern _ _ _ _ => true
  | .lampItemDone _ _ _ => true
  | .listenOnlyTimeout ch => chanWf ch
  | .lampFullExpire => true
  | .pairStatusRead req => reqWf req
  | .pairHandover req => reqWf req
  | .pairDetach req => reqWf req
  | .pairRejoin req => reqWf req
  | .lampRead req => reqWf req
  | .divLogRead req => reqWf req
  | .cascadeStatus req => reqWf req
  | .banksmanStatus req => reqWf req
  | .ringTrainingDone _ => true
  | .ringBreak => true
  | .configBlock _ ext _ _ _ => extWf ext
  | .cascTiming _ _ rxQ _ => quarterWf rxQ
  | .cascTimingLost => true
  | .extInput _ ext _ ofs => extWf ext && offsetWf ofs
  | .extInputDeadline => true
  | .masterOutput _ ext _ => extWf ext
  | .masterOutputLost => true
  | .commandWindowWrite _ _ _ => true
  | .slotPost _ n _ => windowSlotWf n
  | .slotRelease _ n _ => windowSlotWf n
  | .qspiRead _ _ _ => true
  | .qspiWrite _ _ _ _ _ => true
  | .qspiStatus _ => true
  | .octahDatagramRx _ _ => true
  | .reassemblyTimeout => true
  | .arpRequest _ _ _ _ => true
  | .icmpEcho _ _ _ _ => true
  | .neighborDiscovery _ _ _ => true
  | .prpSupervision => true
  | .linkChange port _ _ => portWf port
  | .octahUndefinedOpcode req => reqWf req
  | .devInfo req => reqWf req
  | .sessionOpen req => reqWf req
  | .sessionClose req => reqWf req
  | .sessionTimeout _ => true
  | .echo req => reqWf req
  | .regRead req => reqWf req
  | .regWrite req => reqWf req
  | .journalRead req => reqWf req
  | .journalRelease req => reqWf req
  | .pathErrClear _ _ _ => true
  | .keyList req => reqWf req
  | .keyPublicRead req => reqWf req
  | .keyUpdate req => reqWf req
  | .attest req => reqWf req
  | .keyMac req => reqWf req
  | .keyCrypt req => reqWf req
  | .xmssReady => true
  | .rngHealthFail => true
  | .updateOpen req => reqWf req
  | .updateWrite req => reqWf req
  | .updateStatus req => reqWf req
  | .updateClose req => reqWf req
  | .updateCloseDone => true
  | .updateAbort req => reqWf req
  | .updateOrphanTimeout => true
  | .activate req => reqWf req
  | .slotCancel req => reqWf req
  | .bootInfo req => reqWf req
  | .bootReset req => reqWf req
  | .coldStart _ => true
  | .warmStart _ _ _ => true
  | .startEnable _ => true
  | .startConfirm => true
  | .resetNRelease _ _ _ _ => true
  | .powerUp _ _ => true
  | .supplyOutOfRange supply => supplyWf supply
  | .pcieReset => true
  | .backupPor => true
  | .bkCntSet _ => true
  | .bkAlarmArm _ => true
  | .bkAlarmDisarm _ => true
  | .alarmReached _ => true
  | .pwrAssert _ => true
  | .pwrRelease _ => true
  | .wakeIn => true
  | .pwrOnPulseEnd => true
  | .xtStopped => true
  | .bkTick _ => true
  | .tclkInOkChange _ _ => true
  | .referenceClockReturn => true
  | .supplyReturn supply => supplyWf supply
  | .receiveError ch _ _ => chanWf ch
  | .resetNAssert => true
  | .pcieLinkChange _ _ _ _ => true
  | .ptpAnnounceTimeout base port => baseWf base && portWf port
  | .ptpDelayReqTx base port => baseWf base && portWf port

end Sys2Proof
end

