-- ==== Sys2Proof/Safety.lean ====
section
/-!
DEFINITION. The terms the claims use: what it is for a command to complete, the invariants of the device's tables and
memories, what an executed scan instruction leaves, and when an Octah request is one the device carries out.
-/
namespace Sys2Proof.Machine

/-! ### Completion -/

/-- The command is carried out on a state, and what it leaves meets a condition. -/
def Completes (i : Instr) (s : State) (P : State → Prop) : Prop := ∃ t, exec i s = .next t ∧ P t

/-! ### Invariants -/

/-- The registers keep their canonical form: addresses strictly rising, no entry equal to its Reset value. -/
def RegistersCanonical (s : State) : Prop := amWf regReset s.reg.vals = true

/-- Program data and the memory of the command window keep their canonical form. -/
def MemoriesCanonical (s : State) : Prop := Memory.wf s.scan.data = true ∧ Memory.wf s.host.slotMem = true

/-- The tables have the sizes the manual gives them: 32 program slots (R113), 16 slots of the command window (R423), 256
journal entries (R442), at most 8 sessions (R432), the two parts of the fault log (R48), the two firmware slots (R476),
the four time bases with two PTP ports each (R78, R89). -/
def TablesSized (s : State) : Prop :=
  s.scan.slots.length = 32 ∧ s.host.slots.length = 16 ∧ s.host.journal.length = 256 ∧ s.host.sessions.length ≤ 8 ∧
    s.safety.kept.length ≤ 8 ∧ (s.safety.kept.length < 8 → s.safety.ring = []) ∧ s.safety.ring.length ≤ 248 ∧ s.upd.nor.length = 2 ∧
    s.time.bases.length = 4 ∧ s.time.ports.length = 8

/-- Firmware writes to Seam wait only while a store runs (R353). -/
def DeferredOnlyWhileStoring (s : State) : Prop := s.seam.run = none → s.seam.deferred = []

/-! ### Octah requests -/

/-- The state in which an accepted request of an opcode stands before its own checks: it waits no longer and its journal entry is
ACCEPTED (R442). A HOST record the standby applies takes no entry (R404). -/
def State.acceptedReq (s : State) (opcode : Nat) (req : OctahReq) : State :=
  if req.src = .mirror then s
  else ({ s with host := { s.host with waiting := s.host.waiting.erase req } }).journalAccept req opcode

/-- The state in which the effect of an accepted request begins: in a pair an owner command is noted for the input raft. -/
def State.taken (s : State) (opcode : Nat) (owner : Bool) (req : OctahReq) : State :=
  if req.src = .mirror then s else (s.acceptedReq opcode req).noteHost owner opcode req.pl

/-- The request passes rows 1 to 4 and 6 of R435 and those of stump mode: the unit takes commands, the packet is of the opcode
and of version 1, it is authentic, its tag is free and its own to take, and an owner command comes to the owner. A HOST record
the standby applies has passed them in the owner. -/
def OctahReady (opcode : Nat) (owner : Bool) (req : OctahReq) (s : State) : Prop :=
  s.silent = false ∧ Pkt.opcode req.packet = opcode ∧
    (req.src = .mirror ∨
      (Pkt.ver req.packet = 1 ∧ s.authentic req = true ∧ s.tagOwner req = true ∧ s.tagFree req = true ∧
        (s.stump = true → stumpServes opcode = true) ∧ (owner = true → s.owns = true)))

/-- A command carries out a request of its opcode that is ready and whose payload and state, as accepted, meet a condition:
exec answers the state an effect gives from the one in which the effect begins. -/
def Answers (opcode : Nat) (owner : Bool) (i : OctahReq → Instr) (ok : State → OctahReq → Prop) (run : State → OctahReq → State) : Prop :=
  ∀ (s : State) (req : OctahReq), OctahReady opcode owner req s → ok (s.acceptedReq opcode req) req →
    exec (i req) s = .next (run (s.taken opcode owner req) req)

/-- The command answers OK at once with a payload read off the state, and has no other effect. -/
def Reads (opcode : Nat) (i : OctahReq → Instr) (ok : State → OctahReq → Prop) (payload : State → OctahReq → List Byte) : Prop :=
  Answers opcode false i ok (fun s r => s.opOk r.tag (payload s r))

/-- The payload has a length. -/
def Len (n : Nat) : State → OctahReq → Prop := fun _ r => Pkt.length r.packet = n

/-! ### Starts -/

/-- What a cold start of a kind leaves by step 8 (R423, R432, R442, R492, R493): no session and no request, a free journal, no
fault in force, the backup domain as it was, its KIND, and either stump mode or the wait of step 9. -/
def ColdStarted (kind : Nat) (s t : State) : Prop :=
  t.host.sessions = [] ∧ t.host.waiting = [] ∧ t.host.journal = List.replicate 256 JEntry.free ∧ t.safety.inForce = [] ∧
    t.safety.silentSince = none ∧ t.boot.held = false ∧ t.bk = s.bk ∧ t.pending = s.pending ∧ t.fld Reg.BOOT_CAUSE 7 0 = kind ∧
    (t.stump = true ∨ t.boot.waiting = some false)

/-- What a warm start leaves by step 8 (R432, R438, R442, R492): no session and no request, no journal entry ACCEPTED or STARTED,
the unit no longer silent, and stump mode, the wait of step 9, or the state of an escalated cold start. -/
def WarmStarted (kind : Nat) (t : State) : Prop :=
  t.host.sessions = [] ∧ t.host.waiting = [] ∧ (∀ g, (t.jentry g).state ≠ .accepted ∧ (t.jentry g).state ≠ .started) ∧
    t.safety.silentSince = none ∧ t.boot.held = false ∧
    (t.stump = true ∨ (t.boot.waiting = some true ∧ t.fld Reg.BOOT_CAUSE 7 0 = kind) ∨
      (t.boot.waiting = some false ∧ t.fld Reg.BOOT_CAUSE 7 0 = 7))

/-! ### Scan instructions -/

/-- What is left of an instruction's cost, and of the 40 cycles of entry work before the first (R162, R171). -/
def Cycle.owes (c : Cycle) (cost : Nat) : Nat := cost + (if c.entered then 0 else 40) - c.paid

/-- A state after an instruction of a cost retired on the cycle of a slot: what it stored is stored, and the cycle is left
as `c'`. -/
def State.retired (s : State) (p : Nat) (c : Cycle) (cost : Nat) (c' : Cycle) (store : State → State := id) : State :=
  (store (s.useEngine (Image.engine (s.image p)) (c.owes cost))).setCycle p
    { c' with cost := c.cost + c.owes cost, entered := true, paid := 0, passed := false }

/-- What a trap leaves (R170): the program in STOP with cause TRAP and no cycle, its code, detail and program counter. -/
def Trapped (p : Nat) (c : Cycle) (code detail : Nat) (t : State) : Prop :=
  (t.slot p).mode = .stop ∧ (t.slot p).cause = 4 ∧ (t.slot p).cycle = none ∧
    t.rg (Reg.PROG_INFO p) = BitVec.ofNat 32 (code + 256 * (detail % 256)) ∧ t.rg (Reg.PROG_PC p) = BitVec.ofNat 32 c.pc

/-! ### Registers -/

/-- A register access to an address reaches a register: the device is not held in reset, and its page is served (R9, R495). -/
def Reaches (s : State) (a : Nat) : Prop := s.boot.held = false ∧ s.seam.pf ≠ some .held ∧ s.pageServed (a / 0x1000) = true

/-- Every register outside a list holds what it held. -/
def RegsKept (except : List Nat) (s t : State) : Prop := ∀ a, a ∉ except → t.rg a = s.rg a

/-- Nothing but the registers and what has been sent differs. -/
def OnlyRegisters (s t : State) : Prop := t = { s with reg := t.reg, out := t.out }

/-- The unlock sequence of a block is complete: PROT_KEY reads OPEN (R34). -/
def Opened (s : State) (head : Nat) : Prop := s.protOf head = some .opened

end Sys2Proof.Machine
end

