-- ==== Sys2Proof/Certificates/Slice0/Obligations.lean ====
section
/-!
DEFINITION. The statements about the model, one a definition, in the order of OBLIGATIONS.json.
-/
open Sys2Proof Sys2Proof.Machine

/-- A step is `exec` of the command in front. That an empty queue idles is the model's choice (notes/assumptions/3.md). -/
def Obligations.StepRunsTheFrontCommand : Prop :=
  (∀ (s : State) (c : Instr) (rest : List Instr), s.pending = c :: rest → step s = exec c { s with pending := rest }) ∧
  (∀ s : State, s.pending = [] → step s = .next s)

/-- The reset values, and the invariants at reset. -/
def Obligations.ResetMeetsTheInvariants : Prop :=
  (∀ a, State.reset.rg a = regReset a) ∧ (∀ a, State.reset.scan.data.get a = 0 ∧ State.reset.seam.sram.get a = 0) ∧ State.reset.pending = [] ∧
  State.reset.host.sessions = [] ∧ State.reset.host.waiting = [] ∧ State.reset.safety.inForce = [] ∧ State.reset.silent = false ∧
  (∀ g < 256, (State.reset.jentry g).state = .free) ∧ (∀ x ∈ State.reset.host.slots, x.mode = .free) ∧ (∀ p < 32, (State.reset.slot p).mode = .empty) ∧
  State.reset.blkState Head.frame = 0 ∧ RegistersCanonical State.reset ∧ MemoriesCanonical State.reset ∧ TablesSized State.reset ∧
  DeferredOnlyWhileStoring State.reset

/-- The registers stay canonical. -/
def Obligations.RegistersStayCanonical : Prop := ∀ s t : State, RegistersCanonical s → step s = .next t → RegistersCanonical t

/-- The memories stay canonical. -/
def Obligations.MemoriesStayCanonical : Prop := ∀ s t : State, MemoriesCanonical s → step s = .next t → MemoriesCanonical t

/-- The tables keep their sizes. -/
def Obligations.TablesKeepTheirSizes : Prop :=
  ∀ s t : State, TablesSized s → DeferredOnlyWhileStoring s → step s = .next t → TablesSized t ∧ DeferredOnlyWhileStoring t

/-- Decode of encode, for the scan instructions. -/
def Obligations.ScanInstructionsEncodeAndDecode : Prop :=
  ∀ (i : Instr) (w : Word), i.wf = true → encodeScan i = some w → ∃ slot < 32, decodeScan slot w = i

/-- Encode of decode, for every word. -/
def Obligations.ScanWordsDecodeAndEncode : Prop :=
  ∀ (slot : Nat) (w : Word), slot < 32 → (decodeScan slot w).wf = true ∧ encodeScan (decodeScan slot w) = some w

/-- A few words of R156. -/
def Obligations.SomeScanWordsSpellTheirInstructions : Prop :=
  decodeScan 5 0b00010000011000010001000000000000 = .opAdd 5 false 3 1 2 ∧
  decodeScan 5 0b00010000011000010001010000100000 = .opSub 5 true 3 1 2 ∧
  decodeScan 5 0b00010100100001010011000010000111 = .opFma 5 false 4 5 6 7 ∧
  decodeScan 5 0b00100000001000101111111111111111 = .opAddiw 5 1 2 0xFFFF ∧
  decodeScan 5 0b01010101001010100110000000000100 = .opLdw 5 9 10 3 4 ∧
  decodeScan 5 0b10000011111111111111111111111111 = .opBr 5 0x3FFFFFF ∧
  decodeScan 5 0b11000000001000100001111000000111 = .opTon 5 1 2 3 true true 7 ∧
  decodeScan 5 0 = .opIllegalInstruction 5 0 ∧ decodeScan 5 0xFFFFFFFF = .opIllegalInstruction 5 0xFFFFFFFF ∧
  decodeScan 5 0b00000100000000000000000000000001 = .opIllegalInstruction 5 0b00000100000000000000000000000001

/-- R162, R163, R547: integer arithmetic. The next state is written out, so it is the frame as well. -/
def Obligations.ScanIntegerArithmeticResults : Prop :=
  ∀ (s : State) (p : Nat) (c : Cycle) (w : Bool) (d a b : SReg), s.liveCycle p = some c →
    let x := ival w (c.rd a)
    let y := ival w (c.rd b)
    (∀ e ∈ [(Instr.opAdd p w d a b, 1, x + y), (.opSub p w d a b, 1, x - y), (.opMul p w d a b, (if w then 4 else 3), x * y),
            (.opAbs p w d a, 1, (x.natAbs : Int)), (.opMin p w d a b, 1, min x y), (.opMax p w d a b, 1, max x y)],
      exec e.1 s = .next (s.retired p c e.2.1 (c.wr d (ires w e.2.2)).next)) ∧
    (y ≠ 0 → ∀ e ∈ [(Instr.opDiv p w d a b, Int.tdiv x y), (.opRem p w d a b, Int.tmod x y)],
      exec e.1 s = .next (s.retired p c (if w then 34 else 18) (c.wr d (ires w e.2)).next))

/-- R162, R163, R547: bitwise instructions and immediates. -/
def Obligations.ScanBitwiseAndImmediateResults : Prop :=
  (∀ (s : State) (p : Nat) (c : Cycle) (w : Bool) (d a b e : SReg), s.liveCycle p = some c →
      let x := c.rd a
      let y := c.rd b
      let narrow (v : DWord) : DWord := if w then v else (v.setWidth 32).signExtend 64
      let n := if w then y.toNat % 64 else y.toNat % 32
      let x32 : Word := x.setWidth 32
      ∀ r ∈ [(Instr.opAnd p w d a b, narrow (x &&& y)), (.opOr p w d a b, narrow (x ||| y)), (.opXor p w d a b, narrow (x ^^^ y)),
             (.opNot p w d a, narrow (~~~x)),
             (.opShl p w d a b, if w then x <<< n else (x32 <<< n).signExtend 64),
             (.opShr p w d a b, if w then x >>> n else (x32 >>> n).signExtend 64),
             (.opSar p w d a b, if w then x.sshiftRight n else (x32.sshiftRight n).signExtend 64),
             (.opSel p d a b e, if c.rd e = 0 then y else x)],
        exec r.1 s = .next (s.retired p c 1 (c.wr d r.2).next)) ∧
  (∀ (s : State) (p : Nat) (c : Cycle) (d a : SReg) (imm : BitVec 16) (n : BitVec 6), s.liveCycle p = some c →
      let x := c.rd a
      let one : DWord := BitVec.ofNat 64 (2 ^ n.toNat)
      ∀ r ∈ [(Instr.opAddiw p d a imm, (BitVec.ofInt 32 ((x.setWidth 32).toInt + imm.toInt)).signExtend 64),
             (.opAddil p d a imm, BitVec.ofInt 64 (x.toInt + imm.toInt)),
             (.opAndi p d a imm, x &&& imm.setWidth 64), (.opOri p d a imm, x ||| imm.setWidth 64),
             (.opXori p d a imm, x ^^^ imm.setWidth 64),
             (.opLui p d imm, (BitVec.ofNat 32 (imm.toNat * 65536)).signExtend 64),
             (.opBtst p d a n, if x.toNat / 2 ^ n.toNat % 2 = 1 then 1 else 0),
             (.opBset p d a n, x ||| one), (.opBclr p d a n, x &&& ~~~one),
             (.opSatw p d a, (BitVec.ofInt 32 (max (-2 ^ 31) (min (2 ^ 31 - 1) x.toInt))).signExtend 64)],
        exec r.1 s = .next (s.retired p c 1 (c.wr d r.2).next))

/-- R162, R164: comparisons and floating point. -/
def Obligations.ScanComparisonAndFloatResults : Prop :=
  (∀ (s : State) (p : Nat) (c : Cycle) (w : Bool) (d a b : SReg), s.liveCycle p = some c →
      let x := ival w (c.rd a)
      let y := ival w (c.rd b)
      let f := ffmt w
      let u := fval w (c.rd a)
      let v := fval w (c.rd b)
      let truth (b : Bool) : DWord := if b then 1 else 0
      ∀ r ∈ [(Instr.opCeq p w d a b, 1, truth (x == y)), (.opCne p w d a b, 1, truth (x != y)), (.opClt p w d a b, 1, truth (decide (x < y))),
             (.opCle p w d a b, 1, truth (decide (x ≤ y))), (.opFceq p w d a b, 2, truth (f.eq u v)),
             (.opFclt p w d a b, 2, truth (f.lt u v)), (.opFcle p w d a b, 2, truth (f.le u v)),
             (.opFcun p w d a b, 2, truth (f.isNan u || f.isNan v))],
        exec r.1 s = .next (s.retired p c r.2.1 (c.wr d r.2.2).next)) ∧
  (∀ (s : State) (p : Nat) (c : Cycle) (w dbl : Bool) (d a b e : SReg), s.liveCycle p = some c →
      let f := ffmt w
      let g := ffmt dbl
      let x := fval w (c.rd a)
      let y := fval w (c.rd b)
      let z := fval w (c.rd e)
      let bitsOf := if w then 64 else 32
      ∀ r ∈ [(Instr.opFadd p w d a b, 4, fres (f.add x y)), (.opFsub p w d a b, 4, fres (f.sub x y)),
             (.opFmul p w d a b, (if w then 5 else 4), fres (f.mul x y)), (.opFdiv p w d a b, (if w then 28 else 14), fres (f.div x y)),
             (.opFma p w d a b e, (if w then 6 else 5), fres (f.fma x y z)),
             (.opFneg p w d a, 1, fres (f.neg x)), (.opFabs p w d a, 1, fres (f.abs x)),
             (.opFsqrt p w d a, (if w then 30 else 16), fres (f.sqrt x)),
             (.opFmin p w d a b, 2, fres (f.min x y)), (.opFmax p w d a b, 2, fres (f.max x y)),
             (.opItof p w dbl d a, 3, fres (g.ofInt (ival w (c.rd a)))),
             (.opFtoi p w dbl d a, 3, ires w (g.toInt bitsOf false (fval dbl (c.rd a)))),
             (.opFrnd p w dbl d a, 3, ires w (g.toInt bitsOf true (fval dbl (c.rd a)))),
             (.opFwid p d a, 2, fres (f32.conv f64 (fval false (c.rd a)))),
             (.opFnar p d a, 3, fres (f64.conv f32 (c.rd a).toNat))],
        exec r.1 s = .next (s.retired p c r.2.1 (c.wr d r.2.2).next))

/-- R158 to R160, R162: loads and stores. -/
def Obligations.ScanMemoryResults : Prop :=
  (∀ (s : State) (p : Nat) (c : Cycle) (d a : SReg) (area : BitVec 3) (disp : BitVec 13), p < 32 → s.liveCycle p = some c →
      let base := if area = 4 then 0 else s.secBase p area.toNat
      let ofs (size : Nat) := ((c.rd a).toNat + disp.toNat * size) % 2 ^ 64
      let len := Image.secLen (s.image p) area.toNat
      let read (size : Nat) : Nat :=
        if area = 4 then natAt (s.image p) (Image.constOfs (s.image p) + ofs size) size else s.scan.data.nat (base + ofs size) size
      ∀ r ∈ [(Instr.opLdb p d a area disp, 1, if read 1 = 0 then (0 : DWord) else 1),
             (.opLdw p d a area disp, 4, (BitVec.ofNat 32 (read 4)).signExtend 64), (.opLdd p d a area disp, 8, BitVec.ofNat 64 (read 8))],
        ((base + ofs r.2.1) % 2 ^ 64 % r.2.1 = 0 → ofs r.2.1 + r.2.1 ≤ len →
          exec r.1 s = .next (s.retired p c 2 (c.wr d r.2.2).next)) ∧
        ((base + ofs r.2.1) % 2 ^ 64 % r.2.1 ≠ 0 → Completes r.1 s (Trapped p c 4 area.toNat)) ∧
        ((base + ofs r.2.1) % 2 ^ 64 % r.2.1 = 0 → len < ofs r.2.1 + r.2.1 → Completes r.1 s (Trapped p c 2 area.toNat))) ∧
  (∀ (s : State) (p : Nat) (c : Cycle) (d a : SReg) (area : BitVec 3) (disp : BitVec 13), p < 32 → s.liveCycle p = some c →
      let base := if area = 4 then 0 else s.secBase p area.toNat
      let ofs (size : Nat) := ((c.rd a).toNat + disp.toNat * size) % 2 ^ 64
      let len := Image.secLen (s.image p) area.toNat
      let x := (c.rd d).toNat
      let flag : List Byte := if c.rd d = 0 then [0] else [1]
      let store (bs : List Byte) (t : State) : State := t.putData (s.secBase p area.toNat + ofs bs.length) bs
      ∀ r ∈ [(Instr.opStb p d a area disp, false, flag), (.opStw p d a area disp, false, leBytes 4 x), (.opStd p d a area disp, false, leBytes 8 x),
             (.opStfb p d a area disp, true, flag), (.opStfw p d a area disp, true, leBytes 4 x), (.opStfd p d a area disp, true, leBytes 8 x)],
        let bs := r.2.2
        let allowed : Prop := if r.2.1 then area = 1 else area = 2 ∨ area = 3 ∨ area = 5
        (allowed → (base + ofs bs.length) % 2 ^ 64 % bs.length = 0 → ofs bs.length + bs.length ≤ len →
          exec r.1 s = .next (s.retired p c (if r.2.1 then 3 else 2) c.next
            (if r.2.1 = true ∧ s.forceHolds p (ofs bs.length) bs.length = true then id else store bs))) ∧
        (¬ allowed → Completes r.1 s (Trapped p c 3 area.toNat)))

/-- R162, R165: control flow. -/
def Obligations.ScanControlFlowResults : Prop :=
  ∀ (s : State) (p : Nat) (c : Cycle) (d : SReg) (imm : BitVec 16) (ofs : BitVec 26), s.liveCycle p = some c →
    let code : Int := Image.codeLen (s.image p)
    let inside (k : Int) : Prop := 0 ≤ (c.pc : Int) + 4 * k ∧ (c.pc : Int) + 4 * k < code
    let target (k : Int) : Nat := ((c.pc : Int) + 4 * k).toNat
    exec (.opNop p) s = .next (s.retired p c 1 { c with pc := c.pc + 4 }) ∧
    (inside ofs.toInt → exec (.opBr p ofs) s = .next (s.retired p c 2 { c with pc := target ofs.toInt })) ∧
    (c.rd d ≠ 0 → inside imm.toInt → exec (.opBt p d imm) s = .next (s.retired p c 2 { c with pc := target imm.toInt })) ∧
    (c.rd d = 0 → exec (.opBt p d imm) s = .next (s.retired p c 2 { c with pc := c.pc + 4 })) ∧
    (c.rd d = 0 → inside imm.toInt → exec (.opBf p d imm) s = .next (s.retired p c 2 { c with pc := target imm.toInt })) ∧
    (c.rd d ≠ 0 → exec (.opBf p d imm) s = .next (s.retired p c 2 { c with pc := c.pc + 4 })) ∧
    (c.stack.length < 16 → inside ofs.toInt →
      exec (.opCall p ofs) s = .next (s.retired p c 3 { c with pc := target ofs.toInt, stack := (c.pc + 4) :: c.stack })) ∧
    (∀ x r, c.stack = x :: r → exec (.opRet p) s = .next (s.retired p c 3 { c with pc := x, stack := r })) ∧
    exec (.opEnd p) s = .next (s.retired p c 4 { c with done := true }
      (fun t => t.endCycle p { c with cost := c.cost + c.owes 4, entered := true }))

/-- R170: traps. -/
def Obligations.ScanTrapsStopTheProgram : Prop :=
  ∀ (s : State) (p : Nat) (c : Cycle) (w : Bool) (d a b : SReg) (x : Byte) (word : Word) (ofs : BitVec 26), p < 32 → s.liveCycle p = some c →
    Completes (.opTrap p x) s (Trapped p c 0x0B x.toNat) ∧
    Completes (.opIllegalInstruction p word) s (Trapped p c 0x01 (word.toNat / 2 ^ 26)) ∧
    (ival w (c.rd b) = 0 →
      Completes (.opDiv p w d a b) s (Trapped p c 0x05 0) ∧ Completes (.opRem p w d a b) s (Trapped p c 0x05 0)) ∧
    (c.stack = [] → Completes (.opRet p) s (Trapped p c 0x06 1)) ∧
    (16 ≤ c.stack.length → Completes (.opCall p ofs) s (Trapped p c 0x06 0)) ∧
    ((c.pc : Int) + 4 * ofs.toInt < 0 ∨ (Image.codeLen (s.image p) : Int) ≤ (c.pc : Int) + 4 * ofs.toInt →
      Completes (.opBr p ofs) s (Trapped p c 0x07 0))

/-- R168, R169: plan channels and loops. -/
def Obligations.ScanPlanAndLoopResults : Prop :=
  ∀ (s : State) (p : Nat) (c : Cycle) (d a b : SReg) (imm : BitVec 16), p < 32 → s.liveCycle p = some c →
    let ch := ((c.rd a).toNat + imm.toNat) % 2 ^ 64
    let loop := ((c.rd a).toNat + imm.toNat / 32) % 2 ^ 64
    let n := imm.toNat % 32
    let adr := lArea + 128 * loop + 4 * n
    (ch < 8192 →
      exec (.opSpr p d a imm) s = .next (s.retired p c 6 (c.wr d ((s.planValue c.snap ch 0).setWidth 64)).next) ∧
      exec (.opSps p d a imm) s = .next (s.retired p c 4 (c.wr d (BitVec.ofNat 64 (s.planStatus c.snap ch))).next)) ∧
    ((c.rd a).toNat < 8192 → (c.rd b).toNat < 48 →
      exec (.opSpra p d a b) s = .next (s.retired p c 8 (c.wr d ((s.planValue c.snap (c.rd a).toNat (c.rd b).toNat).setWidth 64)).next)) ∧
    (loop < 1024 →
      exec (.opLin p d a imm) s = .next (s.retired p c 3
        (c.wr d ((BitVec.ofNat 32 (if n < 16 then s.scan.data.nat adr 4 else c.lArea.nat adr 4)).signExtend 64)).next)) ∧
    (loop < 1024 → n < 16 →
      exec (.opLout p d a imm) s = .next (s.retired p c 3 c.next
        (fun t => (t.putData adr (leBytes 4 (c.rd d).toNat)).modSlot p (fun x => { x with lWrote := adr :: x.lWrote })))) ∧
    (8192 ≤ ch → Completes (.opSpr p d a imm) s (Trapped p c 0x0A 0) ∧ Completes (.opSps p d a imm) s (Trapped p c 0x0A 0)) ∧
    (1024 ≤ loop → Completes (.opLin p d a imm) s (Trapped p c 0x09 0) ∧ Completes (.opLout p d a imm) s (Trapped p c 0x09 0)) ∧
    (loop < 1024 → 16 ≤ n → Completes (.opLout p d a imm) s (Trapped p c 0x03 8))

/-- R134 to R136, R166, R167: the block instructions. `blockEval` is the evaluation, `blockWrite` the record's bytes. -/
def Obligations.ScanBlockResults : Prop :=
  ∀ (s : State) (p : Nat) (c : Cycle) (d a x : SReg) (vp rs : Bool) (num : BitVec 9), p < 32 → s.liveCycle p = some c →
    let m := s.image p
    let n := (num.toNat + (c.rd x).toNat) % 2 ^ 64
    let adr := s.secBase p (if rs then 7 else 6) + 32 * n
    ∀ r ∈ [(Instr.opTon p d a x vp rs num, 0, (if vp then 34 else 10), vp), (.opTof p d a x vp rs num, 1, (if vp then 34 else 10), vp),
           (.opTp p d a x vp rs num, 2, (if vp then 34 else 10), vp), (.opCtu p d a x vp rs num, 3, (if vp then 9 else 8), vp),
           (.opCtd p d a x vp rs num, 4, (if vp then 9 else 8), vp), (.opCtud p d a x vp rs num, 5, (if vp then 11 else 10), vp),
           (.opRTrig p d a x rs num, 6, 6, false), (.opFTrig p d a x rs num, 7, 6, false)],
      let kind := r.2.1
      let preset := r.2.2.2
      let rec_ := blockRead s.scan.data adr
      let pr : Int := if preset then
          (let v := ival false (c.rd (SReg.up a (blockInputs kind))); if isTimer kind then (presetCycles (Image.k m) v : Nat) else v)
        else rec_.preset
      let after := blockEval kind (fun i => c.rd (SReg.up a i) != 0) pr rec_
      let mem := blockWrite s.scan.data adr kind (Image.k m) after
      (blockIllegal kind a preset = false → n < (if rs then Image.instR m else Image.instN m) → s.scan.data.nat (adr + 4) 1 = kind →
        exec r.1 s = .next (s.retired p c r.2.2.1 (c.wr d (if after.q then 1 else 0)).next
          (fun t => ({ t with scan := { t.scan with data := mem } }).foldMem 0 mem adr 32))) ∧
      (blockIllegal kind a preset = false → ((if rs then Image.instR m else Image.instN m) ≤ n ∨ s.scan.data.nat (adr + 4) 1 ≠ kind) →
        Completes r.1 s (Trapped p c 0x08 kind))

/-- R33 to R36: the common registers that act on a write, and the message of a write that leaves EVT_PEND non-zero. -/
def Obligations.CommonRegisterWritesAct : Prop :=
  (∀ (s : State) (path : HostPath) (h : Nat) (v : Word), h ∈ headPages → Reaches s (h * 0x1000) →
      (v.toNat / 2 ^ 31 % 2 = 1 → Completes (.errClear path h v) s (fun t => t.rg (Reg.errCode h) = 0 ∧ t.rg (Reg.errInfo h) = 0 ∧
        RegsKept [Reg.errCode h, Reg.errInfo h] s t ∧ OnlyRegisters s t)) ∧
      Completes (.protKeyWrite path h v) s (fun t =>
        t.protOf h = (if v = 0x9A3C then some .first else if v = 0x65C3 ∧ s.protOf h = some .first then some .opened else none) ∧
        RegsKept [] s t ∧ OnlyRegisters s t) ∧
      Completes (.evtRawClear path h v) s (fun t => t.rg (Reg.evtRaw h) = s.rg (Reg.evtRaw h) &&& ~~~v ∧
        RegsKept [Reg.evtRaw h] s t ∧ OnlyRegisters s t) ∧
      Completes (.evtMaskWrite path h v) s (fun t => t.rg (Reg.evtMask h) = v ∧ RegsKept [Reg.evtMask h] s t ∧ OnlyRegisters s t)) ∧
  (∀ (s : State) (path : HostPath) (h : Nat) (v : Word), h ∈ headPages → Reaches s (h * 0x1000) →
      s.pcieUp = true → s.hostEn h = true →
      let msg := OutMsg.msix (s.fld (Reg.evtRoute h) 4 0)
      Completes (.evtRawClear path h v) s (fun t =>
        t.out = s.out ++ (if (s.rg (Reg.evtRaw h) &&& ~~~v) &&& s.rg (Reg.evtMask h) = 0 then [] else [msg])) ∧
      Completes (.evtMaskWrite path h v) s (fun t => t.out = s.out ++ (if s.rg (Reg.evtRaw h) &&& v = 0 then [] else [msg])))

/-- R29 to R31, R254, R288, R347: BLK_CTRL. -/
def Obligations.BlockControlWritesAct : Prop :=
  (∀ (s : State) (path : HostPath) (h : Nat) (v : Word), h ∈ headPages → Reaches s (h * 0x1000) →
      let enable := bit v.toNat 0
      let reset := bit v.toNat 1
      let freeze := bit v.toNat 2
      (enable = s.enabled h → reset = false → (s.fld (Reg.ctrl h) 2 2 = 1) ≠ (freeze = true) →
        Completes (.freeze path h v) s (fun t => (t.fld (Reg.ctrl h) 2 2 = 1 ↔ freeze = true) ∧
          (freeze = true → ({ head := h, setBeat := s.beat, view := none } : Frozen) ∈ t.reg.frozen) ∧
          (freeze = false → ∀ f ∈ t.reg.frozen, f.head ≠ h))) ∧
      (∀ f, s.reg.frozen.find? (fun x => x.head == h) = some f → f.setBeat + 4000 ≤ s.beat → s.fld (Reg.ctrl h) 2 2 = 1 →
        Completes (.freezeExpire h) s (fun t => t.fld (Reg.ctrl h) 2 2 = 0 ∧ RegsKept [Reg.ctrl h] s t ∧ ∀ x ∈ t.reg.frozen, x.head ≠ h)) ∧
      (h ∈ [Head.scan, Head.loop, Head.eth, Head.time, Head.lio, Head.update, Head.keys, Head.backup] → reset = false →
        Completes (.blockEnable path h v) s (fun t => t.enabled h = enable)) ∧
      (enable = false → reset = true → s.enabled h = false → s.blkFault h = false →
        Completes (.softReset path h v) s (fun t => t.rg (Reg.evtRaw h) = 0 ∧ t.rg (Reg.errCode h) = 0 ∧ t.rg (Reg.errInfo h) = 0 ∧
          (h ≠ Head.seam → h ≠ Head.backup → t.rg (Reg.evtMask h) = 0 ∧ t.rg (Reg.evtRoute h) = 0x00800000))) ∧
      (enable = true → reset = true → s.enabled h = true → s.fld (Reg.errCode h) 7 0 = 0 →
        Completes (.softReset path h v) s (fun t => t.rg (Reg.errCode h) = BitVec.ofNat 32 (0x04 + 256 * 0x008) ∧ t.rg (Reg.errInfo h) = v ∧
          t.enabled h = true))) ∧
  (∀ (s : State) (path : HostPath) (ch : Nat) (v : Word), ch < 8 → bit v.toNat 0 = true → bit v.toNat 1 = false →
      (Reaches s (Head.bus ch * 0x1000) → s.enabled (Head.bus ch) = false →
        (∀ c, s.busEnableRefused ch = some c → s.fld (Reg.errCode (Head.bus ch)) 7 0 = 0 →
          Completes (.busChannelEnable path ch v) s (fun t => t.enabled (Head.bus ch) = false ∧
            t.rg (Reg.errCode (Head.bus ch)) = BitVec.ofNat 32 (c + 256 * 0x008) ∧ t.rg (Reg.errInfo (Head.bus ch)) = v)) ∧
        (s.busEnableRefused ch = none → s.blkFault (Head.bus ch) = false →
          Completes (.busChannelEnable path ch v) s (fun t => t.enabled (Head.bus ch) = true ∧ t.blkState (Head.bus ch) = 1 ∧
            t.rg (Reg.FB_ERRCNT ch) = 0))) ∧
      (Reaches s (Head.meter * 0x1000) → s.enabled Head.meter = false →
        (∀ w, s.meterRefused = some w → s.fld (Reg.errCode Head.meter) 7 0 = 0 →
          Completes (.meterEnable path v) s (fun t => t.enabled Head.meter = false ∧
            t.rg (Reg.errCode Head.meter) = BitVec.ofNat 32 (0x03 + 256 * 0x008) ∧ t.rg (Reg.errInfo Head.meter) = w)) ∧
        (s.meterRefused = none → Completes (.meterEnable path v) s (fun t => t.enabled Head.meter = true))) ∧
      (Reaches s (Head.therm * 0x1000) → s.enabled Head.therm = false →
        (∀ w, s.thermRefused = some w → s.fld (Reg.errCode Head.therm) 7 0 = 0 →
          Completes (.thermEnable path v) s (fun t => t.enabled Head.therm = false ∧
            t.rg (Reg.errCode Head.therm) = BitVec.ofNat 32 (0x03 + 256 * 0x008) ∧ t.rg (Reg.errInfo Head.therm) = w)) ∧
        (s.thermRefused = none → Completes (.thermEnable path v) s (fun t => t.enabled Head.therm = true))))

/-- R10, R50, R52, R72, R88, R108, R128, R284, R447: writes to single registers. -/
def Obligations.SingleRegisterWrites : Prop :=
  (∀ (s : State) (path : HostPath) (v : Word), Reaches s Reg.FRAME_CTRL →
      let run := wbits v 0 0
      (Opened s Head.frame → bit v.toNat 1 = false → run = 1 → s.fld Reg.FRAME_CTRL 0 0 = 0 → s.blkState Head.frame = 0 →
        Completes (.frameRun path v) s (fun t => t.blkState Head.frame = 1 ∧ t.fld Reg.FRAME_CTRL 0 0 = 1)) ∧
      (Opened s Head.frame → bit v.toNat 1 = false → run = 0 → s.fld Reg.FRAME_CTRL 0 0 = 1 →
        (s.blkState Head.frame = 1 → Completes (.frameStop path v) s (fun t => t.blkState Head.frame = 0 ∧ t.fld Reg.FRAME_CTRL 0 0 = 0)) ∧
        (s.blkState Head.frame = 2 → Completes (.frameStop path v) s (fun t =>
          t.frame.stopping = true ∧ t.blkState Head.frame = 2 ∧ t.fld Reg.FRAME_CTRL 0 0 = 0))) ∧
      (bit v.toNat 1 = true → run = s.fld Reg.FRAME_CTRL 0 0 →
        Completes (.clrMax path v) s (fun t => t.frame = { s.frame with clrMax := true } ∧ RegsKept [] s t)) ∧
      (∀ b, b = (s.rg Reg.BEAT_ALARM_LO).toNat + 2 ^ 32 * v.toNat →
        Completes (.beatAlarmArm path v) s (fun t => t.rg Reg.BEAT_ALARM_HI = v ∧
          (0 < stampDiff b s.beat → t.frame.alarm = some b) ∧
          (stampDiff b s.beat ≤ 0 → t.frame.alarm = none ∧ bit (t.rg (Reg.evtRaw Head.frame)).toNat 5 = true))) ∧
      (∀ b, s.frame.alarm = some b → b ≤ s.beat →
        Completes .beatMatch s (fun t => t.frame = { s.frame with alarm := none } ∧ bit (t.rg (Reg.evtRaw Head.frame)).toNat 5 = true ∧
          RegsKept [Reg.evtRaw Head.frame] s t))) ∧
  (∀ (s : State) (path : HostPath) (v : Word) (n : Nat), n < 4 →
      (∀ a ∈ [Reg.TB_COMP n, Reg.PORT_ASYM (n % 2), Reg.BEAT_ALARM_LO], Reaches s a →
        Completes (.registerWrite path a 4 v) s (fun t => t.rg a = v ∧ RegsKept [a] s t ∧ OnlyRegisters s t)) ∧
      (∀ a w, a < 0x1000000 → w ≠ 4 → s.boot.held = false → s.seam.pf ≠ some .held → s.fld Reg.PCIE_ERR_INFO 7 0 = 0 →
        Completes (.registerWrite .pcie a w v) s (fun t => t.rg Reg.PCIE_ERR_ADDR = BitVec.ofNat 32 a ∧
          t.fld Reg.PCIE_ERR_INFO 7 0 = 0x02 ∧ t.fld Reg.PCIE_ERR_INFO 8 8 = 1 ∧
          RegsKept [Reg.PCIE_ERR_ADDR, Reg.PCIE_ERR_INFO, Reg.evtRaw Head.host] s t)) ∧
      (Reaches s Reg.FLOG_SEL → Completes (.flogSelWrite path v) s (fun t => t.fld Reg.FLOG_SEL 7 0 = v.toNat % 256 ∧
        (∀ x ∈ t.reg.flogLatch, x.1 ≠ path) ∧ RegsKept [Reg.FLOG_SEL] s t)) ∧
      (Reaches s (Reg.TB_CFG n) → Opened s Head.time → v.toNat / 2 ^ 23 = 0 → wbits v 15 13 = 0 → wbits v 3 3 = 0 →
        wbits v 21 20 < 3 → wbits v 19 18 < 2 → wbits v 17 16 < 3 → wbits v 11 4 < 128 → wbits v 2 0 < 5 → s.rg (Reg.TB_CFG n) = 0 →
        s.tbCfgRefused n v = none → Completes (.tbCfgWrite path n v) s (fun t => t.rg (Reg.TB_CFG n) = v)) ∧
      (Reaches s Reg.RTC_CFG → wbits v 0 0 = 1 → 1 ≤ wbits v 15 4 → wbits v 15 4 ≤ 1024 → s.time.rtc = none →
        Completes (.rtcMeasure path v) s (fun t => t.time.rtc = some { startBeat := s.beat, gate := wbits v 15 4 } ∧
          t.fld Reg.RTC_CFG 0 0 = 1 ∧ t.fld Reg.RTC_CFG 15 4 = wbits v 15 4)) ∧
      (Reaches s Reg.SCAN_CTRL → Opened s Head.scan → bit v.toNat 0 = false →
        Completes (.scanCtrlWrite path v) s (fun t => t.fld Reg.SCAN_CTRL 0 0 = 0 ∧ t.fld Reg.SCAN_CTRL 1 1 = wbits v 1 1 ∧
          ∀ x ∈ t.scan.slots, x.breaks = List.replicate 8 none)) ∧
      (∀ ch < 8, Reaches s (Reg.FB_CTRL ch) → v.toNat = s.fld (Reg.FB_CTRL ch) 6 0 + 128 →
        s.fld (Reg.FB_CTRL ch) 6 5 < 3 → s.fld (Reg.FB_CTRL ch) 4 3 < 2 →
        Completes (.clrCnt path ch v) s (fun t => t.rg (Reg.BIT_ERR_CNT ch) = 0 ∧ t.rg (Reg.BUSOFF_CNT ch) = s.rg (Reg.BUSOFF_CNT ch))))

/-- R435, R438, R442: acceptance and completion of a request. -/
def Obligations.AcceptedRequestsAreJournaled : Prop :=
  ∀ (s : State) (op : Nat) (owner : Bool) (req : OctahReq), OctahReady op owner req s → req.src ≠ .mirror → s.host.journal.length = 256 →
    let a := s.acceptedReq op req
    (a.jentry req.tag =
        { JEntry.free with state := .accepted, path := req.src.link.num, opcode := op,
                           jseq := (s.rg Reg.JSEQ_LAST).toNat + 1, session := req.sid, acceptBeat := s.hdrBeat, reqDigest := shake req.pl 8 } ∧
      a.rg Reg.JSEQ_LAST = s.rg Reg.JSEQ_LAST + 1 ∧ RegsKept [Reg.JSEQ_LAST] s a ∧ (∀ g, g ≠ req.tag → a.jentry g = s.jentry g) ∧
      a.host.waiting = s.host.waiting.erase req ∧ a = { s with reg := a.reg, host := a.host }) ∧
    (∀ payload : List Byte, ∀ t, t = a.opOk req.tag payload →
      t.jentry req.tag =
        { a.jentry req.tag with state := .done, result := 0, endBeat := s.hdrBeat, progress := 0,
                                respLen := payload.length, respHead := bytesAt payload 0 192 } ∧
      (∀ g, g ≠ req.tag → t.jentry g = s.jentry g) ∧ t.host.waiting = a.host.waiting)

/-- R435: the order of checks. -/
def Obligations.RequestsAreCheckedInOrder : Prop :=
  (∀ (s : State) (row : OpRow) (req : OctahReq), s.silent = false → Pkt.opcode req.packet = row.opcode → req.src ≠ .mirror →
    let w : State := { s with host := { s.host with waiting := s.host.waiting.erase req } }
    let a := s.acceptedReq row.opcode req
    (Pkt.ver req.packet ≠ 1 → octah row req s = w.respondAway req Code.version) ∧
    (Pkt.ver req.packet = 1 → s.authentic req = false → octah row req s = w.respondAway req Code.auth) ∧
    (Pkt.ver req.packet = 1 → s.authentic req = true → s.tagOwner req = false → octah row req s = w.respondAway req Code.notOwner) ∧
    (Pkt.ver req.packet = 1 → s.authentic req = true → s.tagOwner req = true → s.tagFree req = false →
      octah row req s = w.respondAway req Code.busy) ∧
    (Pkt.ver req.packet = 1 → s.authentic req = true → s.tagOwner req = true → s.tagFree req = true →
      (s.stump = true → stumpServes row.opcode = true) →
      let fits := row.len (Pkt.length req.packet) = true ∧ row.fits req.pl = true
      let mine := row.owner = true → s.owns = true
      (¬ fits → octah row req s = a.opFail req.tag (.code Code.badLength)) ∧
      (fits → ¬ mine → octah row req s = a.opFail req.tag (.code Code.notOwner)) ∧
      (fits → mine → ∀ o, row.args a req.pl = some o → octah row req s = a.opFail req.tag (.arg o)) ∧
      (fits → mine → row.args a req.pl = none → ∀ r, row.legal a req = some r → octah row req s = a.opFail req.tag r) ∧
      (fits → mine → row.args a req.pl = none → row.legal a req = none →
        octah row req s = row.run (s.taken row.opcode row.owner req) req))) ∧
  (∀ (s : State) (req : OctahReq), OctahReady (Pkt.opcode req.packet) false req s → req.src ≠ .mirror →
    opcodeDefined (Pkt.opcode req.packet) = false →
    exec (.octahUndefinedOpcode req) s = .next ((s.acceptedReq (Pkt.opcode req.packet) req).opFail req.tag (.code Code.badOpcode)))

/-- R436. -/
def Obligations.FailurePayloadsNameTheRefusal : Prop :=
  ∀ (s : State),
    (∀ h ∈ headPages, (Refuse.state h).status = 0x04 ∧ (Refuse.payload s (.state h)).length = 4 ∧
      natAt (Refuse.payload s (.state h)) 0 2 = typeOf h ∧ natAt (Refuse.payload s (.state h)) 2 1 = instOf h ∧
      natAt (Refuse.payload s (.state h)) 3 1 = s.blkState h) ∧
    (∀ o < 4096, (Refuse.arg o).status = 0x03 ∧ (Refuse.payload s (.arg o)).length = 4 ∧ natAt (Refuse.payload s (.arg o)) 0 2 = o ∧
      natAt (Refuse.payload s (.arg o)) 2 2 = 0) ∧
    (∀ c, (Refuse.code c).status = c ∧ Refuse.payload s (.code c) = [])

/-- R431: discarding a packet. -/
def Obligations.ReceivedPacketsAreDiscardedOrWait : Prop :=
  ∀ (s : State) (req : OctahReq),
    let p := req.packet
    let discarded := p.length ≠ 64 + Pkt.padded p ∨ 4096 < p.length ∨ (crc32c (p.take (60 + Pkt.padded p))).toNat ≠ Pkt.crc p ∨
      bit (Pkt.flags p) 0 = true ∨ bit (Pkt.flags p) 1 = true
    (discarded → s.packetIn req = s.setRg Reg.CRC_DROP_CNT (satInc (s.rg Reg.CRC_DROP_CNT))) ∧
    (¬ discarded → s.host.waiting.length < 64 →
      s.packetIn req = { s with host := { s.host with waiting := s.host.waiting ++ [req] } }) ∧
    (¬ discarded → 64 ≤ s.host.waiting.length → s.packetIn req = s.setRg Reg.RX_DROP_CNT (satInc (s.rg Reg.RX_DROP_CNT)))

/-- R423: the slots of the command window. -/
def Obligations.CommandWindowWorks : Prop :=
  ∀ (s : State) (n : Nat) (x : CmdSlot), n < 16 → s.host.slots.length = 16 → s.host.slots[n]? = some x →
    (∀ path ofs data, s.boot.held = false → s.seam.pf ≠ some .held → x.mode = .free → data ≠ [] → ofs % 4 = 0 → data.length % 4 = 0 →
      ofs + data.length ≤ 0x1000 →
      Completes (.commandWindowWrite path (0x1000 * n + ofs) data) s (fun t =>
        (∀ k, (hk : k < data.length) → t.host.slotMem.get (0x1000 * n + ofs + k) = data[k]) ∧
        (∀ a, (a < 0x1000 * n + ofs ∨ 0x1000 * n + ofs + data.length ≤ a) → t.host.slotMem.get a = s.host.slotMem.get a) ∧
        t = { s with host := { s.host with slotMem := t.host.slotMem } })) ∧
    (∀ path link (v : Word), (path, link) ∈ [(HostPath.pcie, Link.pcie), (HostPath.qspi, Link.qspi)] → Reaches s (Reg.SLOT_CTRL n) →
      x.mode = .free → s.silent = false → bit v.toNat 16 = true → bit v.toNat 17 = false →
      Pkt.sound (s.host.slotMem.getN (0x1000 * n) (wbits v 12 0)) = true → s.host.waiting.length < 64 →
      Completes (.slotPost path n v) s (fun t =>
        t.host.slots = s.host.slots.set n { x with mode := .posted, len := wbits v 12 0 } ∧
        t.host.waiting = s.host.waiting ++ [{ src := .slot link n, packet := s.host.slotMem.getN (0x1000 * n) (wbits v 12 0) }] ∧
        t.host.slotMem = s.host.slotMem ∧ RegsKept [] s t)) ∧
    (∀ path (v : Word), Reaches s (Reg.SLOT_CTRL n) → (x.mode = .response ∨ x.mode = .discarded) → bit v.toNat 16 = false →
      bit v.toNat 17 = true →
      Completes (.slotRelease path n v) s (fun t => t.host.slots = s.host.slots.set n { x with mode := .free, rlen := 0 } ∧
        t.host.waiting = s.host.waiting ∧ t.host.slotMem = s.host.slotMem ∧ RegsKept [] s t))

/-- R424 to R426: quad-SPI. -/
def Obligations.QuadSpiTransactions : Prop :=
  ∀ (s : State) (addr count : Nat) (words : List Word), s.boot.held = false → s.seam.pf ≠ some .held → 1 ≤ count → count ≤ 256 →
    addr / 4096 = (addr + 4 * count - 1) / 4096 →
    let active := s.setFld Reg.HOST_STATUS 6 6 1
    Completes (.qspiRead addr count .full) s (fun t => ∃ ws : List Word, ws.length = count ∧
      t.out.getLast? = some (.qspi (leBytes 1 0xA5 ++ ws.flatMap (fun w => leBytes 4 w.toNat) ++
        leBytes 4 (crc32c (leBytes 1 0x3C ++ leBytes 4 addr ++ leBytes 2 count ++ ws.flatMap (fun w => leBytes 4 w.toNat))).toNat)) ∧
      (addr < 0x1000000 → ws.head? = some (active.readWord .qspi addr).1)) ∧
    (words.length = count → exec (.qspiWrite addr count words true false) s = .next (active.qspiApply addr words)) ∧
    Completes (.qspiWrite addr count words true true) s (fun t => t.host = { s.host with qspiErr := true } ∧ t.scan = s.scan) ∧
    (words.length ≠ count → Completes (.qspiWrite addr count words true false) s (fun t => t.host = { s.host with qspiErr := true })) ∧
    Completes (.qspiStatus false) s (fun t => t.host = { s.host with qspiErr := false } ∧
      t.out = s.out ++ [.qspi [BitVec.ofNat 8 (2 * b2n s.host.qspiErr + 4 * b2n (!s.hostIntLow))]])

/-- R427, R428, R449: Ethernet. -/
def Obligations.EthernetReceiveAndReply : Prop :=
  ∀ (s : State) (f : EthFrame), s.enabled Head.eth = true → s.silent = false → s.stump = false →
    (f.port = 0 → f.good = true → f.vid = none → s.fld Reg.ETH_CFG 1 1 = 1 → s.fld Reg.ETH_CFG 4 4 = 0 → s.prpOn = false →
      (∀ g : EthFragment, g.ofs = 0 → g.more = false → g.data.length ≤ 4104 →
        exec (.octahDatagramRx f g) s = .next (s.packetIn { src := .eth g.addr g.udp, packet := g.data.drop 8 })) ∧
      (∀ g : EthFragment, g.ofs = 0 → g.more = true → g.data.length ≤ 4104 → s.host.reasm = [] →
        Completes (.octahDatagramRx f g) s (fun t =>
          t.host.reasm = [{ addr := g.addr, ident := g.ident, startNs := s.nsCount, parts := [(0, g.data)], total := none }] ∧
          t = { s with host := { s.host with reasm := t.host.reasm } })) ∧
      (∀ mac ip, exec (.arpRequest f mac ip s.ipv4) s =
        .next { s with out := s.out ++ [.netReply "ARP" 0 mac (s.mac 0 ++ s.ipv4 ++ mac ++ ip)] }) ∧
      (∀ src content, exec (.icmpEcho f src s.ipv4 content) s = .next { s with out := s.out ++ [.netReply "ICMP" 0 src content] }) ∧
      (∀ src target, target ∈ s.ipv6 → s.fld Reg.ETH_CFG 3 3 = 1 →
        exec (.neighborDiscovery f src target) s = .next { s with out := s.out ++ [.netReply "ND" 0 src (target ++ s.mac 0)] })) ∧
    (s.prpOn = true → s.fld Reg.ETH_CFG 1 1 = 1 → s.fld Reg.ETH_CFG 2 2 = 1 →
      Completes .prpSupervision s (fun t =>
        t.out = s.out ++ [.prpSupervision 0 s.host.prpSup (s.mac 0), .prpSupervision 1 s.host.prpSup (s.mac 0)] ∧
        t.host = { s.host with prpSup := (s.host.prpSup + 1) % 65536 } ∧ t = { s with out := t.out, host := t.host })) ∧
    Completes .reassemblyTimeout s (fun t => ∀ r, r ∈ t.host.reasm ↔ r ∈ s.host.reasm ∧ s.nsCount < r.startNs + 1000000000) ∧
    (∀ port up gbit, port < 2 → Completes (.linkChange port up gbit) s (fun t => t.fld Reg.ETH_STATUS port port = b2n up ∧
      t.fld Reg.ETH_STATUS (port + 2) (port + 2) = b2n (up && gbit)))

/-- R432, R440, R442, R444: the host chapter's opcodes. -/
def Obligations.HostCommandsComplete : Prop :=
  Reads 0x0000 .devInfo (Len 0) (fun s _ =>
    leBytes 4 (s.rg Reg.DEV_PART).toNat ++ leBytes 4 (blkRev Head.dev) ++ leBytes 1 s.role ++ leBytes 1 (b2n (s.pairId == 1)) ++ leBytes 2 0 ++
      s.mac 0 ++ s.mac 1 ++ leBytes 4 (s.rg Reg.FW_TAG).toNat ++ leBytes 4 (s.rg Reg.BUNDLE_TAG).toNat ++ idHash) ∧
  Reads 0x0003 .echo (fun _ r => Pkt.length r.packet ≤ 4032) (fun _ r => r.pl) ∧
  Reads 0x0C00 .journalRead
    (fun _ r => Pkt.length r.packet = 4 ∧ 1 ≤ natAt r.pl 1 1 ∧ natAt r.pl 1 1 ≤ 15 ∧ natAt r.pl 0 1 + natAt r.pl 1 1 ≤ 256 ∧ natAt r.pl 2 2 = 0)
    (fun s r => (List.range (natAt r.pl 1 1)).flatMap (fun k => JEntry.bytes (natAt r.pl 0 1 + k) (s.jentry (natAt r.pl 0 1 + k)))) ∧
  Answers 0x0100 false .regRead
    (fun _ r => Pkt.length r.packet = 8 ∧ natAt r.pl 0 4 % 4 = 0 ∧ 1 ≤ natAt r.pl 4 2 ∧ natAt r.pl 4 2 ≤ 1000 ∧
      natAt r.pl 0 4 + 4 * natAt r.pl 4 2 ≤ 0x1000000 ∧ natAt r.pl 6 2 = 0)
    (fun s r => let x := s.readWords (reqPath r) (natAt r.pl 0 4) (natAt r.pl 4 2)
                x.2.opOk r.tag (x.1.flatMap (fun w => leBytes 4 w.toNat))) ∧
  Answers 0x0101 false .regWrite
    (fun s r => Pkt.length r.packet = 12 ∧ natAt r.pl 0 4 % 4 = 0 ∧ natAt r.pl 4 2 = 1 ∧ natAt r.pl 0 4 < 0x1000000 ∧ natAt r.pl 6 2 = 0 ∧
      (s.opStart r.tag).writeCode (reqPath r) (natAt r.pl 0 4) (BitVec.ofNat 32 (natAt r.pl 8 4)) = 0)
    (fun s r => ((s.opStart r.tag).regWrite (reqPath r) (natAt r.pl 0 4) 4 (BitVec.ofNat 32 (natAt r.pl 8 4))).opEnd r.tag 0 (leBytes 2 1 ++ leBytes 2 0) 1) ∧
  (∀ (s : State) (req : OctahReq), OctahReady 0x0C01 false req s → Pkt.length req.packet = 32 → s.host.journal.length = 256 → req.src ≠ .mirror →
    Completes (.journalRelease req) s (fun t => ∀ g < 256, g ≠ req.tag →
      t.jentry g = if bit (natAt req.pl 0 32) g = true ∧ (s.jentry g).state.final = true then JEntry.free else s.jentry g)) ∧
  (∀ (s : State) (req : OctahReq), OctahReady 0x0001 false req s → Pkt.length req.packet = 20 → natAt req.pl 1 3 = 0 →
    s.host.sessions.length < 8 → s.keys.rngOk = true → slotRefused (s.keySlot (natAt req.pl 0 1)) 2 2 = none →
    (s.keySlot (natAt req.pl 0 1)).limited = false →
    Completes (.sessionOpen req) s (fun t => ∃ x : Session, t.host.sessions.map (·.id) = s.host.sessions.map (·.id) ++ [x.id] ∧
      t.host.sessions.getLast? = some x ∧ x.id ≠ 0 ∧ x.keySlot = natAt req.pl 0 1 ∧ x.rxHigh = 0 ∧ x.rxSeen = [] ∧ x.lastNs = s.nsCount)) ∧
  (∀ (s : State) (req : OctahReq), OctahReady 0x0002 false req s → Pkt.length req.packet = 0 → req.src ≠ .mirror →
    Completes (.sessionClose req) s (fun t => (∀ x ∈ t.host.sessions, x.id ≠ req.sid) ∧
      (∀ x ∈ s.host.sessions, x.id ≠ req.sid → x ∈ t.host.sessions))) ∧
  (∀ (s : State) (x : Session), s.session? x.id = some x → x.lastNs + 60000000000 ≤ s.nsCount →
    Completes (.sessionTimeout x.id) s (fun t => t.session? x.id = none ∧ ∀ y ∈ s.host.sessions, y.id ≠ x.id → y ∈ t.host.sessions))

/-- R12, R50, R422, R527: supplies, links and latched reads. -/
def Obligations.SuppliesAndLinksShow : Prop :=
  ∀ (s : State),
    (∀ ok : Bool, let c (x : Supply) : Instr := if ok then .supplyReturn x else .supplyOutOfRange x
      (Completes (c .vinBus) s (fun t => t.fld Reg.PWR_STATUS 1 1 = b2n ok ∧ RegsKept [Reg.PWR_STATUS] s t ∧ OnlyRegisters s t)) ∧
      (Completes (c .vinAfe) s (fun t => t.fld Reg.PWR_STATUS 2 2 = b2n ok ∧ RegsKept [Reg.PWR_STATUS] s t ∧ OnlyRegisters s t)) ∧
      (∀ k, 1 ≤ k → k ≤ 4 → Completes (c (.vio k)) s (fun t => bit t.boot.vio (k - 1) = ok ∧
        t = { s with boot := { s.boot with vio := t.boot.vio } }))) ∧
    Completes .pcieReset s (fun t => t.fld Reg.HOST_STATUS 5 0 = 0 ∧ RegsKept [Reg.HOST_STATUS] s t ∧ OnlyRegisters s t) ∧
    (∀ width speed msix, width < 4 → speed < 4 → Completes (.pcieLinkChange true width speed msix) s (fun t =>
      t.pcieUp = true ∧ t.fld Reg.HOST_STATUS 2 1 = width ∧ t.fld Reg.HOST_STATUS 4 3 = speed ∧ t.fld Reg.HOST_STATUS 5 5 = b2n msix ∧
      RegsKept [Reg.HOST_STATUS] s t ∧ OnlyRegisters s t)) ∧
    (∀ path, ∀ a ∈ [Reg.BEAT_CNT_LO, Reg.PPS_IN_LO, Reg.GEN_LO, Reg.LEASE_END_LO, Reg.BK_CNT_LO], Reaches s a → s.latched path a = none →
      Completes (.lowWordRead path a) s (fun t => t.out = s.out ++ [.readData path a (s.regShown a)] ∧
        t.latched path (a + 4) = some (s.regShown (a + 4)) ∧ RegsKept [] s t ∧ OnlyRegisters s t)) ∧
    (∀ path, Reaches s (Reg.FLOG_DATA 0) → Completes (.flogData0Read path) s (fun t =>
      t.out = s.out ++ [.readData path (Reg.FLOG_DATA 0) (s.flogEntry.getD 0 0)] ∧
      t.reg.flogLatch.find? (fun x => x.1 == path) = some (path, s.flogEntry) ∧ RegsKept [] s t ∧ OnlyRegisters s t))

/-- R350, R351, R354, R359, R447: registers and window of Seam. -/
def Obligations.SeamWindowAndControlWrites : Prop :=
  ∀ (s : State) (path : HostPath) (v : Word),
    (∀ a < 0x80000, a % 4 = 0 → s.boot.held = false → s.seam.pf ≠ some .held → s.stump = false →
      (s.pageRefused (a / 256) = none → Completes (.seamWindowWrite path (0x800000 + a) v) s (fun t =>
        t.seam.sram = s.seam.sram.putN a (leBytes 4 v.toNat) ∧ t = { s with seam := t.seam } ∧
        (∀ b, (b < a ∨ a + 4 ≤ b) → t.seam.sram.get b = s.seam.sram.get b))) ∧
      (∀ c, s.pageRefused (a / 256) = some c → s.fld (Reg.errCode Head.seam) 7 0 = 0 →
        Completes (.seamWindowWrite path (0x800000 + a) v) s (fun t =>
          t.rg (Reg.errCode Head.seam) = BitVec.ofNat 32 (c + 256 * (a % 4096) + 2 ^ 20) ∧ t.rg (Reg.errInfo Head.seam) = v ∧ OnlyRegisters s t))) ∧
    (Reaches s Reg.SEAM_CMD → wbits v 0 0 = 1 → s.enabled Head.seam = true →
      Completes (.seamCmdStore path v) s (fun t =>
        t.seam = { s.seam with queued := some (s.seam.queued.getD [] ++ [.plain]) } ∧ t = { s with reg := t.reg, seam := t.seam })) ∧
    (Reaches s Reg.SEAM_HOLD → s.seam.pf = none →
      (wbits v 0 0 = 1 → s.seam.bracket = none → Completes (.seamHoldWrite path v) s (fun t =>
        t.seam = { s.seam with bracket := some (s.nsCount, []) } ∧ t.fld Reg.SEAM_HOLD 0 0 = 1 ∧ t = { s with reg := t.reg, seam := t.seam })) ∧
      (wbits v 0 0 = 0 → Completes (.seamHoldWrite path v) s (fun t =>
        t.seam = { s.seam with bracket := none } ∧ t.fld Reg.SEAM_HOLD 0 0 = 0 ∧ t = { s with reg := t.reg, seam := t.seam }))) ∧
    (bit v.toNat 31 = true →
      (Reaches s Reg.PCIE_ERR_INFO → Completes (.pathErrClear path false v) s (fun t => t.rg Reg.PCIE_ERR_ADDR = 0 ∧
        t.rg Reg.PCIE_ERR_INFO = 0 ∧ RegsKept [Reg.PCIE_ERR_ADDR, Reg.PCIE_ERR_INFO] s t ∧ OnlyRegisters s t)) ∧
      (Reaches s Reg.QSPI_ERR_INFO → Completes (.pathErrClear path true v) s (fun t => t.rg Reg.QSPI_ERR_ADDR = 0 ∧
        t.rg Reg.QSPI_ERR_INFO = 0 ∧ RegsKept [Reg.QSPI_ERR_ADDR, Reg.QSPI_ERR_INFO] s t ∧ OnlyRegisters s t)))

/-- R370: the opcodes of Seam. -/
def Obligations.SeamCommandsComplete : Prop :=
  Reads 0x0700 .seamStatus (Len 0) (fun s _ => leBytes 8 s.beat ++ s.seamWords) ∧
  Reads 0x0701 .seamRead
    (fun _ r => Pkt.length r.packet = 4 ∧ 1 ≤ natAt r.pl 2 2 ∧ natAt r.pl 2 2 ≤ 15 ∧
      ∀ k < natAt r.pl 2 2, natAt r.pl 0 2 + k = 0 ∨ (32 ≤ natAt r.pl 0 2 + k ∧ natAt r.pl 0 2 + k < 2048))
    (fun s r => s.seamRead (256 * natAt r.pl 0 2) (256 * natAt r.pl 2 2)) ∧
  Reads 0x0705 .seamBankInfo (Len 0)
    (fun s _ => bytesAt (s.bank 0).sealed 0 32 ++ bytesAt (s.bank 1).sealed 0 32 ++ leBytes 1 (b2n (s.bank 0).valid + 2 * b2n (s.bank 1).valid) ++ leBytes 3 0) ∧
  Answers 0x0702 false .seamWrite
    (fun s r => Pkt.length r.packet = 4 + 256 * natAt r.pl 2 2 ∧ 1 ≤ natAt r.pl 2 2 ∧ natAt r.pl 2 2 ≤ 15 ∧
      ∀ k < natAt r.pl 2 2, s.pageRefused (natAt r.pl 0 2 + k) = none)
    (fun s r => ((s.opStart r.tag).seamPut (256 * natAt r.pl 0 2) (r.pl.drop 4) false).opOk r.tag []) ∧
  Answers 0x0703 false .seamStore (fun s r => Pkt.length r.packet = 0 ∧ s.enabled Head.seam = true)
    (fun s r => (s.opStart r.tag).requestStore (.command r.tag)) ∧
  (∀ (s : State) (req : OctahReq), OctahReady 0x0704 false req s → Pkt.length req.packet = 36 → natAt req.pl 0 4 = 0x4B434F4C →
    bytesAt req.pl 4 32 = shake (s.seam.sram.getN 0 256) 32 → s.seam.lock = 0 → s.seam.run = none →
    Completes (.seamLock req true) s (fun t => t.seam = { s.seam with lock := 1, lockOtp := s.seam.sram.getN 0 256 } ∧
      bit (t.rg (Reg.evtRaw Head.seam)).toNat 5 = true) ∧
    Completes (.seamLock req false) s (fun t => t.seam = { s.seam with lock := 2 }))

/-- R352 to R355, R359, R365: a store and its seal. -/
def Obligations.StoresBeginAndSeal : Prop :=
  ∀ (s : State), s.seam.banks.length = 2 →
    (∀ fors, s.seam.queued = some fors → s.seam.run = none → s.seam.bracket = none → s.seam.pf = none →
      Completes .seamStoreBegin s (fun t => (∃ r, t.seam.run = some r ∧ r.target = s.storeTarget ∧ r.fors = fors ∧ r.startNs = s.nsCount) ∧
        t.seam.queued = none ∧ (t.bank s.storeTarget).sealed = [] ∧ (t.bank s.storeTarget).image = s.seam.sram ∧
        t.bank (1 - s.storeTarget) = s.bank (1 - s.storeTarget) ∧ t.seam.sram = s.seam.sram ∧ t.blkState Head.seam = 2 ∧
        t = { s with reg := t.reg, seam := t.seam })) ∧
    (∀ r page us, s.seam.run = some r → r.target < 2 → r.fors = [.plain] →
      let gen := match s.newestBank with
        | some k => (s.bank k).gen + 1
        | none => 1
      let b := s.bank r.target
      Completes (.seamStoreDone true page us) s (fun t => t.seam.run = none ∧ t.seam.deferred = [] ∧
        t.bank r.target = { b with stores := b.stores + 1, sealed := sealOf (b.stores + 1) gen (crc32c (imageBytes b.sec b.image)).toNat r.stampNs } ∧
        t.bank (1 - r.target) = s.bank (1 - r.target) ∧ t.rg Reg.STORE_US_LAST = BitVec.ofNat 32 us ∧
        bit (t.rg (Reg.evtRaw Head.seam)).toNat 1 = true) ∧
      Completes (.seamStoreDone false page us) s (fun t => t.seam.run = none ∧ t.seam.banks = s.seam.banks ∧
        t.rg Reg.VERIFY_FAIL_CNT = satInc (s.rg Reg.VERIFY_FAIL_CNT) ∧ t.blkState Head.seam = 3)) ∧
    (∀ b, s.seam.bracket = some b → Completes .bracketTimeout s (fun t => t.seam = { s.seam with bracket := none } ∧ t.rg Reg.SEAM_HOLD = 0 ∧
      t.rg Reg.HOLD_TIMEOUT_CNT = satInc (s.rg Reg.HOLD_TIMEOUT_CNT) ∧ bit (t.rg (Reg.evtRaw Head.seam)).toNat 3 = true ∧
      t = { s with reg := t.reg, seam := t.seam, out := t.out })) ∧
    (∀ ok, Completes (.vholdOkChange ok) s (fun t => t.fld Reg.PWR_STATUS 3 3 = b2n ok ∧ OnlyRegisters s t ∧
      RegsKept [Reg.PWR_STATUS, Reg.VHOLD_LOW_CNT, Reg.evtRaw Head.pwr] s t))

/-- R360 to R363: the power-failure sequence. -/
def Obligations.PowerFailureSequence : Prop :=
  ∀ (s : State) (q : Nat), s.seam.banks.length = 2 →
    (s.seam.pf = none → s.seam.bracket = none → Completes (.pfiAccepted q) s (fun t =>
      t.seam.pf = some .storing ∧ (∃ r, t.seam.run = some r ∧ r.target = s.storeTarget ∧ r.fors = []) ∧ t.seam.queued = none ∧
      t.frame.withheld = true ∧ t.blkState Head.frame = 3 ∧ t.fld Reg.PWR_STATUS 4 4 = 0 ∧ t.scan = s.scan ∧ t.host = s.host)) ∧
    (∀ b, s.seam.pf = none → s.seam.bracket = some b → Completes (.pfiAccepted q) s (fun t =>
      t.seam.pf = some .waiting ∧ t.seam.run = none ∧ t.frame.withheld = true ∧ t.blkState Head.frame = 3)) ∧
    (∀ p, s.seam.pf = some p → exec (.pfiAccepted q) s = .next s) ∧
    (∀ since pages, s.seam.pf = some .waiting → s.seam.bracket = some (since, pages) → pages.length ≤ 16 →
      Completes .pfiBracketWaitEnd s (fun t => t.seam.pf = some .storing ∧ t.seam.bracket = none ∧ t.seam.run.isSome = true ∧
        t.seam.sram.nat (pfAddr + 6) 2 = pages.length)) ∧
    (∀ r, s.seam.pf = some .storing → s.seam.run = some r → r.target < 2 →
      Completes (.powerFailSeal true) s (fun t => t.seam.pf = some .held ∧ t.seam.run = none ∧
        (t.bank r.target).stores = (s.bank r.target).stores + 1 ∧ (t.bank r.target).sealed.length = 32 ∧
        t.bank (1 - r.target) = s.bank (1 - r.target)) ∧
      Completes (.powerFailSeal false) s (fun t => t.seam.pf = some .held ∧ t.seam.run = none ∧ t.seam.banks = s.seam.banks) ∧
      Completes .vholdCollapse s (fun t => t.seam.pf = some .held ∧ t.seam.run = none ∧ t.seam.banks = s.seam.banks))

/-- R461, R466, R467, R470, R472: the opcodes of the KE. -/
def Obligations.KeyCommandsComplete : Prop :=
  Reads 0x0900 .keyList
    (fun _ r => Pkt.length r.packet = 4 ∧ 1 ≤ natAt r.pl 1 1 ∧ natAt r.pl 1 1 ≤ 120 ∧ natAt r.pl 0 1 + natAt r.pl 1 1 ≤ 256 ∧ natAt r.pl 2 2 = 0)
    (fun s r => (List.range (natAt r.pl 1 1)).flatMap (fun k => (s.keySlot (natAt r.pl 0 1 + k)).desc)) ∧
  Reads 0x0901 .keyPublicRead
    (fun s r => Pkt.length r.packet = 4 ∧ natAt r.pl 0 1 < 3 ∧ natAt r.pl 1 3 = 0 ∧ (s.keySlot (natAt r.pl 0 1)).type ≠ 0)
    (fun s r => bytesAt (s.keySlot (natAt r.pl 0 1)).material 0 68) ∧
  Answers 0x0904 false .keyMac
    (fun s r => 36 ≤ Pkt.length r.packet ∧ Pkt.length r.packet ≤ 3936 ∧ natAt r.pl 1 1 = 0 ∧ natAt r.pl 2 1 ≤ 32 ∧ natAt r.pl 3 1 = 0 ∧
      (natAt r.pl 2 1 < 6 ∨ bytesAt r.pl 4 6 ≠ asciiBytes "FM9400") ∧ slotRefused (s.keySlot (natAt r.pl 0 1)) 2 2 = none)
    (fun s r => (s.opStart r.tag).keyDone r.tag (natAt r.pl 0 1)
      (kmac (s.keySlot (natAt r.pl 0 1)).material (r.pl.drop 36) (bytesAt r.pl 4 (natAt r.pl 2 1)) 32)) ∧
  Answers 0x0904 false .keyMac
    (fun s r => 68 ≤ Pkt.length r.packet ∧ Pkt.length r.packet ≤ 3968 ∧ natAt r.pl 1 1 = 1 ∧ natAt r.pl 2 1 ≤ 32 ∧ natAt r.pl 3 1 = 0 ∧
      (natAt r.pl 2 1 < 6 ∨ bytesAt r.pl 4 6 ≠ asciiBytes "FM9400") ∧ slotRefused (s.keySlot (natAt r.pl 0 1)) 2 3 = none)
    (fun s r => (s.opStart r.tag).keyDone r.tag (natAt r.pl 0 1) (leBytes 1 (b2n
      (kmac (s.keySlot (natAt r.pl 0 1)).material (r.pl.drop 68) (bytesAt r.pl 4 (natAt r.pl 2 1)) 32 == bytesAt r.pl 36 32)) ++ leBytes 3 0)) ∧
  Answers 0x0905 false .keyCrypt
    (fun s r => Pkt.length r.packet = 20 + natAt r.pl 2 2 + natAt r.pl 4 2 ∧ natAt r.pl 1 1 = 0 ∧ natAt r.pl 2 2 + natAt r.pl 4 2 ≤ 3980 ∧
      natAt r.pl 6 2 = 0 ∧ natAt r.pl 8 12 = 0 ∧ slotRefused (s.keySlot (natAt r.pl 0 1)) 1 0 = none)
    (fun s r =>
      let d := (s.opStart r.tag).drawBytes 12
      let data := bytesAt r.pl (20 + natAt r.pl 2 2) (natAt r.pl 4 2)
      let c := (List.range (data.length + 16)).map (Config.aesGcm (s.keySlot (natAt r.pl 0 1)).material d.1 (bytesAt r.pl 20 (natAt r.pl 2 2)) data)
      d.2.keyDone r.tag (natAt r.pl 0 1) (d.1 ++ c.drop data.length ++ c.take data.length)) ∧
  Answers 0x0905 false .keyCrypt
    (fun s r => Pkt.length r.packet = 36 + natAt r.pl 2 2 + natAt r.pl 4 2 ∧ natAt r.pl 1 1 = 1 ∧ natAt r.pl 2 2 + natAt r.pl 4 2 ≤ 3980 ∧
      natAt r.pl 6 2 = 0 ∧ slotRefused (s.keySlot (natAt r.pl 0 1)) 1 1 = none)
    (fun s r =>
      match Config.aesGcmOpen (s.keySlot (natAt r.pl 0 1)).material (bytesAt r.pl 8 12) (bytesAt r.pl 36 (natAt r.pl 2 2))
        (bytesAt r.pl (36 + natAt r.pl 2 2) (natAt r.pl 4 2) ++ bytesAt r.pl 20 16) with
      | some m => (s.opStart r.tag).keyDone r.tag (natAt r.pl 0 1) m
      | none => (s.opStart r.tag).opFail r.tag (.code 0x06)) ∧
  (∀ (s : State) (req : OctahReq) (l : List KeySlot) (named : List Nat), OctahReady 0x0902 false req s → s.keys.update = none →
    s.keys.rngOk = true → s.kuCheck req (fun k => ((s.drawBytes 256).1.drop (32 * k)).take 32) = .inr (l, named) →
    Completes (.keyUpdate req) s (fun t => (∃ u, t.keys.update = some u ∧ u.tag = req.tag ∧ u.slots = l ∧ u.targets = named ∧
        u.counter = natAt req.pl 0x28 8) ∧ t.keys.slots = s.keys.slots ∧ t.keys.counter = s.keys.counter ∧
      t.seam.queued = some (s.seam.queued.getD [] ++ [.keyUpdate]))) ∧
  (∀ (s : State) (req : OctahReq), OctahReady 0x0903 false req s → Pkt.length req.packet = 44 → natAt req.pl 32 1 ≤ 8 → natAt req.pl 33 3 = 0 →
    (s.keySlot 0).type = 3 → s.keys.nextLeaf < 1048576 → s.keys.rngOk = true →
    (s.keys.xmssReady = true → Completes (.attest req) s (fun t => t.keys.nextLeaf = s.keys.nextLeaf + 1 ∧
      t.seam.queued = some (s.seam.queued.getD [] ++ [.attest req.tag s.keys.nextLeaf]))) ∧
    (s.keys.xmssReady = false → Completes (.attest req) s (fun t => t.keys.attestWaiting = s.keys.attestWaiting ++ [req.tag] ∧
      t.keys.nextLeaf = s.keys.nextLeaf ∧ t.seam = s.seam))) ∧
  (∀ (s : State) (tag : Nat), (s.keySlot 0).type = 3 → s.keys.xmssReady = false → s.keys.attestWaiting = [tag] → s.keys.nextLeaf < 1048576 →
    Completes .xmssReady s (fun t => t.keys.xmssReady = true ∧ t.keys.attestWaiting = [] ∧ t.keys.nextLeaf = s.keys.nextLeaf + 1 ∧
      t.fld Reg.KEYS_STATUS 1 1 = 1 ∧ t.seam.queued = some (s.seam.queued.getD [] ++ [.attest tag s.keys.nextLeaf])))

/-- R482 to R485: the update session. -/
def Obligations.UpdateSessionCommands : Prop :=
  (∀ (s : State) (req : OctahReq), OctahReady 0x0A00 false req s → Pkt.length req.packet = 40 → 6728 ≤ natAt req.pl 0 4 →
    natAt req.pl 0 4 ≤ 50327552 → natAt req.pl 4 4 = 0 → s.upd.session = none → s.stump = false →
    (s.slotConfirmed = true ∨ s.goodSlot ≠ some s.updTarget) →
    Completes (.updateOpen req) s (fun t => (∃ x, t.upd.session = some x ∧ x.owner = req.sid ∧ x.len = natAt req.pl 0 4 ∧
      x.digest = bytesAt req.pl 8 32 ∧ x.units = [] ∧ x.data = [] ∧ x.closing = none ∧ x.orphanNs = none) ∧ t.upd.nor = s.upd.nor ∧
      t.blkState Head.update = 1)) ∧
  (∀ (s : State) (req : OctahReq) (x : UpdSession), OctahReady 0x0A01 false req s → s.upd.session = some x → s.stump = false →
    ownsUpdate x req = true → x.closing = none → x.orphanNs = none → 9 ≤ Pkt.length req.packet → Pkt.length req.packet ≤ 3848 →
    let o := natAt req.pl 0 4
    let d := req.pl.drop 8
    natAt req.pl 4 4 = 0 → o % 256 = 0 → (o + d.length = x.len ∨ (o + d.length ≤ x.len ∧ d.length % 256 = 0)) →
    Completes (.updateWrite req) s (fun t => ∃ y, t.upd.session = some y ∧ (∀ k, (hk : k < d.length) → y.data.get (o + k) = d[k]) ∧
      (∀ a, (a < o ∨ o + d.length ≤ a) → y.data.get a = x.data.get a) ∧
      (∀ u, u ∈ y.units ↔ u ∈ x.units ∨ (o ≤ 256 * u ∧ 256 * u < o + d.length)) ∧ t.upd.nor = s.upd.nor)) ∧
  Reads 0x0A02 .updateStatus
    (fun s r => Pkt.length r.packet = 8 ∧ natAt r.pl 0 4 % 8 = 0 ∧ 1 ≤ natAt r.pl 4 2 ∧ natAt r.pl 4 2 ≤ 4000 ∧ natAt r.pl 6 2 = 0 ∧
      s.upd.session.isSome = true)
    (fun s r => leBytes 4 (s.blkState Head.update) ++ leBytes 4 (s.rg Reg.UPD_UNITS_REQ).toNat ++ leBytes 4 (s.rg Reg.UPD_UNITS_RX).toNat ++
      (match s.upd.session with
       | some x => (List.range (natAt r.pl 4 2)).map (fun k => packByte (fun j => (s.updImage x s.updTarget).2.contains (natAt r.pl 0 4 + 8 * k + j)))
       | none => [])) ∧
  (∀ (s : State) (req : OctahReq) (x : UpdSession), OctahReady 0x0A03 false req s → Pkt.length req.packet = 0 → s.upd.session = some x →
    s.stump = false → ownsUpdate x req = true → x.closing = none → x.orphanNs = none → s.closeCheck x = none → s.upd.nor.length = 2 →
    DeferredOnlyWhileStoring s →
    Completes (.updateClose req) s (fun t => t.upd.session = some { x with closing := some req.tag } ∧ t.pendingSlot = none ∧
      (t.nor s.updTarget).header = [] ∧ (t.nor s.updTarget).image = [] ∧ t.nor (1 - s.updTarget) = s.nor (1 - s.updTarget))) ∧
  (∀ (s : State) (x : UpdSession) (tag : Nat), s.upd.session = some x → x.closing = some tag → s.silent = false → s.stump = false →
    s.upd.nor.length = 2 → DeferredOnlyWhileStoring s →
    Completes .updateCloseDone s (fun t => t.upd.session = none ∧ t.pendingSlot = some s.updTarget ∧
      (t.nor s.updTarget).header = slotHeader x.len ((s.nor s.updTarget).closes + 1) x.digest ∧
      t.nor (1 - s.updTarget) = s.nor (1 - s.updTarget) ∧ bit (t.rg (Reg.evtRaw Head.update)).toNat 2 = true)) ∧
  (∀ (s : State) (req : OctahReq) (x : UpdSession), OctahReady 0x0A04 false req s → Pkt.length req.packet = 0 → s.upd.session = some x →
    ownsUpdate x req = true → x.closing = none →
    Completes (.updateAbort req) s (fun t => t.upd = { s.upd with session := none } ∧ bit (t.rg (Reg.evtRaw Head.update)).toNat 4 = true)) ∧
  (∀ (s : State) (x : UpdSession) (at_ : Nat), s.upd.session = some x → x.closing = none → x.orphanNs = some at_ →
    (at_ + 300000000000 ≤ s.nsCount → Completes .updateOrphanTimeout s (fun t => t.upd = { s.upd with session := none } ∧
      bit (t.rg (Reg.evtRaw Head.update)).toNat 4 = true)) ∧
    (s.nsCount < at_ + 300000000000 → exec .updateOrphanTimeout s = .next s))

/-- R486, R490, R499: the boot commands. -/
def Obligations.BootCommandsComplete : Prop :=
  (∀ (s : State) (req : OctahReq), OctahReady 0x0A05 false req s → Pkt.length req.packet = 4 → natAt req.pl 0 1 < 2 → natAt req.pl 1 3 = 0 →
    s.pendingSlot.isSome = true → s.upd.session = none → DeferredOnlyWhileStoring s →
    Completes (.activate req) s (fun t => t.boot.due = some (if s.stump then 0 else s.beat + 2, 2, false) ∧
      t.bootFlag 0 = bit (natAt req.pl 0 1) 0 ∧ t.upd = s.upd ∧ t.scan = s.scan)) ∧
  (∀ (s : State) (req : OctahReq), OctahReady 0x0A06 false req s → Pkt.length req.packet = 0 → s.pendingSlot.isSome = true →
    s.blkState Head.update ≠ 3 → DeferredOnlyWhileStoring s →
    Completes (.slotCancel req) s (fun t => t.pendingSlot = none ∧ t.upd = s.upd ∧ t.boot = s.boot ∧ t.scan = s.scan)) ∧
  Reads 0x0A07 .bootInfo (Len 0) (fun s _ =>
    (List.range 10).flatMap (fun k => leBytes 4 (s.rg (Reg.BOOT_CAUSE + 4 * k)).toNat) ++
      (if (s.nor 0).header = [] then List.replicate 64 0xFF else bytesAt (s.nor 0).header 0 64) ++
      (if (s.nor 1).header = [] then List.replicate 64 0xFF else bytesAt (s.nor 1).header 0 64)) ∧
  (∀ (s : State) (req : OctahReq), OctahReady 0x0A08 false req s → Pkt.length req.packet = 8 → natAt req.pl 0 1 < 3 → natAt req.pl 1 3 = 0 →
    natAt req.pl 4 4 = 0x54455352 →
    Completes (.bootReset req) s (fun t =>
      t.boot = { s.boot with due := some (if s.stump then 0 else s.beat + 2, if natAt req.pl 0 1 = 0 then 4 else 3, natAt req.pl 0 1 == 2) } ∧
      t.seam = s.seam ∧ t.upd = s.upd ∧ t.scan = s.scan)) ∧
  (∀ (s : State) (b : Nat), s.boot.since = some b → s.silent = false → s.blkState Head.boot = 1 → b + 4000 ≤ s.beat → s.activeSlot < 2 →
    DeferredOnlyWhileStoring s →
    Completes .startConfirm s (fun t => t.goodSlot = some s.activeSlot ∧ t.activeSlot = s.activeSlot ∧ t.br 0x0A 1 = 0 ∧ t.bootFlag 1 = true ∧
      t.blkState Head.boot = 2 ∧ bit (t.rg (Reg.evtRaw Head.boot)).toNat 1 = true ∧
      t = { s with reg := t.reg, seam := t.seam, out := t.out }))

/-- R492, R493, R524, R525: starts. -/
def Obligations.StartsLeaveTheirState : Prop :=
  ∀ (s : State) (pairId vinBus crcOk partsOk : Bool),
    Completes (.powerUp pairId vinBus) s (ColdStarted 0 s) ∧
    (s.seam.pf = some .held → Completes (.powerRestore pairId vinBus) s (ColdStarted 1 s)) ∧
    (∀ b kind stump, s.boot.due = some (b, kind, stump) → (s.stump = true ∨ b ≤ s.beat) →
      (kind = 2 ∨ kind = 3 → Completes (.coldStart pairId) s (ColdStarted kind s)) ∧
      (kind = 4 → Completes (.warmStart pairId crcOk partsOk) s (WarmStarted 4))) ∧
    Completes .resetNAssert s (fun t => t.boot.held = true ∧ t = { s with boot := { s.boot with held := true }, bus := t.bus }) ∧
    (∀ us, s.boot.held = true → s.seam.pf = none →
      (us < 1000000 → Completes (.resetNRelease us pairId crcOk partsOk) s (WarmStarted 4)) ∧
      (1000000 ≤ us → Completes (.resetNRelease us pairId crcOk partsOk) s (ColdStarted 3 s))) ∧
    (∀ b, s.safety.silentSince = some b → b + 4000 ≤ s.beat → s.fld Reg.SAFETY_CTRL 0 0 = 1 → s.boot.held = false → s.seam.pf = none →
      Completes (.autoRestart pairId crcOk partsOk) s (WarmStarted 6)) ∧
    (∀ ms warm, s.boot.waiting = some warm → s.silent = false → s.stump = false → s.fld Reg.PWR_STATUS 3 3 = 1 → s.fld Reg.DT_STATUS 5 5 = 1 →
      Completes (.startEnable ms) s (fun t => t.fld Reg.FRAME_CTRL 0 0 = 1 ∧ t.blkState Head.frame = 1 ∧ t.boot.waiting = none ∧
        t.boot.ms = some ms ∧ (warm = false → t.enabled Head.seam = true ∧ t.enabled Head.keys = true ∧ t.enabled Head.backup = true)))

/-- R40 to R42, R46, R47, R107: faults. -/
def Obligations.FaultsAreRecordedAndAct : Prop :=
  ∀ (s : State), (s.safety.kept.length < 8 → s.safety.ring = []) →
    (∀ f : FaultReport, 1 ≤ f.cls → f.cls ≤ 12 → Completes (.faultDetected [f]) s (fun t =>
      (∃ e, t.safety.newest = some e ∧ e.cls = f.cls ∧ e.srcType = typeOf (faultHead f) ∧ e.srcInst = instOf (faultHead f) ∧ e.info0 = f.info0 ∧
        s.reaction f ≤ e.reaction) ∧
      (1 ≤ s.reaction f → bit (t.rg (Reg.evtRaw Head.safety)).toNat f.cls = true) ∧ (s.reaction f = 3 → t.silent = true))) ∧
    (∀ e pairId crcOk partsOk, s.silent = false →
      let t := s.faultInfo 3 (engineSource e).1 (some (BitVec.ofNat 32 (engineSource e).2)) none
      ((∀ n, e ≠ .sc n) → exec (.engineWatchdogExpire e pairId crcOk partsOk) s = .next t) ∧
      (∀ n, e = .sc n → Completes (.engineWatchdogExpire e pairId crcOk partsOk) s (WarmStarted 5))) ∧
    Completes .clockLoss s (fun t => t.fld Reg.CLK_STATUS 0 0 = 0 ∧ t.fld Reg.CLK_STATUS 1 1 = 0 ∧ t.fld Reg.CLK_STATUS 4 4 = 1 ∧
      ∀ n < 4, t.baseState n = if s.baseState n = 0 then 0 else 5) ∧
    (∀ path (v : Word) pairId crcOk partsOk, Reaches s Reg.SAFETY_CTRL → Opened s Head.safety → s.safety.silentSince = none →
      Completes (.safetyCtrlWrite path v pairId crcOk partsOk) s (fun t => t.fld Reg.SAFETY_CTRL 0 0 = wbits v 0 0))

/-- R506 to R515: the backup domain at work. -/
def Obligations.BackupDomainEvents : Prop :=
  ∀ (s : State) (wake : Bool),
    let edge (t : State) : Prop := t.bk.writes = [] ∧ t = { s with reg := t.reg, bk := t.bk, out := t.out }
    (s.bk.writes = [] → Completes (.bkTick wake) s (fun t => t.bk.cnt = (s.bk.cnt + 1) % 2 ^ 48 ∧ t.bkBit 6 = wake ∧ edge t)) ∧
    (∀ lo hi, s.bk.writes = [(Reg.BK_CNT_LO, lo), (Reg.BK_CNT_HI, hi)] → Completes (.bkCntSet wake) s (fun t =>
      t.bk.cnt = lo.toNat + 2 ^ 32 * wbits hi 15 0 ∧ t.bkBit 0 = true ∧ t.bkBit 1 = false ∧ edge t)) ∧
    (∀ v, s.bk.writes = [(Reg.BK_ALARM_HI, v)] →
      0 < tickDiff ((s.rg Reg.BK_ALARM_LO).toNat + 2 ^ 32 * wbits v 15 0) ((s.bk.cnt + 1) % 2 ^ 48) →
      Completes (.bkAlarmArm wake) s (fun t => t.bkBit 2 = true ∧ t.rg Reg.BK_ALARM_HI = BitVec.ofNat 32 (wbits v 15 0) ∧ edge t)) ∧
    (∀ v, s.bk.writes = [(Reg.BK_ALARM_CTRL, v)] → bit v.toNat 1 = true →
      Completes (.bkAlarmDisarm wake) s (fun t => t.bkBit 2 = false ∧ t.fld Reg.BK_ALARM_CTRL 0 0 = wbits v 0 0 ∧ edge t)) ∧
    (∀ v, s.bk.writes = [(Reg.BK_PWR, v)] → bit v.toNat 0 = true → bit v.toNat 1 = false → s.safety.silentSince = none →
      Completes (.pwrAssert wake) s (fun t => t.bkBit 5 = true ∧ t.fld Reg.BK_WAKE_CAUSE 2 2 = 1 ∧ edge t)) ∧
    (∀ v, s.bk.writes = [(Reg.BK_PWR, v)] → bit v.toNat 1 = true → s.bk.wakeReady = false →
      Completes (.pwrRelease wake) s (fun t => t.bkBit 5 = false ∧ edge t)) ∧
    (s.bk.writes = [] → s.bkBit 2 = true → (s.bk.cnt + 1) % 2 ^ 48 = s.alarmCount →
      Completes (.alarmReached wake) s (fun t => t.bkBit 2 = false ∧ t.fld Reg.BK_ALARM_CTRL 5 4 = 1 ∧ t.fld Reg.BK_WAKE_CAUSE 0 0 = 1 ∧
        bit (t.rg (Reg.evtRaw Head.backup)).toNat 1 = true ∧ edge t)) ∧
    (s.bk.writes = [] → s.bk.wakeLow = 32 → s.bk.wakeReady = true → s.fld Reg.BK_PWR 4 4 = 1 → s.safety.silentSince = none →
      Completes .wakeIn s (fun t => t.fld Reg.BK_WAKE_CAUSE 1 1 = 1 ∧ t.bkBit 5 = true ∧ t.bk.wakeReady = false ∧ edge t)) ∧
    (s.bkBit 5 = true → s.fld Reg.BK_PWR 3 3 = 0 → s.fld Reg.BK_PWR 25 16 * 32768 ≤ s.bk.since * 1000 →
      Completes .pwrOnPulseEnd s (fun t => t.bkBit 5 = false ∧ t.out = s.out ++ [.pwrOn false] ∧ RegsKept [Reg.BK_STATUS] s t ∧ OnlyRegisters s t)) ∧
    (s.bk.xtRuns = true → Completes .xtStopped s (fun t => t.bk = { s.bk with xtRuns := false } ∧ t.bkBit 1 = true ∧
      t.fld Reg.CLK_STATUS 2 2 = 0 ∧ t.time.rtc = none)) ∧
    (s.fld Reg.RTC_CFG 16 16 = 1 → s.time.ns % 1000000000 = 0 → Completes .rtcSnapshot s (fun t =>
      t.rg64 Reg.RTC_SNAP_TICK_LO = s.bk.cnt % 2 ^ 64 ∧ t.rg64 Reg.RTC_SNAP_NS_LO = s.nsCount ∧ t = { s with reg := t.reg }))

/-- R504. -/
def Obligations.BackupPowerOnReset : Prop :=
  ∀ (s : State), Completes .backupPor s (fun t =>
    (∀ a ∈ [Reg.BK_CNT_LO, Reg.BK_CNT_HI, Reg.BK_ALARM_LO, Reg.BK_ALARM_HI, Reg.BK_ALARM_CTRL, Reg.BK_CHG, Reg.BK_PWR, Reg.BK_WAKE_CAUSE],
      t.rg a = regReset a) ∧
    (∀ k < 16, t.rg (Reg.BK_REG k) = regReset (Reg.BK_REG k)) ∧ t.bkBit 0 = false ∧ t.bkBit 1 = false ∧ t.bkBit 2 = false ∧
    t.bk = { BackupState.reset with xtRuns := s.bk.xtRuns } ∧ t = { s with reg := t.reg, bk := t.bk, out := t.out })

/-- R82. -/
def Obligations.RefusedJumpOfALockedBase : Prop :=
  ∀ (s : State) (n : Nat) (y when_ : Rat), n < 4 → s.time.bases.length = 4 → s.baseState n = 2 → s.jumpLimit < absR y →
    let t := s.sample n y when_
    (∀ k < 4, (t.tbase k).ns = (s.tbase k).ns ∧ (t.tbase k).integ = (s.tbase k).integ) ∧ t.time.ns = s.time.ns ∧
      t.rg (Reg.TB_JUMPS n) = satInc (s.rg (Reg.TB_JUMPS n)) ∧ t.fld (Reg.TB_STATUS n) 3 3 = 1 ∧ t.baseState n = 3 ∧
      bit (t.rg (Reg.evtRaw Head.time)).toNat 2 = true

/-- R109: the opcodes of TIME. -/
def Obligations.TimeCommandsComplete : Prop :=
  Reads 0x0B00 .timeRead (Len 0) (fun s _ =>
    leBytes 8 s.nsCount ++ leBytes 6 s.devSec ++ leBytes 4 (s.time.ns % 1000000000) ++ leBytes 2 s.time.frac ++ leBytes 8 s.beat ++
      leBytes 4 (s.rg Reg.DT_STATUS).toNat ++ (List.range 4).flatMap (fun n => leBytes 4 (s.rg (Reg.TB_OFFSET n)).toNat)) ∧
  Reads 0x0B04 .ptpDatasetRead
    (fun s r => Pkt.length r.packet = 4 ∧ natAt r.pl 0 1 < 4 ∧ natAt r.pl 1 1 < 6 ∧ natAt r.pl 2 2 = 0 ∧ s.baseSource (natAt r.pl 0 1) = 1)
    (fun s r => let n := natAt r.pl 0 1
                Config.ptpDataset n (natAt r.pl 1 1) (leBytes 4 (s.rg Reg.PTP_CLK).toNat ++ leBytes 4 (s.rg (Reg.TB_CFG n)).toNat ++
                  leBytes 4 (s.rg (Reg.TB_OFFSET n)).toNat ++ leBytes 4 (s.rg (Reg.TB_PATH n)).toNat ++ leBytes 8 (s.rg64 (Reg.TB_GM_ID_LO n)) ++
                  leBytes 4 (s.rg Reg.UTC_OFFSET).toNat ++ leBytes 1 (s.ptpPort n 0).state ++ leBytes 1 (s.ptpPort n 1).state)) ∧
  (∀ (s : State) (req : OctahReq),
    (OctahReady 0x0B01 false req s → Pkt.length req.packet = 12 → natAt req.pl 6 2 = 0 → natAt req.pl 8 4 < 1000000000 → s.stopped = true →
      Completes (.timeSet req) s (fun t => t.time = { s.time with ns := natAt req.pl 0 6 * 1000000000 + natAt req.pl 8 4, frac := 0 } ∧
        t.fld Reg.DT_STATUS 5 5 = 1)) ∧
    (OctahReady 0x0B02 false req s → Pkt.length req.packet = 8 → natAt req.pl 6 2 = 0 → (s.baseWith 2).isSome = true →
      Completes (.todSet req) s (fun t => t.time = { s.time with tod := some (natAt req.pl 0 6) })) ∧
    (OctahReady 0x0B03 false req s → Pkt.length req.packet = 4 → natAt req.pl 0 1 < 4 → natAt req.pl 1 3 = 0 → s.time.bases.length = 4 →
      (s.baseState (natAt req.pl 0 1) = 2 ∨ s.baseState (natAt req.pl 0 1) = 3) →
      Completes (.baseReacquire req) s (fun t => t.baseState (natAt req.pl 0 1) = 1 ∧ (t.tbase (natAt req.pl 0 1)).stepped = false ∧
        (t.tbase (natAt req.pl 0 1)).ns = (s.tbase (natAt req.pl 0 1)).ns ∧ t.fld (Reg.TB_STATUS (natAt req.pl 0 1)) 3 3 = 0)) ∧
    (OctahReady 0x0B05 false req s → Pkt.length req.packet = 4 → natAt req.pl 2 1 < 3 → natAt req.pl 3 1 = 0 →
      (∀ n < 4, s.baseSource n = 1 → s.baseState n ≠ 2) →
      Completes (.utcSet req) s (fun t => t.fld Reg.UTC_OFFSET 15 0 = natAt req.pl 0 2 ∧ t.fld Reg.UTC_OFFSET 16 16 = 1 ∧
        t.fld Reg.UTC_OFFSET 18 17 = natAt req.pl 2 1 ∧ t.time = s.time)))

/-- R80, R81, R89 to R93: PTP. -/
def Obligations.PtpMessages : Prop :=
  ∀ (s : State) (m : PtpMsg), s.time.ports.length = 8 → s.time.bases.length = 4 → s.ptpOn m.base m.port = true → s.silent = false →
    let p := s.ptpPort m.base m.port
    let port (t : State) := t.ptpPort m.base m.port
    let rx := s.stampR m.rxQ - (s.fld (Reg.PORT_INGRESS_LAT m.port) 15 0 : Rat)
    let path (d : Rat) (t : State) : Prop :=
      (port t).path = d ∧ t.rg (Reg.TB_PATH m.base) = BitVec.ofNat 32 (unsx 32 (satS 32 (Config.roundNs d)))
    (m.twoStep = true → Completes (.ptpSync m) s (fun t => port t = { p with sync := some (m.seq, m.source, s.ptpIngress m, m.corr) } ∧
      t.rg (Reg.PORT_RX_TS m.port) = s.rg (Reg.PORT_RX_TS m.port) + 1 ∧ RegsKept [Reg.PORT_RX_TS m.port] s t)) ∧
    (m.twoStep = false → exec (.ptpSync m) s = .next ((s.ptpStamp m.port).ptpOffset m.base m.port (m.stampNs : Rat) (s.ptpIngress m) m.corr)) ∧
    (∀ t2 c, p.sync = some (m.seq, m.source, t2, c) → p.state = 9 → Completes (.ptpFollowUp m) s (fun t =>
      (port t).sync = none ∧ (port t).lastSync = some ((m.stampNs : Rat) + (c + m.corr) + s.portAsym m.port, t2) ∧
      (s.baseState m.base = 2 → s.jumpLimit < absR ((m.stampNs : Rat) + (c + m.corr) + s.portAsym m.port + p.path - t2) → t.baseState m.base = 3))) ∧
    (p.state = 6 → s.ptpP2P m.base = false → Completes (.ptpDelayReq m) s (fun t =>
      t.out = s.out ++ [.ptp m.port m.base "Delay_Resp" m.seq rx m.corr] ∧ t.time = s.time)) ∧
    (∀ t1 t2 t3, p.delayReq = some (m.seq, t3) → p.lastSync = some (t1, t2) → s.ptpP2P m.base = false →
      Completes (.ptpDelayResp m) s (fun t => path (((t2 - t3) + ((m.stampNs : Rat) - t1) - m.corr) / 2) t ∧ (port t).delayReq = none)) ∧
    (s.ptpP2P m.base = true → Completes (.ptpPdelayReq m) s (fun t =>
      t.out = s.out ++ [.ptp m.port m.base "Pdelay_Resp" m.seq rx 0, .ptp m.port m.base "Pdelay_Resp_Follow_Up" m.seq (s.ptpEgress m.port) m.corr])) ∧
    (∀ t1, p.delayReq = some (m.seq, t1) → s.ptpP2P m.base = true →
      (m.twoStep = true → Completes (.ptpPdelayResp m) s (fun t => port t = { p with pdelay := some (m.seq, (m.stampNs : Rat), s.ptpIngress m, m.corr) })) ∧
      (m.twoStep = false → Completes (.ptpPdelayResp m) s (path ((s.ptpIngress m - t1 - m.corr) / 2)))) ∧
    (∀ t1 t2 t4 c n, p.delayReq = some (n, t1) → p.pdelay = some (m.seq, t2, t4, c) →
      Completes (.ptpPdelayRespFollowUp m) s (path (((t4 - t1) - ((m.stampNs : Rat) - t2) - (c + m.corr)) / 2))) ∧
    (∀ a, Completes (.ptpAnnounce m a) s (fun t => (port t).announce = some a ∧ t = { s with reg := t.reg, time := t.time, out := t.out })) ∧
    exec (.ptpManagement m) s = .next s ∧
    (p.state = 6 → let oneStep := s.fld (Reg.TB_CFG m.base) 22 22 = 1
      Completes (.ptpMasterTx m.base m.port) s (fun t =>
        t.out = s.out ++ [.ptp m.port m.base "Sync" p.seqSync (if oneStep then s.ptpEgress m.port else 0) 0] ++
          (if oneStep then [] else [.ptp m.port m.base "Follow_Up" p.seqSync (s.ptpEgress m.port) 0]) ++
          [.ptp m.port m.base "Announce" p.seqAnnounce 0 0] ∧
        (port t).seqSync = (p.seqSync + 1) % 65536 ∧ (port t).seqAnnounce = (p.seqAnnounce + 1) % 65536)) ∧
    (s.baseState m.base = 2 → Completes (.ptpSourceLost m.base) s (fun t => t.baseState m.base = 3 ∧ (t.tbase m.base).ns = (s.tbase m.base).ns)) ∧
    Completes (.ptpAnnounceTimeout m.base m.port) s (fun t => (port t).announce = none ∧ t = { s with reg := t.reg, time := t.time, out := t.out }) ∧
    (p.state = 9 → s.ptpP2P m.base = false → Completes (.ptpDelayReqTx m.base m.port) s (fun t =>
      t.out = s.out ++ [.ptp m.port m.base "Delay_Req" p.seqDelay 0 0] ∧
      (port t).delayReq = some (p.seqDelay, s.baseTimeAt m.base (s.ptpEgress m.port)) ∧ (port t).seqDelay = (p.seqDelay + 1) % 65536))

/-- R80, R86, R87, R104 to R108: pulses, references and selection. -/
def Obligations.PulsesAndReferences : Prop :=
  ∀ (s : State), s.time.bases.length = 4 →
    (∀ q n k, s.baseWith 2 = some n → s.time.tod = some k → Completes (.ppsInEdge q) s (fun t =>
      t.rg64 Reg.PPS_IN_LO = s.stampQ q ∧ t.time.tod = none ∧ t.time.ppsSec = some k ∧ t.time.ns = s.time.ns)) ∧
    (∀ n, s.baseWith 2 = some n → s.baseState n = 2 → Completes .ppsInLost s (fun t => t.baseState n = 3 ∧
      bit (t.rg (Reg.evtRaw Head.time)).toNat 7 = true ∧ t.time.ns = s.time.ns)) ∧
    (s.fld Reg.PPS_CFG 0 0 = 1 → s.fld Reg.DT_STATUS 5 5 = 1 → s.silent = false →
      exec .ppsOutPulse s = .next { s with out := s.out ++ [.ppsPulse (s.time.ns / 1000000000) (s.fld Reg.PPS_CFG 27 8)] }) ∧
    (∀ ok (freq : Int), -(2 ^ 31) ≤ freq → freq < 2 ^ 31 → Completes (.tclkInOkChange ok freq) s (fun t =>
      t.fld Reg.CLK_STATUS 3 3 = b2n ok ∧ sext 32 (t.rg Reg.TCLK_IN_FREQ).toNat = freq)) ∧
    Completes .referenceClockReturn s (fun t => t.fld Reg.CLK_STATUS 0 0 = 1 ∧ t.fld Reg.CLK_STATUS 1 1 = 1 ∧ t.fld Reg.CLK_STATUS 4 4 = 0 ∧
      RegsKept [Reg.CLK_STATUS] s t ∧ OnlyRegisters s t) ∧
    (∀ r err, s.time.rtc = some r → Completes (.rtcMeasureDone err) s (fun t => t.rg Reg.RTC_ERR = err ∧ t.fld Reg.RTC_CFG 0 0 = 0 ∧
      t.time = { s.time with rtc := none } ∧ bit (t.rg (Reg.evtRaw Head.time)).toNat 9 = true)) ∧
    (∀ n, s.chooseBase = some n → s.selBase ≠ some n → Completes .revertHoldExpire s (fun t => t.selBase = some n ∧
      t.time = { s.time with selChanged := true } ∧ bit (t.rg (Reg.evtRaw Head.time)).toNat 1 = true))

/-- R125 to R130, R149: the mode commands. -/
def Obligations.ProgramModeCommands : Prop :=
  Reads 0x0200 .progList (Len 0) (fun s _ => (List.range 32).flatMap (fun p =>
    leBytes 1 (s.slot p).mode.num ++ leBytes 1 (s.slot p).cause ++ leBytes 1 (Image.engine (s.slot p).image) ++ leBytes 1 (b2n (s.slot p).suspended) ++
      leBytes 2 (Image.k (s.slot p).image) ++ leBytes 2 (Image.phase (s.slot p).image) ++ leBytes 4 (s.rg (Reg.PROG_OVERRUNS p)).toNat ++
      (if (s.slot p).image = [] then leBytes 4 0 else bytesAt (Image.digest (s.slot p).image) 0 4))) ∧
  (∀ (s : State) (req : OctahReq), s.scan.slots.length = 32 →
    let ps := maskSlots (natAt req.pl 0 4)
    let waits (at_ : Nat → Nat) (r : ModeReq) (t : State) : Prop := ∀ p < 32,
      t.slot p = if p ∈ ps then { s.slot p with req := some (at_ p, r) } else s.slot p
    let due (at_ : Nat → Nat) (payload : List Byte) (t : State) : Prop :=
      t.host.due = s.host.due ++ [(lastBeat (ps.map at_), req.tag, payload)]
    (OctahReady 0x0201 true req s → Pkt.length req.packet = 16 → natAt req.pl 0 4 ≠ 0 → natAt req.pl 4 1 ≤ 2 → natAt req.pl 5 3 = 0 →
      (∀ p ∈ ps, (s.slot p).mode = .stop ∧ Image.engine (s.image p) ∉ s.scan.dead ∧ (natAt req.pl 4 1 = 2 → (s.slot p).cause = 1)) →
      let f0 (p : Nat) := s.startBeat p (natAt req.pl 8 8)
      Completes (.progStart req) s (fun t => waits f0 (.start (natAt req.pl 4 1)) t ∧ due f0 (ps.flatMap (fun p => leBytes 8 (f0 p))) t ∧
        (s.host.journal.length = 256 → (t.jentry req.tag).state ≠ .done))) ∧
    (OctahReady 0x0202 true req s → Pkt.length req.packet = 8 → natAt req.pl 0 4 ≠ 0 → natAt req.pl 5 3 = 0 →
      (∀ p ∈ ps, (s.slot p).mode = .run ∨ (s.slot p).mode = .hold) →
      (natAt req.pl 4 1 = 0 → Completes (.progStop req) s (fun t => waits s.nextStartOf .stop t ∧ due s.nextStartOf [] t)) ∧
      (natAt req.pl 4 1 = 1 → Completes (.progStop req) s (fun t => due (fun _ => s.beat + 1) [] t ∧
        ∀ p < 32, t.slot p = if p ∈ ps then { s.slot p with abortAt := some (s.beat + 1) } else s.slot p))) ∧
    (Pkt.length req.packet = 4 → natAt req.pl 0 4 ≠ 0 →
      (OctahReady 0x0203 true req s → s.debugEn = true → (∀ p ∈ ps, (s.slot p).mode = .run) →
        Completes (.progHold req) s (fun t => waits s.nextStartOf .hold t ∧ due s.nextStartOf [] t)) ∧
      (OctahReady 0x0204 true req s → (∀ p ∈ ps, (s.slot p).mode = .hold) →
        Completes (.progResume req) s (fun t => waits s.nextStartOf .resume t ∧ due s.nextStartOf [] t))) ∧
    (OctahReady 0x0205 true req s → Pkt.length req.packet = 4 → natAt req.pl 0 1 < 32 → natAt req.pl 1 3 = 0 →
      (s.slot (natAt req.pl 0 1)).mode = .hold →
      let p := natAt req.pl 0 1
      Completes (.progStep req) s (fun t => t.host.due = s.host.due ++ [(s.nextStartOf p, req.tag, [])] ∧
        ∀ q < 32, t.slot q = if q = p then { s.slot p with req := some (s.nextStartOf p, .step) } else s.slot q)))

/-- R120, R122, R128, R137 to R139, R149: breakpoints, forces and symbols. -/
def Obligations.SymbolAndForceCommands : Prop :=
  (∀ (s : State) (req : OctahReq), s.scan.slots.length = 32 →
    let p := natAt req.pl 0 1
    let k := natAt req.pl 1 1
    (OctahReady 0x0206 true req s → Pkt.length req.packet = 8 → p < 32 → k < 8 → natAt req.pl 2 2 = 0 → natAt req.pl 4 4 % 4 = 0 →
      natAt req.pl 4 4 < Image.codeLen (s.image p) → s.debugEn = true → (s.slot p).mode ≠ .empty → (s.slot p).breaks.length = 8 →
      Completes (.breakSet req) s (fun t => (t.slot p).breaks = (s.slot p).breaks.set k (some (natAt req.pl 4 4)) ∧
        ∀ q, q ≠ p → t.slot q = s.slot q)) ∧
    (OctahReady 0x0207 true req s → Pkt.length req.packet = 4 → p < 32 → (k < 8 ∨ k = 0xFF) → natAt req.pl 2 2 = 0 →
      Completes (.breakClear req) s (fun t => (t.slot p).breaks.length = (s.slot p).breaks.length ∧
        (∀ n, (t.slot p).breaks.getD n none = if k = 0xFF ∨ n = k then none else (s.slot p).breaks.getD n none) ∧
        ∀ q, q ≠ p → t.slot q = s.slot q)) ∧
    (∀ q y e, OctahReady 0x0208 true req s → Pkt.length req.packet = 16 → s.forceable (natAt req.pl 0 4) = some (q, y) → natAt req.pl 4 4 = 0 →
      valueFits y.type (natAt req.pl 8 8) = true → s.forceSlot (natAt req.pl 0 4) = some e →
      Completes (.forceSet req) s (fun t =>
        t.scan = { s.scan with forceQ := s.scan.forceQ ++ [.put e (natAt req.pl 0 4) y.type y.area (natAt req.pl 8 8)] } ∧
        t.host.due = s.host.due ++ [(s.beat + 1, req.tag, leBytes 2 e ++ leBytes 2 0)])) ∧
    (OctahReady 0x0209 true req s → Pkt.length req.packet = 4 → Completes (.forceClear req) s (fun t =>
      t.scan = { s.scan with forceQ := s.scan.forceQ ++ [.clear (natAt req.pl 0 4)] } ∧
      t.host.due = s.host.due ++ [(s.beat + 1, req.tag, [])])) ∧
    (OctahReady 0x020B false req s → Pkt.length req.packet = 4 + 4 * natAt req.pl 0 2 → 1 ≤ natAt req.pl 0 2 → natAt req.pl 0 2 ≤ 64 →
      natAt req.pl 2 2 = 0 → Completes (.symRead req) s (fun t => t.scan = { s.scan with symReads := s.scan.symReads ++
        [(req.tag, (List.range (natAt req.pl 0 2)).map (fun j => natAt req.pl (4 + 4 * j) 4))] })) ∧
    (∀ q y, OctahReady 0x020C true req s → Pkt.length req.packet = 20 → natAt req.pl 0 2 = 1 → natAt req.pl 2 2 = 0 →
      s.symWritable (natAt req.pl 4 4) = some (q, y) → natAt req.pl 8 1 = y.type → natAt req.pl 9 3 = 0 → valueFits y.type (natAt req.pl 12 8) = true →
      s.scan.hostQ.length < 256 → Completes (.symWrite req) s (fun t => t.scan = { s.scan with hostQ := s.scan.hostQ ++
        [{ ofs := s.symAddr q y, bytes := valueBytes y.type (natAt req.pl 12 8), tag := some req.tag }] })) ∧
    (∀ path a v, 0x700000 ≤ a → a < 0x800000 → a % 4 = 0 → s.boot.held = false → s.seam.pf ≠ some .held → s.stump = false → s.owns = true →
      s.fld Reg.SCAN_CTRL 1 1 = 1 → s.scan.hostQ.length < 256 →
      Completes (.processImageWrite path a v) s (fun t =>
        t.scan = { s.scan with hostQ := s.scan.hostQ ++ [{ ofs := a - 0x600000, bytes := leBytes 4 v.toNat, tag := none }] } ∧
        t = { s with scan := t.scan, pair := t.pair }))) ∧
  Reads 0x020A .forceList (fun _ r => Pkt.length r.packet = 4 ∧ natAt r.pl 0 2 < 1024 ∧ natAt r.pl 2 2 = 0)
    (fun s r => let n := min 125 (1024 - natAt r.pl 0 2)
                leBytes 2 n ++ leBytes 2 0 ++ s.scan.data.getN (forceArea + 32 * natAt r.pl 0 2) (32 * n))

/-- R143 to R146, R149: staging and exchange. -/
def Obligations.ExchangeCommands : Prop :=
  (∀ (s : State) (req : OctahReq),
    let g := s.scan.stage
    (OctahReady 0x020D true req s → Pkt.length req.packet = 40 → natAt req.pl 0 4 ≤ 5767168 → natAt req.pl 4 4 = 0 → g.owner = none →
      (s.exchState = 0 ∨ s.exchState = 4 ∨ s.exchState = 5) → Completes (.stageOpen req) s (fun t =>
        t.scan.stage.owner = some req.sid ∧ t.scan.stage.len = natAt req.pl 0 4 ∧ t.scan.stage.digest = bytesAt req.pl 8 32 ∧
        t.scan.stage.units = [] ∧ t.exchState = 1 ∧ t.scan.slots = s.scan.slots ∧ t.scan.data = s.scan.data)) ∧
    (OctahReady 0x020E false req s → 8 < Pkt.length req.packet → Pkt.length req.packet ≤ 3848 → natAt req.pl 0 4 % 256 = 0 →
      natAt req.pl 0 4 + (Pkt.length req.packet - 8) ≤ g.len → natAt req.pl 4 4 = 0 → s.exchState ≠ 3 → s.ownsStage req = true →
      let o := natAt req.pl 0 4
      let d := req.pl.drop 8
      Completes (.stageWrite req) s (fun t => (∀ k, (hk : k < d.length) → t.scan.stage.data.get (o + k) = d[k]) ∧
        (∀ a, (a < o ∨ o + d.length ≤ a) → t.scan.stage.data.get a = g.data.get a) ∧
        (∀ u, o ≤ 256 * u → 256 * (u + 1) ≤ o + d.length → u ∈ t.scan.stage.units) ∧ t.exchState = 1 ∧
        t.scan.slots = s.scan.slots ∧ t.scan.data = s.scan.data)) ∧
    (OctahReady 0x020F false req s → Pkt.length req.packet = 0 → s.ownsStage req = true →
      (∀ u < g.unitCount, u ∈ g.units) → s.exchState ≠ 3 → s.pkgRefuse = none →
      Completes (.stageCheck req) s (fun t => (s.stageAgreed = true → t.exchState = 2) ∧ (s.stageAgreed = false → t.exchState = s.exchState) ∧
        t.scan = s.scan)) ∧
    (OctahReady 0x0210 false req s → Pkt.length req.packet = 16 → s.ownsStage req = true → s.exchState = 2 →
      let b := natAt req.pl 0 8
      let mask := natAt req.pl 8 4
      let new := pkgImages g.bytes
      s.beat + 8 ≤ b → mask = pkgMask g.bytes → (∀ q ∈ maskSlots mask, (s.slot q).mode ≠ .hold) →
      (∀ q ∈ maskSlots mask, ((s.slot q).mode = .run → schedAt (s.image q) b = true) ∧ (new.getD q [] ≠ [] → schedAt (new.getD q []) b = true)) →
      (∀ q ∈ maskSlots (natAt req.pl 12 4), bit mask q = true ∧ s.image q = [] ∧ new.getD q [] ≠ []) →
      Completes (.exchange req) s (fun t => t.scan.stage.armed = some (b, mask, natAt req.pl 12 4, req.tag) ∧ t.exchState = 3 ∧
        t.rg64 Reg.EXCH_BEAT_LO = b ∧ t.scan.slots = s.scan.slots ∧ (s.host.journal.length = 256 → (t.jentry req.tag).state ≠ .done))) ∧
    (OctahReady 0x0211 false req s → Pkt.length req.packet = 0 → s.ownsStage req = true → g.armed = none → s.exchState ≠ 3 →
      Completes (.stageDiscard req) s (fun t => t.scan.stage = { Staging.idle with orphans := g.orphans } ∧ t.exchState = 0 ∧
        t.scan.slots = s.scan.slots)) ∧
    (∀ b mask run tag, g.armed = some (b, mask, run, tag) → g.migrated = false → s.exchState = 3 → s.beat + 1 = b → s.role ≠ Role.pairMember →
      Completes .exchangeMigrate s (fun t => t.scan.stage.migrated = true ∧ t.scan.slots.length = s.scan.slots.length ∧
        (∀ p < s.scan.slots.length, bit mask p = true → t.image p = (pkgImages g.bytes).getD p [] ∧ (t.slot p).cycle = none) ∧
        (∀ p, bit mask p = false → t.slot p = s.slot p)))) ∧
  Reads 0x0212 .exchangeStatus (fun _ r => Pkt.length r.packet = 4 ∧ natAt r.pl 2 2 = 0)
    (fun s r => leBytes 4 (s.rg Reg.EXCH_STATUS).toNat ++ leBytes 8 (s.rg64 Reg.EXCH_BEAT_LO) ++ leBytes 2 s.scan.stage.orphans.length ++
      leBytes 2 0 ++ ((s.scan.stage.orphans.drop (natAt r.pl 0 2)).take 1000).flatMap (leBytes 4))

/-- R66, R199 to R204: host access to the loops. -/
def Obligations.LoopCommandsComplete : Prop :=
  Reads 0x0300 .loopList
    (fun _ r => Pkt.length r.packet = 4 ∧ 1 ≤ natAt r.pl 2 2 ∧ natAt r.pl 2 2 ≤ 256 ∧ natAt r.pl 0 2 + natAt r.pl 2 2 ≤ 1024)
    (fun s r => leBytes 8 s.beat ++ (List.range (natAt r.pl 2 2)).flatMap (fun k => let n := natAt r.pl 0 2 + k
      leBytes 1 (s.modeSel n) ++ leBytes 1 (s.modeAct n) ++ leBytes 1 (s.lbits n 0x94 7 0) ++ leBytes 1 0 ++ leBytes 4 (s.lw n 0xBC).toNat)) ∧
  (∀ (s : State) (req : OctahReq), let n := natAt req.pl 0 2
    (OctahReady 0x0301 false req s → Pkt.length req.packet = 4 → n < 1024 → natAt req.pl 2 2 = 0 →
      Completes (.loopRead req) s (fun t => t.loop = { s.loop with reads := s.loop.reads ++ [(req.tag, n)] } ∧ t.scan = s.scan)) ∧
    (OctahReady 0x0302 true req s → Pkt.length req.packet = 8 → n < 1024 → natAt req.pl 2 1 ≤ 3 →
      (natAt req.pl 2 1 = 3 → s.lbits n 0 11 10 ≠ 0) → natAt req.pl 3 1 ≤ 1 → (natAt req.pl 3 1 = 1 → f32.finite (natAt req.pl 4 4) = true) →
      s.loopDead n = false → Completes (.loopMode req) s (fun t => t.loop = { s.loop with changes := s.loop.changes ++ [(s.beat, req.tag,
        .mode n (natAt req.pl 2 1) (if natAt req.pl 3 1 = 1 then some (BitVec.ofNat 32 (natAt req.pl 4 4)) else none))] } ∧ t.scan = s.scan)) ∧
    (∀ o w, OctahReady 0x0303 true req s → Pkt.length req.packet = 12 → n < 1024 → natAt req.pl 2 2 = 0 → paramWords req.pl = [(o, w)] →
      natAt req.pl 4 4 < 2 ^ 24 → o ≠ 4 → loopWordOk o w = true → s.loopRelations n [(o, w)] = true → s.loopDead n = false →
      (loopStructural o = true → s.modeSel n < 2) →
      Completes (.loopParamSet req) s (fun t => t.loop = { s.loop with changes := s.loop.changes ++ [(s.beat, req.tag, .params n [(o, w)])] })) ∧
    (OctahReady 0x0304 true req s → Pkt.length req.packet = 4 → n < 1024 → natAt req.pl 2 2 = 0 →
      Completes (.loopClear req) s (fun t => t.lw n 0x98 = 0 ∧ t.lw n 0xD0 = 0 ∧ t.lw n 0xD4 = 0 ∧ t.scan = s.scan)) ∧
    (∀ path a v, a < 0x40000 → loopWindowWord (a % 256) = true → loopWordOk (a % 256) v = true → s.boot.held = false → s.seam.pf ≠ some .held →
      s.stump = false → s.owns = true → s.fld Reg.LOOP_CTRL 0 0 = 1 → s.loop.winQ.length < 64 →
      Completes (.loopWindowWrite path (0x500000 + a) v) s (fun t => t.loop = { s.loop with winQ := s.loop.winQ ++ [(a, v)] } ∧
        t = { s with loop := t.loop, pair := t.pair })) ∧
    (s.loop.late ≠ [] → Completes .loopLate s (fun t => t.loop = { s.loop with late := [] } ∧
      t.rg Reg.LOOP_LATE_CNT = satInc (s.rg Reg.LOOP_LATE_CNT) ∧ bit (t.rg (Reg.evtRaw Head.frame)).toNat 2 = true)))

/-- R64, R142, R151: deadlines and pulse edges. -/
def Obligations.DeadlinesAndPulseEdges : Prop :=
  (∀ (s : State) (p : Nat) (c : Cycle), p < 32 → s.scan.slots.length = 32 → (s.slot p).cycle = some c → c.done = false →
    (s.slot p).suspended = false → s.running = true → s.frame.phase = .p1 → s.beat + 1 = c.f0 + Image.k (s.image p) →
    Completes (.programDeadline p) s (fun t => t.rg (Reg.PROG_OVERRUNS p) = satInc (s.rg (Reg.PROG_OVERRUNS p)) ∧
      t.rg Reg.OVERRUN_CNT = satInc (s.rg Reg.OVERRUN_CNT) ∧ (∀ q, q ≠ p → t.slot q = s.slot q) ∧
      (Image.overrunStop (s.image p) = true ∨ c.late = true → (t.slot p).mode = .stop ∧ (t.slot p).cause = 3 ∧ (t.slot p).cycle = none) ∧
      (Image.overrunStop (s.image p) = false → c.late = false →
        (t.slot p).cycle = some { c with late := true, f0 := c.f0 + Image.k (s.image p) } ∧ (t.slot p).mode = (s.slot p).mode))) ∧
  (∀ (s : State) (n : Nat) (rising dir : Bool) (prevNs q : Nat), n < 32 → s.lio.fwd.length = 32 → s.lio.rev.length = 32 →
    bit s.boot.vio (n / 24) = true → s.fld (Reg.LIO_PCFG n) 0 0 = 1 →
    (s.fld (Reg.LIO_PCFG n) 2 1 = 2 ∨ s.fld (Reg.LIO_PCFG n) 2 1 = (if rising then 0 else 1)) → filterNs (s.fld (Reg.LIO_PCFG n) 4 3) ≤ prevNs →
    let back := s.fld (Reg.LIO_PCFG n) 5 5 = 1 ∧ (dir = true ↔ s.fld (Reg.LIO_PCFG n) 12 12 ≠ 1)
    Completes (.lioPulseEdge n rising prevNs dir q) s (fun t => t.rg (Reg.LIO_PTS n) = BitVec.ofNat 32 (shortStamp (s.stampQ q)) ∧
      (¬ back → t.lio.fwd.getD n 0 = s.lio.fwd.getD n 0 + 1 ∧ t.lio.rev = s.lio.rev) ∧
      (back → t.lio.rev.getD n 0 = s.lio.rev.getD n 0 + 1 ∧ t.lio.fwd = s.lio.fwd) ∧
      (∀ k, k ≠ n → t.lio.fwd.getD k 0 = s.lio.fwd.getD k 0 ∧ t.lio.rev.getD k 0 = s.lio.rev.getD k 0) ∧
      t = { s with reg := t.reg, lio := t.lio }))

/-- R254, R261, R263, R282: the opcodes of the field buses. -/
def Obligations.BusCommandsComplete : Prop :=
  Reads 0x0500 .busStatus (fun _ r => Pkt.length r.packet = 4 ∧ natAt r.pl 0 1 < 8 ∧ natAt r.pl 1 3 = 0)
    (fun s r => leBytes 8 s.beat ++ (List.range 32).flatMap (fun k => leBytes 4 (s.rg (Reg.FB_CTRL (natAt r.pl 0 1) + 4 * k)).toNat)) ∧
  (∀ x : RoundRec, Reads 0x0505 .schedRead
    (fun s r => Pkt.length r.packet = 4 ∧ natAt r.pl 0 1 < 8 ∧ natAt r.pl 2 2 = 0 ∧ s.roundRec (natAt r.pl 0 1) (natAt r.pl 1 1) = some x)
    (fun s _ => x.bytes ++ bytesAt s.bus.cfg ((cfgArr s.bus.cfg 0x18).2 + 8 * x.first) (8 * x.slots))) ∧
  Reads 0x0506 .tallyFind (fun _ r => Pkt.length r.packet = 8 ∧ natAt r.pl 0 1 < 8 ∧ natAt r.pl 1 1 < 2 ∧ natAt r.pl 2 2 = 0)
    (fun s r => leBytes 2 ((s.findEntry (natAt r.pl 0 1) (bit (natAt r.pl 1 1) 0) (natAt r.pl 4 4)).getD 0xFFFF) ++ leBytes 2 0) ∧
  (∀ (s : State) (req : OctahReq), let e := natAt req.pl 0 2
    (OctahReady 0x0501 false req s → Pkt.length req.packet = 4 → 1 ≤ natAt req.pl 2 2 → natAt req.pl 2 2 ≤ 15 → e + natAt req.pl 2 2 ≤ 4096 →
      Completes (.tallyRead req) s (fun t => t.bus = { s.bus with reads := s.bus.reads ++ [(req.tag, e, natAt req.pl 2 2)] })) ∧
    (OctahReady 0x0502 true req s → Pkt.length req.packet = 68 → e < 4096 → s.entryValid e = true → s.entryTx e = true → s.tf e 4 6 6 = 1 →
      natAt req.pl 2 2 = 0 → Completes (.tallyWrite req) s (fun t =>
        t.bus = { s.bus with writes := s.bus.writes ++ [{ accepted := s.beat, entry := e, data := bytesAt req.pl 4 64 }] } ∧
        t.host.due = s.host.due ++ [(s.beat + 2, req.tag, [])])) ∧
    (OctahReady 0x0503 false req s → Pkt.length req.packet = 4 → 1 ≤ e → e ≤ 48 → natAt req.pl 2 2 = 0 → Completes (.catchRead req) s (fun t =>
      t.bus = { s.bus with ring := s.bus.ring.drop e } ∧ t.rg (Reg.CATCH_HEAD 0) = BitVec.ofNat 32 (s.bus.ring.length - e))) ∧
    (∀ ch < 8, OctahReady 0x0504 false req s → Pkt.length req.packet = 4 → natAt req.pl 0 1 = ch → natAt req.pl 1 3 = 0 → s.chState ch = 4 →
      s.fld (Reg.FB_CTRL ch) 0 0 = 0 → Completes (.busRecover req) s (fun t => t.chState ch = 5 ∧ t.bus = s.bus))) ∧
  (∀ (s : State) path e v, e < 4096 → s.entryValid e = true → s.boot.held = false → s.seam.pf ≠ some .held → s.stump = false → s.owns = true →
    s.bus.winQ.length < 256 → Completes (.tallyWindowWrite path (0x400000 + 256 * e + 0x0C) v) s (fun t =>
      t.bus = { s.bus with winQ := s.bus.winQ ++ [(e, v)] } ∧ t = { s with bus := t.bus, pair := t.pair }))

/-- R250 to R272: what happens on a channel. -/
def Obligations.BusEventsAct : Prop :=
  ∀ (s : State) (ch : Nat), ch < 8 → s.bus.chans.length = 8 → s.busOn ch = true → s.silent = false →
    (s.chLive ch = true →
      (∀ o, s.bus.rounds.find? (fun r => r.ch == ch && r.start == s.beat) = some o → s.fld (Reg.SYNC_CFG ch) 1 1 = 1 →
        (s.chan ch).syncFailed = false → (s.chan ch).lastSync = some s.beat → s.opMode ch ≠ 1 → s.sendsOutputs = true →
        Completes (.followDue ch) s (fun t => (t.chan ch).pend = (s.chan ch).pend ++ [TxFrame.new .follow o.start (o.start + o.len - 1) o.round])) ∧
      (∀ r o k e j ns, s.roundRec ch r = some o → k < o.slots → cfgSlot s.bus.cfg (o.first + k) = (e, j, ns) →
        ∀ x, s.bus.rounds.find? (fun y => y.ch == ch && y.round == r) = some x → x.start + j = s.beat → s.entryValid e = true → s.entryTx e = true →
        s.entrySched e = true → s.tf e 8 8 8 = 1 → e ∉ s.bus.muted → s.opMode ch ≠ 1 → s.sendsOutputs = true →
        Completes (.slotDue ch r k false) s (fun t =>
          (t.chan ch).pend = (s.chan ch).pend ++ [TxFrame.new (.entry e) x.start (x.start + x.len - 1) r])) ∧
      (∀ p, s.onBus ch = some p →
        (∀ sofQ endNs loopNs, s.mayStart ch p (sofQ / 4) = true → Completes (.busFrameTxDone ch sofQ endNs loopNs) s (fun t =>
          (t.chan ch).pend = (s.chan ch).pend.erase p ∧ t.rg (Reg.TX_FRAME_CNT ch) = satInc (s.rg (Reg.TX_FRAME_CNT ch)) ∧
          t.rg (Reg.ALONE_RUN ch) = 0 ∧ (s.opMode ch ≠ 2 → .busFrame ch (s.txFrame ch (sofQ / 4) p) ∈ t.out))) ∧
        (∀ e, p.what = .entry e →
          (p.arb < s.fld (Reg.FB_RETRY ch) 3 0 → Completes (.arbitrationLost ch) s (fun t =>
            (t.chan ch).pend = (s.chan ch).pend.map (fun x => if x = p then { p with arb := p.arb + 1 } else x))) ∧
          (s.fld (Reg.FB_RETRY ch) 3 0 ≤ p.arb → Completes (.arbitrationLost ch) s (fun t => (t.chan ch).pend = (s.chan ch).pend.erase p ∧
            t.tf e 8 5 5 = 1 ∧ t.tf e 8 15 12 = 1 ∧ t.rg (Reg.TX_FAIL_CNT ch) = satInc (s.rg (Reg.TX_FAIL_CNT ch)))) ∧
          (∀ ofs, (s.chan ch).pend = [p] → s.mayStart ch p (s.beat * 250000 + ofs) = false → Completes (.roundCutoff ch ofs) s (fun t =>
            (t.chan ch).pend = [] ∧ t.tf e 8 5 5 = 1 ∧ t.tf e 8 15 12 = 3)) ∧
          (∀ kind, kind ≠ .ack → s.bus.mismatch = [] → p.errs < s.fld (Reg.FB_RETRY ch) 11 8 → s.tec ch + 8 ≤ 255 →
            Completes (.busError ch kind false true false) s (fun t => t.rg (errReg ch kind) = satInc (s.rg (errReg ch kind)) ∧
              t.tec ch = s.tec ch + 8 ∧ (t.chan ch).pend = (s.chan ch).pend.map (fun x => if x = p then { p with errs := p.errs + 1 } else x))))) ∧
      (∀ f sofNs e, s.opMode ch ≠ 2 → f.rtr = false → s.findEntry ch f.ide f.ident = some e → s.entryTx e = false → s.tf e 4 4 4 = b2n f.fdf →
        s.tf e 8 2 2 = 0 → s.bus.mismatch = [] → Completes (.busFrameRx ch f sofNs) s (fun t =>
          t.rg (Reg.RX_FRAME_CNT ch) = satInc (s.rg (Reg.RX_FRAME_CNT ch)) ∧ t.tbytes e 0x20 64 = bytesAt (f.data.take (dlcLen f.fdf f.dlc)) 0 64 ∧
          t.tw e 0x10 = s.tw e 0x10 + 1 ∧ t.tf e 8 0 0 = 1)) ∧
      (∀ kind eight, (kind = .res → s.fld (Reg.FB_CTRL ch) 2 2 = 0) → Completes (.receiveError ch kind eight) s (fun t =>
        t.rg (errReg ch kind) = satInc (s.rg (errReg ch kind)) ∧ t.rec_ ch = min 255 (s.rec_ ch + if eight then 8 else 1))) ∧
      (∀ eight, s.fld (Reg.FB_CTRL ch) 2 2 = 1 → Completes (.receiveError ch .res eight) s (fun t => t.chState ch = 1))) ∧
    (s.fld (Reg.FB_RETRY ch) 23 16 ≤ (s.rg (Reg.ALONE_RUN ch)).toNat →
      Completes (.aloneDetect ch) s (fun t => bit (t.rg (Reg.evtRaw (Head.bus ch))).toNat 8 = true ∧ OnlyRegisters s t)) ∧
    (s.chState ch = 1 → Completes (.busIntegrationDone ch) s (fun t =>
      t.chState ch = (if 128 ≤ s.tec ch ∨ 128 ≤ s.rec_ ch then 3 else 2) ∧ OnlyRegisters s t)) ∧
    (s.chState ch = 5 → Completes (.busRecoveryDone ch) s (fun t => t.chState ch = 2 ∧ t.rg (Reg.FB_ERRCNT ch) = 0 ∧
      bit (t.rg (Reg.evtRaw (Head.bus ch))).toNat 3 = true ∧ OnlyRegisters s t)) ∧
    (s.fld (Reg.FB_CTRL ch) 4 3 = 0 → s.opMode ch ≠ 2 → Completes (.txdTimeout ch) s (fun t =>
      t.out = s.out ++ [.busReleased ch] ∧ (t.chan ch).timedOut = true ∧ t = { s with bus := t.bus, out := t.out }))

/-- R219, R221, R238, R246: the DISPATCH opcodes. -/
def Obligations.DispatchCommandsComplete : Prop :=
  Reads 0x0400 .dispStatus (Len 0)
    (fun s _ => leBytes 8 s.beat ++ (List.range 36).flatMap (fun k => leBytes 4 (s.rg (Reg.SOLVE_STATE + 4 * k)).toNat)) ∧
  Reads 0x0406 .dispDataRead (fun s r => s.disp.model ≠ [] ∧ Pkt.length r.packet = 8 ∧ natAt r.pl 0 4 + natAt r.pl 4 2 ≤ 65536 ∧
      1 ≤ natAt r.pl 4 2 ∧ natAt r.pl 4 2 ≤ 1000 ∧ natAt r.pl 6 2 = 0)
    (fun s r => leBytes 8 s.beat ++ s.disp.hostData.getN (4 * natAt r.pl 0 4) (4 * natAt r.pl 4 2)) ∧
  Reads 0x0407 .planRead (fun s r => s.disp.model ≠ [] ∧ Pkt.length r.packet = 8 ∧ natAt r.pl 0 1 ≤ 1 ∧ natAt r.pl 1 1 = 0 ∧
      natAt r.pl 2 2 + natAt r.pl 4 2 ≤ 8192 ∧ natAt r.pl 4 2 * natAt r.pl 7 1 ≤ 1000 ∧ natAt r.pl 6 1 + natAt r.pl 7 1 ≤ 48)
    (fun s r => let pl := if natAt r.pl 0 1 = 1 then s.disp.candidate else s.disp.plan
      (pl.map Plan.desc).getD (List.replicate 32 0) ++ (List.range (natAt r.pl 4 2)).flatMap (fun c => (List.range (natAt r.pl 7 1)).flatMap (fun k =>
        leBytes 4 ((pl.map (fun p => (p.cell (natAt r.pl 2 2 + c) (natAt r.pl 6 1 + k)).toNat)).getD 0)))) ∧
  Reads 0x0408 .dispResultRead (fun s r => s.disp.model ≠ [] ∧ s.blkState Head.dispatch ≠ 3 ∧ Pkt.length r.packet = 12 ∧ natAt r.pl 0 1 ≤ 2 ∧
      natAt r.pl 1 3 = 0 ∧ natAt r.pl 4 4 + natAt r.pl 8 2 ≤ (if natAt r.pl 0 1 = 0 then Model.n s.disp.model else Model.m s.disp.model) ∧
      1 ≤ natAt r.pl 8 2 ∧ natAt r.pl 8 2 ≤ 1000 ∧ natAt r.pl 10 2 = 0)
    (fun s r => leBytes 4 (s.rg Reg.SOLVE_ID).toNat ++ (List.range (natAt r.pl 8 2)).flatMap (fun k => leBytes 4
      ((if natAt r.pl 0 1 = 0 then s.disp.result.x else if natAt r.pl 0 1 = 1 then s.disp.result.y else s.disp.result.z).getD (natAt r.pl 4 4 + k) 0).toNat)) ∧
  Reads 0x0409 .dispBindRead (fun s r => s.disp.model ≠ [] ∧ Pkt.length r.packet = 4 ∧ natAt r.pl 0 2 + natAt r.pl 2 2 ≤ Model.binds s.disp.model ∧
      1 ≤ natAt r.pl 2 2 ∧ natAt r.pl 2 2 ≤ 200)
    (fun s r => leBytes 4 (s.rg Reg.SOLVE_ID).toNat ++
      ((((Model.bindings s.disp.model).drop (natAt r.pl 0 2)).take (natAt r.pl 2 2)).mapIdx (fun k x =>
        x.bytes ++ leBytes 4 (s.disp.lastValues.getD (natAt r.pl 0 2 + k) 0).toNat)).flatten) ∧
  Reads 0x040A .dispLogRead (fun s r => s.disp.model ≠ [] ∧ Pkt.length r.packet = 0) (fun s _ => bytesAt (s.disp.log.flatMap SolveLog.bytes) 0 1024) ∧
  (∀ (s : State) (req : OctahReq), s.disp.model ≠ [] →
    let p := req.pl
    let value (k : Nat) : Word := (((dispWords p).find? (fun x => x.1 == k)).map (·.2)).getD (s.rg (Reg.ADMM_MAX + 4 * k))
    (OctahReady 0x0401 true req s → Pkt.length req.packet = 4 + 4 * (dispWords p).length → natAt p 0 4 < 2 ^ 16 →
      (∀ x ∈ dispWords p, paramOk x.1 x.2 = true) → w2r (value 7) ≤ w2r (value 9) → w2r (value 8) ≤ w2r (value 10) →
      Completes (.dispParamSet req) s (fun t => (∀ k < 16, t.rg (Reg.ADMM_MAX + 4 * k) = value k) ∧ t.disp = s.disp)) ∧
    (OctahReady 0x0402 true req s → Pkt.length req.packet = 16 → natAt p 0 1 ≤ 1 → natAt p 1 3 = 0 → 4000 ≤ natAt p 4 4 → natAt p 4 4 ≤ 14400000 →
      natAt p 8 4 < natAt p 4 4 → (s.rg Reg.VERIFY_LEAD).toNat + 4 ≤ natAt p 12 4 → natAt p 12 4 ≤ natAt p 4 4 →
      (s.blkState Head.dispatch = 1 ∨ s.blkState Head.dispatch = 6) → Completes (.dispSchedSet req) s (fun t =>
        (t.rg Reg.DISP_SCHED).toNat = natAt p 0 1 ∧ (t.rg Reg.DISP_PERIOD).toNat = natAt p 4 4 ∧ (t.rg Reg.DISP_PHASE).toNat = natAt p 8 4 ∧
        (t.rg Reg.CUTOVER_DELAY).toNat = natAt p 12 4 ∧ t.disp = s.disp)) ∧
    (OctahReady 0x0403 true req s → Pkt.length req.packet = 16 → s.beat + 4 ≤ natAt p 0 8 → natAt p 0 8 + (s.rg Reg.VERIFY_LEAD).toNat + 4 ≤ natAt p 8 8 →
      s.fld Reg.DISP_SCHED 0 0 = 0 → s.blkState Head.dispatch = 1 → Completes (.dispSolve req) s (fun t =>
        t.disp = { s.disp with due := some (natAt p 0 8, natAt p 8 8, (s.rg Reg.SOLVE_ID).toNat + 1) } ∧
        (s.enabled Head.dispatch = true → s.disp.stopped = false → s.disp.solve = none → t.blkState Head.dispatch = 2))) ∧
    (OctahReady 0x0404 true req s → Pkt.length req.packet = 0 →
      (s.disp.solve = none → s.disp.due ≠ none → Completes (.dispAbort req) s (fun t => t.disp = { s.disp with due := none })) ∧
      (∀ v, s.disp.solve = some v → s.beat + 2 ≤ v.cut → Completes (.dispAbort req) s (fun t => t.disp.solve = none ∧ t.disp.candidate = none ∧
        t.disp.plan = s.disp.plan ∧ (s.disp.candidate = none → t.fld Reg.SOLVE_STATE 2 0 = 6 ∧ t.verdict = 4) ∧
        (s.disp.candidate ≠ none → t.verdict = 6)))) ∧
    (OctahReady 0x0405 true req s → natAt p 0 4 + natAt p 4 2 ≤ 65536 → 1 ≤ natAt p 4 2 → natAt p 4 2 ≤ 1000 → Pkt.length req.packet = 8 + 4 * natAt p 4 2 →
      natAt p 6 1 ≤ 1 → natAt p 7 1 = 0 → (s.disp.hdQueue.map (fun w => w.values.length)).sum + natAt p 4 2 ≤ 4096 →
      Completes (.dispDataWrite req) s (fun t => t.disp = { s.disp with hdQueue := s.disp.hdQueue ++ [{ first := natAt p 0 4, values := (List.range (natAt p 4 2)).map (fun k => BitVec.ofNat 32 (natAt p (8 + 4 * k) 4)), final := bit (natAt p 6 1) 0, tag := req.tag }] } ∧
        (s.host.journal.length = 256 → (t.jentry req.tag).state ≠ .done))))

/-- R216 to R222, R226, R235, R236: the life of a solve and of a plan. -/
def Obligations.SolvesRunTheirCourse : Prop :=
  ∀ (s : State),
    let bs := Model.bindings s.disp.model
    let snap := s.pair.bind.getD (bs.map s.bindSource)
    let vec := applyBindings bs snap (Model.words s.disp.model 0x38 (Model.n s.disp.model), Model.words s.disp.model 0x3C (Model.m s.disp.model),
      Model.words s.disp.model 0x40 (Model.m s.disp.model))
    let started (c id late : Nat) (t : State) : Prop :=
      t.rg Reg.SOLVE_ID = BitVec.ofNat 32 id ∧ t.rg64 Reg.SOLVE_BEAT_LO = s.beat ∧ t.rg64 Reg.CUTOVER_BEAT_LO = c % 2 ^ 64 ∧
      t.fld Reg.SOLVE_STATE 16 16 = late ∧ t.disp.due = none ∧ t.disp.plan = s.disp.plan ∧
      (snap.all f64.finite = true → bs.all (fun x => !s.bindStale x) = true → (vec.2.1.zip vec.2.2).all (fun x => f32.le x.1.toNat x.2.toNat) = true →
        ∃ v, t.disp.solve = some v ∧ v.id = id ∧ v.start = s.beat ∧ v.cut = c ∧ v.snapshot = snap ∧ v.params = s.dispParams ∧
          v.q = vec.1 ∧ v.l = vec.2.1 ∧ v.u = vec.2.2) ∧
      (∀ k, firstFail f64.finite snap = some k → t.disp.solve = none ∧ t.fld Reg.SOLVE_STATE 2 0 = 5 ∧ t.fld Reg.SOLVE_STATE 15 8 = 1 ∧
        t.rg Reg.DISP_INFO = BitVec.ofNat 32 k ∧ t.verdict = 4)
    let ended (v : Solve) (r : DeRun) (st us : Nat) (t : State) : Prop :=
      t.rg Reg.ADMM_ITERS = BitVec.ofNat 32 r.iters ∧ t.rg Reg.CG_ITERS = BitVec.ofNat 32 r.cg ∧ t.rg Reg.SOLVE_US = BitVec.ofNat 32 us ∧
      t.fld Reg.SOLVE_STATE 2 0 = st % 8 ∧ t.disp.plan = s.disp.plan ∧
      (∀ it p d, (st = 1 ∨ st = 2) → r.best = some (it, p, d) → t.disp.warm = some it ∧ t.disp.candidate = some { solve := v.id, nsteps := Model.nsteps s.disp.model, status := st, origin := v.cut, stepBeats := Model.stepBeats s.disp.model, cells := planCells s.disp.map (Model.nsteps s.disp.model) it.x, lost := [] }) ∧
      ((st ≠ 1 ∧ st ≠ 2) ∨ r.best = none → t.disp.solve = none ∧ t.disp.candidate = none ∧ t.verdict = 4)
    (∀ st c id, s.dispReady = true → s.solveDue = some (st, c, id) →
      (s.disp.hdOpen = none → Completes .solveStart s (started c id 0)) ∧
      (s.disp.hdOpen ≠ none → Completes .solveStart s (fun t => t.disp = { s.disp with due := some (st, c, id) })) ∧
      (∀ o, s.disp.hdOpen = some o → (o + 401 ≤ s.beat ∨ c ≤ s.beat + (s.rg Reg.VERIFY_LEAD).toNat + 2) →
        Completes .hostDataOpenExpire s (started c id 1))) ∧
    (∀ v us, s.iterating = some v →
      (s.beat + v.lead < v.cut →
        let r := solveFor s.disp.model v.params v.q v.l v.u v.first (Params.at v.params 0).toNat
        ∀ st det, r.ended = some (st, det) → Completes (.solveEnd us) s (ended v r st us)) ∧
      (∀ n, v.cut ≤ s.beat + v.lead →
        let r := solveFor s.disp.model v.params v.q v.l v.u v.first (min n (Params.at v.params 0).toNat)
        Completes (.solveDeadline n us) s (ended v r ((r.ended.map (·.1)).getD (if r.checks = 0 then 6 else 2)) us))) ∧
    (∀ v c, s.disp.solve = some v → s.disp.candidate = some c → v.cut = s.beat →
      let agreed := s.blkState Head.pair ≠ 3 ∨ s.disp.agreed = true
      let gone (t : State) : Prop := t.disp.solve = none ∧ t.disp.candidate = none
      (s.verdict = 1 → agreed → Completes .cutover s (fun t => gone t ∧ t.disp.plan = some { c with lost := [] } ∧
        t.rg Reg.PLAN_ID = BitVec.ofNat 32 c.solve ∧ t.rg64 Reg.PLAN_ORIGIN_LO = c.origin % 2 ^ 64 ∧ t.rg Reg.CUTOVER_CNT = satInc (s.rg Reg.CUTOVER_CNT) ∧
        bit (t.rg (Reg.evtRaw Head.dispatch)).toNat 5 = true)) ∧
      (s.verdict ≠ 1 → s.disp.copied = false → Completes .cutover s (fun t => gone t ∧ t.disp.plan = s.disp.plan ∧
        ((s.verdict = 2 ∨ s.verdict = 3 ∨ s.verdict = 7) → t.rg Reg.REJECT_CNT = satInc (s.rg Reg.REJECT_CNT)) ∧
        (s.verdict = 5 → t.rg Reg.MISSED_CNT = satInc (s.rg Reg.MISSED_CNT)) ∧ bit (t.rg (Reg.evtRaw Head.dispatch)).toNat 4 = true))) ∧
    (∀ p, s.disp.plan = some p → s.cutsNow = false →
      (p.origin < s.beat → (s.beat - p.origin) % p.stepBeats = 0 → s.beat - p.origin < p.nsteps * p.stepBeats →
        Completes .planStep s (fun t => bit (t.rg (Reg.evtRaw Head.dispatch)).toNat 6 = true ∧ OnlyRegisters s t)) ∧
      (p.origin ≤ s.beat → s.beat - p.origin = p.nsteps * p.stepBeats →
        Completes .planFallback s (fun t => bit (t.rg (Reg.evtRaw Head.dispatch)).toNat 7 = true ∧ OnlyRegisters s t)))

/-- R306, R310, R319, R334, R335, R337, R344: the metering opcodes. -/
def Obligations.MeteringCommandsComplete : Prop :=
  Reads 0x0600 .meterLatchRead (fun s r => Pkt.length r.packet = 4 ∧ natAt r.pl 0 1 < 16 ∧ natAt r.pl 1 3 = 0 ∧ s.cirOn (natAt r.pl 0 1) = true)
    (fun s r => leBytes 8 s.beat ++ (List.range 64).flatMap (fun w => leBytes 4 (s.meterWord (natAt r.pl 0 1) w).toNat)) ∧
  Reads 0x0601 .meterHarmRead (fun s r => Pkt.length r.packet = 4 ∧ natAt r.pl 0 1 < 16 ∧ natAt r.pl 1 1 < 3 ∧ natAt r.pl 2 1 < 128 ∧ 1 ≤ natAt r.pl 3 1 ∧
      natAt r.pl 2 1 + natAt r.pl 3 1 ≤ 128 ∧ s.cirOn (natAt r.pl 0 1) = true ∧ s.fld (Reg.CIR_CFG (natAt r.pl 0 1)) 3 3 = 1)
    (fun s r => let c := natAt r.pl 0 1
      leBytes 4 (s.rg (Reg.SPEC_SEQ c)).toNat ++ leBytes 4 0 ++ leBytes 8 (s.rg64 (Reg.SPEC_NS_LO c)) ++
        (List.range (5 * natAt r.pl 3 1)).flatMap (fun k => leBytes 4 ((s.cir c).harm.getD (5 * (128 * natAt r.pl 1 1 + natAt r.pl 2 1) + k) 0).toNat)) ∧
  Reads 0x0602 .meterEventRead (fun _ r => Pkt.length r.packet = 8 ∧ 1 ≤ natAt r.pl 4 2 ∧ natAt r.pl 4 2 ≤ 64 ∧ natAt r.pl 6 2 = 0)
    (fun s r => let found := (s.meter.ring.filter (fun e => decide (natAt r.pl 0 4 ≤ natAt e 0x10 4))).take (natAt r.pl 4 2)
      leBytes 2 found.length ++ leBytes 2 0 ++ found.flatten) ∧
  Reads 0x0605 .meterCalRead (fun _ r => Pkt.length r.packet = 4 ∧ natAt r.pl 0 1 < 32 ∧ natAt r.pl 1 3 = 0)
    (fun s r => let n := natAt r.pl 0 1
      let u := (s.afe n).user
      leBytes 4 (Config.factoryGain n (s.chRange n)).toNat ++ leBytes 4 (Config.factoryOfs n (s.chRange n)).toNat ++
        leBytes 4 (unsx 32 (Config.factoryPhase n (s.chRange n))) ++ leBytes 4 u.gain.toNat ++ leBytes 4 u.ofs.toNat ++ leBytes 4 (unsx 32 u.phase) ++
        leBytes 4 (s.rg (Reg.CH_GAIN_ACT n)).toNat ++ leBytes 4 (s.rg (Reg.CH_OFFSET_ACT n)).toNat ++ leBytes 4 (s.rg (Reg.CH_PHASE_ACT n)).toNat ++
        leBytes 4 (s.rg Reg.CAL_COUNT).toNat) ∧
  (∀ c : Capture, c.done = true → Reads 0x0609 .meterCaptureRead (fun s r => s.meter.capture = some c ∧ Pkt.length r.packet = 12 ∧ natAt r.pl 0 1 < 32 ∧
      natAt r.pl 1 3 = 0 ∧ 1 ≤ natAt r.pl 8 2 ∧ natAt r.pl 8 2 ≤ 1000 ∧ natAt r.pl 10 2 = 0 ∧ bit c.mask (natAt r.pl 0 1) = true ∧
      natAt r.pl 4 4 + natAt r.pl 8 2 ≤ c.count)
    (fun _ r => leBytes 8 (c.start * 250000) ++ (((c.taken.getD (natAt r.pl 0 1) []).reverse.drop (natAt r.pl 4 4)).take (natAt r.pl 8 2)).flatMap
      (fun x => leBytes 4 (meReal x).toNat))) ∧
  Reads 0x0610 .thermLatchRead (fun s r => Pkt.length r.packet = 4 ∧ natAt r.pl 0 1 < 8 ∧ natAt r.pl 1 3 = 0 ∧ s.thmOn (natAt r.pl 0 1) = true)
    (fun s r => leBytes 8 s.beat ++ (List.range 32).flatMap (fun w => leBytes 4 (s.thermWord (natAt r.pl 0 1) w).toNat)) ∧
  Reads 0x0612 .thermCalRead (fun _ r => Pkt.length r.packet = 4 ∧ natAt r.pl 0 1 < 16 ∧ natAt r.pl 1 3 = 0)
    (fun s r => leBytes 4 (s.meter.rtdUser.getD (natAt r.pl 0 1) 0).toNat ++ leBytes 4 (s.rg Reg.THERM_CAL_COUNT).toNat) ∧
  (∀ x : List Byte, Reads 0x0617 .billRead (fun s r => Pkt.length r.packet = 4 ∧ s.billNamed (natAt r.pl 0 4) = some x)
    (fun s _ => leBytes 1 (b2n (s.billValid x)) ++ leBytes 3 0 ++ bytesAt x 0 1280)) ∧
  (∀ x : List Byte, Reads 0x0618 .gapRead (fun s r => Pkt.length r.packet = 4 ∧ s.gapNamed (natAt r.pl 0 4) = some x) (fun _ _ => x)) ∧
  (∀ (s : State) (req : OctahReq),
    let p := req.pl
    let n := natAt p 0 1
    let m := natAt p 1 1
    (OctahReady 0x0603 false req s → Pkt.length req.packet = 16 → n < 32 → s.meter.chans.length = 32 → m < 8 → natAt p 2 2 = 0 →
      (bit m 0 = true → realIn (realAt p 4) (9 / 10) (11 / 10) = true) → (bit m 1 = true → f32.finite (natAt p 8 4) = true) →
      (bit m 2 = true → -2048 ≤ sext 32 (natAt p 12 4) ∧ sext 32 (natAt p 12 4) ≤ 2048) → s.fld Reg.METER_CTRL 0 0 = 1 →
      let u := ((s.afe n).next.map (·.2)).getD (s.afe n).user
      Completes (.meterCalWrite req) s (fun t => (t.afe n).user = (s.afe n).user ∧ (t.afe n).next = some (calBeat s.beat, { gain := if bit m 0 then realAt p 4 else u.gain, ofs := if bit m 1 then realAt p 8 else u.ofs, phase := if bit m 2 then sext 32 (natAt p 12 4) else u.phase }) ∧
        ∀ k, k ≠ n → t.afe k = s.afe k)) ∧
    (OctahReady 0x0604 false req s → Pkt.length req.packet = 4 → s.meter.chans.length = 32 → s.fld Reg.METER_CTRL 0 0 = 1 →
      Completes (.meterCalRestore req) s (fun t => ∀ k < 32, t.afe k =
        if bit (natAt p 0 4) k then { s.afe k with next := some (calBeat s.beat, AfeChan.reset.user) } else s.afe k)) ∧
    (OctahReady 0x0606 false req s → Pkt.length req.packet = 0 → Completes (.meterSetupSave req) s (fun t => t.seam.queued ≠ none ∧
      t.rg Reg.SETUP_TAG = BitVec.ofNat 32 (meterTag s.meterRecBody) ∧ t.meter = s.meter)) ∧
    (OctahReady 0x0607 true req s → Pkt.length req.packet = 4 + 12 * natAt p 0 2 → copyArgs 256 16 64 p = none → Completes (.meterCopySet req) s (fun t =>
      t.meter = { s.meter with copiesNext := some (copyRecs p) } ∧ t.host.due = s.host.due ++ [(s.beat + 1, req.tag, [])])) ∧
    (OctahReady 0x0608 false req s → Pkt.length req.packet = 16 → 1 ≤ natAt p 4 4 → natAt p 4 4 ≤ 65536 → s.beat + 4 ≤ natAt p 8 8 →
      (∀ c, s.meter.capture = some c → c.done = true) → Completes (.meterCapture req) s (fun t => t.meter = { s.meter with
        capture := some { mask := natAt p 0 4, count := natAt p 4 4, start := natAt p 8 8, taken := List.replicate 32 [], done := false } } ∧
        t.fld (Reg.status Head.meter) 1 1 = 1)) ∧
    (OctahReady 0x0611 false req s → Pkt.length req.packet = 8 → n < 16 → s.meter.rtdNext.length = 16 → natAt p 1 3 = 0 →
      realIn (realAt p 4) (-1 / 2) (1 / 2) = true → s.fld Reg.THERM_CTRL 0 0 = 1 → Completes (.thermCalWrite req) s (fun t =>
        t.meter.rtdNext = s.meter.rtdNext.set n (some (calBeat s.beat, realAt p 4)) ∧ t.meter.rtdUser = s.meter.rtdUser)) ∧
    (OctahReady 0x0613 false req s → Pkt.length req.packet = 4 + 12 * m → n < 4 → 2 ≤ m → m ≤ 64 → natAt p 2 2 = 0 →
      (∀ k < m, rowOk (tableRows p) k = true) → s.enabled Head.therm = false → s.meter.tables.length = 4 → Completes (.thermTableWrite req) s (fun t =>
        t.meter = { s.meter with tables := s.meter.tables.set n (tableRows p) })) ∧
    (OctahReady 0x0614 true req s → Pkt.length req.packet = 4 + 12 * natAt p 0 2 → copyArgs 64 8 32 p = none → Completes (.thermCopySet req) s (fun t =>
      t.meter = { s.meter with thermCopiesNext := some (copyRecs p) } ∧ t.host.due = s.host.due ++ [(s.beat + 1, req.tag, [])])) ∧
    (OctahReady 0x0615 false req s → Pkt.length req.packet = 0 → Completes (.thermSetupSave req) s (fun t => t.seam.queued ≠ none ∧
      t.rg Reg.THERM_SETUP_TAG = BitVec.ofNat 32 (thermTag s.thermRecBody) ∧ t.meter = s.meter)) ∧
    (OctahReady 0x0616 true req s → Pkt.length req.packet = 0 → s.fld Reg.THERM_CTRL 1 1 = 1 → s.meter.save = none → s.meter.billAt = none →
      Completes (.billSave req) s (fun t => t.meter = { s.meter with billAt := some (calBeat s.beat) })))

/-- R294, R302, R305, R310, R316, R319, R327 to R343: what happens in the ME and in billing. -/
def Obligations.MeteringEventsAct : Prop :=
  ∀ (s : State), s.meter.chans.length = 32 → s.meter.circuits.length = 16 → s.meter.therms.length = 8 →
    s.meter.rtdUser.length = 16 → s.meter.rtdNext.length = 16 →
    (s.meterLive = true → s.blkState Head.meter = 3 → 4 ≤ s.meter.goodRun → s.beat % 4 = 0 → Completes .afeLinkResume s (fun t =>
      t.blkState Head.meter = 2 ∧ t.meter.acc = true ∧ t.meter.gap = none ∧ ∀ c, (t.cir c).energy = (s.cir c).energy)) ∧
    (∀ n b, s.meterLive = true → n ∈ s.tracked → (s.afe n).validAt = some b → (s.afe n).noSync = false →
      10000000000 ≤ 425 * (s.meter.taken * 250000 - b) → Completes (.noSyncTimeout n) s (fun t => (t.afe n).noSync = true ∧
        t.fld (Reg.CH_STATUS n) 1 1 = 1 ∧ (∀ c ∈ s.circuitsOn, s.cirVa c = n → t.fld (Reg.CIR_STATUS c) 0 0 = 1 ∧ (t.cir c).spec = none) ∧
        (∀ k, k ≠ n → t.afe k = s.afe k))) ∧
    (s.silent = false → s.beat % 4 = 0 → s.meter.booked < s.beat → s.metersHere = true →
      (∀ rtds c, s.meterLive = true → s.meter.acc = true → c ∈ s.circuitsOn → (s.cir c).energy.length = 6 →
        (∀ e ∈ (s.cir c).energy, e < 2 ^ 96) →
        let p := (s.cir c).ep / 32
        let q := (s.cir c).eq / 32
        let r := quantumRegs p q (w2r (s.rg (Reg.CIR_NOLOAD_P c))) (w2r (s.rg (Reg.CIR_NOLOAD_Q c)))
        Completes (.energyQuantum rtds) s (fun t => t.meter.booked = s.beat ∧ (t.cir c).ep = 0 ∧ (t.cir c).eq = 0 ∧
          ∀ k < 6, (t.cir c).energy.getD k 0 = ((s.cir c).energy.getD k 0 + (if r.1 = some k then quantumUnits (s.cir c).ep else 0) +
            (if r.2 = some k then quantumUnits (s.cir c).eq else 0)) % 2 ^ 96)) ∧
      (∀ rtds p, s.enabled Head.therm = true → s.blkState Head.therm ≠ 4 → s.meter.thermAcc = true → p ∈ s.thmsOn → (s.thm p).regs.length = 5 →
        (∀ e ∈ (s.thm p).regs, e < 2 ^ 96) →
        let count (l : List (Word × Word)) : Nat := ((l.getD (s.thmLio p) (0, 0)).2 - (l.getD (s.thmLio p) (0, 0)).1).toNat
        let temp (k : Nat) := s.rtdTemp k (s.fld (Reg.THP_CFG p) 2 1) (rtds.getD k (0, false))
        let q := s.thermCalc p (temp (2 * p)) (temp (2 * p + 1)) (s.volume p (count s.meter.fwdAt))
        let e := f64.toRat q.energy
        Completes (.energyQuantum rtds) s (fun t => ∀ k < 5, (t.thm p).regs.getD k 0 = ((s.thm p).regs.getD k 0 +
          (match k with
            | 0 => if 0 < e then jouleUnits e else 0
            | 1 => if e < 0 then jouleUnits e else 0
            | 2 => s.volumeUnits p (count s.meter.fwdAt)
            | 3 => s.volumeUnits p (count s.meter.revAt)
            | _ => if q.err then s.volumeUnits p (count s.meter.fwdAt) else 0)) % 2 ^ 96))) ∧
    (∀ c b ws, c < 16 → s.metersHere = true → s.meterLive = true → (s.cir c).ready = [(b, ws)] → b ≤ s.beat → ws.length = 51 → (s.cir c).energy.length = 6 →
      Completes .latchPublish s (fun t => (t.cir c).ready = [] ∧ (∀ k < 48, t.meterWord c k = ws.getD k 0) ∧
        (∀ r < 6, t.rg64 (meterWordAt c (48 + 2 * r)) = (s.cir c).energy.getD r 0 / 2 ^ 32 % 2 ^ 64) ∧ t.meterWord c 60 = ws.getD 48 0 ∧
        t.rg (Reg.LATCH_SEQ c) = s.meterWord c 61 + 2 ∧ bit (t.rg (Reg.evtRaw Head.meter)).toNat 1 = true)) ∧
    (∀ p b ws, p < 8 → s.metersHere = true → s.enabled Head.therm = true → s.blkState Head.therm ≠ 4 → (s.thm p).ready = [(b, ws)] → b ≤ s.beat →
      ws.length = 32 → Completes .thermLatchPublish s (fun t => (t.thm p).ready = [] ∧ (∀ k < 32, k ≠ 29 → t.thermWord p k = ws.getD k 0) ∧
        t.thermWord p 29 = s.thermWord p 29 + 2 ∧ bit (t.rg (Reg.evtRaw Head.therm)).toNat 1 = true)) ∧
    (∀ n b u, n < 32 → (s.afe n).next = some (b, u) → b ≤ s.beat → Completes .calTakeEffect s (fun t => (t.afe n).user = u ∧ (t.afe n).next = none ∧
      (t.afe n).old = some (b, s.activeCal n) ∧ t.seam.queued ≠ none ∧ bit (t.rg (Reg.evtRaw Head.meter)).toNat 7 = true)) ∧
    (∀ n b w, n < 16 → s.meter.rtdNext.getD n none = some (b, w) → b ≤ s.beat → Completes .thermCalEffect s (fun t =>
      t.meter.rtdUser.getD n 0 = w ∧ t.meter.rtdNext.getD n none = none ∧ t.seam.queued ≠ none ∧ bit (t.rg (Reg.evtRaw Head.therm)).toNat 6 = true)) ∧
    (∀ c, s.meter.capture = some c → c.done = false → (∀ n < 32, bit c.mask n = true → (c.taken.getD n []).length = c.count) →
      Completes .captureDone s (fun t => t.meter = { s.meter with capture := some { c with done := true } } ∧ t.fld (Reg.status Head.meter) 1 1 = 0 ∧
        bit (t.rg (Reg.evtRaw Head.meter)).toNat 12 = true ∧ t = { s with reg := t.reg, out := t.out, meter := t.meter })) ∧
    (∀ p, s.enabled Head.therm = true → s.thmOn p = true → s.lio.edges.getD (s.thmLio p) 0 = 0 → Completes (.flowTimeout p) s (fun t =>
      (t.thm p).noFlow = true ∧ t.fld (Reg.THP_STATUS p) 4 4 = 1)) ∧
    (∀ b cause, s.silent = false → s.billTrigger = some (b, cause) → s.fld Reg.THERM_CTRL 1 1 = 1 →
      (s.meter.save = none → s.sealRefused = none → Completes .billSaveTrigger s (fun t => t.meter.save = some { b := b, cause := cause, stored := false } ∧
        t = { s with meter := t.meter })) ∧
      (∀ v, s.meter.save = some v → v.b ≠ b → Completes .billSaveTrigger s (fun t => t.meter.save = some v ∧
        t.rg Reg.SAVE_SKIP_CNT = satInc (s.rg Reg.SAVE_SKIP_CNT) ∧ bit (t.rg (Reg.evtRaw Head.therm)).toNat 4 = true)) ∧
      (∀ r, s.meter.save = none → s.sealRefused = some r → Completes .billSaveTrigger s (fun t => t.meter.save = none ∧
        t.rg Reg.SAVE_SKIP_CNT = satInc (s.rg Reg.SAVE_SKIP_CNT) ∧ bit (t.rg (Reg.evtRaw Head.therm)).toNat 9 = true))) ∧
    (∀ v, s.silent = false → s.meter.save = some v → v.stored = false → v.b < s.beat → s.sealRefused = none → (s.keySlot s.sealSlot).limited = false →
      s.storing = false →
      let seq := (s.rg Reg.BILL_SEQ).toNat + 1
      let front := s.billFront seq v.b v.cause
      Completes .billSnapshot s (fun t => t.meter.save = some { v with stored := true } ∧ t.seam.queued ≠ none ∧
        t.seam.sram.getN (billAddr seq) 1280 = front ++ s.sealTag front "FM9400 BILL")) ∧
    (s.silent = false → s.meter.gapDue = true → (s.meter.acc = true ∨ s.meter.thermAcc = true) → Completes .gapRecord s (fun t =>
      t.meter = { s.meter with gapDue := false, gapSince := true } ∧ t.rg Reg.GAP_SEQ = s.rg Reg.GAP_SEQ + 1 ∧ t.seam.queued ≠ none ∧
      bit (t.rg (Reg.evtRaw Head.therm)).toNat 5 = true))

/-- R380 to R383: the banksman. -/
def Obligations.BanksmanAnswersByItsTable : Prop :=
  (∀ (s : State) (m : List Byte) (kind : Nat), kind < 3 →
    let cmd : Instr := if kind = 0 then .banksmanRenew m else if kind = 1 then .banksmanTake m else .banksmanHandover m
    let w := s.pair.witness
    let sender := natAt m 6 1
    let b := natAt m 0x10 8
    let l := natAt m 0x22 2
    let h := natAt m 0x28 8
    let sent (type to_ : Nat) (f : List Byte → Prop) (t : State) : Prop := (s.keySlot s.leaseSlot).limited = false →
      ∃ x, .lease s.leasePorts x ∈ t.out ∧ natAt x 5 1 = type ∧ natAt x 6 1 = 2 ∧ natAt x 0x10 8 = b ∧ natAt x 0x20 1 = to_ ∧ f x
    let leaves (holder : Option Nat) (start stop epoch : Nat) (t : State) : Prop :=
      t.pair.witness.holder = holder ∧ t.pair.witness.start = start ∧ t.pair.witness.stop = stop ∧ t.pair.witness.epoch = epoch ∧
        t.pair.witness.taken = w.taken + 1
    let granted (holder : Option Nat) (to_ start stop epoch : Nat) : Prop := Completes cmd s (fun t => leaves holder start stop epoch t ∧
      t.pair.witness.lastRenew = b ∧ sent 2 to_ (fun x => natAt x 0x28 8 = start % 2 ^ 64 ∧ natAt x 0x30 8 = stop % 2 ^ 64) t)
    let refused (reason : Nat) : Prop := Completes cmd s (fun t => leaves w.holder w.start w.stop w.epoch t ∧
      t.pair.witness.lastRenew = w.lastRenew ∧ sent 3 sender (fun x => natAt x 0x21 1 = reason) t)
    s.silent = false → s.role = Role.witness → natAt m 5 1 = 1 → natAt m 0x20 1 = kind →
    (sender ≤ 1 → s.leaseFresh m w.accepted = true →
      (w.quiet = none →
        (l < 4 ∨ 400 < l → refused 3) ∧
        (4 ≤ l → l ≤ 400 →
          let anew := granted (some sender) sender (max (b + 1) w.stop) (max (b + 1) w.stop + l) ((w.epoch + 1) % 2 ^ 32)
          (kind < 2 → w.holder = some sender → granted (some sender) sender w.start (max w.stop (b + l)) w.epoch) ∧
          (kind < 2 → w.holder ≠ some sender → (w.holder = none ∨ w.stop ≤ b) → anew) ∧
          (w.holder ≠ none → w.holder ≠ some sender → b < w.stop →
            (kind = 1 → w.lastRenew + 2 ≤ b → anew) ∧ (kind = 1 → b < w.lastRenew + 2 → refused 1) ∧ (kind = 0 → refused 2)) ∧
          (kind = 2 → w.holder = some sender →
            (b < h → w.stop < h → granted (some (1 - sender)) (1 - sender) h (h + l) ((w.epoch + 1) % 2 ^ 32)) ∧ (h ≤ b ∨ h ≤ w.stop → refused 3)) ∧
          (kind = 2 → w.holder ≠ some sender → refused 2))) ∧
      (∀ first top, w.quiet = some (first, top) → b < first.getD b + 801 → Completes cmd s (fun t =>
        t.pair.witness.quiet = some (some (first.getD b), max top (natAt m 0x24 4)) ∧ t.pair.witness.holder = w.holder ∧
        sent 3 sender (fun x => natAt x 0x21 1 = 4) t))) ∧
    (1 < sender ∨ s.leaseFresh m w.accepted = false → Completes cmd s (fun t =>
      t.pair.witness = { w with discarded := w.discarded + 1 } ∧ t = { s with pair := t.pair }))) ∧
  (∀ s : State, s.role = Role.witness → Completes .banksmanRestart s (fun t => t.pair.witness.holder = none ∧
    (∃ x, t.pair.witness.quiet = some x) ∧ t.pair.witness.taken = s.pair.witness.taken ∧ t = { s with pair := t.pair }))

/-- R377, R379, R384, R401, R416: leases and handover in a unit of a pair. -/
def Obligations.LeaseAndHandover : Prop :=
  (∀ (s : State) (m : List Byte), s.silent = false → s.inPair = true → natAt m 6 1 = 2 → s.leaseFresh m s.pair.accepted = true →
    (natAt m 5 1 = 2 →
      (natAt m 0x20 1 = s.pairId → Completes (.grant m) s (fun t => t.pair.grant = some (natAt m 0x28 8, natAt m 0x30 8) ∧
        t.pair.grantBeat = some s.beat ∧ t.pair.bmBeat = some s.beat ∧ t.leaseEnd = natAt m 0x30 8 ∧ t.pairSt = s.pairSt ∧
        t.rg Reg.LEASE_EPOCH = BitVec.ofNat 32 (natAt m 0x24 4))) ∧
      (natAt m 0x20 1 ≠ s.pairId → s.pair.handover = none → Completes (.grant m) s (fun t => t.pair.grant = s.pair.grant ∧
        t.leaseEnd = s.leaseEnd ∧ .mirror 0x09 0 0 m ∈ t.out))) ∧
    (natAt m 5 1 = 3 → natAt m 0x20 1 = s.pairId → natAt m 0x21 1 = 1 → (s.pair.handover = none ∨ s.pairOwner = false) →
      Completes (.refuse m) s (fun t => t.pair.grant = s.pair.grant ∧
        (s.pairSt = Pair.standby → s.partnerLost = true → t.pairSt = Pair.joining) ∧
        (s.pairSt ≠ Pair.standby ∨ s.partnerLost = false → t.pairSt = s.pairSt ∧ t.pair.heldAnswer = true)))) ∧
  (∀ s : State, s.running = true → s.inPair = true →
    (s.pairOwner = true → s.leaseEnd ≤ s.beat → s.pair.peerConsent ≤ s.beat → Completes .leaseExpire s (fun t => t.pairSt = Pair.joining ∧
      t.pair.grant = none ∧ t.rg Reg.LAST_CHANGE_BEAT = BitVec.ofNat 32 s.beat ∧ bit (t.rg (Reg.evtRaw Head.pair)).toNat 6 = true)) ∧
    (s.beat < s.leaseEnd ∨ s.beat < s.pair.peerConsent ∨ s.pairOwner = false → Completes .leaseExpire s (fun t => t = s)) ∧
    (∀ o, s.pair.handover = some o → o.h = s.beat → s.pairOwner = true →
      (o.known = true → Completes .handoverBeat s (fun t => t.pairSt = Pair.standby ∧ t.pair.handover = none ∧
        bit (t.rg (Reg.evtRaw Head.pair)).toNat 12 = true)) ∧
      (o.known = false → (s.beat < s.leaseEnd ∨ s.beat < s.pair.peerConsent) → Completes .handoverBeat s (fun t => t.pairSt = s.pairSt ∧
        t.pair.handover = none)) ∧
      (o.known = false → s.leaseEnd ≤ s.beat → s.pair.peerConsent ≤ s.beat → Completes .handoverBeat s (fun t => t.pairSt = Pair.joining))) ∧
    (∀ a ans st en, s.pair.handover = none → s.pair.notice = some (s.beat, a, ans) → s.pairSt = Pair.standby → s.pair.grant = some (st, en) →
      st ≤ s.beat → s.beat < en → Completes .handoverBeat s (fun t => t.pairSt = Pair.active ∧ t.pair.notice = none ∧
        t.rg Reg.LAST_CHANGE_BEAT = BitVec.ofNat 32 s.beat)) ∧
    (s.silent = false → s.frame.phase = .p0 → s.leaseKeyOk = true → (s.keySlot s.leaseSlot).limited = false →
      let asks (kind : Nat) (t : State) : Prop := ∃ x, .lease s.leasePorts x ∈ t.out ∧ natAt x 5 1 = 1 ∧ natAt x 6 1 = s.pairId ∧
        natAt x 0x10 8 = s.beat ∧ natAt x 0x20 1 = kind
      (∀ o, s.pair.handover = some o → o.known = false → o.h ≤ s.beat + 1 → s.pairOwner = true → Completes .handoverNoAnswer s (asks 0)) ∧
      (∀ h a, s.pair.handover = none → s.pair.notice = some (h, a, false) → h ≤ s.beat + 1 → s.pairSt = Pair.standby → s.arbEn = false →
        Completes .handoverNoAnswer s (asks 1)))) ∧
  Reads 0x0800 .pairStatusRead (fun s r => Pkt.length r.packet = 0 ∧ s.role = Role.pairMember)
    (fun s _ => leBytes 8 s.beat ++ (List.range 26).flatMap (fun k => leBytes 4 (s.rg (Reg.PAIR_CFG + 4 * k)).toNat) ++ bytesAt s.pair.hb 0 64) ∧
  Reads 0x0804 .lampRead (fun s r => Pkt.length r.packet = 0 ∧ s.role = Role.pairMember)
    (fun s _ => leBytes 8 (s.rg64 Reg.LAMP_FAIL_LO) ++ leBytes 8 (s.rg64 Reg.LAMP_DONE_LO) ++ leBytes 4 (s.rg Reg.LAMP_PASS_CNT).toNat ++
      leBytes 4 (s.rg Reg.LAMP_PASS_BEATS).toNat ++ (List.range 64).flatMap (fun k => leBytes 4 (s.rg (Reg.LAMP_COV k)).toNat)) ∧
  Reads 0x0805 .divLogRead (fun s r => Pkt.length r.packet = 0 ∧ s.role = Role.pairMember) (fun s _ => bytesAt s.pair.divLog.flatten 0 512) ∧
  Reads 0x0807 .banksmanStatus (fun s r => Pkt.length r.packet = 0 ∧ s.role = Role.witness) (fun s _ => let w := s.pair.witness
    leBytes 1 (w.holder.getD 0xFF) ++ leBytes 3 0 ++ leBytes 4 w.epoch ++ leBytes 8 w.stop ++ leBytes 8 w.lastRenew ++ leBytes 4 w.taken ++
      leBytes 4 w.discarded) ∧
  (∀ (s : State) (req : OctahReq),
    let h := natAt req.pl 0 8
    (OctahReady 0x0801 false req s → Pkt.length req.packet = 8 → s.role = Role.pairMember → s.pairOwner = true → s.peerState = Pair.standby →
      s.fld Reg.PAIR_STATUS 5 5 = 1 → s.pair.handover = none → s.beat + max 8 (s.leaseBeats + 1) ≤ h → h ≤ s.beat + 4000 →
      Completes (.pairHandover req) s (fun t => t.pair.handover = some { h := h, tag := some req.tag, known := false } ∧
        .control (.handoverNotice h) ∈ t.out ∧ t.pairSt = s.pairSt ∧ (s.host.journal.length = 256 → (t.jentry req.tag).state ≠ .done))) ∧
    (OctahReady 0x0802 false req s → Pkt.length req.packet = 0 → s.lampRuns = true → Completes (.pairDetach req) s (fun t =>
      t.pairSt = Pair.joining ∧ t.fld Reg.PAIR_STATUS 12 12 = 1)) ∧
    (OctahReady 0x0803 false req s → Pkt.length req.packet = 0 → s.heldOut = true → Completes (.pairRejoin req) s (fun t =>
      t.pairSt = s.pairSt ∧ t.fld Reg.PAIR_STATUS 12 12 = 0)))

/-- R375, R384, R386, R391 to R397, R401, R404 to R406: the mirror link. -/
def Obligations.MirrorLinkMessages : Prop :=
  ∀ (s : State), s.silent = false → s.inPair = true →
    (∀ d peer, Completes (.heartbeat true d peer) s (fun t => t.pair.hb = bytesAt d 0 64 ∧ t.pair.hbBeat = some (natAt d 0 8) ∧ t.pair.peer = peer ∧
      t.pair.peerConsent = natAt d 0x28 8 ∧ (s.pairSt = Pair.solo → natAt d 0x18 1 = Pair.standby → t.pairSt = Pair.active))) ∧
    (s.running = true → s.frame.phase = .p3 → s.pairSt ≠ Pair.off → s.pair.judged < s.beat → s.pair.hbBeat ≠ some s.beat →
      Completes .heartbeatMissed s (fun t => t.pair.missed = s.pair.missed + 1 ∧ t.pair.missAt = some s.beat ∧ t.pair.judged = s.beat ∧
        (s.pairSt = Pair.active → s.hbMiss ≤ s.pair.missed + 1 → t.pairSt = Pair.solo) ∧
        (s.pairSt ≠ Pair.active ∨ s.pair.missed + 1 < s.hbMiss → t.pairSt = s.pairSt))) ∧
    (∀ k d, k < 32768 → s.takesRaft = true → Completes (.stateBlock true 0 k d) s (fun t =>
      (s.wroteSince s.openRaft.beat (0, k) = true → t.scan.data = s.scan.data) ∧
      (s.wroteSince s.openRaft.beat (0, k) = false → t.scan.data.getN (256 * k) 256 = bytesAt d 0 256 ∧
        ∀ a, (a < 256 * k ∨ 256 * k + 256 ≤ a) → t.scan.data.get a = s.scan.data.get a) ∧ t.loop = s.loop ∧ t.scan.slots = s.scan.slots)) ∧
    (∀ b n, s.takesRaft = true → n ≤ s.openRaft.got → Completes (.stateEnd true b n) s (fun t => t.pair.raftDone = max s.pair.raftDone b ∧
      t.scan = s.scan ∧ t.pairSt = s.pairSt)) ∧
    (s.running = true → s.pairSt = Pair.standby → s.frame.phase ≠ .p3 →
      (s.beat ≤ s.pair.raftDone + 1 → s.pair.rafts = [] → Completes .raftDeadline s (fun t => t.pair.lateRun = 0 ∧ t.pairSt = s.pairSt)) ∧
      (s.pair.raftDone + 1 < s.beat ∨ s.pair.rafts ≠ [] → Completes .raftDeadline s (fun t => t.rg Reg.RAFT_LATE_CNT = satInc (s.rg Reg.RAFT_LATE_CNT) ∧
        bit (t.rg (Reg.evtRaw Head.pair)).toNat 3 = true ∧ (15 ≤ s.pair.lateRun → t.pairSt = Pair.joining)))) ∧
    (s.pairOwner = true → Completes (.joinRequest true) s (fun t => t.pair.copyNext = some 0 ∧ t = { s with pair := t.pair })) ∧
    (∀ k d, k < 32768 → s.pairSt = Pair.joining → s.joinedReady = false → Completes (.copyBlock true 0 k d) s (fun t =>
      t.scan.data.getN (256 * k) 256 = bytesAt d 0 256 ∧ (∀ a, (a < 256 * k ∨ 256 * k + 256 ≤ a) → t.scan.data.get a = s.scan.data.get a) ∧
      (s.pair.join = .idle → t.pair.join = .copying ∧ t.rg Reg.JOIN_PROGRESS = 1))) ∧
    (∀ run, s.scan.slots.length = 32 → s.pairSt = Pair.joining → s.heldOut = false → s.joinedReady = false → Completes (.joinReady true run) s (fun t =>
      t.joinedReady = true ∧ ∀ p < 32, (t.slot p).mode = if (s.slot p).mode = .empty then .empty else if bit run p then .run else .stop)) ∧
    (∀ b, Completes (.exchangeConfirm true b) s (fun t => t.scan.stage = { s.scan.stage with partnerBeat := some b } ∧ t = { s with scan := t.scan })) ∧
    (∀ h, s.pairSt = Pair.standby → Completes (.handoverNotice true h) s (fun t => t.pair.notice = some (h, s.beat, false) ∧ t = { s with pair := t.pair })) ∧
    (∀ r k x, s.pairOwner = true → s.pair.raftSent.find? (fun y => y.1 == r && y.2.1 == k) = some (r, k, x) →
      Completes (.blockResend true r k) s (fun t => t = { s with out := s.out ++ [.mirror 0x03 r k x] })) ∧
    (∀ lane pat d, s.lampRuns = false → Completes (.lampPattern true lane pat d) s (fun t =>
      t = { s with out := s.out ++ [.mirror 0x0B lane pat (bytesAt d 0 64)] })) ∧
    (∀ c, s.pairOwner = true → s.verdict = 1 → s.disp.candidate = some c → Completes (.candidateDigest true c.digest true) s (fun t =>
      t.disp = { s.disp with agreed := true } ∧ t = { s with disp := t.disp })) ∧
    (∀ vs, s.time.follow.length = 8 → Completes (.followValue true vs) s (fun t => t = { s with
      time := { s.time with follow := vs.foldl (fun f v => f.set v.1 (some v.2)) s.time.follow } })) ∧
    (∀ n t1 t2 t3 t4, s.baseWith 3 = some n → s.timingRole = false → Completes (.timing true t1 t2 t3 t4) s (fun t => t =
      s.sample n ((t2 - t1 - t4 + t3) / 2 - ((sext 32 (s.rg (Reg.TB_COMP n)).toNat : Int) : Rat)) (s.tbase n).ns)) ∧
    (∀ m, natAt m 5 1 = 1 → Completes (.leaseRelay true m) s (fun t => t = { s with out := s.out ++ [.lease s.leasePorts m] })) ∧
    (∀ item cov, item < 64 → s.lampRuns = true → Completes (.lampItemDone item true cov) s (fun t =>
      (t.rg (Reg.LAMP_COV item)).toNat % 2 ^ 16 = min cov 10000 ∧
      bit (t.rg64 Reg.LAMP_FAIL_LO) item = false ∧
      ((∃ k < 64, k ≠ item ∧ bit (s.rg64 Reg.LAMP_DONE_LO) k = false) → bit (t.rg64 Reg.LAMP_DONE_LO) item = true) ∧
      ((∀ k < 64, k ≠ item → bit (s.rg64 Reg.LAMP_DONE_LO) k = true) → t.rg64 Reg.LAMP_DONE_LO = 0 ∧
        t.rg Reg.LAMP_PASS_CNT = satInc (s.rg Reg.LAMP_PASS_CNT)))) ∧
    Completes .lampFullExpire s (fun t => t.fld Reg.PAIR_STATUS 7 7 = b2n s.lampFull ∧ OnlyRegisters s t) ∧
    (∀ ch, ch < 8 → s.bus.chans.length = 8 → Completes (.listenOnlyTimeout ch) s (fun t =>
      (t.chan ch).pend = (s.chan ch).pend.map (fun f => { f with withheld := false }) ∧ ∀ k, k ≠ ch → t.chan k = s.chan k)) ∧
    (∀ d peer, Completes (.heartbeat false d peer) s (fun t => t.rg Reg.LINK_CRC_CNT = satInc (s.rg Reg.LINK_CRC_CNT) ∧ t.pair.hb = s.pair.hb ∧
      t.pair.hbBeat = s.pair.hbBeat))

/-- R232 to R234, R289, R291, R316, R468: verification, samples, health. -/
def Obligations.VerificationSamplesAndHealth : Prop :=
  (∀ (s : State) (v : Solve) (c : Plan) (us : Nat), s.disp.solve = some v → s.disp.candidate = some c → s.verdict = 0 →
    (s.silent = false → s.beat + 2 < v.cut →
      (s.disp.copyLost = true → Completes (.verifyDone us) s (fun t => t.verdict = 7 ∧ t.disp.copy = s.disp.model ∧ t.disp.copyLost = false ∧
        t.rg Reg.VERIFY_US = BitVec.ofNat 32 us)) ∧
      (s.disp.copyLost = false → s.inPair = false →
        let r := verifyResult s.disp.copy v.params v.snapshot s.disp.result (c.cells == planCells s.disp.map c.nsteps s.disp.result.x)
        Completes (.verifyDone us) s (fun t => t.rg Reg.VERIFY_US = BitVec.ofNat 32 us ∧ t.rg Reg.VER_PRIM = r.2.2.1 ∧ t.rg Reg.VER_DUAL = r.2.2.2.1 ∧
          t.rg Reg.VER_GAP = r.2.2.2.2 ∧ (r.1 = 1 → s.pairSt ≠ Pair.standby → t.verdict = 1 ∧ t.disp.candidate = some c ∧
            bit (t.rg (Reg.evtRaw Head.dispatch)).toNat 3 = true)))) ∧
    (s.silent = false → v.cut ≤ s.beat + 2 → s.beat < v.cut → s.disp.copied = false → Completes .verifyMissed s (fun t => t.verdict = 5 ∧
      t.disp = s.disp))) ∧
  (∀ (s : State) (codes : List (List Int)) (clips : List Nat), s.afeDue = true →
    Completes (.afeSamples true codes clips) s (fun t => t.meter.taken = s.beat ∧ t.meter.failRun = 0 ∧ t.meter.goodRun = s.meter.goodRun + 1 ∧
      (∀ n < 32, s.chanOn n = true → 0 < clips.getD n 0 → t.rg (Reg.CLIP_CNT n) = satAdd (s.rg (Reg.CLIP_CNT n)) (clips.getD n 0) ∧
        t.fld (Reg.CH_STATUS n) 0 0 = 1) ∧ ∀ c, (t.cir c).energy = (s.cir c).energy) ∧
    Completes (.afeSamples false codes clips) s (fun t => t.meter.taken = s.beat ∧ t.meter.failRun = s.meter.failRun + 1 ∧ t.meter.goodRun = 0 ∧
      t.rg Reg.SAMPLE_GAP_CNT = satInc (s.rg Reg.SAMPLE_GAP_CNT) ∧ bit (t.rg (Reg.evtRaw Head.meter)).toNat 11 = true)) ∧
  (∀ s : State, s.meterLive = true → s.blkState Head.meter = 2 → 40 ≤ s.meter.failRun → Completes .afeLinkDegrade s (fun t =>
    t.blkState Head.meter = 3 ∧ t.meter.acc = false ∧ t.meter.gap ≠ none ∧ bit (t.rg (Reg.evtRaw Head.meter)).toNat 9 = true ∧
    (s.inPair = true → s.pairSt = Pair.active → s.pair.handover = none →
      t.pair.handover = some { h := s.beat + max 8 (s.leaseBeats + 1), tag := none, known := false }))) ∧
  (∀ s : State, s.keys.rngOk = true → Completes .rngHealthFail s (fun t => t.keys.rngOk = false ∧ t.scan.data = s.scan.data ∧ t.seam = s.seam))

/-- R411 to R416, R420: the cascade. -/
def Obligations.CascadeCommandsComplete : Prop :=
  Reads 0x0806 .cascadeStatus (fun s r => Pkt.length r.packet = 0 ∧ (s.role = Role.cascadeMaster ∨ s.role = Role.extender))
    (fun s _ => leBytes 8 s.beat ++ (List.range 9).flatMap (fun k => leBytes 4 (s.rg (Reg.CASC_CFG + 4 * k)).toNat)) ∧
  (∀ (s : State), s.silent = false → s.casc.lateRun.length = 3 →
    (s.cascMaster = true →
      (∀ pos, Completes (.ringTrainingDone pos) s (fun t => t.fld Reg.CASC_STATUS 0 0 = 1 ∧ t.cascPos = 0 ∧ t.blkState Head.cascade = Casc.up ∧
        t.casc.trained = true ∧ t.casc.lost = [] ∧ t.casc.cfg = s.casc.cfg)) ∧
      Completes .ringBreak s (fun t => t.fld Reg.CASC_STATUS 0 0 = 0 ∧ t.blkState Head.cascade = Casc.down ∧ ∀ e ∈ s.extenders, e ∈ t.casc.lost) ∧
      (∀ e d ofs, s.running = true → s.frame.phase = .p0 → s.frame.latched = false → e ∈ s.extenders → e ∉ s.casc.got → ofs ≤ 20000 →
        s.time.ns + 250000 ≤ 2 ^ 64 → Completes (.extInput true e d ofs) s (fun t => e ∈ t.casc.got ∧ t.casc.lateRun = s.casc.lateRun.set (e - 1) 0 ∧
          e ∉ t.casc.lost ∧ t.fld Reg.CASC_STATUS e e = 1 ∧
          (∀ r, (s.cascRecs e).filter (fun r => !CRec.out r && schedAt (s.image (CRec.prog r)) s.beat) = [r] → CRec.kind r ≤ 3 →
            t.scan.data.getN (s.secBase (CRec.prog r) 0 + CRec.sofs r) (CRec.bytes r) = bytesAt d 0 (CRec.bytes r)))) ∧
      (s.running = true → s.frame.phase = .p0 → s.frame.latched = false → s.beatOfs ≤ 20000 → Completes .extInputDeadline s (fun t =>
        t.casc.got = s.extenders ∧ ∀ e ∈ s.extenders,
          (e ∈ s.casc.got → t.casc.lateRun.getD (e - 1) 0 = s.casc.lateRun.getD (e - 1) 0) ∧
          (e ∉ s.casc.got → t.casc.lateRun.getD (e - 1) 0 = s.casc.lateRun.getD (e - 1) 0 + 1 ∧ t.fld Reg.CASC_STATUS e e = 0 ∧
            (3 ≤ s.casc.lateRun.getD (e - 1) 0 → s.blkState Head.cascade ≠ Casc.down → e ∈ t.casc.lost))))) ∧
    (s.cascExt = true →
      (∀ pos, Completes (.ringTrainingDone pos) s (fun t => t.fld Reg.CASC_STATUS 0 0 = 1 ∧ t.cascPos = pos % 4 ∧ t.blkState Head.cascade = Casc.training ∧
        t.casc.trained = true)) ∧
      Completes .ringBreak s (fun t => t.fld Reg.CASC_STATUS 0 0 = 0 ∧ t.blkState Head.cascade = Casc.down ∧ t.casc = s.casc) ∧
      (∀ tally recs progs, s.stopped = true →
        let images : List Image := (List.range 32).map (fun p => ((progs.find? (fun x => x.1 == p)).map (fun x => extImage x.2.1 x.2.2
          (((cfgRounds tally).filter (fun r => r.prog == p)).map (fun r => (r.ch, r.round))))).getD [])
        tallyOk tally images [] = true → cfgCopies tally = [] → s.scan.slots.length = 32 →
        Completes (.configBlock true s.cascPos tally recs progs) s (fun t => t.casc.cfg = [(tally, recs)] ∧ t.blkState Head.cascade = Casc.up ∧
          t.bus.cfg = tally ∧ ∀ p < 32, t.image p = images.getD p [])) ∧
      (∀ ns rxQ delay, s.fld Reg.DT_STATUS 5 5 = 1 →
        let x : Rat := ns + ((sext 32 (s.rg Reg.CASC_HOP_COMP).toNat : Int) : Rat)
        Completes (.cascTiming true ns rxQ delay) s (fun t => t.casc.measured = some (x - s.stampR rxQ) ∧ t.casc.timeMiss = 0 ∧ t.casc.timeLost = false ∧
          .cascTiming (x + delay) ∈ t.out ∧ t.time.ns = s.time.ns)) ∧
      (4 ≤ s.casc.timeMiss → Completes .cascTimingLost s (fun t => t.casc = { s.casc with timeLost := true })) ∧
      (∀ d, s.running = true →
        let rs := (s.cascRecs 1).filter (fun r => CRec.out r && bit (natAt d 0 4) (CRec.prog r))
        Completes (.masterOutput true s.cascPos d) s (fun t => t.casc.outSeen = true ∧ t.casc.outMiss = 0 ∧ t.casc.floating = false ∧
          (∀ r, rs = [r] → CRec.kind r = 6 → t.casc.lioOut = s.casc.lioOut ++ (bytesAt d 4 (CRec.bytes r)).mapIdx (fun k b => (CRec.src r + k, b != 0))))) ∧
      (4 ≤ s.casc.outMiss → Completes .masterOutputLost s (fun t => t.casc = { s.casc with floating := true } ∧ t.lio.hiZ = true ∧
        ∀ c ∈ t.bus.chans, c.pend = []))) ∧
    (∀ e d ofs, (s.cascMaster = true ∨ s.cascExt = true) → Completes (.extInput false e d ofs) s (fun t =>
      t.rg Reg.CASC_CRC_CNT = satInc (s.rg Reg.CASC_CRC_CNT) ∧ t.casc = s.casc ∧ t.scan.data = s.scan.data)))

/-- R52 to R59, R71, R126, R388, R389: the beat. -/
def Obligations.BeatPhasesAct : Prop :=
  (∀ (s : State) (env : BoundaryEnv), s.stump = false → s.boot.held = false → s.seam.pf ≠ some .held → (s.elapse (250000 - s.beatOfs)).dueNow = none →
    Completes (.beatBoundary env) s (fun t => t.frame.phase = .p0 ∧ t.frame.latched = false ∧ t.frame.late = false ∧ t.frame.withheld = s.silent ∧
      (∀ x ∈ t.reg.prot, x.2 ≠ .opened) ∧ t.rg Reg.VHOLD_MV = BitVec.ofNat 32 env.vholdMv ∧ t.rg Reg.VBAT_MV = BitVec.ofNat 32 env.vbatMv ∧
      t.safety.scrubSram = (s.safety.scrubSram + 32) % 54525952 ∧ t.safety.scrubDram = (s.safety.scrubDram + 128) % 1073741824 ∧
      (s.silent = false → s.blkState Head.frame = 1 → t.blkState Head.frame = 2 ∧ bit (t.rg (Reg.evtRaw Head.frame)).toNat 6 = true))) ∧
  (∀ (s : State), s.silent = false → s.running = true → s.time.ns + 250000 ≤ 2 ^ 64 →
    (s.frame.phase = .p0 →
      (s.frame.latched = false →
        (∀ ofs, s.fromRaft = false → ofs ≤ 25000 → Completes (.p0Latch ofs) s (fun t => t.frame.latched = true ∧ t.frame.phase = .p0 ∧
          (t.rg Reg.LATCH_END_MAX).toNat = max (s.rg Reg.LATCH_END_MAX).toNat (max s.beatOfs ofs) ∧
          (s.works = true → s.frame.withheld = false → s.scan.slots.length = 32 → ∀ p < 32,
            (s.starts p = true → (t.slot p).cycle.map (·.f0) = some s.beat) ∧ (s.starts p = false → (t.slot p).cycle = (s.slot p).cycle)))) ∧
        (s.frame.late = false → Completes .latchLate s (fun t => t.frame.late = true ∧ t.frame.latched = false ∧
          t.rg Reg.LATCH_LATE_CNT = satInc (s.rg Reg.LATCH_LATE_CNT) ∧ bit (t.rg (Reg.evtRaw Head.frame)).toNat 1 = true)) ∧
        (s.frame.withheld = false → 2 ≤ s.classReaction Cls.watchdog → Completes .latchTimeout s (fun t => t.frame.withheld = true ∧
          t.frame.latched = false)) ∧
        (s.inPair = true → s.fromRaft = true →
          (∀ kind arg d, Completes (.inputSection true kind arg d) s (fun t => t.pair.sections = s.pair.sections ++ [(kind, arg, d)] ∧
            t = { s with pair := t.pair })) ∧
          (s.beatOfs ≤ 25000 → Completes (.inputEnd true s.beat s.pair.sections.length (s.pair.sections.map (fun x => x.2.2.length)).sum) s (fun t =>
            t.frame.latched = true ∧ t.pair.inputDone = true)) ∧
          Completes .inputRaftDeadline s (fun t => t.frame.latched = true ∧
            (s.pairSt = Pair.standby → s.pair.missAt ≠ some (s.beat - 1) → t.pairSt = Pair.joining)))) ∧
      (∀ hung, s.frame.latched = true → Completes (.p1Compute hung) s (fun t => t.frame.phase = .p1 ∧ (s.computes = false → t.scan = s.scan ∧ t.loop = s.loop)))) ∧
    (∀ ofs, s.frame.phase = .p1 → Completes (.p2Commit ofs) s (fun t => t.frame.phase = .p2 ∧
      (s.frame.withheld = true → t.rg Reg.COMMIT_HELD_CNT = satInc (s.rg Reg.COMMIT_HELD_CNT) ∧ t.scan.posted = s.scan.posted ∧
        t.scan.committed = s.scan.committed) ∧
      (s.frame.withheld = false → s.works = true → s.scan.slots.length = 32 → s.scan.committed.length = 32 → ∀ p < 32, ∀ c, (s.slot p).cycle = some c →
        c.done = true → (s.slot p).suspended = false → c.late = false → s.beat + 1 = c.f0 + Image.k (s.image p) →
        (t.slot p).cycle = none ∧ p ∈ t.scan.posted ∧ t.scan.committed.getD p [] = s.forceQ p (s.secBytes p 1)))) ∧
    (s.frame.phase = .p2 → Completes .p3Raft s (fun t => t.frame.phase = .p3 ∧
      (s.role ≠ Role.pairMember → s.scan.slots.length = 32 → ∀ p < 32, ∀ b k, (s.slot p).req = some (b, .start k) → k < 2 → b ≤ s.beat + 1 →
        schedAt (s.image p) (s.beat + 1) = true → (t.slot p).req = some (b, .start 2)))))
end

