-- ==== Sys2Proof/Laws/Mem.lean ====
section
/-!
SUPPORT. The laws of sparse maps: a read after a write, and that every operation on a map keeps its canonical form. The
read laws hold of any list, canonical or not, so that a statement about every state may use them.
-/
namespace Sys2Proof.Machine

variable {α : Type} [DecidableEq α] {dflt : Nat → α}

/-! ### Reading after writing -/

theorem amGet_erase_same (m : List (Nat × α)) (a : Nat) : amGet dflt (amErase m a) a = dflt a := by
  induction m with
  | nil => rfl
  | cons x t ih =>
    by_cases h : x.1 = a
    · simp [amErase, h, ih]
    · simp [amErase, amGet, h, ih]

theorem amGet_erase_other {m : List (Nat × α)} {a b : Nat} (h : b ≠ a) : amGet dflt (amErase m a) b = amGet dflt m b := by
  induction m with
  | nil => rfl
  | cons x t ih =>
    by_cases hx : x.1 = a
    · have : ¬ a = b := fun e => h e.symm
      simp [amErase, amGet, hx, ih, this]
    · by_cases hb : x.1 = b
      · have hn : ¬ b = a := h
        simp [amErase, amGet, hb, hn]
      · simp [amErase, amGet, hx, hb, ih]

/-- The key is not listed. -/
def amFree (m : List (Nat × α)) (a : Nat) : Prop := ∀ x ∈ m, x.1 ≠ a

theorem amErase_free (m : List (Nat × α)) (a : Nat) : amFree (amErase m a) a := by
  induction m with
  | nil => simp [amErase, amFree]
  | cons x t ih =>
    by_cases hx : x.1 = a
    · simpa [amErase, hx] using ih
    · intro y hy
      simp only [amErase, hx, if_false, List.mem_cons] at hy
      rcases hy with rfl | hy
      · exact hx
      · exact ih y hy

theorem amGet_insert_same {m : List (Nat × α)} {a : Nat} (v : α) (h : amFree m a) : amGet dflt (amInsert m a v) a = v := by
  induction m with
  | nil => simp [amInsert, amGet]
  | cons x t ih =>
    have hx : x.1 ≠ a := h x (by simp)
    have ht : amFree t a := fun y hy => h y (by simp [hy])
    by_cases hl : a < x.1
    · simp [amInsert, amGet, hl]
    · simp [amInsert, amGet, hl, hx, ih ht]

theorem amGet_insert_other {m : List (Nat × α)} {a b : Nat} (v : α) (h : b ≠ a) :
    amGet dflt (amInsert m a v) b = amGet dflt m b := by
  have hb : ¬ a = b := fun e => h e.symm
  induction m with
  | nil => simp [amInsert, amGet, hb]
  | cons x t ih =>
    by_cases hl : a < x.1
    · simp [amInsert, amGet, hl, hb]
    · simp [amInsert, amGet, hl, ih]

/-- A key reads as what was last written to it. -/
@[simp] theorem amGet_put_same (m : List (Nat × α)) (a : Nat) (v : α) : amGet dflt (amPut dflt m a v) a = v := by
  unfold amPut
  split
  · next h => rw [amGet_erase_same, h]
  · exact amGet_insert_same v (amErase_free m a)

/-- A write leaves every other key alone. -/
theorem amGet_put_other {m : List (Nat × α)} {a b : Nat} (v : α) (h : b ≠ a) :
    amGet dflt (amPut dflt m a v) b = amGet dflt m b := by
  unfold amPut
  split
  · exact amGet_erase_other h
  · rw [amGet_insert_other v h, amGet_erase_other h]

/-- Both at once. -/
theorem amGet_put (m : List (Nat × α)) (a b : Nat) (v : α) :
    amGet dflt (amPut dflt m a v) b = if b = a then v else amGet dflt m b := by
  split
  · next h => rw [h, amGet_put_same]
  · next h => exact amGet_put_other v h

/-! ### The canonical form -/

theorem amWfFrom_mono {m : List (Nat × α)} {lo lo' : Nat} (h : amWfFrom dflt lo m = true) (hl : lo' ≤ lo) :
    amWfFrom dflt lo' m = true := by
  cases m with
  | nil => rfl
  | cons x t =>
    simp only [amWfFrom, Bool.and_eq_true, decide_eq_true_eq] at h ⊢
    exact ⟨⟨by omega, h.1.2⟩, h.2⟩

theorem amErase_wfFrom {m : List (Nat × α)} {lo : Nat} (a : Nat) (h : amWfFrom dflt lo m = true) :
    amWfFrom dflt lo (amErase m a) = true := by
  induction m generalizing lo with
  | nil => rfl
  | cons x t ih =>
    simp only [amWfFrom, Bool.and_eq_true, decide_eq_true_eq] at h
    simp only [amErase]
    split
    · exact amWfFrom_mono (ih h.2) (by omega)
    · simp only [amWfFrom, Bool.and_eq_true, decide_eq_true_eq]
      exact ⟨h.1, ih h.2⟩

theorem amInsert_wfFrom {m : List (Nat × α)} {lo a : Nat} {v : α} (h : amWfFrom dflt lo m = true) (hf : amFree m a)
    (hlo : lo ≤ a) (hv : v ≠ dflt a) : amWfFrom dflt lo (amInsert m a v) = true := by
  induction m generalizing lo with
  | nil => simp [amInsert, amWfFrom, hlo, hv]
  | cons x t ih =>
    simp only [amWfFrom, Bool.and_eq_true, decide_eq_true_eq] at h
    have hx : x.1 ≠ a := hf x (by simp)
    have ht : amFree t a := fun y hy => hf y (by simp [hy])
    simp only [amInsert]
    split
    · next hl =>
      simp only [amWfFrom, Bool.and_eq_true, decide_eq_true_eq]
      exact ⟨⟨hlo, hv⟩, ⟨hl, h.1.2⟩, h.2⟩
    · next hl =>
      simp only [amWfFrom, Bool.and_eq_true, decide_eq_true_eq]
      exact ⟨h.1, ih h.2 ht (by omega)⟩

/-- A write keeps the canonical form. -/
theorem amPut_wf {m : List (Nat × α)} (a : Nat) (v : α) (h : amWf dflt m = true) : amWf dflt (amPut dflt m a v) = true := by
  unfold amPut
  split
  · exact amErase_wfFrom a h
  · next hv => exact amInsert_wfFrom (amErase_wfFrom a h) (amErase_free m a) (by omega) hv

theorem amFilter_wfFrom {m : List (Nat × α)} {lo : Nat} (p : Nat × α → Bool) (h : amWfFrom dflt lo m = true) :
    amWfFrom dflt lo (m.filter p) = true := by
  induction m generalizing lo with
  | nil => rfl
  | cons x t ih =>
    simp only [amWfFrom, Bool.and_eq_true, decide_eq_true_eq] at h
    rw [List.filter_cons]
    split
    · simp only [amWfFrom, Bool.and_eq_true, decide_eq_true_eq]
      exact ⟨h.1, ih h.2⟩
    · exact amWfFrom_mono (ih h.2) (by omega)

/-- The empty memory is canonical. -/
theorem Memory.wf_nil : Memory.wf [] = true := rfl

/-- One byte written. -/
theorem Memory.wf_put {m : Mem} (a : Nat) (b : Byte) (h : Memory.wf m = true) : Memory.wf (m.put a b) = true := amPut_wf a b h

/-- A run of bytes written. -/
theorem Memory.wf_putN {m : Mem} (a : Nat) (bs : List Byte) (h : Memory.wf m = true) : Memory.wf (m.putN a bs) = true := by
  induction bs generalizing m a with
  | nil => exact h
  | cons b t ih => exact ih (a + 1) (Memory.wf_put a b h)

/-- An item written. -/
theorem Memory.wf_putNat {m : Mem} (a n v : Nat) (h : Memory.wf m = true) : Memory.wf (m.putNat a n v) = true :=
  Memory.wf_putN a _ h

/-- A word written. -/
theorem Memory.wf_putWord {m : Mem} (a : Nat) (w : Word) (h : Memory.wf m = true) : Memory.wf (m.putWord a w) = true :=
  Memory.wf_putN a _ h

/-- A run of bytes cleared. -/
theorem Memory.wf_clearN {m : Mem} (a n : Nat) (h : Memory.wf m = true) : Memory.wf (m.clearN a n) = true :=
  amFilter_wfFrom _ h

/-! ### Bytes of a memory -/

/-- A byte reads as what was last written to it, and every other byte as before. -/
theorem Mem.get_put (m : Mem) (a c : Nat) (b : Byte) : (m.put a b).get c = if c = a then b else m.get c :=
  amGet_put m a c b

/-- A run of bytes written leaves every byte outside it alone. -/
theorem Mem.get_putN_outside (m : Mem) (a c : Nat) (bs : List Byte) (h : c < a ∨ a + bs.length ≤ c) :
    (m.putN a bs).get c = m.get c := by
  induction bs generalizing m a with
  | nil => rfl
  | cons b t ih =>
    simp only [List.length_cons] at h
    have h1 : c < a + 1 ∨ a + 1 + t.length ≤ c := by omega
    rw [Mem.putN, ih _ _ h1, Mem.get_put, if_neg (by omega)]

/-- A run of bytes reads back. -/
theorem Mem.get_putN_inside (m : Mem) (a : Nat) (bs : List Byte) (k : Nat) (h : k < bs.length) :
    (m.putN a bs).get (a + k) = bs[k] := by
  induction bs generalizing m a k with
  | nil => simp at h
  | cons b t ih =>
    cases k with
    | zero =>
      rw [Mem.putN, Mem.get_putN_outside _ _ _ _ (by omega), Nat.add_zero, Mem.get_put, if_pos rfl]
      rfl
    | succ k =>
      have hk : k < t.length := by simpa using h
      have := ih (m.put a b) (a + 1) k hk
      rw [Mem.putN, show a + (k + 1) = a + 1 + k by omega, this]
      rfl

end Sys2Proof.Machine
end

