-- ==== Sys2Proof/Laws/State.lean ====
section
/-!
SUPPORT. The laws of State under its updates. First what every field is after a choice of states and after a fold of
updates; then, for each named update, the field it changes; then, for each shared operation of Ops, Octah, SeamOps and
Operands, its frame: every field of State it leaves alone. The frames are rewrite rules, so that no later proof unfolds
an operation to learn that it did not touch a field. The frames of the other operations are in the Frames files.
-/
namespace Sys2Proof.Machine

/-! ### A field after a fold of updates, or after a choice -/

@[simp] theorem foldl_pending {α : Type} {f : State → α → State} (h : ∀ s a, (f s a).pending = s.pending) (l : List α) (s : State) :
    (l.foldl f s).pending = s.pending := by
  induction l generalizing s with
  | nil => rfl
  | cons a t ih => rw [List.foldl_cons, ih, h]

@[simp] theorem foldl_reg {α : Type} {f : State → α → State} (h : ∀ s a, (f s a).reg = s.reg) (l : List α) (s : State) :
    (l.foldl f s).reg = s.reg := by
  induction l generalizing s with
  | nil => rfl
  | cons a t ih => rw [List.foldl_cons, ih, h]

@[simp] theorem foldl_safety {α : Type} {f : State → α → State} (h : ∀ s a, (f s a).safety = s.safety) (l : List α) (s : State) :
    (l.foldl f s).safety = s.safety := by
  induction l generalizing s with
  | nil => rfl
  | cons a t ih => rw [List.foldl_cons, ih, h]

@[simp] theorem foldl_frame {α : Type} {f : State → α → State} (h : ∀ s a, (f s a).frame = s.frame) (l : List α) (s : State) :
    (l.foldl f s).frame = s.frame := by
  induction l generalizing s with
  | nil => rfl
  | cons a t ih => rw [List.foldl_cons, ih, h]

@[simp] theorem foldl_host {α : Type} {f : State → α → State} (h : ∀ s a, (f s a).host = s.host) (l : List α) (s : State) :
    (l.foldl f s).host = s.host := by
  induction l generalizing s with
  | nil => rfl
  | cons a t ih => rw [List.foldl_cons, ih, h]

@[simp] theorem foldl_time {α : Type} {f : State → α → State} (h : ∀ s a, (f s a).time = s.time) (l : List α) (s : State) :
    (l.foldl f s).time = s.time := by
  induction l generalizing s with
  | nil => rfl
  | cons a t ih => rw [List.foldl_cons, ih, h]

@[simp] theorem foldl_keys {α : Type} {f : State → α → State} (h : ∀ s a, (f s a).keys = s.keys) (l : List α) (s : State) :
    (l.foldl f s).keys = s.keys := by
  induction l generalizing s with
  | nil => rfl
  | cons a t ih => rw [List.foldl_cons, ih, h]

@[simp] theorem foldl_scan {α : Type} {f : State → α → State} (h : ∀ s a, (f s a).scan = s.scan) (l : List α) (s : State) :
    (l.foldl f s).scan = s.scan := by
  induction l generalizing s with
  | nil => rfl
  | cons a t ih => rw [List.foldl_cons, ih, h]

@[simp] theorem foldl_lio {α : Type} {f : State → α → State} (h : ∀ s a, (f s a).lio = s.lio) (l : List α) (s : State) :
    (l.foldl f s).lio = s.lio := by
  induction l generalizing s with
  | nil => rfl
  | cons a t ih => rw [List.foldl_cons, ih, h]

@[simp] theorem foldl_loop {α : Type} {f : State → α → State} (h : ∀ s a, (f s a).loop = s.loop) (l : List α) (s : State) :
    (l.foldl f s).loop = s.loop := by
  induction l generalizing s with
  | nil => rfl
  | cons a t ih => rw [List.foldl_cons, ih, h]

@[simp] theorem foldl_disp {α : Type} {f : State → α → State} (h : ∀ s a, (f s a).disp = s.disp) (l : List α) (s : State) :
    (l.foldl f s).disp = s.disp := by
  induction l generalizing s with
  | nil => rfl
  | cons a t ih => rw [List.foldl_cons, ih, h]

@[simp] theorem foldl_bus {α : Type} {f : State → α → State} (h : ∀ s a, (f s a).bus = s.bus) (l : List α) (s : State) :
    (l.foldl f s).bus = s.bus := by
  induction l generalizing s with
  | nil => rfl
  | cons a t ih => rw [List.foldl_cons, ih, h]

@[simp] theorem foldl_meter {α : Type} {f : State → α → State} (h : ∀ s a, (f s a).meter = s.meter) (l : List α) (s : State) :
    (l.foldl f s).meter = s.meter := by
  induction l generalizing s with
  | nil => rfl
  | cons a t ih => rw [List.foldl_cons, ih, h]

@[simp] theorem foldl_seam {α : Type} {f : State → α → State} (h : ∀ s a, (f s a).seam = s.seam) (l : List α) (s : State) :
    (l.foldl f s).seam = s.seam := by
  induction l generalizing s with
  | nil => rfl
  | cons a t ih => rw [List.foldl_cons, ih, h]

@[simp] theorem foldl_pair {α : Type} {f : State → α → State} (h : ∀ s a, (f s a).pair = s.pair) (l : List α) (s : State) :
    (l.foldl f s).pair = s.pair := by
  induction l generalizing s with
  | nil => rfl
  | cons a t ih => rw [List.foldl_cons, ih, h]

@[simp] theorem foldl_casc {α : Type} {f : State → α → State} (h : ∀ s a, (f s a).casc = s.casc) (l : List α) (s : State) :
    (l.foldl f s).casc = s.casc := by
  induction l generalizing s with
  | nil => rfl
  | cons a t ih => rw [List.foldl_cons, ih, h]

@[simp] theorem foldl_upd {α : Type} {f : State → α → State} (h : ∀ s a, (f s a).upd = s.upd) (l : List α) (s : State) :
    (l.foldl f s).upd = s.upd := by
  induction l generalizing s with
  | nil => rfl
  | cons a t ih => rw [List.foldl_cons, ih, h]

@[simp] theorem foldl_boot {α : Type} {f : State → α → State} (h : ∀ s a, (f s a).boot = s.boot) (l : List α) (s : State) :
    (l.foldl f s).boot = s.boot := by
  induction l generalizing s with
  | nil => rfl
  | cons a t ih => rw [List.foldl_cons, ih, h]

@[simp] theorem foldl_bk {α : Type} {f : State → α → State} (h : ∀ s a, (f s a).bk = s.bk) (l : List α) (s : State) :
    (l.foldl f s).bk = s.bk := by
  induction l generalizing s with
  | nil => rfl
  | cons a t ih => rw [List.foldl_cons, ih, h]

@[simp] theorem foldl_out {α : Type} {f : State → α → State} (h : ∀ s a, (f s a).out = s.out) (l : List α) (s : State) :
    (l.foldl f s).out = s.out := by
  induction l generalizing s with
  | nil => rfl
  | cons a t ih => rw [List.foldl_cons, ih, h]

@[simp] theorem foldl_freeCtr {α : Type} {f : State → α → State} (h : ∀ s a, (f s a).freeCtr = s.freeCtr) (l : List α) (s : State) :
    (l.foldl f s).freeCtr = s.freeCtr := by
  induction l generalizing s with
  | nil => rfl
  | cons a t ih => rw [List.foldl_cons, ih, h]


@[simp] theorem ite_pending (c : Prop) [Decidable c] (s t : State) : (if c then s else t).pending = if c then s.pending else t.pending := apply_ite State.pending c s t
@[simp] theorem ite_reg (c : Prop) [Decidable c] (s t : State) : (if c then s else t).reg = if c then s.reg else t.reg := apply_ite State.reg c s t
@[simp] theorem ite_safety (c : Prop) [Decidable c] (s t : State) : (if c then s else t).safety = if c then s.safety else t.safety := apply_ite State.safety c s t
@[simp] theorem ite_frame (c : Prop) [Decidable c] (s t : State) : (if c then s else t).frame = if c then s.frame else t.frame := apply_ite State.frame c s t
@[simp] theorem ite_host (c : Prop) [Decidable c] (s t : State) : (if c then s else t).host = if c then s.host else t.host := apply_ite State.host c s t
@[simp] theorem ite_time (c : Prop) [Decidable c] (s t : State) : (if c then s else t).time = if c then s.time else t.time := apply_ite State.time c s t
@[simp] theorem ite_keys (c : Prop) [Decidable c] (s t : State) : (if c then s else t).keys = if c then s.keys else t.keys := apply_ite State.keys c s t
@[simp] theorem ite_scan (c : Prop) [Decidable c] (s t : State) : (if c then s else t).scan = if c then s.scan else t.scan := apply_ite State.scan c s t
@[simp] theorem ite_lio (c : Prop) [Decidable c] (s t : State) : (if c then s else t).lio = if c then s.lio else t.lio := apply_ite State.lio c s t
@[simp] theorem ite_loop (c : Prop) [Decidable c] (s t : State) : (if c then s else t).loop = if c then s.loop else t.loop := apply_ite State.loop c s t
@[simp] theorem ite_disp (c : Prop) [Decidable c] (s t : State) : (if c then s else t).disp = if c then s.disp else t.disp := apply_ite State.disp c s t
@[simp] theorem ite_bus (c : Prop) [Decidable c] (s t : State) : (if c then s else t).bus = if c then s.bus else t.bus := apply_ite State.bus c s t
@[simp] theorem ite_meter (c : Prop) [Decidable c] (s t : State) : (if c then s else t).meter = if c then s.meter else t.meter := apply_ite State.meter c s t
@[simp] theorem ite_seam (c : Prop) [Decidable c] (s t : State) : (if c then s else t).seam = if c then s.seam else t.seam := apply_ite State.seam c s t
@[simp] theorem ite_pair (c : Prop) [Decidable c] (s t : State) : (if c then s else t).pair = if c then s.pair else t.pair := apply_ite State.pair c s t
@[simp] theorem ite_casc (c : Prop) [Decidable c] (s t : State) : (if c then s else t).casc = if c then s.casc else t.casc := apply_ite State.casc c s t
@[simp] theorem ite_upd (c : Prop) [Decidable c] (s t : State) : (if c then s else t).upd = if c then s.upd else t.upd := apply_ite State.upd c s t
@[simp] theorem ite_boot (c : Prop) [Decidable c] (s t : State) : (if c then s else t).boot = if c then s.boot else t.boot := apply_ite State.boot c s t
@[simp] theorem ite_bk (c : Prop) [Decidable c] (s t : State) : (if c then s else t).bk = if c then s.bk else t.bk := apply_ite State.bk c s t
@[simp] theorem ite_out (c : Prop) [Decidable c] (s t : State) : (if c then s else t).out = if c then s.out else t.out := apply_ite State.out c s t
@[simp] theorem ite_freeCtr (c : Prop) [Decidable c] (s t : State) : (if c then s else t).freeCtr = if c then s.freeCtr else t.freeCtr := apply_ite State.freeCtr c s t

/-! ### Registers: a read after a write (the laws hold of any list of values, canonical or not) -/

@[simp] theorem State.rg_setRg_same (s : State) (a : Nat) (w : Word) : (s.setRg a w).rg a = w :=
  amGet_put_same s.reg.vals a w

theorem State.rg_setRg_other (s : State) {a b : Nat} (w : Word) (h : b ≠ a) : (s.setRg a w).rg b = s.rg b :=
  amGet_put_other w h

theorem State.rg_setRg (s : State) (a b : Nat) (w : Word) : (s.setRg a w).rg b = if b = a then w else s.rg b := by
  split
  · next h => rw [h, State.rg_setRg_same]
  · next h => exact State.rg_setRg_other s w h

/-- A write of a register keeps the canonical form of the register file. -/
theorem State.setRg_canonical {s : State} (a : Nat) (w : Word) (h : amWf regReset s.reg.vals = true) :
    amWf regReset (s.setRg a w).reg.vals = true := amPut_wf a w h

/-- A register reads as before in any state whose register file is as before. -/
theorem State.rg_congr {s t : State} (h : t.reg = s.reg) (a : Nat) : t.rg a = s.rg a := by unfold State.rg; rw [h]

theorem State.fld_congr {s t : State} (h : t.reg = s.reg) (a hi lo : Nat) : t.fld a hi lo = s.fld a hi lo := by
  unfold State.fld; rw [State.rg_congr h]

/-! ### What an update of one component changes -/

@[simp] theorem State.modJ_host (s : State) (tag : Nat) (f : JEntry → JEntry) :
    (s.modJ tag f).host = { s.host with journal := modifyNth f tag s.host.journal } := rfl
@[simp] theorem State.emit_out (s : State) (m : OutMsg) : (s.emit m).out = s.out ++ [m] := rfl
@[simp] theorem State.draw_freeCtr (s : State) : s.draw.2.freeCtr = s.freeCtr + 1 := rfl
@[simp] theorem State.modSeam_seam (s : State) (f : SeamState → SeamState) : (s.modSeam f).seam = f s.seam := rfl
@[simp] theorem State.modSlot_scan (s : State) (p : Nat) (f : ProgSlot → ProgSlot) :
    (s.modSlot p f).scan = { s.scan with slots := modifyNth f p s.scan.slots } := rfl
@[simp] theorem State.modStage_scan (s : State) (f : Staging → Staging) :
    (s.modStage f).scan = { s.scan with stage := f s.scan.stage } := rfl
@[simp] theorem State.modBase_time (s : State) (n : Nat) (f : TimeBase → TimeBase) :
    (s.modBase n f).time = { s.time with bases := modifyNth f n s.time.bases } := rfl
@[simp] theorem State.modPort_time (s : State) (base port : Nat) (f : PtpPort → PtpPort) :
    (s.modPort base port f).time = { s.time with ports := modifyNth f (2 * base + port) s.time.ports } := rfl
@[simp] theorem State.modTally_bus (s : State) (f : Mem → Mem) :
    (s.modTally f).bus = { s.bus with tally := f s.bus.tally } := rfl
@[simp] theorem State.modChan_bus (s : State) (ch : Nat) (f : BusChan → BusChan) :
    (s.modChan ch f).bus = { s.bus with chans := modifyNth f ch s.bus.chans } := rfl
@[simp] theorem State.modDisp_disp (s : State) (f : DispState → DispState) : (s.modDisp f).disp = f s.disp := rfl
@[simp] theorem State.modMe_meter (s : State) (f : MeterState → MeterState) : (s.modMe f).meter = f s.meter := rfl
@[simp] theorem State.modAfe_meter (s : State) (n : Nat) (f : AfeChan → AfeChan) :
    (s.modAfe n f).meter = { s.meter with chans := modifyNth f n s.meter.chans } := rfl
@[simp] theorem State.modCir_meter (s : State) (c : Nat) (f : MeterCircuit → MeterCircuit) :
    (s.modCir c f).meter = { s.meter with circuits := modifyNth f c s.meter.circuits } := rfl
@[simp] theorem State.modThm_meter (s : State) (p : Nat) (f : ThermMeter → ThermMeter) :
    (s.modThm p f).meter = { s.meter with therms := modifyNth f p s.meter.therms } := rfl
@[simp] theorem State.modKeys_keys (s : State) (f : KeysState → KeysState) : (s.modKeys f).keys = f s.keys := rfl
@[simp] theorem State.modPair_pair (s : State) (f : PairState → PairState) : (s.modPair f).pair = f s.pair := rfl
@[simp] theorem State.modWit_pair (s : State) (f : Witness → Witness) :
    (s.modWit f).pair = { s.pair with witness := f s.pair.witness } := rfl
@[simp] theorem State.modSafety_safety (s : State) (f : SafetyState → SafetyState) : (s.modSafety f).safety = f s.safety := rfl
@[simp] theorem State.modBk_bk (s : State) (f : BackupState → BackupState) : (s.modBk f).bk = f s.bk := rfl
@[simp] theorem State.modUpd_upd (s : State) (f : UpdState → UpdState) : (s.modUpd f).upd = f s.upd := rfl
@[simp] theorem State.modNor_upd (s : State) (k : Nat) (f : NorSlot → NorSlot) :
    (s.modNor k f).upd = { s.upd with nor := modifyNth f k s.upd.nor } := rfl
@[simp] theorem State.modBoot_boot (s : State) (f : BootState → BootState) : (s.modBoot f).boot = f s.boot := rfl
@[simp] theorem State.modCasc_casc (s : State) (f : CascadeState → CascadeState) : (s.modCasc f).casc = f s.casc := rfl
@[simp] theorem State.modFrame_frame_eq (s : State) (f : FrameState → FrameState) : (s.modFrame f).frame = f s.frame := rfl

/-- A table keeps its size when one entry is replaced. -/
@[simp] theorem modifyNth_length {α : Type} (f : α → α) (n : Nat) (l : List α) : (modifyNth f n l).length = l.length := by
  induction l generalizing n with
  | nil => cases n <;> rfl
  | cons x t ih => cases n with
    | zero => rfl
    | succ k => simp [modifyNth, ih]

/-! ### The frames of the shared operations -/

@[simp] theorem State.setRg_frame (s : State) (a : Nat) (w : Word) :
    (s.setRg a w).pending = s.pending ∧ (s.setRg a w).safety = s.safety ∧ (s.setRg a w).frame = s.frame ∧ (s.setRg a
    w).host = s.host ∧ (s.setRg a w).time = s.time ∧ (s.setRg a w).keys = s.keys ∧ (s.setRg a w).scan = s.scan ∧
    (s.setRg a w).lio = s.lio ∧ (s.setRg a w).loop = s.loop ∧ (s.setRg a w).disp = s.disp ∧ (s.setRg a w).bus =
    s.bus ∧ (s.setRg a w).meter = s.meter ∧ (s.setRg a w).seam = s.seam ∧ (s.setRg a w).pair = s.pair ∧ (s.setRg a
    w).casc = s.casc ∧ (s.setRg a w).upd = s.upd ∧ (s.setRg a w).boot = s.boot ∧ (s.setRg a w).bk = s.bk ∧ (s.setRg
    a w).out = s.out ∧ (s.setRg a w).freeCtr = s.freeCtr := by
  simp [State.setRg]
@[simp] theorem State.setFld_frame (s : State) (a hi lo x : Nat) :
    (s.setFld a hi lo x).pending = s.pending ∧ (s.setFld a hi lo x).safety = s.safety ∧ (s.setFld a hi lo x).frame =
    s.frame ∧ (s.setFld a hi lo x).host = s.host ∧ (s.setFld a hi lo x).time = s.time ∧ (s.setFld a hi lo x).keys =
    s.keys ∧ (s.setFld a hi lo x).scan = s.scan ∧ (s.setFld a hi lo x).lio = s.lio ∧ (s.setFld a hi lo x).loop =
    s.loop ∧ (s.setFld a hi lo x).disp = s.disp ∧ (s.setFld a hi lo x).bus = s.bus ∧ (s.setFld a hi lo x).meter =
    s.meter ∧ (s.setFld a hi lo x).seam = s.seam ∧ (s.setFld a hi lo x).pair = s.pair ∧ (s.setFld a hi lo x).casc =
    s.casc ∧ (s.setFld a hi lo x).upd = s.upd ∧ (s.setFld a hi lo x).boot = s.boot ∧ (s.setFld a hi lo x).bk = s.bk
    ∧ (s.setFld a hi lo x).out = s.out ∧ (s.setFld a hi lo x).freeCtr = s.freeCtr := by
  simp [State.setFld]
@[simp] theorem State.incSat_frame (s : State) (a : Nat) :
    (s.incSat a).pending = s.pending ∧ (s.incSat a).safety = s.safety ∧ (s.incSat a).frame = s.frame ∧ (s.incSat
    a).host = s.host ∧ (s.incSat a).time = s.time ∧ (s.incSat a).keys = s.keys ∧ (s.incSat a).scan = s.scan ∧
    (s.incSat a).lio = s.lio ∧ (s.incSat a).loop = s.loop ∧ (s.incSat a).disp = s.disp ∧ (s.incSat a).bus = s.bus ∧
    (s.incSat a).meter = s.meter ∧ (s.incSat a).seam = s.seam ∧ (s.incSat a).pair = s.pair ∧ (s.incSat a).casc =
    s.casc ∧ (s.incSat a).upd = s.upd ∧ (s.incSat a).boot = s.boot ∧ (s.incSat a).bk = s.bk ∧ (s.incSat a).out =
    s.out ∧ (s.incSat a).freeCtr = s.freeCtr := by
  simp [State.incSat]
@[simp] theorem State.incWrap_frame (s : State) (a : Nat) :
    (s.incWrap a).pending = s.pending ∧ (s.incWrap a).safety = s.safety ∧ (s.incWrap a).frame = s.frame ∧ (s.incWrap
    a).host = s.host ∧ (s.incWrap a).time = s.time ∧ (s.incWrap a).keys = s.keys ∧ (s.incWrap a).scan = s.scan ∧
    (s.incWrap a).lio = s.lio ∧ (s.incWrap a).loop = s.loop ∧ (s.incWrap a).disp = s.disp ∧ (s.incWrap a).bus =
    s.bus ∧ (s.incWrap a).meter = s.meter ∧ (s.incWrap a).seam = s.seam ∧ (s.incWrap a).pair = s.pair ∧ (s.incWrap
    a).casc = s.casc ∧ (s.incWrap a).upd = s.upd ∧ (s.incWrap a).boot = s.boot ∧ (s.incWrap a).bk = s.bk ∧
    (s.incWrap a).out = s.out ∧ (s.incWrap a).freeCtr = s.freeCtr := by
  simp [State.incWrap]
@[simp] theorem State.setRg64_frame (s : State) (lo v : Nat) :
    (s.setRg64 lo v).pending = s.pending ∧ (s.setRg64 lo v).safety = s.safety ∧ (s.setRg64 lo v).frame = s.frame ∧
    (s.setRg64 lo v).host = s.host ∧ (s.setRg64 lo v).time = s.time ∧ (s.setRg64 lo v).keys = s.keys ∧ (s.setRg64 lo
    v).scan = s.scan ∧ (s.setRg64 lo v).lio = s.lio ∧ (s.setRg64 lo v).loop = s.loop ∧ (s.setRg64 lo v).disp =
    s.disp ∧ (s.setRg64 lo v).bus = s.bus ∧ (s.setRg64 lo v).meter = s.meter ∧ (s.setRg64 lo v).seam = s.seam ∧
    (s.setRg64 lo v).pair = s.pair ∧ (s.setRg64 lo v).casc = s.casc ∧ (s.setRg64 lo v).upd = s.upd ∧ (s.setRg64 lo
    v).boot = s.boot ∧ (s.setRg64 lo v).bk = s.bk ∧ (s.setRg64 lo v).out = s.out ∧ (s.setRg64 lo v).freeCtr =
    s.freeCtr := by
  simp [State.setRg64]
@[simp] theorem State.peak_frame (s : State) (a v : Nat) :
    (s.peak a v).pending = s.pending ∧ (s.peak a v).safety = s.safety ∧ (s.peak a v).frame = s.frame ∧ (s.peak a
    v).host = s.host ∧ (s.peak a v).time = s.time ∧ (s.peak a v).keys = s.keys ∧ (s.peak a v).scan = s.scan ∧
    (s.peak a v).lio = s.lio ∧ (s.peak a v).loop = s.loop ∧ (s.peak a v).disp = s.disp ∧ (s.peak a v).bus = s.bus ∧
    (s.peak a v).meter = s.meter ∧ (s.peak a v).seam = s.seam ∧ (s.peak a v).pair = s.pair ∧ (s.peak a v).casc =
    s.casc ∧ (s.peak a v).upd = s.upd ∧ (s.peak a v).boot = s.boot ∧ (s.peak a v).bk = s.bk ∧ (s.peak a v).out =
    s.out ∧ (s.peak a v).freeCtr = s.freeCtr := by
  simp [State.peak]
@[simp] theorem State.elapse_frame (s : State) (d : Nat) :
    (s.elapse d).pending = s.pending ∧ (s.elapse d).reg = s.reg ∧ (s.elapse d).safety = s.safety ∧ (s.elapse
    d).frame = s.frame ∧ (s.elapse d).host = s.host ∧ (s.elapse d).keys = s.keys ∧ (s.elapse d).scan = s.scan ∧
    (s.elapse d).lio = s.lio ∧ (s.elapse d).loop = s.loop ∧ (s.elapse d).disp = s.disp ∧ (s.elapse d).bus = s.bus ∧
    (s.elapse d).meter = s.meter ∧ (s.elapse d).seam = s.seam ∧ (s.elapse d).pair = s.pair ∧ (s.elapse d).casc =
    s.casc ∧ (s.elapse d).upd = s.upd ∧ (s.elapse d).boot = s.boot ∧ (s.elapse d).bk = s.bk ∧ (s.elapse d).out =
    s.out ∧ (s.elapse d).freeCtr = s.freeCtr := by
  simp [State.elapse]
@[simp] theorem State.advanceTo_frame (s : State) (ofs : Nat) :
    (s.advanceTo ofs).pending = s.pending ∧ (s.advanceTo ofs).reg = s.reg ∧ (s.advanceTo ofs).safety = s.safety ∧
    (s.advanceTo ofs).frame = s.frame ∧ (s.advanceTo ofs).host = s.host ∧ (s.advanceTo ofs).keys = s.keys ∧
    (s.advanceTo ofs).scan = s.scan ∧ (s.advanceTo ofs).lio = s.lio ∧ (s.advanceTo ofs).loop = s.loop ∧ (s.advanceTo
    ofs).disp = s.disp ∧ (s.advanceTo ofs).bus = s.bus ∧ (s.advanceTo ofs).meter = s.meter ∧ (s.advanceTo ofs).seam
    = s.seam ∧ (s.advanceTo ofs).pair = s.pair ∧ (s.advanceTo ofs).casc = s.casc ∧ (s.advanceTo ofs).upd = s.upd ∧
    (s.advanceTo ofs).boot = s.boot ∧ (s.advanceTo ofs).bk = s.bk ∧ (s.advanceTo ofs).out = s.out ∧ (s.advanceTo
    ofs).freeCtr = s.freeCtr := by
  simp [State.advanceTo]
@[simp] theorem State.setStatus_frame (s : State) (head : Nat) (w : Word) :
    (s.setStatus head w).pending = s.pending ∧ (s.setStatus head w).safety = s.safety ∧ (s.setStatus head w).frame =
    s.frame ∧ (s.setStatus head w).host = s.host ∧ (s.setStatus head w).time = s.time ∧ (s.setStatus head w).keys =
    s.keys ∧ (s.setStatus head w).scan = s.scan ∧ (s.setStatus head w).lio = s.lio ∧ (s.setStatus head w).loop =
    s.loop ∧ (s.setStatus head w).disp = s.disp ∧ (s.setStatus head w).bus = s.bus ∧ (s.setStatus head w).meter =
    s.meter ∧ (s.setStatus head w).seam = s.seam ∧ (s.setStatus head w).pair = s.pair ∧ (s.setStatus head w).casc =
    s.casc ∧ (s.setStatus head w).upd = s.upd ∧ (s.setStatus head w).boot = s.boot ∧ (s.setStatus head w).bk = s.bk
    ∧ (s.setStatus head w).out = s.out ∧ (s.setStatus head w).freeCtr = s.freeCtr := by
  simp [State.setStatus]
@[simp] theorem State.setBlkState_frame (s : State) (head x : Nat) :
    (s.setBlkState head x).pending = s.pending ∧ (s.setBlkState head x).safety = s.safety ∧ (s.setBlkState head
    x).frame = s.frame ∧ (s.setBlkState head x).host = s.host ∧ (s.setBlkState head x).time = s.time ∧
    (s.setBlkState head x).keys = s.keys ∧ (s.setBlkState head x).scan = s.scan ∧ (s.setBlkState head x).lio = s.lio
    ∧ (s.setBlkState head x).loop = s.loop ∧ (s.setBlkState head x).disp = s.disp ∧ (s.setBlkState head x).bus =
    s.bus ∧ (s.setBlkState head x).meter = s.meter ∧ (s.setBlkState head x).seam = s.seam ∧ (s.setBlkState head
    x).pair = s.pair ∧ (s.setBlkState head x).casc = s.casc ∧ (s.setBlkState head x).upd = s.upd ∧ (s.setBlkState
    head x).boot = s.boot ∧ (s.setBlkState head x).bk = s.bk ∧ (s.setBlkState head x).out = s.out ∧ (s.setBlkState
    head x).freeCtr = s.freeCtr := by
  simp [State.setBlkState]
@[simp] theorem State.setReady_frame (s : State) (head : Nat) (b : Bool) :
    (s.setReady head b).pending = s.pending ∧ (s.setReady head b).safety = s.safety ∧ (s.setReady head b).frame =
    s.frame ∧ (s.setReady head b).host = s.host ∧ (s.setReady head b).time = s.time ∧ (s.setReady head b).keys =
    s.keys ∧ (s.setReady head b).scan = s.scan ∧ (s.setReady head b).lio = s.lio ∧ (s.setReady head b).loop = s.loop
    ∧ (s.setReady head b).disp = s.disp ∧ (s.setReady head b).bus = s.bus ∧ (s.setReady head b).meter = s.meter ∧
    (s.setReady head b).seam = s.seam ∧ (s.setReady head b).pair = s.pair ∧ (s.setReady head b).casc = s.casc ∧
    (s.setReady head b).upd = s.upd ∧ (s.setReady head b).boot = s.boot ∧ (s.setReady head b).bk = s.bk ∧
    (s.setReady head b).out = s.out ∧ (s.setReady head b).freeCtr = s.freeCtr := by
  simp [State.setReady]
@[simp] theorem State.setBusy_frame (s : State) (head : Nat) (b : Bool) :
    (s.setBusy head b).pending = s.pending ∧ (s.setBusy head b).safety = s.safety ∧ (s.setBusy head b).frame =
    s.frame ∧ (s.setBusy head b).host = s.host ∧ (s.setBusy head b).time = s.time ∧ (s.setBusy head b).keys = s.keys
    ∧ (s.setBusy head b).scan = s.scan ∧ (s.setBusy head b).lio = s.lio ∧ (s.setBusy head b).loop = s.loop ∧
    (s.setBusy head b).disp = s.disp ∧ (s.setBusy head b).bus = s.bus ∧ (s.setBusy head b).meter = s.meter ∧
    (s.setBusy head b).seam = s.seam ∧ (s.setBusy head b).pair = s.pair ∧ (s.setBusy head b).casc = s.casc ∧
    (s.setBusy head b).upd = s.upd ∧ (s.setBusy head b).boot = s.boot ∧ (s.setBusy head b).bk = s.bk ∧ (s.setBusy
    head b).out = s.out ∧ (s.setBusy head b).freeCtr = s.freeCtr := by
  simp [State.setBusy]
@[simp] theorem State.setFaultBit_frame (s : State) (head : Nat) (b : Bool) :
    (s.setFaultBit head b).pending = s.pending ∧ (s.setFaultBit head b).safety = s.safety ∧ (s.setFaultBit head
    b).frame = s.frame ∧ (s.setFaultBit head b).host = s.host ∧ (s.setFaultBit head b).time = s.time ∧
    (s.setFaultBit head b).keys = s.keys ∧ (s.setFaultBit head b).scan = s.scan ∧ (s.setFaultBit head b).lio = s.lio
    ∧ (s.setFaultBit head b).loop = s.loop ∧ (s.setFaultBit head b).disp = s.disp ∧ (s.setFaultBit head b).bus =
    s.bus ∧ (s.setFaultBit head b).meter = s.meter ∧ (s.setFaultBit head b).seam = s.seam ∧ (s.setFaultBit head
    b).pair = s.pair ∧ (s.setFaultBit head b).casc = s.casc ∧ (s.setFaultBit head b).upd = s.upd ∧ (s.setFaultBit
    head b).boot = s.boot ∧ (s.setFaultBit head b).bk = s.bk ∧ (s.setFaultBit head b).out = s.out ∧ (s.setFaultBit
    head b).freeCtr = s.freeCtr := by
  simp [State.setFaultBit]
@[simp] theorem State.emit_frame (s : State) (m : OutMsg) :
    (s.emit m).pending = s.pending ∧ (s.emit m).reg = s.reg ∧ (s.emit m).safety = s.safety ∧ (s.emit m).frame =
    s.frame ∧ (s.emit m).host = s.host ∧ (s.emit m).time = s.time ∧ (s.emit m).keys = s.keys ∧ (s.emit m).scan =
    s.scan ∧ (s.emit m).lio = s.lio ∧ (s.emit m).loop = s.loop ∧ (s.emit m).disp = s.disp ∧ (s.emit m).bus = s.bus ∧
    (s.emit m).meter = s.meter ∧ (s.emit m).seam = s.seam ∧ (s.emit m).pair = s.pair ∧ (s.emit m).casc = s.casc ∧
    (s.emit m).upd = s.upd ∧ (s.emit m).boot = s.boot ∧ (s.emit m).bk = s.bk ∧ (s.emit m).freeCtr = s.freeCtr := by
  simp [State.emit]
@[simp] theorem State.send_frame (s : State) (m : OutMsg) :
    (s.send m).pending = s.pending ∧ (s.send m).reg = s.reg ∧ (s.send m).safety = s.safety ∧ (s.send m).frame =
    s.frame ∧ (s.send m).host = s.host ∧ (s.send m).time = s.time ∧ (s.send m).keys = s.keys ∧ (s.send m).scan =
    s.scan ∧ (s.send m).lio = s.lio ∧ (s.send m).loop = s.loop ∧ (s.send m).disp = s.disp ∧ (s.send m).bus = s.bus ∧
    (s.send m).meter = s.meter ∧ (s.send m).seam = s.seam ∧ (s.send m).pair = s.pair ∧ (s.send m).casc = s.casc ∧
    (s.send m).upd = s.upd ∧ (s.send m).boot = s.boot ∧ (s.send m).bk = s.bk ∧ (s.send m).freeCtr = s.freeCtr := by
  simp [State.send]
@[simp] theorem State.signalHost_frame (s : State) (head : Nat) :
    (s.signalHost head).pending = s.pending ∧ (s.signalHost head).reg = s.reg ∧ (s.signalHost head).safety =
    s.safety ∧ (s.signalHost head).frame = s.frame ∧ (s.signalHost head).host = s.host ∧ (s.signalHost head).time =
    s.time ∧ (s.signalHost head).keys = s.keys ∧ (s.signalHost head).scan = s.scan ∧ (s.signalHost head).lio = s.lio
    ∧ (s.signalHost head).loop = s.loop ∧ (s.signalHost head).disp = s.disp ∧ (s.signalHost head).bus = s.bus ∧
    (s.signalHost head).meter = s.meter ∧ (s.signalHost head).seam = s.seam ∧ (s.signalHost head).pair = s.pair ∧
    (s.signalHost head).casc = s.casc ∧ (s.signalHost head).upd = s.upd ∧ (s.signalHost head).boot = s.boot ∧
    (s.signalHost head).bk = s.bk ∧ (s.signalHost head).freeCtr = s.freeCtr := by
  simp [State.signalHost]
@[simp] theorem State.putEvtRaw_frame (s : State) (head : Nat) (raw : Word) :
    (s.putEvtRaw head raw).pending = s.pending ∧ (s.putEvtRaw head raw).safety = s.safety ∧ (s.putEvtRaw head
    raw).frame = s.frame ∧ (s.putEvtRaw head raw).host = s.host ∧ (s.putEvtRaw head raw).time = s.time ∧
    (s.putEvtRaw head raw).keys = s.keys ∧ (s.putEvtRaw head raw).scan = s.scan ∧ (s.putEvtRaw head raw).lio = s.lio
    ∧ (s.putEvtRaw head raw).loop = s.loop ∧ (s.putEvtRaw head raw).disp = s.disp ∧ (s.putEvtRaw head raw).bus =
    s.bus ∧ (s.putEvtRaw head raw).meter = s.meter ∧ (s.putEvtRaw head raw).seam = s.seam ∧ (s.putEvtRaw head
    raw).pair = s.pair ∧ (s.putEvtRaw head raw).casc = s.casc ∧ (s.putEvtRaw head raw).upd = s.upd ∧ (s.putEvtRaw
    head raw).boot = s.boot ∧ (s.putEvtRaw head raw).bk = s.bk ∧ (s.putEvtRaw head raw).freeCtr = s.freeCtr := by
  simp [State.putEvtRaw]
@[simp] theorem State.evt_frame (s : State) (head n : Nat) :
    (s.evt head n).pending = s.pending ∧ (s.evt head n).safety = s.safety ∧ (s.evt head n).frame = s.frame ∧ (s.evt
    head n).host = s.host ∧ (s.evt head n).time = s.time ∧ (s.evt head n).keys = s.keys ∧ (s.evt head n).scan =
    s.scan ∧ (s.evt head n).lio = s.lio ∧ (s.evt head n).loop = s.loop ∧ (s.evt head n).disp = s.disp ∧ (s.evt head
    n).bus = s.bus ∧ (s.evt head n).meter = s.meter ∧ (s.evt head n).seam = s.seam ∧ (s.evt head n).pair = s.pair ∧
    (s.evt head n).casc = s.casc ∧ (s.evt head n).upd = s.upd ∧ (s.evt head n).boot = s.boot ∧ (s.evt head n).bk =
    s.bk ∧ (s.evt head n).freeCtr = s.freeCtr := by
  simp [State.evt]
@[simp] theorem State.err_frame (s : State) (head ofs : Nat) (window : Bool) (code : Nat) (info : Word) :
    (s.err head ofs window code info).pending = s.pending ∧ (s.err head ofs window code info).safety = s.safety ∧
    (s.err head ofs window code info).frame = s.frame ∧ (s.err head ofs window code info).host = s.host ∧ (s.err
    head ofs window code info).time = s.time ∧ (s.err head ofs window code info).keys = s.keys ∧ (s.err head ofs
    window code info).scan = s.scan ∧ (s.err head ofs window code info).lio = s.lio ∧ (s.err head ofs window code
    info).loop = s.loop ∧ (s.err head ofs window code info).disp = s.disp ∧ (s.err head ofs window code info).bus =
    s.bus ∧ (s.err head ofs window code info).meter = s.meter ∧ (s.err head ofs window code info).seam = s.seam ∧
    (s.err head ofs window code info).pair = s.pair ∧ (s.err head ofs window code info).casc = s.casc ∧ (s.err head
    ofs window code info).upd = s.upd ∧ (s.err head ofs window code info).boot = s.boot ∧ (s.err head ofs window
    code info).bk = s.bk ∧ (s.err head ofs window code info).freeCtr = s.freeCtr := by
  simp [State.err]
@[simp] theorem State.errAt_frame (s : State) (addr code : Nat) (info : Word) :
    (s.errAt addr code info).pending = s.pending ∧ (s.errAt addr code info).safety = s.safety ∧ (s.errAt addr code
    info).frame = s.frame ∧ (s.errAt addr code info).host = s.host ∧ (s.errAt addr code info).time = s.time ∧
    (s.errAt addr code info).keys = s.keys ∧ (s.errAt addr code info).scan = s.scan ∧ (s.errAt addr code info).lio =
    s.lio ∧ (s.errAt addr code info).loop = s.loop ∧ (s.errAt addr code info).disp = s.disp ∧ (s.errAt addr code
    info).bus = s.bus ∧ (s.errAt addr code info).meter = s.meter ∧ (s.errAt addr code info).seam = s.seam ∧ (s.errAt
    addr code info).pair = s.pair ∧ (s.errAt addr code info).casc = s.casc ∧ (s.errAt addr code info).upd = s.upd ∧
    (s.errAt addr code info).boot = s.boot ∧ (s.errAt addr code info).bk = s.bk ∧ (s.errAt addr code info).freeCtr =
    s.freeCtr := by
  simp [State.errAt]
@[simp] theorem State.errBlk_frame (s : State) (head code : Nat) (info : Word) :
    (s.errBlk head code info).pending = s.pending ∧ (s.errBlk head code info).safety = s.safety ∧ (s.errBlk head
    code info).frame = s.frame ∧ (s.errBlk head code info).host = s.host ∧ (s.errBlk head code info).time = s.time ∧
    (s.errBlk head code info).keys = s.keys ∧ (s.errBlk head code info).scan = s.scan ∧ (s.errBlk head code
    info).lio = s.lio ∧ (s.errBlk head code info).loop = s.loop ∧ (s.errBlk head code info).disp = s.disp ∧
    (s.errBlk head code info).bus = s.bus ∧ (s.errBlk head code info).meter = s.meter ∧ (s.errBlk head code
    info).seam = s.seam ∧ (s.errBlk head code info).pair = s.pair ∧ (s.errBlk head code info).casc = s.casc ∧
    (s.errBlk head code info).upd = s.upd ∧ (s.errBlk head code info).boot = s.boot ∧ (s.errBlk head code info).bk =
    s.bk ∧ (s.errBlk head code info).freeCtr = s.freeCtr := by
  simp [State.errBlk]
@[simp] theorem State.draw_frame (s : State) :
    (s.draw).2.pending = s.pending ∧ (s.draw).2.reg = s.reg ∧ (s.draw).2.safety = s.safety ∧ (s.draw).2.frame =
    s.frame ∧ (s.draw).2.host = s.host ∧ (s.draw).2.time = s.time ∧ (s.draw).2.keys = s.keys ∧ (s.draw).2.scan =
    s.scan ∧ (s.draw).2.lio = s.lio ∧ (s.draw).2.loop = s.loop ∧ (s.draw).2.disp = s.disp ∧ (s.draw).2.bus = s.bus ∧
    (s.draw).2.meter = s.meter ∧ (s.draw).2.seam = s.seam ∧ (s.draw).2.pair = s.pair ∧ (s.draw).2.casc = s.casc ∧
    (s.draw).2.upd = s.upd ∧ (s.draw).2.boot = s.boot ∧ (s.draw).2.bk = s.bk ∧ (s.draw).2.out = s.out := by
  simp [State.draw]
@[simp] theorem State.drawBytes_frame (s : State) (n : Nat) :
    (s.drawBytes n).2.pending = s.pending ∧ (s.drawBytes n).2.reg = s.reg ∧ (s.drawBytes n).2.safety = s.safety ∧
    (s.drawBytes n).2.frame = s.frame ∧ (s.drawBytes n).2.host = s.host ∧ (s.drawBytes n).2.time = s.time ∧
    (s.drawBytes n).2.keys = s.keys ∧ (s.drawBytes n).2.scan = s.scan ∧ (s.drawBytes n).2.lio = s.lio ∧ (s.drawBytes
    n).2.loop = s.loop ∧ (s.drawBytes n).2.disp = s.disp ∧ (s.drawBytes n).2.bus = s.bus ∧ (s.drawBytes n).2.meter =
    s.meter ∧ (s.drawBytes n).2.seam = s.seam ∧ (s.drawBytes n).2.pair = s.pair ∧ (s.drawBytes n).2.casc = s.casc ∧
    (s.drawBytes n).2.upd = s.upd ∧ (s.drawBytes n).2.boot = s.boot ∧ (s.drawBytes n).2.bk = s.bk ∧ (s.drawBytes
    n).2.out = s.out := by
  simp [State.drawBytes]
@[simp] theorem State.foldWord_frame (s : State) (region k : Nat) (v : Word) :
    (s.foldWord region k v).pending = s.pending ∧ (s.foldWord region k v).reg = s.reg ∧ (s.foldWord region k
    v).safety = s.safety ∧ (s.foldWord region k v).frame = s.frame ∧ (s.foldWord region k v).host = s.host ∧
    (s.foldWord region k v).time = s.time ∧ (s.foldWord region k v).keys = s.keys ∧ (s.foldWord region k v).scan =
    s.scan ∧ (s.foldWord region k v).lio = s.lio ∧ (s.foldWord region k v).loop = s.loop ∧ (s.foldWord region k
    v).disp = s.disp ∧ (s.foldWord region k v).bus = s.bus ∧ (s.foldWord region k v).meter = s.meter ∧ (s.foldWord
    region k v).seam = s.seam ∧ (s.foldWord region k v).casc = s.casc ∧ (s.foldWord region k v).upd = s.upd ∧
    (s.foldWord region k v).boot = s.boot ∧ (s.foldWord region k v).bk = s.bk ∧ (s.foldWord region k v).out = s.out
    ∧ (s.foldWord region k v).freeCtr = s.freeCtr := by
  simp [State.foldWord]
@[simp] theorem State.foldMem_frame (s : State) (region : Nat) (m : Mem) (a n : Nat) :
    (s.foldMem region m a n).pending = s.pending ∧ (s.foldMem region m a n).reg = s.reg ∧ (s.foldMem region m a
    n).safety = s.safety ∧ (s.foldMem region m a n).frame = s.frame ∧ (s.foldMem region m a n).host = s.host ∧
    (s.foldMem region m a n).time = s.time ∧ (s.foldMem region m a n).keys = s.keys ∧ (s.foldMem region m a n).scan
    = s.scan ∧ (s.foldMem region m a n).lio = s.lio ∧ (s.foldMem region m a n).loop = s.loop ∧ (s.foldMem region m a
    n).disp = s.disp ∧ (s.foldMem region m a n).bus = s.bus ∧ (s.foldMem region m a n).meter = s.meter ∧ (s.foldMem
    region m a n).seam = s.seam ∧ (s.foldMem region m a n).casc = s.casc ∧ (s.foldMem region m a n).upd = s.upd ∧
    (s.foldMem region m a n).boot = s.boot ∧ (s.foldMem region m a n).bk = s.bk ∧ (s.foldMem region m a n).out =
    s.out ∧ (s.foldMem region m a n).freeCtr = s.freeCtr := by
  simp [State.foldMem]
@[simp] theorem State.noteRequest_frame (s : State) (req : OctahReq) :
    (s.noteRequest req).pending = s.pending ∧ (s.noteRequest req).reg = s.reg ∧ (s.noteRequest req).safety =
    s.safety ∧ (s.noteRequest req).frame = s.frame ∧ (s.noteRequest req).time = s.time ∧ (s.noteRequest req).keys =
    s.keys ∧ (s.noteRequest req).scan = s.scan ∧ (s.noteRequest req).lio = s.lio ∧ (s.noteRequest req).loop = s.loop
    ∧ (s.noteRequest req).disp = s.disp ∧ (s.noteRequest req).bus = s.bus ∧ (s.noteRequest req).meter = s.meter ∧
    (s.noteRequest req).seam = s.seam ∧ (s.noteRequest req).pair = s.pair ∧ (s.noteRequest req).casc = s.casc ∧
    (s.noteRequest req).upd = s.upd ∧ (s.noteRequest req).boot = s.boot ∧ (s.noteRequest req).bk = s.bk ∧
    (s.noteRequest req).out = s.out ∧ (s.noteRequest req).freeCtr = s.freeCtr := by
  simp [State.noteRequest]
@[simp] theorem State.modJ_frame (s : State) (tag : Nat) (f : JEntry → JEntry) :
    (s.modJ tag f).pending = s.pending ∧ (s.modJ tag f).reg = s.reg ∧ (s.modJ tag f).safety = s.safety ∧ (s.modJ tag
    f).frame = s.frame ∧ (s.modJ tag f).time = s.time ∧ (s.modJ tag f).keys = s.keys ∧ (s.modJ tag f).scan = s.scan
    ∧ (s.modJ tag f).lio = s.lio ∧ (s.modJ tag f).loop = s.loop ∧ (s.modJ tag f).disp = s.disp ∧ (s.modJ tag f).bus
    = s.bus ∧ (s.modJ tag f).meter = s.meter ∧ (s.modJ tag f).seam = s.seam ∧ (s.modJ tag f).pair = s.pair ∧ (s.modJ
    tag f).casc = s.casc ∧ (s.modJ tag f).upd = s.upd ∧ (s.modJ tag f).boot = s.boot ∧ (s.modJ tag f).bk = s.bk ∧
    (s.modJ tag f).out = s.out ∧ (s.modJ tag f).freeCtr = s.freeCtr := by
  simp [State.modJ]
@[simp] theorem State.sendBack_frame (s : State) (src : ReqSource) (pkt : List Byte) :
    (s.sendBack src pkt).pending = s.pending ∧ (s.sendBack src pkt).safety = s.safety ∧ (s.sendBack src pkt).frame =
    s.frame ∧ (s.sendBack src pkt).time = s.time ∧ (s.sendBack src pkt).keys = s.keys ∧ (s.sendBack src pkt).scan =
    s.scan ∧ (s.sendBack src pkt).lio = s.lio ∧ (s.sendBack src pkt).loop = s.loop ∧ (s.sendBack src pkt).disp =
    s.disp ∧ (s.sendBack src pkt).bus = s.bus ∧ (s.sendBack src pkt).meter = s.meter ∧ (s.sendBack src pkt).seam =
    s.seam ∧ (s.sendBack src pkt).pair = s.pair ∧ (s.sendBack src pkt).casc = s.casc ∧ (s.sendBack src pkt).upd =
    s.upd ∧ (s.sendBack src pkt).boot = s.boot ∧ (s.sendBack src pkt).bk = s.bk ∧ (s.sendBack src pkt).freeCtr =
    s.freeCtr := by
  unfold State.sendBack; (repeat' split) <;> simp
@[simp] theorem State.openPacket_frame (s : State) (req : OctahReq) (tag status beat jseq : Nat) (payload : List
    Byte) :
    (s.openPacket req tag status beat jseq payload).2.pending = s.pending ∧ (s.openPacket req tag status beat jseq
    payload).2.reg = s.reg ∧ (s.openPacket req tag status beat jseq payload).2.safety = s.safety ∧ (s.openPacket req
    tag status beat jseq payload).2.frame = s.frame ∧ (s.openPacket req tag status beat jseq payload).2.host =
    s.host ∧ (s.openPacket req tag status beat jseq payload).2.time = s.time ∧ (s.openPacket req tag status beat
    jseq payload).2.keys = s.keys ∧ (s.openPacket req tag status beat jseq payload).2.scan = s.scan ∧ (s.openPacket
    req tag status beat jseq payload).2.lio = s.lio ∧ (s.openPacket req tag status beat jseq payload).2.loop =
    s.loop ∧ (s.openPacket req tag status beat jseq payload).2.disp = s.disp ∧ (s.openPacket req tag status beat
    jseq payload).2.bus = s.bus ∧ (s.openPacket req tag status beat jseq payload).2.meter = s.meter ∧ (s.openPacket
    req tag status beat jseq payload).2.seam = s.seam ∧ (s.openPacket req tag status beat jseq payload).2.pair =
    s.pair ∧ (s.openPacket req tag status beat jseq payload).2.casc = s.casc ∧ (s.openPacket req tag status beat
    jseq payload).2.upd = s.upd ∧ (s.openPacket req tag status beat jseq payload).2.boot = s.boot ∧ (s.openPacket
    req tag status beat jseq payload).2.bk = s.bk ∧ (s.openPacket req tag status beat jseq payload).2.out = s.out := by
  unfold State.openPacket; dsimp only; (repeat' split) <;> simp
@[simp] theorem State.countTx_frame (s : State) (sid : Word) (c : Nat) :
    (s.countTx sid c).pending = s.pending ∧ (s.countTx sid c).reg = s.reg ∧ (s.countTx sid c).safety = s.safety ∧
    (s.countTx sid c).frame = s.frame ∧ (s.countTx sid c).time = s.time ∧ (s.countTx sid c).keys = s.keys ∧
    (s.countTx sid c).scan = s.scan ∧ (s.countTx sid c).lio = s.lio ∧ (s.countTx sid c).loop = s.loop ∧ (s.countTx
    sid c).disp = s.disp ∧ (s.countTx sid c).bus = s.bus ∧ (s.countTx sid c).meter = s.meter ∧ (s.countTx sid
    c).seam = s.seam ∧ (s.countTx sid c).pair = s.pair ∧ (s.countTx sid c).casc = s.casc ∧ (s.countTx sid c).upd =
    s.upd ∧ (s.countTx sid c).boot = s.boot ∧ (s.countTx sid c).bk = s.bk ∧ (s.countTx sid c).out = s.out ∧
    (s.countTx sid c).freeCtr = s.freeCtr := by
  simp [State.countTx]
@[simp] theorem State.respPacket_frame (s : State) (req : OctahReq) (noAuth : Bool) (tag status opcode beat jseq
    : Nat) (payload : List Byte) :
    (s.respPacket req noAuth tag status opcode beat jseq payload).2.pending = s.pending ∧ (s.respPacket req noAuth
    tag status opcode beat jseq payload).2.reg = s.reg ∧ (s.respPacket req noAuth tag status opcode beat jseq
    payload).2.safety = s.safety ∧ (s.respPacket req noAuth tag status opcode beat jseq payload).2.frame = s.frame ∧
    (s.respPacket req noAuth tag status opcode beat jseq payload).2.time = s.time ∧ (s.respPacket req noAuth tag
    status opcode beat jseq payload).2.keys = s.keys ∧ (s.respPacket req noAuth tag status opcode beat jseq
    payload).2.scan = s.scan ∧ (s.respPacket req noAuth tag status opcode beat jseq payload).2.lio = s.lio ∧
    (s.respPacket req noAuth tag status opcode beat jseq payload).2.loop = s.loop ∧ (s.respPacket req noAuth tag
    status opcode beat jseq payload).2.disp = s.disp ∧ (s.respPacket req noAuth tag status opcode beat jseq
    payload).2.bus = s.bus ∧ (s.respPacket req noAuth tag status opcode beat jseq payload).2.meter = s.meter ∧
    (s.respPacket req noAuth tag status opcode beat jseq payload).2.seam = s.seam ∧ (s.respPacket req noAuth tag
    status opcode beat jseq payload).2.pair = s.pair ∧ (s.respPacket req noAuth tag status opcode beat jseq
    payload).2.casc = s.casc ∧ (s.respPacket req noAuth tag status opcode beat jseq payload).2.upd = s.upd ∧
    (s.respPacket req noAuth tag status opcode beat jseq payload).2.boot = s.boot ∧ (s.respPacket req noAuth tag
    status opcode beat jseq payload).2.bk = s.bk ∧ (s.respPacket req noAuth tag status opcode beat jseq
    payload).2.out = s.out := by
  unfold State.respPacket; dsimp only; (repeat' split) <;> simp
@[simp] theorem State.respond_frame (s : State) (req : OctahReq) (noAuth : Bool) (tag status opcode beat jseq :
    Nat) (payload : List Byte) :
    (s.respond req noAuth tag status opcode beat jseq payload).pending = s.pending ∧ (s.respond req noAuth tag
    status opcode beat jseq payload).safety = s.safety ∧ (s.respond req noAuth tag status opcode beat jseq
    payload).frame = s.frame ∧ (s.respond req noAuth tag status opcode beat jseq payload).time = s.time ∧ (s.respond
    req noAuth tag status opcode beat jseq payload).keys = s.keys ∧ (s.respond req noAuth tag status opcode beat
    jseq payload).scan = s.scan ∧ (s.respond req noAuth tag status opcode beat jseq payload).lio = s.lio ∧
    (s.respond req noAuth tag status opcode beat jseq payload).loop = s.loop ∧ (s.respond req noAuth tag status
    opcode beat jseq payload).disp = s.disp ∧ (s.respond req noAuth tag status opcode beat jseq payload).bus = s.bus
    ∧ (s.respond req noAuth tag status opcode beat jseq payload).meter = s.meter ∧ (s.respond req noAuth tag status
    opcode beat jseq payload).seam = s.seam ∧ (s.respond req noAuth tag status opcode beat jseq payload).pair =
    s.pair ∧ (s.respond req noAuth tag status opcode beat jseq payload).casc = s.casc ∧ (s.respond req noAuth tag
    status opcode beat jseq payload).upd = s.upd ∧ (s.respond req noAuth tag status opcode beat jseq payload).boot =
    s.boot ∧ (s.respond req noAuth tag status opcode beat jseq payload).bk = s.bk := by
  simp [State.respond]
@[simp] theorem State.dropInflight_frame (s : State) (tag : Nat) :
    (s.dropInflight tag).pending = s.pending ∧ (s.dropInflight tag).reg = s.reg ∧ (s.dropInflight tag).safety =
    s.safety ∧ (s.dropInflight tag).frame = s.frame ∧ (s.dropInflight tag).time = s.time ∧ (s.dropInflight tag).keys
    = s.keys ∧ (s.dropInflight tag).scan = s.scan ∧ (s.dropInflight tag).lio = s.lio ∧ (s.dropInflight tag).loop =
    s.loop ∧ (s.dropInflight tag).disp = s.disp ∧ (s.dropInflight tag).bus = s.bus ∧ (s.dropInflight tag).meter =
    s.meter ∧ (s.dropInflight tag).seam = s.seam ∧ (s.dropInflight tag).pair = s.pair ∧ (s.dropInflight tag).casc =
    s.casc ∧ (s.dropInflight tag).upd = s.upd ∧ (s.dropInflight tag).boot = s.boot ∧ (s.dropInflight tag).bk = s.bk
    ∧ (s.dropInflight tag).out = s.out ∧ (s.dropInflight tag).freeCtr = s.freeCtr := by
  simp [State.dropInflight]
@[simp] theorem State.opEnd_frame (s : State) (tag code : Nat) (payload : List Byte) (progress : Nat) :
    (s.opEnd tag code payload progress).pending = s.pending ∧ (s.opEnd tag code payload progress).safety = s.safety
    ∧ (s.opEnd tag code payload progress).frame = s.frame ∧ (s.opEnd tag code payload progress).time = s.time ∧
    (s.opEnd tag code payload progress).keys = s.keys ∧ (s.opEnd tag code payload progress).scan = s.scan ∧ (s.opEnd
    tag code payload progress).lio = s.lio ∧ (s.opEnd tag code payload progress).loop = s.loop ∧ (s.opEnd tag code
    payload progress).disp = s.disp ∧ (s.opEnd tag code payload progress).bus = s.bus ∧ (s.opEnd tag code payload
    progress).meter = s.meter ∧ (s.opEnd tag code payload progress).seam = s.seam ∧ (s.opEnd tag code payload
    progress).pair = s.pair ∧ (s.opEnd tag code payload progress).casc = s.casc ∧ (s.opEnd tag code payload
    progress).upd = s.upd ∧ (s.opEnd tag code payload progress).boot = s.boot ∧ (s.opEnd tag code payload
    progress).bk = s.bk := by
  unfold State.opEnd; (repeat' split) <;> simp
@[simp] theorem State.opOk_frame (s : State) (tag : Nat) (payload : List Byte) :
    (s.opOk tag payload).pending = s.pending ∧ (s.opOk tag payload).safety = s.safety ∧ (s.opOk tag payload).frame =
    s.frame ∧ (s.opOk tag payload).time = s.time ∧ (s.opOk tag payload).keys = s.keys ∧ (s.opOk tag payload).scan =
    s.scan ∧ (s.opOk tag payload).lio = s.lio ∧ (s.opOk tag payload).loop = s.loop ∧ (s.opOk tag payload).disp =
    s.disp ∧ (s.opOk tag payload).bus = s.bus ∧ (s.opOk tag payload).meter = s.meter ∧ (s.opOk tag payload).seam =
    s.seam ∧ (s.opOk tag payload).pair = s.pair ∧ (s.opOk tag payload).casc = s.casc ∧ (s.opOk tag payload).upd =
    s.upd ∧ (s.opOk tag payload).boot = s.boot ∧ (s.opOk tag payload).bk = s.bk := by
  simp [State.opOk]
@[simp] theorem State.opFail_frame (s : State) (tag : Nat) (r : Refuse) :
    (s.opFail tag r).pending = s.pending ∧ (s.opFail tag r).safety = s.safety ∧ (s.opFail tag r).frame = s.frame ∧
    (s.opFail tag r).time = s.time ∧ (s.opFail tag r).keys = s.keys ∧ (s.opFail tag r).scan = s.scan ∧ (s.opFail tag
    r).lio = s.lio ∧ (s.opFail tag r).loop = s.loop ∧ (s.opFail tag r).disp = s.disp ∧ (s.opFail tag r).bus = s.bus
    ∧ (s.opFail tag r).meter = s.meter ∧ (s.opFail tag r).seam = s.seam ∧ (s.opFail tag r).pair = s.pair ∧ (s.opFail
    tag r).casc = s.casc ∧ (s.opFail tag r).upd = s.upd ∧ (s.opFail tag r).boot = s.boot ∧ (s.opFail tag r).bk =
    s.bk := by
  simp [State.opFail]
@[simp] theorem State.opStart_frame (s : State) (tag : Nat) :
    (s.opStart tag).pending = s.pending ∧ (s.opStart tag).reg = s.reg ∧ (s.opStart tag).safety = s.safety ∧
    (s.opStart tag).frame = s.frame ∧ (s.opStart tag).time = s.time ∧ (s.opStart tag).keys = s.keys ∧ (s.opStart
    tag).scan = s.scan ∧ (s.opStart tag).lio = s.lio ∧ (s.opStart tag).loop = s.loop ∧ (s.opStart tag).disp = s.disp
    ∧ (s.opStart tag).bus = s.bus ∧ (s.opStart tag).meter = s.meter ∧ (s.opStart tag).seam = s.seam ∧ (s.opStart
    tag).pair = s.pair ∧ (s.opStart tag).casc = s.casc ∧ (s.opStart tag).upd = s.upd ∧ (s.opStart tag).boot = s.boot
    ∧ (s.opStart tag).bk = s.bk ∧ (s.opStart tag).out = s.out ∧ (s.opStart tag).freeCtr = s.freeCtr := by
  simp [State.opStart]
@[simp] theorem State.opDue_frame (s : State) (beat tag : Nat) (payload : List Byte) :
    (s.opDue beat tag payload).pending = s.pending ∧ (s.opDue beat tag payload).reg = s.reg ∧ (s.opDue beat tag
    payload).safety = s.safety ∧ (s.opDue beat tag payload).frame = s.frame ∧ (s.opDue beat tag payload).time =
    s.time ∧ (s.opDue beat tag payload).keys = s.keys ∧ (s.opDue beat tag payload).scan = s.scan ∧ (s.opDue beat tag
    payload).lio = s.lio ∧ (s.opDue beat tag payload).loop = s.loop ∧ (s.opDue beat tag payload).disp = s.disp ∧
    (s.opDue beat tag payload).bus = s.bus ∧ (s.opDue beat tag payload).meter = s.meter ∧ (s.opDue beat tag
    payload).seam = s.seam ∧ (s.opDue beat tag payload).pair = s.pair ∧ (s.opDue beat tag payload).casc = s.casc ∧
    (s.opDue beat tag payload).upd = s.upd ∧ (s.opDue beat tag payload).boot = s.boot ∧ (s.opDue beat tag
    payload).bk = s.bk ∧ (s.opDue beat tag payload).out = s.out ∧ (s.opDue beat tag payload).freeCtr = s.freeCtr := by
  simp [State.opDue]
@[simp] theorem State.runDue_frame (s : State) :
    (s.runDue).pending = s.pending ∧ (s.runDue).safety = s.safety ∧ (s.runDue).frame = s.frame ∧ (s.runDue).time =
    s.time ∧ (s.runDue).keys = s.keys ∧ (s.runDue).scan = s.scan ∧ (s.runDue).lio = s.lio ∧ (s.runDue).loop = s.loop
    ∧ (s.runDue).disp = s.disp ∧ (s.runDue).bus = s.bus ∧ (s.runDue).meter = s.meter ∧ (s.runDue).seam = s.seam ∧
    (s.runDue).pair = s.pair ∧ (s.runDue).casc = s.casc ∧ (s.runDue).upd = s.upd ∧ (s.runDue).boot = s.boot ∧
    (s.runDue).bk = s.bk := by
  simp [State.runDue]
@[simp] theorem State.respondAway_frame (s : State) (req : OctahReq) (code : Nat) :
    (s.respondAway req code).pending = s.pending ∧ (s.respondAway req code).safety = s.safety ∧ (s.respondAway req
    code).frame = s.frame ∧ (s.respondAway req code).time = s.time ∧ (s.respondAway req code).keys = s.keys ∧
    (s.respondAway req code).scan = s.scan ∧ (s.respondAway req code).lio = s.lio ∧ (s.respondAway req code).loop =
    s.loop ∧ (s.respondAway req code).disp = s.disp ∧ (s.respondAway req code).bus = s.bus ∧ (s.respondAway req
    code).meter = s.meter ∧ (s.respondAway req code).seam = s.seam ∧ (s.respondAway req code).pair = s.pair ∧
    (s.respondAway req code).casc = s.casc ∧ (s.respondAway req code).upd = s.upd ∧ (s.respondAway req code).boot =
    s.boot ∧ (s.respondAway req code).bk = s.bk := by
  simp [State.respondAway]
@[simp] theorem State.journalAccept_frame (s : State) (req : OctahReq) (opcode : Nat) :
    (s.journalAccept req opcode).pending = s.pending ∧ (s.journalAccept req opcode).safety = s.safety ∧
    (s.journalAccept req opcode).frame = s.frame ∧ (s.journalAccept req opcode).time = s.time ∧ (s.journalAccept req
    opcode).keys = s.keys ∧ (s.journalAccept req opcode).scan = s.scan ∧ (s.journalAccept req opcode).lio = s.lio ∧
    (s.journalAccept req opcode).loop = s.loop ∧ (s.journalAccept req opcode).disp = s.disp ∧ (s.journalAccept req
    opcode).bus = s.bus ∧ (s.journalAccept req opcode).meter = s.meter ∧ (s.journalAccept req opcode).seam = s.seam
    ∧ (s.journalAccept req opcode).pair = s.pair ∧ (s.journalAccept req opcode).casc = s.casc ∧ (s.journalAccept req
    opcode).upd = s.upd ∧ (s.journalAccept req opcode).boot = s.boot ∧ (s.journalAccept req opcode).bk = s.bk ∧
    (s.journalAccept req opcode).out = s.out ∧ (s.journalAccept req opcode).freeCtr = s.freeCtr := by
  simp [State.journalAccept]
@[simp] theorem State.noteHost_frame (s : State) (owner : Bool) (opcode : Nat) (payload : List Byte) :
    (s.noteHost owner opcode payload).pending = s.pending ∧ (s.noteHost owner opcode payload).reg = s.reg ∧
    (s.noteHost owner opcode payload).safety = s.safety ∧ (s.noteHost owner opcode payload).frame = s.frame ∧
    (s.noteHost owner opcode payload).host = s.host ∧ (s.noteHost owner opcode payload).time = s.time ∧ (s.noteHost
    owner opcode payload).keys = s.keys ∧ (s.noteHost owner opcode payload).scan = s.scan ∧ (s.noteHost owner opcode
    payload).lio = s.lio ∧ (s.noteHost owner opcode payload).loop = s.loop ∧ (s.noteHost owner opcode payload).disp
    = s.disp ∧ (s.noteHost owner opcode payload).bus = s.bus ∧ (s.noteHost owner opcode payload).meter = s.meter ∧
    (s.noteHost owner opcode payload).seam = s.seam ∧ (s.noteHost owner opcode payload).casc = s.casc ∧ (s.noteHost
    owner opcode payload).upd = s.upd ∧ (s.noteHost owner opcode payload).boot = s.boot ∧ (s.noteHost owner opcode
    payload).bk = s.bk ∧ (s.noteHost owner opcode payload).out = s.out ∧ (s.noteHost owner opcode payload).freeCtr =
    s.freeCtr := by
  simp [State.noteHost]
@[simp] theorem State.noteWindow_frame (s : State) (addr : Nat) (value : Word) :
    (s.noteWindow addr value).pending = s.pending ∧ (s.noteWindow addr value).reg = s.reg ∧ (s.noteWindow addr
    value).safety = s.safety ∧ (s.noteWindow addr value).frame = s.frame ∧ (s.noteWindow addr value).host = s.host ∧
    (s.noteWindow addr value).time = s.time ∧ (s.noteWindow addr value).keys = s.keys ∧ (s.noteWindow addr
    value).scan = s.scan ∧ (s.noteWindow addr value).lio = s.lio ∧ (s.noteWindow addr value).loop = s.loop ∧
    (s.noteWindow addr value).disp = s.disp ∧ (s.noteWindow addr value).bus = s.bus ∧ (s.noteWindow addr
    value).meter = s.meter ∧ (s.noteWindow addr value).seam = s.seam ∧ (s.noteWindow addr value).casc = s.casc ∧
    (s.noteWindow addr value).upd = s.upd ∧ (s.noteWindow addr value).boot = s.boot ∧ (s.noteWindow addr value).bk =
    s.bk ∧ (s.noteWindow addr value).out = s.out ∧ (s.noteWindow addr value).freeCtr = s.freeCtr := by
  simp [State.noteWindow]
@[simp] theorem State.modSeam_frame (s : State) (f : SeamState → SeamState) :
    (s.modSeam f).pending = s.pending ∧ (s.modSeam f).reg = s.reg ∧ (s.modSeam f).safety = s.safety ∧ (s.modSeam
    f).frame = s.frame ∧ (s.modSeam f).host = s.host ∧ (s.modSeam f).time = s.time ∧ (s.modSeam f).keys = s.keys ∧
    (s.modSeam f).scan = s.scan ∧ (s.modSeam f).lio = s.lio ∧ (s.modSeam f).loop = s.loop ∧ (s.modSeam f).disp =
    s.disp ∧ (s.modSeam f).bus = s.bus ∧ (s.modSeam f).meter = s.meter ∧ (s.modSeam f).pair = s.pair ∧ (s.modSeam
    f).casc = s.casc ∧ (s.modSeam f).upd = s.upd ∧ (s.modSeam f).boot = s.boot ∧ (s.modSeam f).bk = s.bk ∧
    (s.modSeam f).out = s.out ∧ (s.modSeam f).freeCtr = s.freeCtr := by
  simp [State.modSeam]
@[simp] theorem State.seamPut_frame (s : State) (a : Nat) (bs : List Byte) (host : Bool) :
    (s.seamPut a bs host).pending = s.pending ∧ (s.seamPut a bs host).reg = s.reg ∧ (s.seamPut a bs host).safety =
    s.safety ∧ (s.seamPut a bs host).frame = s.frame ∧ (s.seamPut a bs host).host = s.host ∧ (s.seamPut a bs
    host).time = s.time ∧ (s.seamPut a bs host).keys = s.keys ∧ (s.seamPut a bs host).scan = s.scan ∧ (s.seamPut a
    bs host).lio = s.lio ∧ (s.seamPut a bs host).loop = s.loop ∧ (s.seamPut a bs host).disp = s.disp ∧ (s.seamPut a
    bs host).bus = s.bus ∧ (s.seamPut a bs host).meter = s.meter ∧ (s.seamPut a bs host).pair = s.pair ∧ (s.seamPut
    a bs host).casc = s.casc ∧ (s.seamPut a bs host).upd = s.upd ∧ (s.seamPut a bs host).boot = s.boot ∧ (s.seamPut
    a bs host).bk = s.bk ∧ (s.seamPut a bs host).out = s.out ∧ (s.seamPut a bs host).freeCtr = s.freeCtr := by
  simp [State.seamPut]
@[simp] theorem State.seamFw_frame (s : State) (a : Nat) (bs : List Byte) :
    (s.seamFw a bs).pending = s.pending ∧ (s.seamFw a bs).reg = s.reg ∧ (s.seamFw a bs).safety = s.safety ∧
    (s.seamFw a bs).frame = s.frame ∧ (s.seamFw a bs).host = s.host ∧ (s.seamFw a bs).time = s.time ∧ (s.seamFw a
    bs).keys = s.keys ∧ (s.seamFw a bs).scan = s.scan ∧ (s.seamFw a bs).lio = s.lio ∧ (s.seamFw a bs).loop = s.loop
    ∧ (s.seamFw a bs).disp = s.disp ∧ (s.seamFw a bs).bus = s.bus ∧ (s.seamFw a bs).meter = s.meter ∧ (s.seamFw a
    bs).pair = s.pair ∧ (s.seamFw a bs).casc = s.casc ∧ (s.seamFw a bs).upd = s.upd ∧ (s.seamFw a bs).boot = s.boot
    ∧ (s.seamFw a bs).bk = s.bk ∧ (s.seamFw a bs).out = s.out ∧ (s.seamFw a bs).freeCtr = s.freeCtr := by
  simp [State.seamFw]
@[simp] theorem State.seamRefresh_frame (s : State) :
    (s.seamRefresh).pending = s.pending ∧ (s.seamRefresh).safety = s.safety ∧ (s.seamRefresh).frame = s.frame ∧
    (s.seamRefresh).host = s.host ∧ (s.seamRefresh).time = s.time ∧ (s.seamRefresh).keys = s.keys ∧
    (s.seamRefresh).scan = s.scan ∧ (s.seamRefresh).lio = s.lio ∧ (s.seamRefresh).loop = s.loop ∧
    (s.seamRefresh).disp = s.disp ∧ (s.seamRefresh).bus = s.bus ∧ (s.seamRefresh).meter = s.meter ∧
    (s.seamRefresh).seam = s.seam ∧ (s.seamRefresh).pair = s.pair ∧ (s.seamRefresh).casc = s.casc ∧
    (s.seamRefresh).upd = s.upd ∧ (s.seamRefresh).boot = s.boot ∧ (s.seamRefresh).bk = s.bk ∧ (s.seamRefresh).out =
    s.out ∧ (s.seamRefresh).freeCtr = s.freeCtr := by
  unfold State.seamRefresh; dsimp only; (repeat' split) <;> simp
@[simp] theorem State.requestStore_frame (s : State) (f : StoreFor) :
    (s.requestStore f).pending = s.pending ∧ (s.requestStore f).safety = s.safety ∧ (s.requestStore f).frame =
    s.frame ∧ (s.requestStore f).host = s.host ∧ (s.requestStore f).time = s.time ∧ (s.requestStore f).keys = s.keys
    ∧ (s.requestStore f).scan = s.scan ∧ (s.requestStore f).lio = s.lio ∧ (s.requestStore f).loop = s.loop ∧
    (s.requestStore f).disp = s.disp ∧ (s.requestStore f).bus = s.bus ∧ (s.requestStore f).meter = s.meter ∧
    (s.requestStore f).pair = s.pair ∧ (s.requestStore f).casc = s.casc ∧ (s.requestStore f).upd = s.upd ∧
    (s.requestStore f).boot = s.boot ∧ (s.requestStore f).bk = s.bk ∧ (s.requestStore f).out = s.out ∧
    (s.requestStore f).freeCtr = s.freeCtr := by
  simp [State.requestStore]
@[simp] theorem State.beginStore_frame (s : State) (fors : List StoreFor) :
    (s.beginStore fors).pending = s.pending ∧ (s.beginStore fors).safety = s.safety ∧ (s.beginStore fors).frame =
    s.frame ∧ (s.beginStore fors).host = s.host ∧ (s.beginStore fors).time = s.time ∧ (s.beginStore fors).keys =
    s.keys ∧ (s.beginStore fors).scan = s.scan ∧ (s.beginStore fors).lio = s.lio ∧ (s.beginStore fors).loop = s.loop
    ∧ (s.beginStore fors).disp = s.disp ∧ (s.beginStore fors).bus = s.bus ∧ (s.beginStore fors).meter = s.meter ∧
    (s.beginStore fors).pair = s.pair ∧ (s.beginStore fors).casc = s.casc ∧ (s.beginStore fors).upd = s.upd ∧
    (s.beginStore fors).boot = s.boot ∧ (s.beginStore fors).bk = s.bk ∧ (s.beginStore fors).out = s.out ∧
    (s.beginStore fors).freeCtr = s.freeCtr := by
  simp [State.beginStore]
@[simp] theorem State.seamCmd_frame (s : State) (value : Word) :
    (s.seamCmd value).pending = s.pending ∧ (s.seamCmd value).safety = s.safety ∧ (s.seamCmd value).frame = s.frame
    ∧ (s.seamCmd value).host = s.host ∧ (s.seamCmd value).time = s.time ∧ (s.seamCmd value).keys = s.keys ∧
    (s.seamCmd value).scan = s.scan ∧ (s.seamCmd value).lio = s.lio ∧ (s.seamCmd value).loop = s.loop ∧ (s.seamCmd
    value).disp = s.disp ∧ (s.seamCmd value).bus = s.bus ∧ (s.seamCmd value).meter = s.meter ∧ (s.seamCmd
    value).pair = s.pair ∧ (s.seamCmd value).casc = s.casc ∧ (s.seamCmd value).upd = s.upd ∧ (s.seamCmd value).boot
    = s.boot ∧ (s.seamCmd value).bk = s.bk ∧ (s.seamCmd value).freeCtr = s.freeCtr := by
  simp [State.seamCmd]
@[simp] theorem State.seamHold_frame (s : State) (value : Word) :
    (s.seamHold value).pending = s.pending ∧ (s.seamHold value).safety = s.safety ∧ (s.seamHold value).frame =
    s.frame ∧ (s.seamHold value).host = s.host ∧ (s.seamHold value).time = s.time ∧ (s.seamHold value).keys = s.keys
    ∧ (s.seamHold value).scan = s.scan ∧ (s.seamHold value).lio = s.lio ∧ (s.seamHold value).loop = s.loop ∧
    (s.seamHold value).disp = s.disp ∧ (s.seamHold value).bus = s.bus ∧ (s.seamHold value).meter = s.meter ∧
    (s.seamHold value).pair = s.pair ∧ (s.seamHold value).casc = s.casc ∧ (s.seamHold value).upd = s.upd ∧
    (s.seamHold value).boot = s.boot ∧ (s.seamHold value).bk = s.bk ∧ (s.seamHold value).out = s.out ∧ (s.seamHold
    value).freeCtr = s.freeCtr := by
  simp [State.seamHold]
@[simp] theorem State.logLatch_frame (s : State) (a : Nat) (bs : List Byte) :
    (s.logLatch a bs).pending = s.pending ∧ (s.logLatch a bs).reg = s.reg ∧ (s.logLatch a bs).safety = s.safety ∧
    (s.logLatch a bs).frame = s.frame ∧ (s.logLatch a bs).host = s.host ∧ (s.logLatch a bs).time = s.time ∧
    (s.logLatch a bs).keys = s.keys ∧ (s.logLatch a bs).scan = s.scan ∧ (s.logLatch a bs).lio = s.lio ∧ (s.logLatch
    a bs).loop = s.loop ∧ (s.logLatch a bs).disp = s.disp ∧ (s.logLatch a bs).bus = s.bus ∧ (s.logLatch a bs).meter
    = s.meter ∧ (s.logLatch a bs).seam = s.seam ∧ (s.logLatch a bs).casc = s.casc ∧ (s.logLatch a bs).upd = s.upd ∧
    (s.logLatch a bs).boot = s.boot ∧ (s.logLatch a bs).bk = s.bk ∧ (s.logLatch a bs).out = s.out ∧ (s.logLatch a
    bs).freeCtr = s.freeCtr := by
  simp [State.logLatch]
@[simp] theorem State.putData_frame (s : State) (a : Nat) (bs : List Byte) :
    (s.putData a bs).pending = s.pending ∧ (s.putData a bs).reg = s.reg ∧ (s.putData a bs).safety = s.safety ∧
    (s.putData a bs).frame = s.frame ∧ (s.putData a bs).host = s.host ∧ (s.putData a bs).time = s.time ∧ (s.putData
    a bs).keys = s.keys ∧ (s.putData a bs).lio = s.lio ∧ (s.putData a bs).loop = s.loop ∧ (s.putData a bs).disp =
    s.disp ∧ (s.putData a bs).bus = s.bus ∧ (s.putData a bs).meter = s.meter ∧ (s.putData a bs).seam = s.seam ∧
    (s.putData a bs).casc = s.casc ∧ (s.putData a bs).upd = s.upd ∧ (s.putData a bs).boot = s.boot ∧ (s.putData a
    bs).bk = s.bk ∧ (s.putData a bs).out = s.out ∧ (s.putData a bs).freeCtr = s.freeCtr := by
  simp [State.putData]

end Sys2Proof.Machine
end

