-- ==== Sys2Proof/Laws/FramesScan.lean ====
section
/-!
SUPPORT. The frames of the shared operations of the scan programs, the staging area and the loop engines: every field of State each leaves alone.
-/
namespace Sys2Proof.Machine

@[simp] theorem State.modSlot_frame (s : State) (p : Nat) (f : ProgSlot → ProgSlot) :
    (s.modSlot p f).pending = s.pending ∧ (s.modSlot p f).reg = s.reg ∧ (s.modSlot p f).safety = s.safety ∧
    (s.modSlot p f).frame = s.frame ∧ (s.modSlot p f).host = s.host ∧ (s.modSlot p f).time = s.time ∧ (s.modSlot p
    f).keys = s.keys ∧ (s.modSlot p f).lio = s.lio ∧ (s.modSlot p f).loop = s.loop ∧ (s.modSlot p f).disp = s.disp ∧
    (s.modSlot p f).bus = s.bus ∧ (s.modSlot p f).meter = s.meter ∧ (s.modSlot p f).seam = s.seam ∧ (s.modSlot p
    f).pair = s.pair ∧ (s.modSlot p f).casc = s.casc ∧ (s.modSlot p f).upd = s.upd ∧ (s.modSlot p f).boot = s.boot ∧
    (s.modSlot p f).bk = s.bk ∧ (s.modSlot p f).out = s.out ∧ (s.modSlot p f).freeCtr = s.freeCtr := by
  simp [State.modSlot]
@[simp] theorem State.scanRefresh_frame (s : State) :
    (s.scanRefresh).pending = s.pending ∧ (s.scanRefresh).safety = s.safety ∧ (s.scanRefresh).frame = s.frame ∧
    (s.scanRefresh).host = s.host ∧ (s.scanRefresh).time = s.time ∧ (s.scanRefresh).keys = s.keys ∧
    (s.scanRefresh).scan = s.scan ∧ (s.scanRefresh).lio = s.lio ∧ (s.scanRefresh).loop = s.loop ∧
    (s.scanRefresh).disp = s.disp ∧ (s.scanRefresh).bus = s.bus ∧ (s.scanRefresh).meter = s.meter ∧
    (s.scanRefresh).seam = s.seam ∧ (s.scanRefresh).pair = s.pair ∧ (s.scanRefresh).casc = s.casc ∧
    (s.scanRefresh).upd = s.upd ∧ (s.scanRefresh).boot = s.boot ∧ (s.scanRefresh).bk = s.bk ∧ (s.scanRefresh).out =
    s.out ∧ (s.scanRefresh).freeCtr = s.freeCtr := by
  simp [State.scanRefresh]
@[simp] theorem State.setMode_frame (s : State) (p : Nat) (m : ProgMode) :
    (s.setMode p m).pending = s.pending ∧ (s.setMode p m).safety = s.safety ∧ (s.setMode p m).frame = s.frame ∧
    (s.setMode p m).host = s.host ∧ (s.setMode p m).time = s.time ∧ (s.setMode p m).keys = s.keys ∧ (s.setMode p
    m).lio = s.lio ∧ (s.setMode p m).loop = s.loop ∧ (s.setMode p m).disp = s.disp ∧ (s.setMode p m).bus = s.bus ∧
    (s.setMode p m).meter = s.meter ∧ (s.setMode p m).seam = s.seam ∧ (s.setMode p m).pair = s.pair ∧ (s.setMode p
    m).casc = s.casc ∧ (s.setMode p m).upd = s.upd ∧ (s.setMode p m).boot = s.boot ∧ (s.setMode p m).bk = s.bk ∧
    (s.setMode p m).freeCtr = s.freeCtr := by
  simp [State.setMode]
@[simp] theorem State.exchFail_frame (s : State) (cause : Nat) :
    (s.exchFail cause).pending = s.pending ∧ (s.exchFail cause).safety = s.safety ∧ (s.exchFail cause).frame =
    s.frame ∧ (s.exchFail cause).time = s.time ∧ (s.exchFail cause).keys = s.keys ∧ (s.exchFail cause).lio = s.lio ∧
    (s.exchFail cause).loop = s.loop ∧ (s.exchFail cause).disp = s.disp ∧ (s.exchFail cause).bus = s.bus ∧
    (s.exchFail cause).meter = s.meter ∧ (s.exchFail cause).seam = s.seam ∧ (s.exchFail cause).pair = s.pair ∧
    (s.exchFail cause).casc = s.casc ∧ (s.exchFail cause).upd = s.upd ∧ (s.exchFail cause).boot = s.boot ∧
    (s.exchFail cause).bk = s.bk := by
  unfold State.exchFail; (repeat' split) <;> simp
@[simp] theorem State.exchFailOf_frame (s : State) (p cause : Nat) :
    (s.exchFailOf p cause).pending = s.pending ∧ (s.exchFailOf p cause).safety = s.safety ∧ (s.exchFailOf p
    cause).frame = s.frame ∧ (s.exchFailOf p cause).time = s.time ∧ (s.exchFailOf p cause).keys = s.keys ∧
    (s.exchFailOf p cause).lio = s.lio ∧ (s.exchFailOf p cause).loop = s.loop ∧ (s.exchFailOf p cause).disp = s.disp
    ∧ (s.exchFailOf p cause).bus = s.bus ∧ (s.exchFailOf p cause).meter = s.meter ∧ (s.exchFailOf p cause).seam =
    s.seam ∧ (s.exchFailOf p cause).pair = s.pair ∧ (s.exchFailOf p cause).casc = s.casc ∧ (s.exchFailOf p
    cause).upd = s.upd ∧ (s.exchFailOf p cause).boot = s.boot ∧ (s.exchFailOf p cause).bk = s.bk := by
  unfold State.exchFailOf; (repeat' split) <;> simp
@[simp] theorem State.stopProg_frame (s : State) (p cause : Nat) :
    (s.stopProg p cause).pending = s.pending ∧ (s.stopProg p cause).safety = s.safety ∧ (s.stopProg p cause).frame =
    s.frame ∧ (s.stopProg p cause).host = s.host ∧ (s.stopProg p cause).time = s.time ∧ (s.stopProg p cause).keys =
    s.keys ∧ (s.stopProg p cause).lio = s.lio ∧ (s.stopProg p cause).loop = s.loop ∧ (s.stopProg p cause).disp =
    s.disp ∧ (s.stopProg p cause).bus = s.bus ∧ (s.stopProg p cause).meter = s.meter ∧ (s.stopProg p cause).seam =
    s.seam ∧ (s.stopProg p cause).pair = s.pair ∧ (s.stopProg p cause).casc = s.casc ∧ (s.stopProg p cause).upd =
    s.upd ∧ (s.stopProg p cause).boot = s.boot ∧ (s.stopProg p cause).bk = s.bk ∧ (s.stopProg p cause).freeCtr =
    s.freeCtr := by
  simp [State.stopProg]
@[simp] theorem State.setCycle_frame (s : State) (p : Nat) (c : Cycle) :
    (s.setCycle p c).pending = s.pending ∧ (s.setCycle p c).reg = s.reg ∧ (s.setCycle p c).safety = s.safety ∧
    (s.setCycle p c).frame = s.frame ∧ (s.setCycle p c).host = s.host ∧ (s.setCycle p c).time = s.time ∧ (s.setCycle
    p c).keys = s.keys ∧ (s.setCycle p c).lio = s.lio ∧ (s.setCycle p c).loop = s.loop ∧ (s.setCycle p c).disp =
    s.disp ∧ (s.setCycle p c).bus = s.bus ∧ (s.setCycle p c).meter = s.meter ∧ (s.setCycle p c).seam = s.seam ∧
    (s.setCycle p c).pair = s.pair ∧ (s.setCycle p c).casc = s.casc ∧ (s.setCycle p c).upd = s.upd ∧ (s.setCycle p
    c).boot = s.boot ∧ (s.setCycle p c).bk = s.bk ∧ (s.setCycle p c).out = s.out ∧ (s.setCycle p c).freeCtr =
    s.freeCtr := by
  simp [State.setCycle]
@[simp] theorem State.trap_frame (s : State) (p : Nat) (c : Cycle) (code detail : Nat) :
    (s.trap p c code detail).pending = s.pending ∧ (s.trap p c code detail).safety = s.safety ∧ (s.trap p c code
    detail).frame = s.frame ∧ (s.trap p c code detail).time = s.time ∧ (s.trap p c code detail).keys = s.keys ∧
    (s.trap p c code detail).lio = s.lio ∧ (s.trap p c code detail).loop = s.loop ∧ (s.trap p c code detail).disp =
    s.disp ∧ (s.trap p c code detail).bus = s.bus ∧ (s.trap p c code detail).meter = s.meter ∧ (s.trap p c code
    detail).seam = s.seam ∧ (s.trap p c code detail).pair = s.pair ∧ (s.trap p c code detail).casc = s.casc ∧
    (s.trap p c code detail).upd = s.upd ∧ (s.trap p c code detail).boot = s.boot ∧ (s.trap p c code detail).bk =
    s.bk := by
  simp [State.trap]
@[simp] theorem State.breakHit_frame (s : State) (p : Nat) (c : Cycle) (idx : Nat) :
    (s.breakHit p c idx).pending = s.pending ∧ (s.breakHit p c idx).safety = s.safety ∧ (s.breakHit p c idx).frame =
    s.frame ∧ (s.breakHit p c idx).time = s.time ∧ (s.breakHit p c idx).keys = s.keys ∧ (s.breakHit p c idx).lio =
    s.lio ∧ (s.breakHit p c idx).loop = s.loop ∧ (s.breakHit p c idx).disp = s.disp ∧ (s.breakHit p c idx).bus =
    s.bus ∧ (s.breakHit p c idx).meter = s.meter ∧ (s.breakHit p c idx).seam = s.seam ∧ (s.breakHit p c idx).pair =
    s.pair ∧ (s.breakHit p c idx).casc = s.casc ∧ (s.breakHit p c idx).upd = s.upd ∧ (s.breakHit p c idx).boot =
    s.boot ∧ (s.breakHit p c idx).bk = s.bk := by
  simp [State.breakHit]
@[simp] theorem State.useEngine_frame (s : State) (e n : Nat) :
    (s.useEngine e n).pending = s.pending ∧ (s.useEngine e n).reg = s.reg ∧ (s.useEngine e n).safety = s.safety ∧
    (s.useEngine e n).frame = s.frame ∧ (s.useEngine e n).host = s.host ∧ (s.useEngine e n).time = s.time ∧
    (s.useEngine e n).keys = s.keys ∧ (s.useEngine e n).lio = s.lio ∧ (s.useEngine e n).loop = s.loop ∧ (s.useEngine
    e n).disp = s.disp ∧ (s.useEngine e n).bus = s.bus ∧ (s.useEngine e n).meter = s.meter ∧ (s.useEngine e n).seam
    = s.seam ∧ (s.useEngine e n).pair = s.pair ∧ (s.useEngine e n).casc = s.casc ∧ (s.useEngine e n).upd = s.upd ∧
    (s.useEngine e n).boot = s.boot ∧ (s.useEngine e n).bk = s.bk ∧ (s.useEngine e n).out = s.out ∧ (s.useEngine e
    n).freeCtr = s.freeCtr := by
  simp [State.useEngine]
@[simp] theorem State.endCycle_frame (s : State) (p : Nat) (c : Cycle) :
    (s.endCycle p c).pending = s.pending ∧ (s.endCycle p c).safety = s.safety ∧ (s.endCycle p c).frame = s.frame ∧
    (s.endCycle p c).host = s.host ∧ (s.endCycle p c).time = s.time ∧ (s.endCycle p c).keys = s.keys ∧ (s.endCycle p
    c).lio = s.lio ∧ (s.endCycle p c).loop = s.loop ∧ (s.endCycle p c).disp = s.disp ∧ (s.endCycle p c).bus = s.bus
    ∧ (s.endCycle p c).meter = s.meter ∧ (s.endCycle p c).seam = s.seam ∧ (s.endCycle p c).casc = s.casc ∧
    (s.endCycle p c).upd = s.upd ∧ (s.endCycle p c).boot = s.boot ∧ (s.endCycle p c).bk = s.bk ∧ (s.endCycle p
    c).out = s.out ∧ (s.endCycle p c).freeCtr = s.freeCtr := by
  simp [State.endCycle]
@[simp] theorem State.missDeadline_frame (s : State) (p : Nat) (c : Cycle) :
    (s.missDeadline p c).pending = s.pending ∧ (s.missDeadline p c).safety = s.safety ∧ (s.missDeadline p c).frame =
    s.frame ∧ (s.missDeadline p c).time = s.time ∧ (s.missDeadline p c).keys = s.keys ∧ (s.missDeadline p c).lio =
    s.lio ∧ (s.missDeadline p c).loop = s.loop ∧ (s.missDeadline p c).disp = s.disp ∧ (s.missDeadline p c).bus =
    s.bus ∧ (s.missDeadline p c).meter = s.meter ∧ (s.missDeadline p c).seam = s.seam ∧ (s.missDeadline p c).pair =
    s.pair ∧ (s.missDeadline p c).casc = s.casc ∧ (s.missDeadline p c).upd = s.upd ∧ (s.missDeadline p c).boot =
    s.boot ∧ (s.missDeadline p c).bk = s.bk := by
  simp [State.missDeadline]
@[simp] theorem State.deadline_frame (s : State) (p : Nat) :
    (s.deadline p).pending = s.pending ∧ (s.deadline p).safety = s.safety ∧ (s.deadline p).frame = s.frame ∧
    (s.deadline p).time = s.time ∧ (s.deadline p).keys = s.keys ∧ (s.deadline p).lio = s.lio ∧ (s.deadline p).loop =
    s.loop ∧ (s.deadline p).disp = s.disp ∧ (s.deadline p).bus = s.bus ∧ (s.deadline p).meter = s.meter ∧
    (s.deadline p).seam = s.seam ∧ (s.deadline p).pair = s.pair ∧ (s.deadline p).casc = s.casc ∧ (s.deadline p).upd
    = s.upd ∧ (s.deadline p).boot = s.boot ∧ (s.deadline p).bk = s.bk := by
  unfold State.deadline; (repeat' split) <;> simp
@[simp] theorem State.pulseEdge_frame (s : State) (n : Nat) (rising : Bool) (prevNs : Nat) (dir : Bool) (q :
    Nat) :
    (s.pulseEdge n rising prevNs dir q).pending = s.pending ∧ (s.pulseEdge n rising prevNs dir q).safety = s.safety
    ∧ (s.pulseEdge n rising prevNs dir q).frame = s.frame ∧ (s.pulseEdge n rising prevNs dir q).host = s.host ∧
    (s.pulseEdge n rising prevNs dir q).time = s.time ∧ (s.pulseEdge n rising prevNs dir q).keys = s.keys ∧
    (s.pulseEdge n rising prevNs dir q).scan = s.scan ∧ (s.pulseEdge n rising prevNs dir q).loop = s.loop ∧
    (s.pulseEdge n rising prevNs dir q).disp = s.disp ∧ (s.pulseEdge n rising prevNs dir q).bus = s.bus ∧
    (s.pulseEdge n rising prevNs dir q).meter = s.meter ∧ (s.pulseEdge n rising prevNs dir q).seam = s.seam ∧
    (s.pulseEdge n rising prevNs dir q).pair = s.pair ∧ (s.pulseEdge n rising prevNs dir q).casc = s.casc ∧
    (s.pulseEdge n rising prevNs dir q).upd = s.upd ∧ (s.pulseEdge n rising prevNs dir q).boot = s.boot ∧
    (s.pulseEdge n rising prevNs dir q).bk = s.bk ∧ (s.pulseEdge n rising prevNs dir q).out = s.out ∧ (s.pulseEdge n
    rising prevNs dir q).freeCtr = s.freeCtr := by
  simp [State.pulseEdge]
@[simp] theorem State.request_frame (s : State) (p at_ : Nat) (r : ModeReq) :
    (s.request p at_ r).pending = s.pending ∧ (s.request p at_ r).reg = s.reg ∧ (s.request p at_ r).safety =
    s.safety ∧ (s.request p at_ r).frame = s.frame ∧ (s.request p at_ r).host = s.host ∧ (s.request p at_ r).time =
    s.time ∧ (s.request p at_ r).keys = s.keys ∧ (s.request p at_ r).lio = s.lio ∧ (s.request p at_ r).loop = s.loop
    ∧ (s.request p at_ r).disp = s.disp ∧ (s.request p at_ r).bus = s.bus ∧ (s.request p at_ r).meter = s.meter ∧
    (s.request p at_ r).seam = s.seam ∧ (s.request p at_ r).pair = s.pair ∧ (s.request p at_ r).casc = s.casc ∧
    (s.request p at_ r).upd = s.upd ∧ (s.request p at_ r).boot = s.boot ∧ (s.request p at_ r).bk = s.bk ∧ (s.request
    p at_ r).out = s.out ∧ (s.request p at_ r).freeCtr = s.freeCtr := by
  simp [State.request]
@[simp] theorem State.forceCount_frame (s : State) :
    (s.forceCount).pending = s.pending ∧ (s.forceCount).safety = s.safety ∧ (s.forceCount).frame = s.frame ∧
    (s.forceCount).host = s.host ∧ (s.forceCount).time = s.time ∧ (s.forceCount).keys = s.keys ∧ (s.forceCount).scan
    = s.scan ∧ (s.forceCount).lio = s.lio ∧ (s.forceCount).loop = s.loop ∧ (s.forceCount).disp = s.disp ∧
    (s.forceCount).bus = s.bus ∧ (s.forceCount).meter = s.meter ∧ (s.forceCount).seam = s.seam ∧ (s.forceCount).pair
    = s.pair ∧ (s.forceCount).casc = s.casc ∧ (s.forceCount).upd = s.upd ∧ (s.forceCount).boot = s.boot ∧
    (s.forceCount).bk = s.bk ∧ (s.forceCount).out = s.out ∧ (s.forceCount).freeCtr = s.freeCtr := by
  simp [State.forceCount]
@[simp] theorem State.freeForce_frame (s : State) (k : Nat) :
    (s.freeForce k).pending = s.pending ∧ (s.freeForce k).reg = s.reg ∧ (s.freeForce k).safety = s.safety ∧
    (s.freeForce k).frame = s.frame ∧ (s.freeForce k).host = s.host ∧ (s.freeForce k).time = s.time ∧ (s.freeForce
    k).keys = s.keys ∧ (s.freeForce k).lio = s.lio ∧ (s.freeForce k).loop = s.loop ∧ (s.freeForce k).disp = s.disp ∧
    (s.freeForce k).bus = s.bus ∧ (s.freeForce k).meter = s.meter ∧ (s.freeForce k).seam = s.seam ∧ (s.freeForce
    k).casc = s.casc ∧ (s.freeForce k).upd = s.upd ∧ (s.freeForce k).boot = s.boot ∧ (s.freeForce k).bk = s.bk ∧
    (s.freeForce k).out = s.out ∧ (s.freeForce k).freeCtr = s.freeCtr := by
  simp [State.freeForce]
@[simp] theorem State.applyForce_frame (s : State) (c : ForceChange) :
    (s.applyForce c).pending = s.pending ∧ (s.applyForce c).safety = s.safety ∧ (s.applyForce c).frame = s.frame ∧
    (s.applyForce c).host = s.host ∧ (s.applyForce c).time = s.time ∧ (s.applyForce c).keys = s.keys ∧ (s.applyForce
    c).lio = s.lio ∧ (s.applyForce c).loop = s.loop ∧ (s.applyForce c).disp = s.disp ∧ (s.applyForce c).bus = s.bus
    ∧ (s.applyForce c).meter = s.meter ∧ (s.applyForce c).seam = s.seam ∧ (s.applyForce c).casc = s.casc ∧
    (s.applyForce c).upd = s.upd ∧ (s.applyForce c).boot = s.boot ∧ (s.applyForce c).bk = s.bk ∧ (s.applyForce
    c).out = s.out ∧ (s.applyForce c).freeCtr = s.freeCtr := by
  unfold State.applyForce; dsimp only; (repeat' split) <;> simp
@[simp] theorem State.runSymReads_frame (s : State) :
    (s.runSymReads).pending = s.pending ∧ (s.runSymReads).safety = s.safety ∧ (s.runSymReads).frame = s.frame ∧
    (s.runSymReads).time = s.time ∧ (s.runSymReads).keys = s.keys ∧ (s.runSymReads).lio = s.lio ∧
    (s.runSymReads).loop = s.loop ∧ (s.runSymReads).disp = s.disp ∧ (s.runSymReads).bus = s.bus ∧
    (s.runSymReads).meter = s.meter ∧ (s.runSymReads).seam = s.seam ∧ (s.runSymReads).pair = s.pair ∧
    (s.runSymReads).casc = s.casc ∧ (s.runSymReads).upd = s.upd ∧ (s.runSymReads).boot = s.boot ∧ (s.runSymReads).bk
    = s.bk := by
  simp [State.runSymReads]
@[simp] theorem State.modStage_frame (s : State) (f : Staging → Staging) :
    (s.modStage f).pending = s.pending ∧ (s.modStage f).reg = s.reg ∧ (s.modStage f).safety = s.safety ∧ (s.modStage
    f).frame = s.frame ∧ (s.modStage f).host = s.host ∧ (s.modStage f).time = s.time ∧ (s.modStage f).keys = s.keys
    ∧ (s.modStage f).lio = s.lio ∧ (s.modStage f).loop = s.loop ∧ (s.modStage f).disp = s.disp ∧ (s.modStage f).bus
    = s.bus ∧ (s.modStage f).meter = s.meter ∧ (s.modStage f).seam = s.seam ∧ (s.modStage f).pair = s.pair ∧
    (s.modStage f).casc = s.casc ∧ (s.modStage f).upd = s.upd ∧ (s.modStage f).boot = s.boot ∧ (s.modStage f).bk =
    s.bk ∧ (s.modStage f).out = s.out ∧ (s.modStage f).freeCtr = s.freeCtr := by
  simp [State.modStage]
@[simp] theorem State.setExch_frame (s : State) (st cause : Nat) :
    (s.setExch st cause).pending = s.pending ∧ (s.setExch st cause).safety = s.safety ∧ (s.setExch st cause).frame =
    s.frame ∧ (s.setExch st cause).host = s.host ∧ (s.setExch st cause).time = s.time ∧ (s.setExch st cause).keys =
    s.keys ∧ (s.setExch st cause).scan = s.scan ∧ (s.setExch st cause).lio = s.lio ∧ (s.setExch st cause).loop =
    s.loop ∧ (s.setExch st cause).disp = s.disp ∧ (s.setExch st cause).bus = s.bus ∧ (s.setExch st cause).meter =
    s.meter ∧ (s.setExch st cause).seam = s.seam ∧ (s.setExch st cause).pair = s.pair ∧ (s.setExch st cause).casc =
    s.casc ∧ (s.setExch st cause).upd = s.upd ∧ (s.setExch st cause).boot = s.boot ∧ (s.setExch st cause).bk = s.bk
    ∧ (s.setExch st cause).out = s.out ∧ (s.setExch st cause).freeCtr = s.freeCtr := by
  simp [State.setExch]
@[simp] theorem State.exchangeMigrate_frame (s : State) :
    (s.exchangeMigrate).pending = s.pending ∧ (s.exchangeMigrate).safety = s.safety ∧ (s.exchangeMigrate).frame =
    s.frame ∧ (s.exchangeMigrate).time = s.time ∧ (s.exchangeMigrate).keys = s.keys ∧ (s.exchangeMigrate).lio =
    s.lio ∧ (s.exchangeMigrate).loop = s.loop ∧ (s.exchangeMigrate).disp = s.disp ∧ (s.exchangeMigrate).bus = s.bus
    ∧ (s.exchangeMigrate).meter = s.meter ∧ (s.exchangeMigrate).seam = s.seam ∧ (s.exchangeMigrate).casc = s.casc ∧
    (s.exchangeMigrate).upd = s.upd ∧ (s.exchangeMigrate).boot = s.boot ∧ (s.exchangeMigrate).bk = s.bk := by
  unfold State.exchangeMigrate; (repeat' split) <;> simp
@[simp] theorem State.exchangeBoundary_frame (s : State) :
    (s.exchangeBoundary).pending = s.pending ∧ (s.exchangeBoundary).safety = s.safety ∧ (s.exchangeBoundary).frame =
    s.frame ∧ (s.exchangeBoundary).time = s.time ∧ (s.exchangeBoundary).keys = s.keys ∧ (s.exchangeBoundary).lio =
    s.lio ∧ (s.exchangeBoundary).loop = s.loop ∧ (s.exchangeBoundary).disp = s.disp ∧ (s.exchangeBoundary).bus =
    s.bus ∧ (s.exchangeBoundary).meter = s.meter ∧ (s.exchangeBoundary).seam = s.seam ∧ (s.exchangeBoundary).pair =
    s.pair ∧ (s.exchangeBoundary).casc = s.casc ∧ (s.exchangeBoundary).upd = s.upd ∧ (s.exchangeBoundary).boot =
    s.boot ∧ (s.exchangeBoundary).bk = s.bk := by
  unfold State.exchangeBoundary; (repeat' split) <;> simp
@[simp] theorem State.setLw_frame (s : State) (n o : Nat) (w : Word) :
    (s.setLw n o w).pending = s.pending ∧ (s.setLw n o w).reg = s.reg ∧ (s.setLw n o w).safety = s.safety ∧ (s.setLw
    n o w).frame = s.frame ∧ (s.setLw n o w).host = s.host ∧ (s.setLw n o w).time = s.time ∧ (s.setLw n o w).keys =
    s.keys ∧ (s.setLw n o w).scan = s.scan ∧ (s.setLw n o w).lio = s.lio ∧ (s.setLw n o w).disp = s.disp ∧ (s.setLw
    n o w).bus = s.bus ∧ (s.setLw n o w).meter = s.meter ∧ (s.setLw n o w).seam = s.seam ∧ (s.setLw n o w).casc =
    s.casc ∧ (s.setLw n o w).upd = s.upd ∧ (s.setLw n o w).boot = s.boot ∧ (s.setLw n o w).bk = s.bk ∧ (s.setLw n o
    w).out = s.out ∧ (s.setLw n o w).freeCtr = s.freeCtr := by
  simp [State.setLw]
@[simp] theorem State.setMode__frame (s : State) (n hi lo x : Nat) :
    (s.setMode_ n hi lo x).pending = s.pending ∧ (s.setMode_ n hi lo x).reg = s.reg ∧ (s.setMode_ n hi lo x).safety
    = s.safety ∧ (s.setMode_ n hi lo x).frame = s.frame ∧ (s.setMode_ n hi lo x).host = s.host ∧ (s.setMode_ n hi lo
    x).time = s.time ∧ (s.setMode_ n hi lo x).keys = s.keys ∧ (s.setMode_ n hi lo x).scan = s.scan ∧ (s.setMode_ n
    hi lo x).lio = s.lio ∧ (s.setMode_ n hi lo x).disp = s.disp ∧ (s.setMode_ n hi lo x).bus = s.bus ∧ (s.setMode_ n
    hi lo x).meter = s.meter ∧ (s.setMode_ n hi lo x).seam = s.seam ∧ (s.setMode_ n hi lo x).casc = s.casc ∧
    (s.setMode_ n hi lo x).upd = s.upd ∧ (s.setMode_ n hi lo x).boot = s.boot ∧ (s.setMode_ n hi lo x).bk = s.bk ∧
    (s.setMode_ n hi lo x).out = s.out ∧ (s.setMode_ n hi lo x).freeCtr = s.freeCtr := by
  simp [State.setMode_]
@[simp] theorem State.setMapBit_frame (s : State) (reg : Nat → Nat) (n : Nat) (b : Bool) :
    (s.setMapBit reg n b).pending = s.pending ∧ (s.setMapBit reg n b).safety = s.safety ∧ (s.setMapBit reg n
    b).frame = s.frame ∧ (s.setMapBit reg n b).host = s.host ∧ (s.setMapBit reg n b).time = s.time ∧ (s.setMapBit
    reg n b).keys = s.keys ∧ (s.setMapBit reg n b).scan = s.scan ∧ (s.setMapBit reg n b).lio = s.lio ∧ (s.setMapBit
    reg n b).loop = s.loop ∧ (s.setMapBit reg n b).disp = s.disp ∧ (s.setMapBit reg n b).bus = s.bus ∧ (s.setMapBit
    reg n b).meter = s.meter ∧ (s.setMapBit reg n b).seam = s.seam ∧ (s.setMapBit reg n b).pair = s.pair ∧
    (s.setMapBit reg n b).casc = s.casc ∧ (s.setMapBit reg n b).upd = s.upd ∧ (s.setMapBit reg n b).boot = s.boot ∧
    (s.setMapBit reg n b).bk = s.bk ∧ (s.setMapBit reg n b).out = s.out ∧ (s.setMapBit reg n b).freeCtr = s.freeCtr := by
  simp [State.setMapBit]
@[simp] theorem State.loopRefresh_frame (s : State) :
    (s.loopRefresh).pending = s.pending ∧ (s.loopRefresh).safety = s.safety ∧ (s.loopRefresh).frame = s.frame ∧
    (s.loopRefresh).host = s.host ∧ (s.loopRefresh).time = s.time ∧ (s.loopRefresh).keys = s.keys ∧
    (s.loopRefresh).scan = s.scan ∧ (s.loopRefresh).lio = s.lio ∧ (s.loopRefresh).loop = s.loop ∧
    (s.loopRefresh).disp = s.disp ∧ (s.loopRefresh).bus = s.bus ∧ (s.loopRefresh).meter = s.meter ∧
    (s.loopRefresh).seam = s.seam ∧ (s.loopRefresh).pair = s.pair ∧ (s.loopRefresh).casc = s.casc ∧
    (s.loopRefresh).upd = s.upd ∧ (s.loopRefresh).boot = s.boot ∧ (s.loopRefresh).bk = s.bk ∧ (s.loopRefresh).out =
    s.out ∧ (s.loopRefresh).freeCtr = s.freeCtr := by
  simp [State.loopRefresh]
@[simp] theorem State.derive_frame (s : State) (n : Nat) :
    (s.derive n).pending = s.pending ∧ (s.derive n).reg = s.reg ∧ (s.derive n).safety = s.safety ∧ (s.derive
    n).frame = s.frame ∧ (s.derive n).host = s.host ∧ (s.derive n).time = s.time ∧ (s.derive n).keys = s.keys ∧
    (s.derive n).scan = s.scan ∧ (s.derive n).lio = s.lio ∧ (s.derive n).disp = s.disp ∧ (s.derive n).bus = s.bus ∧
    (s.derive n).meter = s.meter ∧ (s.derive n).seam = s.seam ∧ (s.derive n).casc = s.casc ∧ (s.derive n).upd =
    s.upd ∧ (s.derive n).boot = s.boot ∧ (s.derive n).bk = s.bk ∧ (s.derive n).out = s.out ∧ (s.derive n).freeCtr =
    s.freeCtr := by
  simp [State.derive]
@[simp] theorem State.putStage_frame (s : State) (n elo : Nat) (mos : List Nat) (p : Int × List Int × Bool) :
    (s.putStage n elo mos p).pending = s.pending ∧ (s.putStage n elo mos p).reg = s.reg ∧ (s.putStage n elo mos
    p).safety = s.safety ∧ (s.putStage n elo mos p).frame = s.frame ∧ (s.putStage n elo mos p).host = s.host ∧
    (s.putStage n elo mos p).time = s.time ∧ (s.putStage n elo mos p).keys = s.keys ∧ (s.putStage n elo mos p).scan
    = s.scan ∧ (s.putStage n elo mos p).lio = s.lio ∧ (s.putStage n elo mos p).disp = s.disp ∧ (s.putStage n elo mos
    p).bus = s.bus ∧ (s.putStage n elo mos p).meter = s.meter ∧ (s.putStage n elo mos p).seam = s.seam ∧ (s.putStage
    n elo mos p).casc = s.casc ∧ (s.putStage n elo mos p).upd = s.upd ∧ (s.putStage n elo mos p).boot = s.boot ∧
    (s.putStage n elo mos p).bk = s.bk ∧ (s.putStage n elo mos p).out = s.out ∧ (s.putStage n elo mos p).freeCtr =
    s.freeCtr := by
  simp [State.putStage]
@[simp] theorem State.putStages_frame (s : State) (n : Nat) (o : LoopOut) :
    (s.putStages n o).1.pending = s.pending ∧ (s.putStages n o).1.safety = s.safety ∧ (s.putStages n o).1.frame =
    s.frame ∧ (s.putStages n o).1.host = s.host ∧ (s.putStages n o).1.time = s.time ∧ (s.putStages n o).1.keys =
    s.keys ∧ (s.putStages n o).1.scan = s.scan ∧ (s.putStages n o).1.lio = s.lio ∧ (s.putStages n o).1.disp = s.disp
    ∧ (s.putStages n o).1.bus = s.bus ∧ (s.putStages n o).1.meter = s.meter ∧ (s.putStages n o).1.seam = s.seam ∧
    (s.putStages n o).1.casc = s.casc ∧ (s.putStages n o).1.upd = s.upd ∧ (s.putStages n o).1.boot = s.boot ∧
    (s.putStages n o).1.bk = s.bk ∧ (s.putStages n o).1.freeCtr = s.freeCtr := by
  simp [State.putStages]
@[simp] theorem State.loopDone_frame (s : State) (n act : Nat) (y : Option Word) (f : LoopFlags) (sp u : Word) :
    (s.loopDone n act y f sp u).pending = s.pending ∧ (s.loopDone n act y f sp u).safety = s.safety ∧ (s.loopDone n
    act y f sp u).frame = s.frame ∧ (s.loopDone n act y f sp u).host = s.host ∧ (s.loopDone n act y f sp u).time =
    s.time ∧ (s.loopDone n act y f sp u).keys = s.keys ∧ (s.loopDone n act y f sp u).scan = s.scan ∧ (s.loopDone n
    act y f sp u).lio = s.lio ∧ (s.loopDone n act y f sp u).disp = s.disp ∧ (s.loopDone n act y f sp u).bus = s.bus
    ∧ (s.loopDone n act y f sp u).meter = s.meter ∧ (s.loopDone n act y f sp u).seam = s.seam ∧ (s.loopDone n act y
    f sp u).casc = s.casc ∧ (s.loopDone n act y f sp u).upd = s.upd ∧ (s.loopDone n act y f sp u).boot = s.boot ∧
    (s.loopDone n act y f sp u).bk = s.bk ∧ (s.loopDone n act y f sp u).freeCtr = s.freeCtr := by
  simp [State.loopDone]
@[simp] theorem State.noteBad_frame (s : State) (n : Nat) (bad : Bool) :
    (s.noteBad n bad).pending = s.pending ∧ (s.noteBad n bad).safety = s.safety ∧ (s.noteBad n bad).frame = s.frame
    ∧ (s.noteBad n bad).host = s.host ∧ (s.noteBad n bad).time = s.time ∧ (s.noteBad n bad).keys = s.keys ∧
    (s.noteBad n bad).scan = s.scan ∧ (s.noteBad n bad).lio = s.lio ∧ (s.noteBad n bad).disp = s.disp ∧ (s.noteBad n
    bad).bus = s.bus ∧ (s.noteBad n bad).meter = s.meter ∧ (s.noteBad n bad).seam = s.seam ∧ (s.noteBad n bad).casc
    = s.casc ∧ (s.noteBad n bad).upd = s.upd ∧ (s.noteBad n bad).boot = s.boot ∧ (s.noteBad n bad).bk = s.bk ∧
    (s.noteBad n bad).freeCtr = s.freeCtr := by
  simp [State.noteBad]
@[simp] theorem State.setWarm_frame (s : State) (n : Nat) (b : Bool) :
    (s.setWarm n b).pending = s.pending ∧ (s.setWarm n b).reg = s.reg ∧ (s.setWarm n b).safety = s.safety ∧
    (s.setWarm n b).frame = s.frame ∧ (s.setWarm n b).host = s.host ∧ (s.setWarm n b).time = s.time ∧ (s.setWarm n
    b).keys = s.keys ∧ (s.setWarm n b).scan = s.scan ∧ (s.setWarm n b).lio = s.lio ∧ (s.setWarm n b).disp = s.disp ∧
    (s.setWarm n b).bus = s.bus ∧ (s.setWarm n b).meter = s.meter ∧ (s.setWarm n b).seam = s.seam ∧ (s.setWarm n
    b).pair = s.pair ∧ (s.setWarm n b).casc = s.casc ∧ (s.setWarm n b).upd = s.upd ∧ (s.setWarm n b).boot = s.boot ∧
    (s.setWarm n b).bk = s.bk ∧ (s.setWarm n b).out = s.out ∧ (s.setWarm n b).freeCtr = s.freeCtr := by
  simp [State.setWarm]
@[simp] theorem State.loopSet_frame (s : State) (n : Nat) (ws : List (Nat × Word)) :
    (s.loopSet n ws).pending = s.pending ∧ (s.loopSet n ws).reg = s.reg ∧ (s.loopSet n ws).safety = s.safety ∧
    (s.loopSet n ws).frame = s.frame ∧ (s.loopSet n ws).host = s.host ∧ (s.loopSet n ws).time = s.time ∧ (s.loopSet
    n ws).keys = s.keys ∧ (s.loopSet n ws).scan = s.scan ∧ (s.loopSet n ws).lio = s.lio ∧ (s.loopSet n ws).disp =
    s.disp ∧ (s.loopSet n ws).bus = s.bus ∧ (s.loopSet n ws).meter = s.meter ∧ (s.loopSet n ws).seam = s.seam ∧
    (s.loopSet n ws).casc = s.casc ∧ (s.loopSet n ws).upd = s.upd ∧ (s.loopSet n ws).boot = s.boot ∧ (s.loopSet n
    ws).bk = s.bk ∧ (s.loopSet n ws).out = s.out ∧ (s.loopSet n ws).freeCtr = s.freeCtr := by
  simp [State.loopSet]
@[simp] theorem State.selectMode_frame (s : State) (n mode : Nat) (man : Option Word) :
    (s.selectMode n mode man).pending = s.pending ∧ (s.selectMode n mode man).safety = s.safety ∧ (s.selectMode n
    mode man).frame = s.frame ∧ (s.selectMode n mode man).host = s.host ∧ (s.selectMode n mode man).time = s.time ∧
    (s.selectMode n mode man).keys = s.keys ∧ (s.selectMode n mode man).scan = s.scan ∧ (s.selectMode n mode
    man).lio = s.lio ∧ (s.selectMode n mode man).disp = s.disp ∧ (s.selectMode n mode man).bus = s.bus ∧
    (s.selectMode n mode man).meter = s.meter ∧ (s.selectMode n mode man).seam = s.seam ∧ (s.selectMode n mode
    man).casc = s.casc ∧ (s.selectMode n mode man).upd = s.upd ∧ (s.selectMode n mode man).boot = s.boot ∧
    (s.selectMode n mode man).bk = s.bk ∧ (s.selectMode n mode man).out = s.out ∧ (s.selectMode n mode man).freeCtr
    = s.freeCtr := by
  unfold State.selectMode; (repeat' split) <;> simp
@[simp] theorem State.loopRefused_frame (s : State) :
    (s.loopRefused).pending = s.pending ∧ (s.loopRefused).safety = s.safety ∧ (s.loopRefused).frame = s.frame ∧
    (s.loopRefused).host = s.host ∧ (s.loopRefused).time = s.time ∧ (s.loopRefused).keys = s.keys ∧
    (s.loopRefused).scan = s.scan ∧ (s.loopRefused).lio = s.lio ∧ (s.loopRefused).loop = s.loop ∧
    (s.loopRefused).disp = s.disp ∧ (s.loopRefused).bus = s.bus ∧ (s.loopRefused).meter = s.meter ∧
    (s.loopRefused).seam = s.seam ∧ (s.loopRefused).pair = s.pair ∧ (s.loopRefused).casc = s.casc ∧
    (s.loopRefused).upd = s.upd ∧ (s.loopRefused).boot = s.boot ∧ (s.loopRefused).bk = s.bk ∧ (s.loopRefused).out =
    s.out ∧ (s.loopRefused).freeCtr = s.freeCtr := by
  simp [State.loopRefused]
@[simp] theorem State.latchLoops_frame (s : State) :
    (s.latchLoops).pending = s.pending ∧ (s.latchLoops).reg = s.reg ∧ (s.latchLoops).safety = s.safety ∧
    (s.latchLoops).frame = s.frame ∧ (s.latchLoops).host = s.host ∧ (s.latchLoops).time = s.time ∧
    (s.latchLoops).keys = s.keys ∧ (s.latchLoops).scan = s.scan ∧ (s.latchLoops).lio = s.lio ∧ (s.latchLoops).disp =
    s.disp ∧ (s.latchLoops).bus = s.bus ∧ (s.latchLoops).meter = s.meter ∧ (s.latchLoops).seam = s.seam ∧
    (s.latchLoops).pair = s.pair ∧ (s.latchLoops).casc = s.casc ∧ (s.latchLoops).upd = s.upd ∧ (s.latchLoops).boot =
    s.boot ∧ (s.latchLoops).bk = s.bk ∧ (s.latchLoops).out = s.out ∧ (s.latchLoops).freeCtr = s.freeCtr := by
  simp [State.latchLoops]
@[simp] theorem State.loopRefuse_frame (s : State) (addr code : Nat) (value : Word) :
    (s.loopRefuse addr code value).pending = s.pending ∧ (s.loopRefuse addr code value).safety = s.safety ∧
    (s.loopRefuse addr code value).frame = s.frame ∧ (s.loopRefuse addr code value).host = s.host ∧ (s.loopRefuse
    addr code value).time = s.time ∧ (s.loopRefuse addr code value).keys = s.keys ∧ (s.loopRefuse addr code
    value).scan = s.scan ∧ (s.loopRefuse addr code value).lio = s.lio ∧ (s.loopRefuse addr code value).loop = s.loop
    ∧ (s.loopRefuse addr code value).disp = s.disp ∧ (s.loopRefuse addr code value).bus = s.bus ∧ (s.loopRefuse addr
    code value).meter = s.meter ∧ (s.loopRefuse addr code value).seam = s.seam ∧ (s.loopRefuse addr code value).pair
    = s.pair ∧ (s.loopRefuse addr code value).casc = s.casc ∧ (s.loopRefuse addr code value).upd = s.upd ∧
    (s.loopRefuse addr code value).boot = s.boot ∧ (s.loopRefuse addr code value).bk = s.bk ∧ (s.loopRefuse addr
    code value).freeCtr = s.freeCtr := by
  simp [State.loopRefuse]
@[simp] theorem State.loopWindow_frame (s : State) (addr : Nat) (value : Word) :
    (s.loopWindow addr value).pending = s.pending ∧ (s.loopWindow addr value).safety = s.safety ∧ (s.loopWindow addr
    value).frame = s.frame ∧ (s.loopWindow addr value).host = s.host ∧ (s.loopWindow addr value).time = s.time ∧
    (s.loopWindow addr value).keys = s.keys ∧ (s.loopWindow addr value).scan = s.scan ∧ (s.loopWindow addr
    value).lio = s.lio ∧ (s.loopWindow addr value).disp = s.disp ∧ (s.loopWindow addr value).bus = s.bus ∧
    (s.loopWindow addr value).meter = s.meter ∧ (s.loopWindow addr value).seam = s.seam ∧ (s.loopWindow addr
    value).casc = s.casc ∧ (s.loopWindow addr value).upd = s.upd ∧ (s.loopWindow addr value).boot = s.boot ∧
    (s.loopWindow addr value).bk = s.bk ∧ (s.loopWindow addr value).freeCtr = s.freeCtr := by
  simp [State.loopWindow]
@[simp] theorem State.runLoopReads_frame (s : State) :
    (s.runLoopReads).pending = s.pending ∧ (s.runLoopReads).safety = s.safety ∧ (s.runLoopReads).frame = s.frame ∧
    (s.runLoopReads).time = s.time ∧ (s.runLoopReads).keys = s.keys ∧ (s.runLoopReads).scan = s.scan ∧
    (s.runLoopReads).lio = s.lio ∧ (s.runLoopReads).disp = s.disp ∧ (s.runLoopReads).bus = s.bus ∧
    (s.runLoopReads).meter = s.meter ∧ (s.runLoopReads).seam = s.seam ∧ (s.runLoopReads).pair = s.pair ∧
    (s.runLoopReads).casc = s.casc ∧ (s.runLoopReads).upd = s.upd ∧ (s.runLoopReads).boot = s.boot ∧
    (s.runLoopReads).bk = s.bk := by
  simp [State.runLoopReads]
@[simp] theorem State.queueLoop_frame (s : State) (tag : Nat) (c : LoopChange) :
    (s.queueLoop tag c).pending = s.pending ∧ (s.queueLoop tag c).reg = s.reg ∧ (s.queueLoop tag c).safety =
    s.safety ∧ (s.queueLoop tag c).frame = s.frame ∧ (s.queueLoop tag c).time = s.time ∧ (s.queueLoop tag c).keys =
    s.keys ∧ (s.queueLoop tag c).scan = s.scan ∧ (s.queueLoop tag c).lio = s.lio ∧ (s.queueLoop tag c).disp = s.disp
    ∧ (s.queueLoop tag c).bus = s.bus ∧ (s.queueLoop tag c).meter = s.meter ∧ (s.queueLoop tag c).seam = s.seam ∧
    (s.queueLoop tag c).pair = s.pair ∧ (s.queueLoop tag c).casc = s.casc ∧ (s.queueLoop tag c).upd = s.upd ∧
    (s.queueLoop tag c).boot = s.boot ∧ (s.queueLoop tag c).bk = s.bk ∧ (s.queueLoop tag c).out = s.out ∧
    (s.queueLoop tag c).freeCtr = s.freeCtr := by
  simp [State.queueLoop]
@[simp] theorem State.loadLoops_frame (s : State) (bs : List Byte) :
    (s.loadLoops bs).pending = s.pending ∧ (s.loadLoops bs).safety = s.safety ∧ (s.loadLoops bs).frame = s.frame ∧
    (s.loadLoops bs).host = s.host ∧ (s.loadLoops bs).time = s.time ∧ (s.loadLoops bs).keys = s.keys ∧ (s.loadLoops
    bs).scan = s.scan ∧ (s.loadLoops bs).lio = s.lio ∧ (s.loadLoops bs).disp = s.disp ∧ (s.loadLoops bs).bus = s.bus
    ∧ (s.loadLoops bs).meter = s.meter ∧ (s.loadLoops bs).seam = s.seam ∧ (s.loadLoops bs).casc = s.casc ∧
    (s.loadLoops bs).upd = s.upd ∧ (s.loadLoops bs).boot = s.boot ∧ (s.loadLoops bs).bk = s.bk ∧ (s.loadLoops
    bs).out = s.out ∧ (s.loadLoops bs).freeCtr = s.freeCtr := by
  simp [State.loadLoops]
@[simp] theorem State.loopWarm_frame (s : State) :
    (s.loopWarm).pending = s.pending ∧ (s.loopWarm).safety = s.safety ∧ (s.loopWarm).frame = s.frame ∧
    (s.loopWarm).host = s.host ∧ (s.loopWarm).time = s.time ∧ (s.loopWarm).keys = s.keys ∧ (s.loopWarm).scan =
    s.scan ∧ (s.loopWarm).lio = s.lio ∧ (s.loopWarm).disp = s.disp ∧ (s.loopWarm).bus = s.bus ∧ (s.loopWarm).meter =
    s.meter ∧ (s.loopWarm).seam = s.seam ∧ (s.loopWarm).casc = s.casc ∧ (s.loopWarm).upd = s.upd ∧ (s.loopWarm).boot
    = s.boot ∧ (s.loopWarm).bk = s.bk ∧ (s.loopWarm).out = s.out ∧ (s.loopWarm).freeCtr = s.freeCtr := by
  simp [State.loopWarm]

end Sys2Proof.Machine
end

