-- ==== Sys2Proof/Laws/FramesTime.lean ====
section
/-!
SUPPORT. The frames of the shared operations of time, the field bus and dispatch: every field of State each leaves alone.
-/
namespace Sys2Proof.Machine

@[simp] theorem State.modBase_frame (s : State) (n : Nat) (f : TimeBase → TimeBase) :
    (s.modBase n f).pending = s.pending ∧ (s.modBase n f).reg = s.reg ∧ (s.modBase n f).safety = s.safety ∧
    (s.modBase n f).frame = s.frame ∧ (s.modBase n f).host = s.host ∧ (s.modBase n f).keys = s.keys ∧ (s.modBase n
    f).scan = s.scan ∧ (s.modBase n f).lio = s.lio ∧ (s.modBase n f).loop = s.loop ∧ (s.modBase n f).disp = s.disp ∧
    (s.modBase n f).bus = s.bus ∧ (s.modBase n f).meter = s.meter ∧ (s.modBase n f).seam = s.seam ∧ (s.modBase n
    f).pair = s.pair ∧ (s.modBase n f).casc = s.casc ∧ (s.modBase n f).upd = s.upd ∧ (s.modBase n f).boot = s.boot ∧
    (s.modBase n f).bk = s.bk ∧ (s.modBase n f).out = s.out ∧ (s.modBase n f).freeCtr = s.freeCtr := by
  simp [State.modBase]
@[simp] theorem State.timeRefresh_frame (s : State) :
    (s.timeRefresh).pending = s.pending ∧ (s.timeRefresh).safety = s.safety ∧ (s.timeRefresh).frame = s.frame ∧
    (s.timeRefresh).host = s.host ∧ (s.timeRefresh).time = s.time ∧ (s.timeRefresh).keys = s.keys ∧
    (s.timeRefresh).scan = s.scan ∧ (s.timeRefresh).lio = s.lio ∧ (s.timeRefresh).loop = s.loop ∧
    (s.timeRefresh).disp = s.disp ∧ (s.timeRefresh).bus = s.bus ∧ (s.timeRefresh).meter = s.meter ∧
    (s.timeRefresh).seam = s.seam ∧ (s.timeRefresh).pair = s.pair ∧ (s.timeRefresh).casc = s.casc ∧
    (s.timeRefresh).upd = s.upd ∧ (s.timeRefresh).boot = s.boot ∧ (s.timeRefresh).bk = s.bk ∧ (s.timeRefresh).out =
    s.out ∧ (s.timeRefresh).freeCtr = s.freeCtr := by
  simp [State.timeRefresh]
@[simp] theorem State.enterBase_frame (s : State) (n st : Nat) :
    (s.enterBase n st).pending = s.pending ∧ (s.enterBase n st).safety = s.safety ∧ (s.enterBase n st).frame =
    s.frame ∧ (s.enterBase n st).host = s.host ∧ (s.enterBase n st).keys = s.keys ∧ (s.enterBase n st).scan = s.scan
    ∧ (s.enterBase n st).lio = s.lio ∧ (s.enterBase n st).loop = s.loop ∧ (s.enterBase n st).disp = s.disp ∧
    (s.enterBase n st).bus = s.bus ∧ (s.enterBase n st).meter = s.meter ∧ (s.enterBase n st).seam = s.seam ∧
    (s.enterBase n st).pair = s.pair ∧ (s.enterBase n st).casc = s.casc ∧ (s.enterBase n st).upd = s.upd ∧
    (s.enterBase n st).boot = s.boot ∧ (s.enterBase n st).bk = s.bk ∧ (s.enterBase n st).freeCtr = s.freeCtr := by
  simp [State.enterBase]
@[simp] theorem State.startBase_frame (s : State) (n : Nat) :
    (s.startBase n).pending = s.pending ∧ (s.startBase n).safety = s.safety ∧ (s.startBase n).frame = s.frame ∧
    (s.startBase n).host = s.host ∧ (s.startBase n).keys = s.keys ∧ (s.startBase n).scan = s.scan ∧ (s.startBase
    n).lio = s.lio ∧ (s.startBase n).loop = s.loop ∧ (s.startBase n).disp = s.disp ∧ (s.startBase n).bus = s.bus ∧
    (s.startBase n).meter = s.meter ∧ (s.startBase n).seam = s.seam ∧ (s.startBase n).pair = s.pair ∧ (s.startBase
    n).casc = s.casc ∧ (s.startBase n).upd = s.upd ∧ (s.startBase n).boot = s.boot ∧ (s.startBase n).bk = s.bk ∧
    (s.startBase n).freeCtr = s.freeCtr := by
  unfold State.startBase; dsimp only; (repeat' split) <;> simp
@[simp] theorem State.servo_frame (s : State) (n : Nat) (y dt : Rat) :
    (s.servo n y dt).pending = s.pending ∧ (s.servo n y dt).safety = s.safety ∧ (s.servo n y dt).frame = s.frame ∧
    (s.servo n y dt).host = s.host ∧ (s.servo n y dt).keys = s.keys ∧ (s.servo n y dt).scan = s.scan ∧ (s.servo n y
    dt).lio = s.lio ∧ (s.servo n y dt).loop = s.loop ∧ (s.servo n y dt).disp = s.disp ∧ (s.servo n y dt).bus = s.bus
    ∧ (s.servo n y dt).meter = s.meter ∧ (s.servo n y dt).seam = s.seam ∧ (s.servo n y dt).pair = s.pair ∧ (s.servo
    n y dt).casc = s.casc ∧ (s.servo n y dt).upd = s.upd ∧ (s.servo n y dt).boot = s.boot ∧ (s.servo n y dt).bk =
    s.bk ∧ (s.servo n y dt).out = s.out ∧ (s.servo n y dt).freeCtr = s.freeCtr := by
  simp [State.servo]
@[simp] theorem State.sample_frame (s : State) (n : Nat) (y at_ : Rat) :
    (s.sample n y at_).pending = s.pending ∧ (s.sample n y at_).safety = s.safety ∧ (s.sample n y at_).frame =
    s.frame ∧ (s.sample n y at_).host = s.host ∧ (s.sample n y at_).keys = s.keys ∧ (s.sample n y at_).scan = s.scan
    ∧ (s.sample n y at_).lio = s.lio ∧ (s.sample n y at_).loop = s.loop ∧ (s.sample n y at_).disp = s.disp ∧
    (s.sample n y at_).bus = s.bus ∧ (s.sample n y at_).meter = s.meter ∧ (s.sample n y at_).seam = s.seam ∧
    (s.sample n y at_).pair = s.pair ∧ (s.sample n y at_).casc = s.casc ∧ (s.sample n y at_).upd = s.upd ∧ (s.sample
    n y at_).boot = s.boot ∧ (s.sample n y at_).bk = s.bk ∧ (s.sample n y at_).freeCtr = s.freeCtr := by
  simp [State.sample]
@[simp] theorem State.loseSource_frame (s : State) (n : Nat) :
    (s.loseSource n).pending = s.pending ∧ (s.loseSource n).safety = s.safety ∧ (s.loseSource n).frame = s.frame ∧
    (s.loseSource n).host = s.host ∧ (s.loseSource n).keys = s.keys ∧ (s.loseSource n).scan = s.scan ∧ (s.loseSource
    n).lio = s.lio ∧ (s.loseSource n).loop = s.loop ∧ (s.loseSource n).disp = s.disp ∧ (s.loseSource n).bus = s.bus
    ∧ (s.loseSource n).meter = s.meter ∧ (s.loseSource n).seam = s.seam ∧ (s.loseSource n).pair = s.pair ∧
    (s.loseSource n).casc = s.casc ∧ (s.loseSource n).upd = s.upd ∧ (s.loseSource n).boot = s.boot ∧ (s.loseSource
    n).bk = s.bk ∧ (s.loseSource n).freeCtr = s.freeCtr := by
  simp [State.loseSource]
@[simp] theorem State.applySelection_frame (s : State) :
    (s.applySelection).pending = s.pending ∧ (s.applySelection).safety = s.safety ∧ (s.applySelection).frame =
    s.frame ∧ (s.applySelection).host = s.host ∧ (s.applySelection).keys = s.keys ∧ (s.applySelection).scan = s.scan
    ∧ (s.applySelection).lio = s.lio ∧ (s.applySelection).loop = s.loop ∧ (s.applySelection).disp = s.disp ∧
    (s.applySelection).bus = s.bus ∧ (s.applySelection).meter = s.meter ∧ (s.applySelection).seam = s.seam ∧
    (s.applySelection).pair = s.pair ∧ (s.applySelection).casc = s.casc ∧ (s.applySelection).upd = s.upd ∧
    (s.applySelection).boot = s.boot ∧ (s.applySelection).bk = s.bk ∧ (s.applySelection).freeCtr = s.freeCtr := by
  unfold State.applySelection; (repeat' split) <;> simp
@[simp] theorem State.setDevice_frame (s : State) (t : Rat) :
    (s.setDevice t).pending = s.pending ∧ (s.setDevice t).reg = s.reg ∧ (s.setDevice t).safety = s.safety ∧
    (s.setDevice t).frame = s.frame ∧ (s.setDevice t).host = s.host ∧ (s.setDevice t).keys = s.keys ∧ (s.setDevice
    t).scan = s.scan ∧ (s.setDevice t).lio = s.lio ∧ (s.setDevice t).loop = s.loop ∧ (s.setDevice t).disp = s.disp ∧
    (s.setDevice t).bus = s.bus ∧ (s.setDevice t).meter = s.meter ∧ (s.setDevice t).seam = s.seam ∧ (s.setDevice
    t).pair = s.pair ∧ (s.setDevice t).casc = s.casc ∧ (s.setDevice t).upd = s.upd ∧ (s.setDevice t).boot = s.boot ∧
    (s.setDevice t).bk = s.bk ∧ (s.setDevice t).out = s.out ∧ (s.setDevice t).freeCtr = s.freeCtr := by
  simp [State.setDevice]
@[simp] theorem State.steer_frame (s : State) (stoppedBefore : Bool) :
    (s.steer stoppedBefore).pending = s.pending ∧ (s.steer stoppedBefore).safety = s.safety ∧ (s.steer
    stoppedBefore).frame = s.frame ∧ (s.steer stoppedBefore).host = s.host ∧ (s.steer stoppedBefore).keys = s.keys ∧
    (s.steer stoppedBefore).scan = s.scan ∧ (s.steer stoppedBefore).lio = s.lio ∧ (s.steer stoppedBefore).loop =
    s.loop ∧ (s.steer stoppedBefore).disp = s.disp ∧ (s.steer stoppedBefore).bus = s.bus ∧ (s.steer
    stoppedBefore).meter = s.meter ∧ (s.steer stoppedBefore).seam = s.seam ∧ (s.steer stoppedBefore).pair = s.pair ∧
    (s.steer stoppedBefore).casc = s.casc ∧ (s.steer stoppedBefore).upd = s.upd ∧ (s.steer stoppedBefore).boot =
    s.boot ∧ (s.steer stoppedBefore).bk = s.bk ∧ (s.steer stoppedBefore).freeCtr = s.freeCtr := by
  unfold State.steer; (repeat' split) <;> simp
@[simp] theorem State.applyRole_frame (s : State) :
    (s.applyRole).pending = s.pending ∧ (s.applyRole).safety = s.safety ∧ (s.applyRole).frame = s.frame ∧
    (s.applyRole).host = s.host ∧ (s.applyRole).keys = s.keys ∧ (s.applyRole).scan = s.scan ∧ (s.applyRole).lio =
    s.lio ∧ (s.applyRole).loop = s.loop ∧ (s.applyRole).disp = s.disp ∧ (s.applyRole).bus = s.bus ∧
    (s.applyRole).meter = s.meter ∧ (s.applyRole).seam = s.seam ∧ (s.applyRole).pair = s.pair ∧ (s.applyRole).casc =
    s.casc ∧ (s.applyRole).upd = s.upd ∧ (s.applyRole).boot = s.boot ∧ (s.applyRole).bk = s.bk ∧
    (s.applyRole).freeCtr = s.freeCtr := by
  unfold State.applyRole; (repeat' split) <;> simp
@[simp] theorem State.modPort_frame (s : State) (base port : Nat) (f : PtpPort → PtpPort) :
    (s.modPort base port f).pending = s.pending ∧ (s.modPort base port f).reg = s.reg ∧ (s.modPort base port
    f).safety = s.safety ∧ (s.modPort base port f).frame = s.frame ∧ (s.modPort base port f).host = s.host ∧
    (s.modPort base port f).keys = s.keys ∧ (s.modPort base port f).scan = s.scan ∧ (s.modPort base port f).lio =
    s.lio ∧ (s.modPort base port f).loop = s.loop ∧ (s.modPort base port f).disp = s.disp ∧ (s.modPort base port
    f).bus = s.bus ∧ (s.modPort base port f).meter = s.meter ∧ (s.modPort base port f).seam = s.seam ∧ (s.modPort
    base port f).pair = s.pair ∧ (s.modPort base port f).casc = s.casc ∧ (s.modPort base port f).upd = s.upd ∧
    (s.modPort base port f).boot = s.boot ∧ (s.modPort base port f).bk = s.bk ∧ (s.modPort base port f).out = s.out
    ∧ (s.modPort base port f).freeCtr = s.freeCtr := by
  simp [State.modPort]
@[simp] theorem State.ptpSend_frame (s : State) (base port : Nat) (kind : String) (event : Bool) (seq : Nat) (ns
    corr : Rat) :
    (s.ptpSend base port kind event seq ns corr).pending = s.pending ∧ (s.ptpSend base port kind event seq ns
    corr).safety = s.safety ∧ (s.ptpSend base port kind event seq ns corr).frame = s.frame ∧ (s.ptpSend base port
    kind event seq ns corr).host = s.host ∧ (s.ptpSend base port kind event seq ns corr).time = s.time ∧ (s.ptpSend
    base port kind event seq ns corr).keys = s.keys ∧ (s.ptpSend base port kind event seq ns corr).scan = s.scan ∧
    (s.ptpSend base port kind event seq ns corr).lio = s.lio ∧ (s.ptpSend base port kind event seq ns corr).loop =
    s.loop ∧ (s.ptpSend base port kind event seq ns corr).disp = s.disp ∧ (s.ptpSend base port kind event seq ns
    corr).bus = s.bus ∧ (s.ptpSend base port kind event seq ns corr).meter = s.meter ∧ (s.ptpSend base port kind
    event seq ns corr).seam = s.seam ∧ (s.ptpSend base port kind event seq ns corr).pair = s.pair ∧ (s.ptpSend base
    port kind event seq ns corr).casc = s.casc ∧ (s.ptpSend base port kind event seq ns corr).upd = s.upd ∧
    (s.ptpSend base port kind event seq ns corr).boot = s.boot ∧ (s.ptpSend base port kind event seq ns corr).bk =
    s.bk ∧ (s.ptpSend base port kind event seq ns corr).freeCtr = s.freeCtr := by
  simp [State.ptpSend]
@[simp] theorem State.ptpStamp_frame (s : State) (port : Nat) :
    (s.ptpStamp port).pending = s.pending ∧ (s.ptpStamp port).safety = s.safety ∧ (s.ptpStamp port).frame = s.frame
    ∧ (s.ptpStamp port).host = s.host ∧ (s.ptpStamp port).time = s.time ∧ (s.ptpStamp port).keys = s.keys ∧
    (s.ptpStamp port).scan = s.scan ∧ (s.ptpStamp port).lio = s.lio ∧ (s.ptpStamp port).loop = s.loop ∧ (s.ptpStamp
    port).disp = s.disp ∧ (s.ptpStamp port).bus = s.bus ∧ (s.ptpStamp port).meter = s.meter ∧ (s.ptpStamp port).seam
    = s.seam ∧ (s.ptpStamp port).pair = s.pair ∧ (s.ptpStamp port).casc = s.casc ∧ (s.ptpStamp port).upd = s.upd ∧
    (s.ptpStamp port).boot = s.boot ∧ (s.ptpStamp port).bk = s.bk ∧ (s.ptpStamp port).out = s.out ∧ (s.ptpStamp
    port).freeCtr = s.freeCtr := by
  simp [State.ptpStamp]
@[simp] theorem State.ptpOffset_frame (s : State) (base port : Nat) (t1 t2 corr : Rat) :
    (s.ptpOffset base port t1 t2 corr).pending = s.pending ∧ (s.ptpOffset base port t1 t2 corr).safety = s.safety ∧
    (s.ptpOffset base port t1 t2 corr).frame = s.frame ∧ (s.ptpOffset base port t1 t2 corr).host = s.host ∧
    (s.ptpOffset base port t1 t2 corr).keys = s.keys ∧ (s.ptpOffset base port t1 t2 corr).scan = s.scan ∧
    (s.ptpOffset base port t1 t2 corr).lio = s.lio ∧ (s.ptpOffset base port t1 t2 corr).loop = s.loop ∧ (s.ptpOffset
    base port t1 t2 corr).disp = s.disp ∧ (s.ptpOffset base port t1 t2 corr).bus = s.bus ∧ (s.ptpOffset base port t1
    t2 corr).meter = s.meter ∧ (s.ptpOffset base port t1 t2 corr).seam = s.seam ∧ (s.ptpOffset base port t1 t2
    corr).pair = s.pair ∧ (s.ptpOffset base port t1 t2 corr).casc = s.casc ∧ (s.ptpOffset base port t1 t2 corr).upd
    = s.upd ∧ (s.ptpOffset base port t1 t2 corr).boot = s.boot ∧ (s.ptpOffset base port t1 t2 corr).bk = s.bk ∧
    (s.ptpOffset base port t1 t2 corr).freeCtr = s.freeCtr := by
  simp [State.ptpOffset]
@[simp] theorem State.ptpDecide_frame (s : State) (base : Nat) :
    (s.ptpDecide base).pending = s.pending ∧ (s.ptpDecide base).safety = s.safety ∧ (s.ptpDecide base).frame =
    s.frame ∧ (s.ptpDecide base).host = s.host ∧ (s.ptpDecide base).keys = s.keys ∧ (s.ptpDecide base).scan = s.scan
    ∧ (s.ptpDecide base).lio = s.lio ∧ (s.ptpDecide base).loop = s.loop ∧ (s.ptpDecide base).disp = s.disp ∧
    (s.ptpDecide base).bus = s.bus ∧ (s.ptpDecide base).meter = s.meter ∧ (s.ptpDecide base).seam = s.seam ∧
    (s.ptpDecide base).pair = s.pair ∧ (s.ptpDecide base).casc = s.casc ∧ (s.ptpDecide base).upd = s.upd ∧
    (s.ptpDecide base).boot = s.boot ∧ (s.ptpDecide base).bk = s.bk ∧ (s.ptpDecide base).out = s.out ∧ (s.ptpDecide
    base).freeCtr = s.freeCtr := by
  simp [State.ptpDecide]
@[simp] theorem State.setUtc_frame (s : State) (ofs : Int) (valid leap61 leap59 : Bool) :
    (s.setUtc ofs valid leap61 leap59).pending = s.pending ∧ (s.setUtc ofs valid leap61 leap59).safety = s.safety ∧
    (s.setUtc ofs valid leap61 leap59).frame = s.frame ∧ (s.setUtc ofs valid leap61 leap59).host = s.host ∧
    (s.setUtc ofs valid leap61 leap59).time = s.time ∧ (s.setUtc ofs valid leap61 leap59).keys = s.keys ∧ (s.setUtc
    ofs valid leap61 leap59).scan = s.scan ∧ (s.setUtc ofs valid leap61 leap59).lio = s.lio ∧ (s.setUtc ofs valid
    leap61 leap59).loop = s.loop ∧ (s.setUtc ofs valid leap61 leap59).disp = s.disp ∧ (s.setUtc ofs valid leap61
    leap59).bus = s.bus ∧ (s.setUtc ofs valid leap61 leap59).meter = s.meter ∧ (s.setUtc ofs valid leap61
    leap59).seam = s.seam ∧ (s.setUtc ofs valid leap61 leap59).pair = s.pair ∧ (s.setUtc ofs valid leap61
    leap59).casc = s.casc ∧ (s.setUtc ofs valid leap61 leap59).upd = s.upd ∧ (s.setUtc ofs valid leap61 leap59).boot
    = s.boot ∧ (s.setUtc ofs valid leap61 leap59).bk = s.bk ∧ (s.setUtc ofs valid leap61 leap59).freeCtr = s.freeCtr := by
  simp [State.setUtc]
@[simp] theorem State.peerDelay_frame (s : State) (base port : Nat) (t1 t2 t3 t4 corr : Rat) :
    (s.peerDelay base port t1 t2 t3 t4 corr).pending = s.pending ∧ (s.peerDelay base port t1 t2 t3 t4 corr).safety =
    s.safety ∧ (s.peerDelay base port t1 t2 t3 t4 corr).frame = s.frame ∧ (s.peerDelay base port t1 t2 t3 t4
    corr).host = s.host ∧ (s.peerDelay base port t1 t2 t3 t4 corr).keys = s.keys ∧ (s.peerDelay base port t1 t2 t3
    t4 corr).scan = s.scan ∧ (s.peerDelay base port t1 t2 t3 t4 corr).lio = s.lio ∧ (s.peerDelay base port t1 t2 t3
    t4 corr).loop = s.loop ∧ (s.peerDelay base port t1 t2 t3 t4 corr).disp = s.disp ∧ (s.peerDelay base port t1 t2
    t3 t4 corr).bus = s.bus ∧ (s.peerDelay base port t1 t2 t3 t4 corr).meter = s.meter ∧ (s.peerDelay base port t1
    t2 t3 t4 corr).seam = s.seam ∧ (s.peerDelay base port t1 t2 t3 t4 corr).pair = s.pair ∧ (s.peerDelay base port
    t1 t2 t3 t4 corr).casc = s.casc ∧ (s.peerDelay base port t1 t2 t3 t4 corr).upd = s.upd ∧ (s.peerDelay base port
    t1 t2 t3 t4 corr).boot = s.boot ∧ (s.peerDelay base port t1 t2 t3 t4 corr).bk = s.bk ∧ (s.peerDelay base port t1
    t2 t3 t4 corr).out = s.out ∧ (s.peerDelay base port t1 t2 t3 t4 corr).freeCtr = s.freeCtr := by
  simp [State.peerDelay]
@[simp] theorem State.timingWord_frame (s : State) (t1 t2 t3 t4 : Rat) :
    (s.timingWord t1 t2 t3 t4).pending = s.pending ∧ (s.timingWord t1 t2 t3 t4).safety = s.safety ∧ (s.timingWord t1
    t2 t3 t4).frame = s.frame ∧ (s.timingWord t1 t2 t3 t4).host = s.host ∧ (s.timingWord t1 t2 t3 t4).keys = s.keys
    ∧ (s.timingWord t1 t2 t3 t4).scan = s.scan ∧ (s.timingWord t1 t2 t3 t4).lio = s.lio ∧ (s.timingWord t1 t2 t3
    t4).loop = s.loop ∧ (s.timingWord t1 t2 t3 t4).disp = s.disp ∧ (s.timingWord t1 t2 t3 t4).bus = s.bus ∧
    (s.timingWord t1 t2 t3 t4).meter = s.meter ∧ (s.timingWord t1 t2 t3 t4).seam = s.seam ∧ (s.timingWord t1 t2 t3
    t4).pair = s.pair ∧ (s.timingWord t1 t2 t3 t4).casc = s.casc ∧ (s.timingWord t1 t2 t3 t4).upd = s.upd ∧
    (s.timingWord t1 t2 t3 t4).boot = s.boot ∧ (s.timingWord t1 t2 t3 t4).bk = s.bk ∧ (s.timingWord t1 t2 t3
    t4).freeCtr = s.freeCtr := by
  unfold State.timingWord; (repeat' split) <;> simp
@[simp] theorem State.followValues_frame (s : State) (values : List (Nat × Int)) :
    (s.followValues values).pending = s.pending ∧ (s.followValues values).reg = s.reg ∧ (s.followValues
    values).safety = s.safety ∧ (s.followValues values).frame = s.frame ∧ (s.followValues values).host = s.host ∧
    (s.followValues values).keys = s.keys ∧ (s.followValues values).scan = s.scan ∧ (s.followValues values).lio =
    s.lio ∧ (s.followValues values).loop = s.loop ∧ (s.followValues values).disp = s.disp ∧ (s.followValues
    values).bus = s.bus ∧ (s.followValues values).meter = s.meter ∧ (s.followValues values).seam = s.seam ∧
    (s.followValues values).pair = s.pair ∧ (s.followValues values).casc = s.casc ∧ (s.followValues values).upd =
    s.upd ∧ (s.followValues values).boot = s.boot ∧ (s.followValues values).bk = s.bk ∧ (s.followValues values).out
    = s.out ∧ (s.followValues values).freeCtr = s.freeCtr := by
  simp [State.followValues]
@[simp] theorem State.tbCfgSet_frame (s : State) (n : Nat) (v : Word) :
    (s.tbCfgSet n v).pending = s.pending ∧ (s.tbCfgSet n v).safety = s.safety ∧ (s.tbCfgSet n v).frame = s.frame ∧
    (s.tbCfgSet n v).host = s.host ∧ (s.tbCfgSet n v).keys = s.keys ∧ (s.tbCfgSet n v).scan = s.scan ∧ (s.tbCfgSet n
    v).lio = s.lio ∧ (s.tbCfgSet n v).loop = s.loop ∧ (s.tbCfgSet n v).disp = s.disp ∧ (s.tbCfgSet n v).bus = s.bus
    ∧ (s.tbCfgSet n v).meter = s.meter ∧ (s.tbCfgSet n v).seam = s.seam ∧ (s.tbCfgSet n v).pair = s.pair ∧
    (s.tbCfgSet n v).casc = s.casc ∧ (s.tbCfgSet n v).upd = s.upd ∧ (s.tbCfgSet n v).boot = s.boot ∧ (s.tbCfgSet n
    v).bk = s.bk ∧ (s.tbCfgSet n v).freeCtr = s.freeCtr := by
  simp [State.tbCfgSet]
@[simp] theorem State.rtcCfgSet_frame (s : State) (v : Word) :
    (s.rtcCfgSet v).pending = s.pending ∧ (s.rtcCfgSet v).safety = s.safety ∧ (s.rtcCfgSet v).frame = s.frame ∧
    (s.rtcCfgSet v).host = s.host ∧ (s.rtcCfgSet v).keys = s.keys ∧ (s.rtcCfgSet v).scan = s.scan ∧ (s.rtcCfgSet
    v).lio = s.lio ∧ (s.rtcCfgSet v).loop = s.loop ∧ (s.rtcCfgSet v).disp = s.disp ∧ (s.rtcCfgSet v).bus = s.bus ∧
    (s.rtcCfgSet v).meter = s.meter ∧ (s.rtcCfgSet v).seam = s.seam ∧ (s.rtcCfgSet v).pair = s.pair ∧ (s.rtcCfgSet
    v).casc = s.casc ∧ (s.rtcCfgSet v).upd = s.upd ∧ (s.rtcCfgSet v).boot = s.boot ∧ (s.rtcCfgSet v).bk = s.bk ∧
    (s.rtcCfgSet v).out = s.out ∧ (s.rtcCfgSet v).freeCtr = s.freeCtr := by
  simp [State.rtcCfgSet]
@[simp] theorem State.modTally_frame (s : State) (f : Mem → Mem) :
    (s.modTally f).pending = s.pending ∧ (s.modTally f).reg = s.reg ∧ (s.modTally f).safety = s.safety ∧ (s.modTally
    f).frame = s.frame ∧ (s.modTally f).host = s.host ∧ (s.modTally f).time = s.time ∧ (s.modTally f).keys = s.keys
    ∧ (s.modTally f).scan = s.scan ∧ (s.modTally f).lio = s.lio ∧ (s.modTally f).loop = s.loop ∧ (s.modTally f).disp
    = s.disp ∧ (s.modTally f).meter = s.meter ∧ (s.modTally f).seam = s.seam ∧ (s.modTally f).pair = s.pair ∧
    (s.modTally f).casc = s.casc ∧ (s.modTally f).upd = s.upd ∧ (s.modTally f).boot = s.boot ∧ (s.modTally f).bk =
    s.bk ∧ (s.modTally f).out = s.out ∧ (s.modTally f).freeCtr = s.freeCtr := by
  simp [State.modTally]
@[simp] theorem State.setTw_frame (s : State) (e o : Nat) (w : Word) :
    (s.setTw e o w).pending = s.pending ∧ (s.setTw e o w).reg = s.reg ∧ (s.setTw e o w).safety = s.safety ∧ (s.setTw
    e o w).frame = s.frame ∧ (s.setTw e o w).host = s.host ∧ (s.setTw e o w).time = s.time ∧ (s.setTw e o w).keys =
    s.keys ∧ (s.setTw e o w).scan = s.scan ∧ (s.setTw e o w).lio = s.lio ∧ (s.setTw e o w).loop = s.loop ∧ (s.setTw
    e o w).disp = s.disp ∧ (s.setTw e o w).meter = s.meter ∧ (s.setTw e o w).seam = s.seam ∧ (s.setTw e o w).pair =
    s.pair ∧ (s.setTw e o w).casc = s.casc ∧ (s.setTw e o w).upd = s.upd ∧ (s.setTw e o w).boot = s.boot ∧ (s.setTw
    e o w).bk = s.bk ∧ (s.setTw e o w).out = s.out ∧ (s.setTw e o w).freeCtr = s.freeCtr := by
  simp [State.setTw]
@[simp] theorem State.setTf_frame (s : State) (e o hi lo x : Nat) :
    (s.setTf e o hi lo x).pending = s.pending ∧ (s.setTf e o hi lo x).reg = s.reg ∧ (s.setTf e o hi lo x).safety =
    s.safety ∧ (s.setTf e o hi lo x).frame = s.frame ∧ (s.setTf e o hi lo x).host = s.host ∧ (s.setTf e o hi lo
    x).time = s.time ∧ (s.setTf e o hi lo x).keys = s.keys ∧ (s.setTf e o hi lo x).scan = s.scan ∧ (s.setTf e o hi
    lo x).lio = s.lio ∧ (s.setTf e o hi lo x).loop = s.loop ∧ (s.setTf e o hi lo x).disp = s.disp ∧ (s.setTf e o hi
    lo x).meter = s.meter ∧ (s.setTf e o hi lo x).seam = s.seam ∧ (s.setTf e o hi lo x).pair = s.pair ∧ (s.setTf e o
    hi lo x).casc = s.casc ∧ (s.setTf e o hi lo x).upd = s.upd ∧ (s.setTf e o hi lo x).boot = s.boot ∧ (s.setTf e o
    hi lo x).bk = s.bk ∧ (s.setTf e o hi lo x).out = s.out ∧ (s.setTf e o hi lo x).freeCtr = s.freeCtr := by
  simp [State.setTf]
@[simp] theorem State.putTbytes_frame (s : State) (e o : Nat) (bs : List Byte) :
    (s.putTbytes e o bs).pending = s.pending ∧ (s.putTbytes e o bs).reg = s.reg ∧ (s.putTbytes e o bs).safety =
    s.safety ∧ (s.putTbytes e o bs).frame = s.frame ∧ (s.putTbytes e o bs).host = s.host ∧ (s.putTbytes e o bs).time
    = s.time ∧ (s.putTbytes e o bs).keys = s.keys ∧ (s.putTbytes e o bs).scan = s.scan ∧ (s.putTbytes e o bs).lio =
    s.lio ∧ (s.putTbytes e o bs).loop = s.loop ∧ (s.putTbytes e o bs).disp = s.disp ∧ (s.putTbytes e o bs).meter =
    s.meter ∧ (s.putTbytes e o bs).seam = s.seam ∧ (s.putTbytes e o bs).pair = s.pair ∧ (s.putTbytes e o bs).casc =
    s.casc ∧ (s.putTbytes e o bs).upd = s.upd ∧ (s.putTbytes e o bs).boot = s.boot ∧ (s.putTbytes e o bs).bk = s.bk
    ∧ (s.putTbytes e o bs).out = s.out ∧ (s.putTbytes e o bs).freeCtr = s.freeCtr := by
  simp [State.putTbytes]
@[simp] theorem State.modChan_frame (s : State) (ch : Nat) (f : BusChan → BusChan) :
    (s.modChan ch f).pending = s.pending ∧ (s.modChan ch f).reg = s.reg ∧ (s.modChan ch f).safety = s.safety ∧
    (s.modChan ch f).frame = s.frame ∧ (s.modChan ch f).host = s.host ∧ (s.modChan ch f).time = s.time ∧ (s.modChan
    ch f).keys = s.keys ∧ (s.modChan ch f).scan = s.scan ∧ (s.modChan ch f).lio = s.lio ∧ (s.modChan ch f).loop =
    s.loop ∧ (s.modChan ch f).disp = s.disp ∧ (s.modChan ch f).meter = s.meter ∧ (s.modChan ch f).seam = s.seam ∧
    (s.modChan ch f).pair = s.pair ∧ (s.modChan ch f).casc = s.casc ∧ (s.modChan ch f).upd = s.upd ∧ (s.modChan ch
    f).boot = s.boot ∧ (s.modChan ch f).bk = s.bk ∧ (s.modChan ch f).out = s.out ∧ (s.modChan ch f).freeCtr =
    s.freeCtr := by
  simp [State.modChan]
@[simp] theorem State.setCh_frame (s : State) (ch st : Nat) :
    (s.setCh ch st).pending = s.pending ∧ (s.setCh ch st).safety = s.safety ∧ (s.setCh ch st).frame = s.frame ∧
    (s.setCh ch st).host = s.host ∧ (s.setCh ch st).time = s.time ∧ (s.setCh ch st).keys = s.keys ∧ (s.setCh ch
    st).scan = s.scan ∧ (s.setCh ch st).lio = s.lio ∧ (s.setCh ch st).loop = s.loop ∧ (s.setCh ch st).disp = s.disp
    ∧ (s.setCh ch st).bus = s.bus ∧ (s.setCh ch st).meter = s.meter ∧ (s.setCh ch st).seam = s.seam ∧ (s.setCh ch
    st).pair = s.pair ∧ (s.setCh ch st).casc = s.casc ∧ (s.setCh ch st).upd = s.upd ∧ (s.setCh ch st).boot = s.boot
    ∧ (s.setCh ch st).bk = s.bk ∧ (s.setCh ch st).out = s.out ∧ (s.setCh ch st).freeCtr = s.freeCtr := by
  simp [State.setCh]
@[simp] theorem State.loadTally_frame (s : State) (cfg : List Byte) :
    (s.loadTally cfg).pending = s.pending ∧ (s.loadTally cfg).safety = s.safety ∧ (s.loadTally cfg).frame = s.frame
    ∧ (s.loadTally cfg).host = s.host ∧ (s.loadTally cfg).time = s.time ∧ (s.loadTally cfg).keys = s.keys ∧
    (s.loadTally cfg).scan = s.scan ∧ (s.loadTally cfg).lio = s.lio ∧ (s.loadTally cfg).loop = s.loop ∧ (s.loadTally
    cfg).disp = s.disp ∧ (s.loadTally cfg).meter = s.meter ∧ (s.loadTally cfg).seam = s.seam ∧ (s.loadTally
    cfg).pair = s.pair ∧ (s.loadTally cfg).casc = s.casc ∧ (s.loadTally cfg).upd = s.upd ∧ (s.loadTally cfg).boot =
    s.boot ∧ (s.loadTally cfg).bk = s.bk ∧ (s.loadTally cfg).out = s.out ∧ (s.loadTally cfg).freeCtr = s.freeCtr := by
  simp [State.loadTally]
@[simp] theorem State.markNew_frame (s : State) (e : Nat) :
    (s.markNew e).pending = s.pending ∧ (s.markNew e).safety = s.safety ∧ (s.markNew e).frame = s.frame ∧ (s.markNew
    e).host = s.host ∧ (s.markNew e).time = s.time ∧ (s.markNew e).keys = s.keys ∧ (s.markNew e).scan = s.scan ∧
    (s.markNew e).lio = s.lio ∧ (s.markNew e).loop = s.loop ∧ (s.markNew e).disp = s.disp ∧ (s.markNew e).meter =
    s.meter ∧ (s.markNew e).seam = s.seam ∧ (s.markNew e).pair = s.pair ∧ (s.markNew e).casc = s.casc ∧ (s.markNew
    e).upd = s.upd ∧ (s.markNew e).boot = s.boot ∧ (s.markNew e).bk = s.bk ∧ (s.markNew e).freeCtr = s.freeCtr := by
  simp [State.markNew]
@[simp] theorem State.receive_frame (s : State) (e : Nat) (f : BusFrame) (sofNs : Nat) :
    (s.receive e f sofNs).pending = s.pending ∧ (s.receive e f sofNs).safety = s.safety ∧ (s.receive e f
    sofNs).frame = s.frame ∧ (s.receive e f sofNs).host = s.host ∧ (s.receive e f sofNs).time = s.time ∧ (s.receive
    e f sofNs).keys = s.keys ∧ (s.receive e f sofNs).scan = s.scan ∧ (s.receive e f sofNs).lio = s.lio ∧ (s.receive
    e f sofNs).loop = s.loop ∧ (s.receive e f sofNs).disp = s.disp ∧ (s.receive e f sofNs).meter = s.meter ∧
    (s.receive e f sofNs).seam = s.seam ∧ (s.receive e f sofNs).pair = s.pair ∧ (s.receive e f sofNs).casc = s.casc
    ∧ (s.receive e f sofNs).upd = s.upd ∧ (s.receive e f sofNs).boot = s.boot ∧ (s.receive e f sofNs).bk = s.bk ∧
    (s.receive e f sofNs).freeCtr = s.freeCtr := by
  simp [State.receive]
@[simp] theorem State.takeShadow_frame (s : State) (e : Nat) :
    (s.takeShadow e).pending = s.pending ∧ (s.takeShadow e).safety = s.safety ∧ (s.takeShadow e).frame = s.frame ∧
    (s.takeShadow e).host = s.host ∧ (s.takeShadow e).time = s.time ∧ (s.takeShadow e).keys = s.keys ∧ (s.takeShadow
    e).scan = s.scan ∧ (s.takeShadow e).lio = s.lio ∧ (s.takeShadow e).loop = s.loop ∧ (s.takeShadow e).disp =
    s.disp ∧ (s.takeShadow e).meter = s.meter ∧ (s.takeShadow e).seam = s.seam ∧ (s.takeShadow e).pair = s.pair ∧
    (s.takeShadow e).casc = s.casc ∧ (s.takeShadow e).upd = s.upd ∧ (s.takeShadow e).boot = s.boot ∧ (s.takeShadow
    e).bk = s.bk ∧ (s.takeShadow e).freeCtr = s.freeCtr := by
  simp [State.takeShadow]
@[simp] theorem State.catchFrame_frame (s : State) (ch : Nat) (f : BusFrame) (sofNs : Nat) (formatDrop : Bool) :
    (s.catchFrame ch f sofNs formatDrop).pending = s.pending ∧ (s.catchFrame ch f sofNs formatDrop).safety =
    s.safety ∧ (s.catchFrame ch f sofNs formatDrop).frame = s.frame ∧ (s.catchFrame ch f sofNs formatDrop).host =
    s.host ∧ (s.catchFrame ch f sofNs formatDrop).time = s.time ∧ (s.catchFrame ch f sofNs formatDrop).keys = s.keys
    ∧ (s.catchFrame ch f sofNs formatDrop).scan = s.scan ∧ (s.catchFrame ch f sofNs formatDrop).lio = s.lio ∧
    (s.catchFrame ch f sofNs formatDrop).loop = s.loop ∧ (s.catchFrame ch f sofNs formatDrop).disp = s.disp ∧
    (s.catchFrame ch f sofNs formatDrop).meter = s.meter ∧ (s.catchFrame ch f sofNs formatDrop).seam = s.seam ∧
    (s.catchFrame ch f sofNs formatDrop).pair = s.pair ∧ (s.catchFrame ch f sofNs formatDrop).casc = s.casc ∧
    (s.catchFrame ch f sofNs formatDrop).upd = s.upd ∧ (s.catchFrame ch f sofNs formatDrop).boot = s.boot ∧
    (s.catchFrame ch f sofNs formatDrop).bk = s.bk ∧ (s.catchFrame ch f sofNs formatDrop).freeCtr = s.freeCtr := by
  simp [State.catchFrame]
@[simp] theorem State.dropEntry_frame (s : State) (e : Nat) :
    (s.dropEntry e).pending = s.pending ∧ (s.dropEntry e).reg = s.reg ∧ (s.dropEntry e).safety = s.safety ∧
    (s.dropEntry e).frame = s.frame ∧ (s.dropEntry e).host = s.host ∧ (s.dropEntry e).time = s.time ∧ (s.dropEntry
    e).keys = s.keys ∧ (s.dropEntry e).scan = s.scan ∧ (s.dropEntry e).lio = s.lio ∧ (s.dropEntry e).loop = s.loop ∧
    (s.dropEntry e).disp = s.disp ∧ (s.dropEntry e).meter = s.meter ∧ (s.dropEntry e).seam = s.seam ∧ (s.dropEntry
    e).pair = s.pair ∧ (s.dropEntry e).casc = s.casc ∧ (s.dropEntry e).upd = s.upd ∧ (s.dropEntry e).boot = s.boot ∧
    (s.dropEntry e).bk = s.bk ∧ (s.dropEntry e).out = s.out ∧ (s.dropEntry e).freeCtr = s.freeCtr := by
  simp [State.dropEntry]
@[simp] theorem State.entrySent_frame (s : State) (e sofNs : Nat) (f : TxFrame) :
    (s.entrySent e sofNs f).pending = s.pending ∧ (s.entrySent e sofNs f).reg = s.reg ∧ (s.entrySent e sofNs
    f).safety = s.safety ∧ (s.entrySent e sofNs f).frame = s.frame ∧ (s.entrySent e sofNs f).host = s.host ∧
    (s.entrySent e sofNs f).time = s.time ∧ (s.entrySent e sofNs f).keys = s.keys ∧ (s.entrySent e sofNs f).scan =
    s.scan ∧ (s.entrySent e sofNs f).lio = s.lio ∧ (s.entrySent e sofNs f).loop = s.loop ∧ (s.entrySent e sofNs
    f).disp = s.disp ∧ (s.entrySent e sofNs f).meter = s.meter ∧ (s.entrySent e sofNs f).seam = s.seam ∧
    (s.entrySent e sofNs f).pair = s.pair ∧ (s.entrySent e sofNs f).casc = s.casc ∧ (s.entrySent e sofNs f).upd =
    s.upd ∧ (s.entrySent e sofNs f).boot = s.boot ∧ (s.entrySent e sofNs f).bk = s.bk ∧ (s.entrySent e sofNs f).out
    = s.out ∧ (s.entrySent e sofNs f).freeCtr = s.freeCtr := by
  simp [State.entrySent]
@[simp] theorem State.abandonFrame_frame (s : State) (ch : Nat) (f : TxFrame) (cause : Nat) :
    (s.abandonFrame ch f cause).pending = s.pending ∧ (s.abandonFrame ch f cause).safety = s.safety ∧
    (s.abandonFrame ch f cause).frame = s.frame ∧ (s.abandonFrame ch f cause).host = s.host ∧ (s.abandonFrame ch f
    cause).time = s.time ∧ (s.abandonFrame ch f cause).keys = s.keys ∧ (s.abandonFrame ch f cause).scan = s.scan ∧
    (s.abandonFrame ch f cause).lio = s.lio ∧ (s.abandonFrame ch f cause).loop = s.loop ∧ (s.abandonFrame ch f
    cause).disp = s.disp ∧ (s.abandonFrame ch f cause).meter = s.meter ∧ (s.abandonFrame ch f cause).seam = s.seam ∧
    (s.abandonFrame ch f cause).pair = s.pair ∧ (s.abandonFrame ch f cause).casc = s.casc ∧ (s.abandonFrame ch f
    cause).upd = s.upd ∧ (s.abandonFrame ch f cause).boot = s.boot ∧ (s.abandonFrame ch f cause).bk = s.bk ∧
    (s.abandonFrame ch f cause).freeCtr = s.freeCtr := by
  unfold State.abandonFrame; (repeat' split) <;> simp
@[simp] theorem State.twinMismatch_frame (s : State) (e : Nat) :
    (s.twinMismatch e).pending = s.pending ∧ (s.twinMismatch e).safety = s.safety ∧ (s.twinMismatch e).frame =
    s.frame ∧ (s.twinMismatch e).host = s.host ∧ (s.twinMismatch e).time = s.time ∧ (s.twinMismatch e).keys = s.keys
    ∧ (s.twinMismatch e).scan = s.scan ∧ (s.twinMismatch e).lio = s.lio ∧ (s.twinMismatch e).loop = s.loop ∧
    (s.twinMismatch e).disp = s.disp ∧ (s.twinMismatch e).meter = s.meter ∧ (s.twinMismatch e).seam = s.seam ∧
    (s.twinMismatch e).pair = s.pair ∧ (s.twinMismatch e).casc = s.casc ∧ (s.twinMismatch e).upd = s.upd ∧
    (s.twinMismatch e).boot = s.boot ∧ (s.twinMismatch e).bk = s.bk ∧ (s.twinMismatch e).freeCtr = s.freeCtr := by
  unfold State.twinMismatch; dsimp only; (repeat' split) <;> simp
@[simp] theorem State.receiveTx_frame (s : State) (e : Nat) (f : BusFrame) (sofNs : Nat) :
    (s.receiveTx e f sofNs).pending = s.pending ∧ (s.receiveTx e f sofNs).safety = s.safety ∧ (s.receiveTx e f
    sofNs).frame = s.frame ∧ (s.receiveTx e f sofNs).host = s.host ∧ (s.receiveTx e f sofNs).time = s.time ∧
    (s.receiveTx e f sofNs).keys = s.keys ∧ (s.receiveTx e f sofNs).scan = s.scan ∧ (s.receiveTx e f sofNs).lio =
    s.lio ∧ (s.receiveTx e f sofNs).loop = s.loop ∧ (s.receiveTx e f sofNs).disp = s.disp ∧ (s.receiveTx e f
    sofNs).meter = s.meter ∧ (s.receiveTx e f sofNs).seam = s.seam ∧ (s.receiveTx e f sofNs).pair = s.pair ∧
    (s.receiveTx e f sofNs).casc = s.casc ∧ (s.receiveTx e f sofNs).upd = s.upd ∧ (s.receiveTx e f sofNs).boot =
    s.boot ∧ (s.receiveTx e f sofNs).bk = s.bk ∧ (s.receiveTx e f sofNs).freeCtr = s.freeCtr := by
  unfold State.receiveTx; dsimp only; (repeat' split) <;> simp
@[simp] theorem State.recDown_frame (s : State) (ch : Nat) :
    (s.recDown ch).pending = s.pending ∧ (s.recDown ch).safety = s.safety ∧ (s.recDown ch).frame = s.frame ∧
    (s.recDown ch).host = s.host ∧ (s.recDown ch).time = s.time ∧ (s.recDown ch).keys = s.keys ∧ (s.recDown ch).scan
    = s.scan ∧ (s.recDown ch).lio = s.lio ∧ (s.recDown ch).loop = s.loop ∧ (s.recDown ch).disp = s.disp ∧ (s.recDown
    ch).bus = s.bus ∧ (s.recDown ch).meter = s.meter ∧ (s.recDown ch).seam = s.seam ∧ (s.recDown ch).pair = s.pair ∧
    (s.recDown ch).casc = s.casc ∧ (s.recDown ch).upd = s.upd ∧ (s.recDown ch).boot = s.boot ∧ (s.recDown ch).bk =
    s.bk ∧ (s.recDown ch).out = s.out := by
  simp [State.recDown]
@[simp] theorem State.confine_frame (s : State) (ch : Nat) :
    (s.confine ch).pending = s.pending ∧ (s.confine ch).safety = s.safety ∧ (s.confine ch).frame = s.frame ∧
    (s.confine ch).host = s.host ∧ (s.confine ch).time = s.time ∧ (s.confine ch).keys = s.keys ∧ (s.confine ch).scan
    = s.scan ∧ (s.confine ch).lio = s.lio ∧ (s.confine ch).loop = s.loop ∧ (s.confine ch).disp = s.disp ∧ (s.confine
    ch).bus = s.bus ∧ (s.confine ch).meter = s.meter ∧ (s.confine ch).seam = s.seam ∧ (s.confine ch).pair = s.pair ∧
    (s.confine ch).casc = s.casc ∧ (s.confine ch).upd = s.upd ∧ (s.confine ch).boot = s.boot ∧ (s.confine ch).bk =
    s.bk ∧ (s.confine ch).freeCtr = s.freeCtr := by
  simp [State.confine]
@[simp] theorem State.busOff_frame (s : State) (ch : Nat) :
    (s.busOff ch).pending = s.pending ∧ (s.busOff ch).safety = s.safety ∧ (s.busOff ch).frame = s.frame ∧ (s.busOff
    ch).host = s.host ∧ (s.busOff ch).time = s.time ∧ (s.busOff ch).keys = s.keys ∧ (s.busOff ch).scan = s.scan ∧
    (s.busOff ch).lio = s.lio ∧ (s.busOff ch).loop = s.loop ∧ (s.busOff ch).disp = s.disp ∧ (s.busOff ch).meter =
    s.meter ∧ (s.busOff ch).seam = s.seam ∧ (s.busOff ch).pair = s.pair ∧ (s.busOff ch).casc = s.casc ∧ (s.busOff
    ch).upd = s.upd ∧ (s.busOff ch).boot = s.boot ∧ (s.busOff ch).bk = s.bk ∧ (s.busOff ch).freeCtr = s.freeCtr := by
  simp [State.busOff]
@[simp] theorem State.tecUp_frame (s : State) (ch : Nat) :
    (s.tecUp ch).pending = s.pending ∧ (s.tecUp ch).safety = s.safety ∧ (s.tecUp ch).frame = s.frame ∧ (s.tecUp
    ch).host = s.host ∧ (s.tecUp ch).time = s.time ∧ (s.tecUp ch).keys = s.keys ∧ (s.tecUp ch).scan = s.scan ∧
    (s.tecUp ch).lio = s.lio ∧ (s.tecUp ch).loop = s.loop ∧ (s.tecUp ch).disp = s.disp ∧ (s.tecUp ch).meter =
    s.meter ∧ (s.tecUp ch).seam = s.seam ∧ (s.tecUp ch).pair = s.pair ∧ (s.tecUp ch).casc = s.casc ∧ (s.tecUp
    ch).upd = s.upd ∧ (s.tecUp ch).boot = s.boot ∧ (s.tecUp ch).bk = s.bk ∧ (s.tecUp ch).freeCtr = s.freeCtr := by
  simp [State.tecUp]
@[simp] theorem State.busRx_frame (s : State) (ch : Nat) (f : BusFrame) (sofNs : Nat) :
    (s.busRx ch f sofNs).pending = s.pending ∧ (s.busRx ch f sofNs).safety = s.safety ∧ (s.busRx ch f sofNs).frame =
    s.frame ∧ (s.busRx ch f sofNs).host = s.host ∧ (s.busRx ch f sofNs).time = s.time ∧ (s.busRx ch f sofNs).keys =
    s.keys ∧ (s.busRx ch f sofNs).scan = s.scan ∧ (s.busRx ch f sofNs).lio = s.lio ∧ (s.busRx ch f sofNs).loop =
    s.loop ∧ (s.busRx ch f sofNs).disp = s.disp ∧ (s.busRx ch f sofNs).meter = s.meter ∧ (s.busRx ch f sofNs).seam =
    s.seam ∧ (s.busRx ch f sofNs).pair = s.pair ∧ (s.busRx ch f sofNs).casc = s.casc ∧ (s.busRx ch f sofNs).upd =
    s.upd ∧ (s.busRx ch f sofNs).boot = s.boot ∧ (s.busRx ch f sofNs).bk = s.bk := by
  unfold State.busRx; dsimp only; (repeat' split) <;> simp
@[simp] theorem State.enqueue_frame (s : State) (ch : Nat) (f : TxFrame) :
    (s.enqueue ch f).pending = s.pending ∧ (s.enqueue ch f).safety = s.safety ∧ (s.enqueue ch f).frame = s.frame ∧
    (s.enqueue ch f).host = s.host ∧ (s.enqueue ch f).time = s.time ∧ (s.enqueue ch f).keys = s.keys ∧ (s.enqueue ch
    f).scan = s.scan ∧ (s.enqueue ch f).lio = s.lio ∧ (s.enqueue ch f).loop = s.loop ∧ (s.enqueue ch f).disp =
    s.disp ∧ (s.enqueue ch f).meter = s.meter ∧ (s.enqueue ch f).seam = s.seam ∧ (s.enqueue ch f).pair = s.pair ∧
    (s.enqueue ch f).casc = s.casc ∧ (s.enqueue ch f).upd = s.upd ∧ (s.enqueue ch f).boot = s.boot ∧ (s.enqueue ch
    f).bk = s.bk ∧ (s.enqueue ch f).freeCtr = s.freeCtr := by
  simp [State.enqueue]
@[simp] theorem State.dropFrame_frame (s : State) (ch : Nat) (p : TxFrame) :
    (s.dropFrame ch p).pending = s.pending ∧ (s.dropFrame ch p).reg = s.reg ∧ (s.dropFrame ch p).safety = s.safety ∧
    (s.dropFrame ch p).frame = s.frame ∧ (s.dropFrame ch p).host = s.host ∧ (s.dropFrame ch p).time = s.time ∧
    (s.dropFrame ch p).keys = s.keys ∧ (s.dropFrame ch p).scan = s.scan ∧ (s.dropFrame ch p).lio = s.lio ∧
    (s.dropFrame ch p).loop = s.loop ∧ (s.dropFrame ch p).disp = s.disp ∧ (s.dropFrame ch p).meter = s.meter ∧
    (s.dropFrame ch p).seam = s.seam ∧ (s.dropFrame ch p).pair = s.pair ∧ (s.dropFrame ch p).casc = s.casc ∧
    (s.dropFrame ch p).upd = s.upd ∧ (s.dropFrame ch p).boot = s.boot ∧ (s.dropFrame ch p).bk = s.bk ∧ (s.dropFrame
    ch p).out = s.out ∧ (s.dropFrame ch p).freeCtr = s.freeCtr := by
  simp [State.dropFrame]
@[simp] theorem State.setFrame_frame (s : State) (ch : Nat) (p q : TxFrame) :
    (s.setFrame ch p q).pending = s.pending ∧ (s.setFrame ch p q).reg = s.reg ∧ (s.setFrame ch p q).safety =
    s.safety ∧ (s.setFrame ch p q).frame = s.frame ∧ (s.setFrame ch p q).host = s.host ∧ (s.setFrame ch p q).time =
    s.time ∧ (s.setFrame ch p q).keys = s.keys ∧ (s.setFrame ch p q).scan = s.scan ∧ (s.setFrame ch p q).lio = s.lio
    ∧ (s.setFrame ch p q).loop = s.loop ∧ (s.setFrame ch p q).disp = s.disp ∧ (s.setFrame ch p q).meter = s.meter ∧
    (s.setFrame ch p q).seam = s.seam ∧ (s.setFrame ch p q).pair = s.pair ∧ (s.setFrame ch p q).casc = s.casc ∧
    (s.setFrame ch p q).upd = s.upd ∧ (s.setFrame ch p q).boot = s.boot ∧ (s.setFrame ch p q).bk = s.bk ∧
    (s.setFrame ch p q).out = s.out ∧ (s.setFrame ch p q).freeCtr = s.freeCtr := by
  simp [State.setFrame]
@[simp] theorem State.failFrame_frame (s : State) (ch : Nat) (p : TxFrame) (cause : Nat) :
    (s.failFrame ch p cause).pending = s.pending ∧ (s.failFrame ch p cause).safety = s.safety ∧ (s.failFrame ch p
    cause).frame = s.frame ∧ (s.failFrame ch p cause).host = s.host ∧ (s.failFrame ch p cause).time = s.time ∧
    (s.failFrame ch p cause).keys = s.keys ∧ (s.failFrame ch p cause).scan = s.scan ∧ (s.failFrame ch p cause).lio =
    s.lio ∧ (s.failFrame ch p cause).loop = s.loop ∧ (s.failFrame ch p cause).disp = s.disp ∧ (s.failFrame ch p
    cause).meter = s.meter ∧ (s.failFrame ch p cause).seam = s.seam ∧ (s.failFrame ch p cause).pair = s.pair ∧
    (s.failFrame ch p cause).casc = s.casc ∧ (s.failFrame ch p cause).upd = s.upd ∧ (s.failFrame ch p cause).boot =
    s.boot ∧ (s.failFrame ch p cause).bk = s.bk ∧ (s.failFrame ch p cause).freeCtr = s.freeCtr := by
  simp [State.failFrame]
@[simp] theorem State.roundEndMax_frame (s : State) (ch : Nat) (p : TxFrame) (endNs : Nat) :
    (s.roundEndMax ch p endNs).pending = s.pending ∧ (s.roundEndMax ch p endNs).safety = s.safety ∧ (s.roundEndMax
    ch p endNs).frame = s.frame ∧ (s.roundEndMax ch p endNs).host = s.host ∧ (s.roundEndMax ch p endNs).time =
    s.time ∧ (s.roundEndMax ch p endNs).keys = s.keys ∧ (s.roundEndMax ch p endNs).scan = s.scan ∧ (s.roundEndMax ch
    p endNs).lio = s.lio ∧ (s.roundEndMax ch p endNs).loop = s.loop ∧ (s.roundEndMax ch p endNs).disp = s.disp ∧
    (s.roundEndMax ch p endNs).bus = s.bus ∧ (s.roundEndMax ch p endNs).meter = s.meter ∧ (s.roundEndMax ch p
    endNs).seam = s.seam ∧ (s.roundEndMax ch p endNs).pair = s.pair ∧ (s.roundEndMax ch p endNs).casc = s.casc ∧
    (s.roundEndMax ch p endNs).upd = s.upd ∧ (s.roundEndMax ch p endNs).boot = s.boot ∧ (s.roundEndMax ch p
    endNs).bk = s.bk ∧ (s.roundEndMax ch p endNs).out = s.out ∧ (s.roundEndMax ch p endNs).freeCtr = s.freeCtr := by
  simp [State.roundEndMax]
@[simp] theorem State.txDone_frame (s : State) (ch sofQ endNs loopNs : Nat) :
    (s.txDone ch sofQ endNs loopNs).pending = s.pending ∧ (s.txDone ch sofQ endNs loopNs).safety = s.safety ∧
    (s.txDone ch sofQ endNs loopNs).frame = s.frame ∧ (s.txDone ch sofQ endNs loopNs).host = s.host ∧ (s.txDone ch
    sofQ endNs loopNs).time = s.time ∧ (s.txDone ch sofQ endNs loopNs).keys = s.keys ∧ (s.txDone ch sofQ endNs
    loopNs).scan = s.scan ∧ (s.txDone ch sofQ endNs loopNs).lio = s.lio ∧ (s.txDone ch sofQ endNs loopNs).loop =
    s.loop ∧ (s.txDone ch sofQ endNs loopNs).disp = s.disp ∧ (s.txDone ch sofQ endNs loopNs).meter = s.meter ∧
    (s.txDone ch sofQ endNs loopNs).seam = s.seam ∧ (s.txDone ch sofQ endNs loopNs).pair = s.pair ∧ (s.txDone ch
    sofQ endNs loopNs).casc = s.casc ∧ (s.txDone ch sofQ endNs loopNs).upd = s.upd ∧ (s.txDone ch sofQ endNs
    loopNs).boot = s.boot ∧ (s.txDone ch sofQ endNs loopNs).bk = s.bk ∧ (s.txDone ch sofQ endNs loopNs).freeCtr =
    s.freeCtr := by
  unfold State.txDone; (repeat' split) <;> simp
@[simp] theorem State.slotDue_frame (s : State) (ch round idx : Nat) (listenOnly : Bool) :
    (s.slotDue ch round idx listenOnly).pending = s.pending ∧ (s.slotDue ch round idx listenOnly).safety = s.safety
    ∧ (s.slotDue ch round idx listenOnly).frame = s.frame ∧ (s.slotDue ch round idx listenOnly).host = s.host ∧
    (s.slotDue ch round idx listenOnly).keys = s.keys ∧ (s.slotDue ch round idx listenOnly).scan = s.scan ∧
    (s.slotDue ch round idx listenOnly).lio = s.lio ∧ (s.slotDue ch round idx listenOnly).loop = s.loop ∧ (s.slotDue
    ch round idx listenOnly).disp = s.disp ∧ (s.slotDue ch round idx listenOnly).meter = s.meter ∧ (s.slotDue ch
    round idx listenOnly).seam = s.seam ∧ (s.slotDue ch round idx listenOnly).pair = s.pair ∧ (s.slotDue ch round
    idx listenOnly).casc = s.casc ∧ (s.slotDue ch round idx listenOnly).upd = s.upd ∧ (s.slotDue ch round idx
    listenOnly).boot = s.boot ∧ (s.slotDue ch round idx listenOnly).bk = s.bk ∧ (s.slotDue ch round idx
    listenOnly).freeCtr = s.freeCtr := by
  unfold State.slotDue; (repeat' split) <;> simp
@[simp] theorem State.takePosted_frame (s : State) :
    (s.takePosted).pending = s.pending ∧ (s.takePosted).reg = s.reg ∧ (s.takePosted).safety = s.safety ∧
    (s.takePosted).frame = s.frame ∧ (s.takePosted).host = s.host ∧ (s.takePosted).time = s.time ∧
    (s.takePosted).keys = s.keys ∧ (s.takePosted).scan = s.scan ∧ (s.takePosted).lio = s.lio ∧ (s.takePosted).loop =
    s.loop ∧ (s.takePosted).disp = s.disp ∧ (s.takePosted).meter = s.meter ∧ (s.takePosted).seam = s.seam ∧
    (s.takePosted).pair = s.pair ∧ (s.takePosted).casc = s.casc ∧ (s.takePosted).upd = s.upd ∧ (s.takePosted).boot =
    s.boot ∧ (s.takePosted).bk = s.bk ∧ (s.takePosted).out = s.out ∧ (s.takePosted).freeCtr = s.freeCtr := by
  simp [State.takePosted]
@[simp] theorem State.postTally_frame (s : State) (e ofs : Nat) (bs : List Byte) :
    (s.postTally e ofs bs).pending = s.pending ∧ (s.postTally e ofs bs).reg = s.reg ∧ (s.postTally e ofs bs).safety
    = s.safety ∧ (s.postTally e ofs bs).frame = s.frame ∧ (s.postTally e ofs bs).host = s.host ∧ (s.postTally e ofs
    bs).time = s.time ∧ (s.postTally e ofs bs).keys = s.keys ∧ (s.postTally e ofs bs).scan = s.scan ∧ (s.postTally e
    ofs bs).lio = s.lio ∧ (s.postTally e ofs bs).loop = s.loop ∧ (s.postTally e ofs bs).disp = s.disp ∧ (s.postTally
    e ofs bs).meter = s.meter ∧ (s.postTally e ofs bs).seam = s.seam ∧ (s.postTally e ofs bs).casc = s.casc ∧
    (s.postTally e ofs bs).upd = s.upd ∧ (s.postTally e ofs bs).boot = s.boot ∧ (s.postTally e ofs bs).bk = s.bk ∧
    (s.postTally e ofs bs).out = s.out ∧ (s.postTally e ofs bs).freeCtr = s.freeCtr := by
  simp [State.postTally]
@[simp] theorem State.postCopies_frame (s : State) (p : Nat) (q : List Byte) :
    (s.postCopies p q).pending = s.pending ∧ (s.postCopies p q).reg = s.reg ∧ (s.postCopies p q).safety = s.safety ∧
    (s.postCopies p q).frame = s.frame ∧ (s.postCopies p q).host = s.host ∧ (s.postCopies p q).time = s.time ∧
    (s.postCopies p q).keys = s.keys ∧ (s.postCopies p q).scan = s.scan ∧ (s.postCopies p q).lio = s.lio ∧
    (s.postCopies p q).loop = s.loop ∧ (s.postCopies p q).disp = s.disp ∧ (s.postCopies p q).meter = s.meter ∧
    (s.postCopies p q).seam = s.seam ∧ (s.postCopies p q).casc = s.casc ∧ (s.postCopies p q).upd = s.upd ∧
    (s.postCopies p q).boot = s.boot ∧ (s.postCopies p q).bk = s.bk ∧ (s.postCopies p q).out = s.out ∧ (s.postCopies
    p q).freeCtr = s.freeCtr := by
  simp [State.postCopies]
@[simp] theorem State.endRound_frame (s : State) (o : OpenRound) :
    (s.endRound o).pending = s.pending ∧ (s.endRound o).safety = s.safety ∧ (s.endRound o).frame = s.frame ∧
    (s.endRound o).host = s.host ∧ (s.endRound o).time = s.time ∧ (s.endRound o).keys = s.keys ∧ (s.endRound o).scan
    = s.scan ∧ (s.endRound o).lio = s.lio ∧ (s.endRound o).loop = s.loop ∧ (s.endRound o).disp = s.disp ∧
    (s.endRound o).meter = s.meter ∧ (s.endRound o).seam = s.seam ∧ (s.endRound o).pair = s.pair ∧ (s.endRound
    o).casc = s.casc ∧ (s.endRound o).upd = s.upd ∧ (s.endRound o).boot = s.boot ∧ (s.endRound o).bk = s.bk ∧
    (s.endRound o).freeCtr = s.freeCtr := by
  unfold State.endRound; (repeat' split) <;> simp
@[simp] theorem State.busStop_frame (s : State) :
    (s.busStop).pending = s.pending ∧ (s.busStop).reg = s.reg ∧ (s.busStop).safety = s.safety ∧ (s.busStop).frame =
    s.frame ∧ (s.busStop).host = s.host ∧ (s.busStop).time = s.time ∧ (s.busStop).keys = s.keys ∧ (s.busStop).scan =
    s.scan ∧ (s.busStop).lio = s.lio ∧ (s.busStop).loop = s.loop ∧ (s.busStop).disp = s.disp ∧ (s.busStop).meter =
    s.meter ∧ (s.busStop).seam = s.seam ∧ (s.busStop).pair = s.pair ∧ (s.busStop).casc = s.casc ∧ (s.busStop).upd =
    s.upd ∧ (s.busStop).boot = s.boot ∧ (s.busStop).bk = s.bk ∧ (s.busStop).out = s.out ∧ (s.busStop).freeCtr =
    s.freeCtr := by
  simp [State.busStop]
@[simp] theorem State.applyHostCtrl_frame (s : State) :
    (s.applyHostCtrl).pending = s.pending ∧ (s.applyHostCtrl).safety = s.safety ∧ (s.applyHostCtrl).frame = s.frame
    ∧ (s.applyHostCtrl).host = s.host ∧ (s.applyHostCtrl).time = s.time ∧ (s.applyHostCtrl).keys = s.keys ∧
    (s.applyHostCtrl).scan = s.scan ∧ (s.applyHostCtrl).lio = s.lio ∧ (s.applyHostCtrl).loop = s.loop ∧
    (s.applyHostCtrl).disp = s.disp ∧ (s.applyHostCtrl).meter = s.meter ∧ (s.applyHostCtrl).seam = s.seam ∧
    (s.applyHostCtrl).casc = s.casc ∧ (s.applyHostCtrl).upd = s.upd ∧ (s.applyHostCtrl).boot = s.boot ∧
    (s.applyHostCtrl).bk = s.bk ∧ (s.applyHostCtrl).freeCtr = s.freeCtr := by
  simp [State.applyHostCtrl]
@[simp] theorem State.latchCopies_frame (s : State) (p : Nat) :
    (s.latchCopies p).pending = s.pending ∧ (s.latchCopies p).reg = s.reg ∧ (s.latchCopies p).safety = s.safety ∧
    (s.latchCopies p).frame = s.frame ∧ (s.latchCopies p).host = s.host ∧ (s.latchCopies p).time = s.time ∧
    (s.latchCopies p).keys = s.keys ∧ (s.latchCopies p).lio = s.lio ∧ (s.latchCopies p).loop = s.loop ∧
    (s.latchCopies p).disp = s.disp ∧ (s.latchCopies p).bus = s.bus ∧ (s.latchCopies p).meter = s.meter ∧
    (s.latchCopies p).seam = s.seam ∧ (s.latchCopies p).casc = s.casc ∧ (s.latchCopies p).upd = s.upd ∧
    (s.latchCopies p).boot = s.boot ∧ (s.latchCopies p).bk = s.bk ∧ (s.latchCopies p).out = s.out ∧ (s.latchCopies
    p).freeCtr = s.freeCtr := by
  simp [State.latchCopies]
@[simp] theorem State.clearNew_frame (s : State) (p : Nat) :
    (s.clearNew p).pending = s.pending ∧ (s.clearNew p).reg = s.reg ∧ (s.clearNew p).safety = s.safety ∧ (s.clearNew
    p).frame = s.frame ∧ (s.clearNew p).host = s.host ∧ (s.clearNew p).time = s.time ∧ (s.clearNew p).keys = s.keys
    ∧ (s.clearNew p).scan = s.scan ∧ (s.clearNew p).lio = s.lio ∧ (s.clearNew p).loop = s.loop ∧ (s.clearNew p).disp
    = s.disp ∧ (s.clearNew p).meter = s.meter ∧ (s.clearNew p).seam = s.seam ∧ (s.clearNew p).casc = s.casc ∧
    (s.clearNew p).upd = s.upd ∧ (s.clearNew p).boot = s.boot ∧ (s.clearNew p).bk = s.bk ∧ (s.clearNew p).out =
    s.out ∧ (s.clearNew p).freeCtr = s.freeCtr := by
  simp [State.clearNew]
@[simp] theorem State.postWrites_frame (s : State) :
    (s.postWrites).pending = s.pending ∧ (s.postWrites).reg = s.reg ∧ (s.postWrites).safety = s.safety ∧
    (s.postWrites).frame = s.frame ∧ (s.postWrites).host = s.host ∧ (s.postWrites).time = s.time ∧
    (s.postWrites).keys = s.keys ∧ (s.postWrites).scan = s.scan ∧ (s.postWrites).lio = s.lio ∧ (s.postWrites).loop =
    s.loop ∧ (s.postWrites).disp = s.disp ∧ (s.postWrites).meter = s.meter ∧ (s.postWrites).seam = s.seam ∧
    (s.postWrites).casc = s.casc ∧ (s.postWrites).upd = s.upd ∧ (s.postWrites).boot = s.boot ∧ (s.postWrites).bk =
    s.bk ∧ (s.postWrites).out = s.out ∧ (s.postWrites).freeCtr = s.freeCtr := by
  simp [State.postWrites]
@[simp] theorem State.runTallyReads_frame (s : State) :
    (s.runTallyReads).pending = s.pending ∧ (s.runTallyReads).safety = s.safety ∧ (s.runTallyReads).frame = s.frame
    ∧ (s.runTallyReads).time = s.time ∧ (s.runTallyReads).keys = s.keys ∧ (s.runTallyReads).scan = s.scan ∧
    (s.runTallyReads).lio = s.lio ∧ (s.runTallyReads).loop = s.loop ∧ (s.runTallyReads).disp = s.disp ∧
    (s.runTallyReads).meter = s.meter ∧ (s.runTallyReads).seam = s.seam ∧ (s.runTallyReads).pair = s.pair ∧
    (s.runTallyReads).casc = s.casc ∧ (s.runTallyReads).upd = s.upd ∧ (s.runTallyReads).boot = s.boot ∧
    (s.runTallyReads).bk = s.bk := by
  simp [State.runTallyReads]
@[simp] theorem State.busWarm_frame (s : State) :
    (s.busWarm).pending = s.pending ∧ (s.busWarm).safety = s.safety ∧ (s.busWarm).frame = s.frame ∧ (s.busWarm).host
    = s.host ∧ (s.busWarm).time = s.time ∧ (s.busWarm).keys = s.keys ∧ (s.busWarm).scan = s.scan ∧ (s.busWarm).lio =
    s.lio ∧ (s.busWarm).loop = s.loop ∧ (s.busWarm).disp = s.disp ∧ (s.busWarm).meter = s.meter ∧ (s.busWarm).seam =
    s.seam ∧ (s.busWarm).pair = s.pair ∧ (s.busWarm).casc = s.casc ∧ (s.busWarm).upd = s.upd ∧ (s.busWarm).boot =
    s.boot ∧ (s.busWarm).bk = s.bk ∧ (s.busWarm).freeCtr = s.freeCtr := by
  simp [State.busWarm]
@[simp] theorem State.tallyRefuse_frame (s : State) (addr code : Nat) (value : Word) :
    (s.tallyRefuse addr code value).pending = s.pending ∧ (s.tallyRefuse addr code value).safety = s.safety ∧
    (s.tallyRefuse addr code value).frame = s.frame ∧ (s.tallyRefuse addr code value).host = s.host ∧ (s.tallyRefuse
    addr code value).time = s.time ∧ (s.tallyRefuse addr code value).keys = s.keys ∧ (s.tallyRefuse addr code
    value).scan = s.scan ∧ (s.tallyRefuse addr code value).lio = s.lio ∧ (s.tallyRefuse addr code value).loop =
    s.loop ∧ (s.tallyRefuse addr code value).disp = s.disp ∧ (s.tallyRefuse addr code value).bus = s.bus ∧
    (s.tallyRefuse addr code value).meter = s.meter ∧ (s.tallyRefuse addr code value).seam = s.seam ∧ (s.tallyRefuse
    addr code value).pair = s.pair ∧ (s.tallyRefuse addr code value).casc = s.casc ∧ (s.tallyRefuse addr code
    value).upd = s.upd ∧ (s.tallyRefuse addr code value).boot = s.boot ∧ (s.tallyRefuse addr code value).bk = s.bk ∧
    (s.tallyRefuse addr code value).freeCtr = s.freeCtr := by
  simp [State.tallyRefuse]
@[simp] theorem State.tallyWindow_frame (s : State) (addr : Nat) (value : Word) :
    (s.tallyWindow addr value).pending = s.pending ∧ (s.tallyWindow addr value).safety = s.safety ∧ (s.tallyWindow
    addr value).frame = s.frame ∧ (s.tallyWindow addr value).host = s.host ∧ (s.tallyWindow addr value).time =
    s.time ∧ (s.tallyWindow addr value).keys = s.keys ∧ (s.tallyWindow addr value).scan = s.scan ∧ (s.tallyWindow
    addr value).lio = s.lio ∧ (s.tallyWindow addr value).loop = s.loop ∧ (s.tallyWindow addr value).disp = s.disp ∧
    (s.tallyWindow addr value).meter = s.meter ∧ (s.tallyWindow addr value).seam = s.seam ∧ (s.tallyWindow addr
    value).casc = s.casc ∧ (s.tallyWindow addr value).upd = s.upd ∧ (s.tallyWindow addr value).boot = s.boot ∧
    (s.tallyWindow addr value).bk = s.bk ∧ (s.tallyWindow addr value).freeCtr = s.freeCtr := by
  simp [State.tallyWindow]
@[simp] theorem State.clrCnt_frame (s : State) (ch : Nat) :
    (s.clrCnt ch).pending = s.pending ∧ (s.clrCnt ch).safety = s.safety ∧ (s.clrCnt ch).frame = s.frame ∧ (s.clrCnt
    ch).host = s.host ∧ (s.clrCnt ch).time = s.time ∧ (s.clrCnt ch).keys = s.keys ∧ (s.clrCnt ch).scan = s.scan ∧
    (s.clrCnt ch).lio = s.lio ∧ (s.clrCnt ch).loop = s.loop ∧ (s.clrCnt ch).disp = s.disp ∧ (s.clrCnt ch).bus =
    s.bus ∧ (s.clrCnt ch).meter = s.meter ∧ (s.clrCnt ch).seam = s.seam ∧ (s.clrCnt ch).pair = s.pair ∧ (s.clrCnt
    ch).casc = s.casc ∧ (s.clrCnt ch).upd = s.upd ∧ (s.clrCnt ch).boot = s.boot ∧ (s.clrCnt ch).bk = s.bk ∧
    (s.clrCnt ch).out = s.out ∧ (s.clrCnt ch).freeCtr = s.freeCtr := by
  simp [State.clrCnt]
@[simp] theorem State.busEnable_frame (s : State) (ch : Nat) (on : Bool) :
    (s.busEnable ch on).pending = s.pending ∧ (s.busEnable ch on).safety = s.safety ∧ (s.busEnable ch on).frame =
    s.frame ∧ (s.busEnable ch on).host = s.host ∧ (s.busEnable ch on).time = s.time ∧ (s.busEnable ch on).keys =
    s.keys ∧ (s.busEnable ch on).scan = s.scan ∧ (s.busEnable ch on).lio = s.lio ∧ (s.busEnable ch on).loop = s.loop
    ∧ (s.busEnable ch on).disp = s.disp ∧ (s.busEnable ch on).meter = s.meter ∧ (s.busEnable ch on).seam = s.seam ∧
    (s.busEnable ch on).pair = s.pair ∧ (s.busEnable ch on).casc = s.casc ∧ (s.busEnable ch on).upd = s.upd ∧
    (s.busEnable ch on).boot = s.boot ∧ (s.busEnable ch on).bk = s.bk ∧ (s.busEnable ch on).out = s.out ∧
    (s.busEnable ch on).freeCtr = s.freeCtr := by
  simp [State.busEnable]
@[simp] theorem State.modDisp_frame (s : State) (f : DispState → DispState) :
    (s.modDisp f).pending = s.pending ∧ (s.modDisp f).reg = s.reg ∧ (s.modDisp f).safety = s.safety ∧ (s.modDisp
    f).frame = s.frame ∧ (s.modDisp f).host = s.host ∧ (s.modDisp f).time = s.time ∧ (s.modDisp f).keys = s.keys ∧
    (s.modDisp f).scan = s.scan ∧ (s.modDisp f).lio = s.lio ∧ (s.modDisp f).loop = s.loop ∧ (s.modDisp f).bus =
    s.bus ∧ (s.modDisp f).meter = s.meter ∧ (s.modDisp f).seam = s.seam ∧ (s.modDisp f).pair = s.pair ∧ (s.modDisp
    f).casc = s.casc ∧ (s.modDisp f).upd = s.upd ∧ (s.modDisp f).boot = s.boot ∧ (s.modDisp f).bk = s.bk ∧
    (s.modDisp f).out = s.out ∧ (s.modDisp f).freeCtr = s.freeCtr := by
  simp [State.modDisp]
@[simp] theorem State.dispRefresh_frame (s : State) :
    (s.dispRefresh).pending = s.pending ∧ (s.dispRefresh).safety = s.safety ∧ (s.dispRefresh).frame = s.frame ∧
    (s.dispRefresh).host = s.host ∧ (s.dispRefresh).time = s.time ∧ (s.dispRefresh).keys = s.keys ∧
    (s.dispRefresh).scan = s.scan ∧ (s.dispRefresh).lio = s.lio ∧ (s.dispRefresh).loop = s.loop ∧
    (s.dispRefresh).disp = s.disp ∧ (s.dispRefresh).bus = s.bus ∧ (s.dispRefresh).meter = s.meter ∧
    (s.dispRefresh).seam = s.seam ∧ (s.dispRefresh).pair = s.pair ∧ (s.dispRefresh).casc = s.casc ∧
    (s.dispRefresh).upd = s.upd ∧ (s.dispRefresh).boot = s.boot ∧ (s.dispRefresh).bk = s.bk ∧ (s.dispRefresh).out =
    s.out ∧ (s.dispRefresh).freeCtr = s.freeCtr := by
  simp [State.dispRefresh]
@[simp] theorem State.setStatusDetail_frame (s : State) (st det : Nat) :
    (s.setStatusDetail st det).pending = s.pending ∧ (s.setStatusDetail st det).safety = s.safety ∧
    (s.setStatusDetail st det).frame = s.frame ∧ (s.setStatusDetail st det).host = s.host ∧ (s.setStatusDetail st
    det).time = s.time ∧ (s.setStatusDetail st det).keys = s.keys ∧ (s.setStatusDetail st det).scan = s.scan ∧
    (s.setStatusDetail st det).lio = s.lio ∧ (s.setStatusDetail st det).loop = s.loop ∧ (s.setStatusDetail st
    det).disp = s.disp ∧ (s.setStatusDetail st det).bus = s.bus ∧ (s.setStatusDetail st det).meter = s.meter ∧
    (s.setStatusDetail st det).seam = s.seam ∧ (s.setStatusDetail st det).pair = s.pair ∧ (s.setStatusDetail st
    det).casc = s.casc ∧ (s.setStatusDetail st det).upd = s.upd ∧ (s.setStatusDetail st det).boot = s.boot ∧
    (s.setStatusDetail st det).bk = s.bk ∧ (s.setStatusDetail st det).out = s.out ∧ (s.setStatusDetail st
    det).freeCtr = s.freeCtr := by
  simp [State.setStatusDetail]
@[simp] theorem State.setVerdict_frame (s : State) (v : Nat) :
    (s.setVerdict v).pending = s.pending ∧ (s.setVerdict v).safety = s.safety ∧ (s.setVerdict v).frame = s.frame ∧
    (s.setVerdict v).host = s.host ∧ (s.setVerdict v).time = s.time ∧ (s.setVerdict v).keys = s.keys ∧ (s.setVerdict
    v).scan = s.scan ∧ (s.setVerdict v).lio = s.lio ∧ (s.setVerdict v).loop = s.loop ∧ (s.setVerdict v).disp =
    s.disp ∧ (s.setVerdict v).bus = s.bus ∧ (s.setVerdict v).meter = s.meter ∧ (s.setVerdict v).seam = s.seam ∧
    (s.setVerdict v).pair = s.pair ∧ (s.setVerdict v).casc = s.casc ∧ (s.setVerdict v).upd = s.upd ∧ (s.setVerdict
    v).boot = s.boot ∧ (s.setVerdict v).bk = s.bk ∧ (s.setVerdict v).out = s.out ∧ (s.setVerdict v).freeCtr =
    s.freeCtr := by
  simp [State.setVerdict]
@[simp] theorem State.dropSolve_frame (s : State) :
    (s.dropSolve).pending = s.pending ∧ (s.dropSolve).safety = s.safety ∧ (s.dropSolve).frame = s.frame ∧
    (s.dropSolve).host = s.host ∧ (s.dropSolve).time = s.time ∧ (s.dropSolve).keys = s.keys ∧ (s.dropSolve).scan =
    s.scan ∧ (s.dropSolve).lio = s.lio ∧ (s.dropSolve).loop = s.loop ∧ (s.dropSolve).bus = s.bus ∧
    (s.dropSolve).meter = s.meter ∧ (s.dropSolve).seam = s.seam ∧ (s.dropSolve).casc = s.casc ∧ (s.dropSolve).upd =
    s.upd ∧ (s.dropSolve).boot = s.boot ∧ (s.dropSolve).bk = s.bk ∧ (s.dropSolve).out = s.out ∧
    (s.dropSolve).freeCtr = s.freeCtr := by
  unfold State.dropSolve; dsimp only; (repeat' split) <;> simp
@[simp] theorem State.endSolve_frame (s : State) (st det info : Nat) :
    (s.endSolve st det info).pending = s.pending ∧ (s.endSolve st det info).safety = s.safety ∧ (s.endSolve st det
    info).frame = s.frame ∧ (s.endSolve st det info).host = s.host ∧ (s.endSolve st det info).time = s.time ∧
    (s.endSolve st det info).keys = s.keys ∧ (s.endSolve st det info).scan = s.scan ∧ (s.endSolve st det info).lio =
    s.lio ∧ (s.endSolve st det info).loop = s.loop ∧ (s.endSolve st det info).bus = s.bus ∧ (s.endSolve st det
    info).meter = s.meter ∧ (s.endSolve st det info).seam = s.seam ∧ (s.endSolve st det info).casc = s.casc ∧
    (s.endSolve st det info).upd = s.upd ∧ (s.endSolve st det info).boot = s.boot ∧ (s.endSolve st det info).bk =
    s.bk ∧ (s.endSolve st det info).freeCtr = s.freeCtr := by
  simp [State.endSolve]
@[simp] theorem State.dispAbort_frame (s : State) :
    (s.dispAbort).pending = s.pending ∧ (s.dispAbort).safety = s.safety ∧ (s.dispAbort).frame = s.frame ∧
    (s.dispAbort).host = s.host ∧ (s.dispAbort).time = s.time ∧ (s.dispAbort).keys = s.keys ∧ (s.dispAbort).scan =
    s.scan ∧ (s.dispAbort).lio = s.lio ∧ (s.dispAbort).loop = s.loop ∧ (s.dispAbort).bus = s.bus ∧
    (s.dispAbort).meter = s.meter ∧ (s.dispAbort).seam = s.seam ∧ (s.dispAbort).casc = s.casc ∧ (s.dispAbort).upd =
    s.upd ∧ (s.dispAbort).boot = s.boot ∧ (s.dispAbort).bk = s.bk ∧ (s.dispAbort).freeCtr = s.freeCtr := by
  simp [State.dispAbort]
@[simp] theorem State.hdRefresh_frame (s : State) :
    (s.hdRefresh).pending = s.pending ∧ (s.hdRefresh).safety = s.safety ∧ (s.hdRefresh).frame = s.frame ∧
    (s.hdRefresh).host = s.host ∧ (s.hdRefresh).time = s.time ∧ (s.hdRefresh).keys = s.keys ∧ (s.hdRefresh).scan =
    s.scan ∧ (s.hdRefresh).lio = s.lio ∧ (s.hdRefresh).loop = s.loop ∧ (s.hdRefresh).disp = s.disp ∧
    (s.hdRefresh).bus = s.bus ∧ (s.hdRefresh).meter = s.meter ∧ (s.hdRefresh).seam = s.seam ∧ (s.hdRefresh).pair =
    s.pair ∧ (s.hdRefresh).casc = s.casc ∧ (s.hdRefresh).upd = s.upd ∧ (s.hdRefresh).boot = s.boot ∧
    (s.hdRefresh).bk = s.bk ∧ (s.hdRefresh).out = s.out ∧ (s.hdRefresh).freeCtr = s.freeCtr := by
  simp [State.hdRefresh]
@[simp] theorem State.applyHostData_frame (s : State) :
    (s.applyHostData).pending = s.pending ∧ (s.applyHostData).safety = s.safety ∧ (s.applyHostData).frame = s.frame
    ∧ (s.applyHostData).time = s.time ∧ (s.applyHostData).keys = s.keys ∧ (s.applyHostData).scan = s.scan ∧
    (s.applyHostData).lio = s.lio ∧ (s.applyHostData).loop = s.loop ∧ (s.applyHostData).bus = s.bus ∧
    (s.applyHostData).meter = s.meter ∧ (s.applyHostData).seam = s.seam ∧ (s.applyHostData).pair = s.pair ∧
    (s.applyHostData).casc = s.casc ∧ (s.applyHostData).upd = s.upd ∧ (s.applyHostData).boot = s.boot ∧
    (s.applyHostData).bk = s.bk := by
  simp [State.applyHostData]
@[simp] theorem State.latchPlan_frame (s : State) :
    (s.latchPlan).pending = s.pending ∧ (s.latchPlan).safety = s.safety ∧ (s.latchPlan).frame = s.frame ∧
    (s.latchPlan).host = s.host ∧ (s.latchPlan).time = s.time ∧ (s.latchPlan).keys = s.keys ∧ (s.latchPlan).scan =
    s.scan ∧ (s.latchPlan).lio = s.lio ∧ (s.latchPlan).loop = s.loop ∧ (s.latchPlan).disp = s.disp ∧
    (s.latchPlan).bus = s.bus ∧ (s.latchPlan).meter = s.meter ∧ (s.latchPlan).seam = s.seam ∧ (s.latchPlan).pair =
    s.pair ∧ (s.latchPlan).casc = s.casc ∧ (s.latchPlan).upd = s.upd ∧ (s.latchPlan).boot = s.boot ∧
    (s.latchPlan).bk = s.bk ∧ (s.latchPlan).out = s.out ∧ (s.latchPlan).freeCtr = s.freeCtr := by
  unfold State.latchPlan; dsimp only; (repeat' split) <;> simp
@[simp] theorem State.startSolve_frame (s : State) (id cut : Nat) (late : Bool) :
    (s.startSolve id cut late).pending = s.pending ∧ (s.startSolve id cut late).safety = s.safety ∧ (s.startSolve id
    cut late).frame = s.frame ∧ (s.startSolve id cut late).host = s.host ∧ (s.startSolve id cut late).time = s.time
    ∧ (s.startSolve id cut late).keys = s.keys ∧ (s.startSolve id cut late).scan = s.scan ∧ (s.startSolve id cut
    late).lio = s.lio ∧ (s.startSolve id cut late).loop = s.loop ∧ (s.startSolve id cut late).bus = s.bus ∧
    (s.startSolve id cut late).meter = s.meter ∧ (s.startSolve id cut late).seam = s.seam ∧ (s.startSolve id cut
    late).casc = s.casc ∧ (s.startSolve id cut late).upd = s.upd ∧ (s.startSolve id cut late).boot = s.boot ∧
    (s.startSolve id cut late).bk = s.bk ∧ (s.startSolve id cut late).freeCtr = s.freeCtr := by
  unfold State.startSolve; dsimp only; (repeat' split) <;> simp
@[simp] theorem State.deliver_frame (s : State) (v : Solve) (it : Iterate) (p d : Rat) (st : Nat) :
    (s.deliver v it p d st).pending = s.pending ∧ (s.deliver v it p d st).safety = s.safety ∧ (s.deliver v it p d
    st).frame = s.frame ∧ (s.deliver v it p d st).host = s.host ∧ (s.deliver v it p d st).time = s.time ∧ (s.deliver
    v it p d st).keys = s.keys ∧ (s.deliver v it p d st).scan = s.scan ∧ (s.deliver v it p d st).lio = s.lio ∧
    (s.deliver v it p d st).loop = s.loop ∧ (s.deliver v it p d st).bus = s.bus ∧ (s.deliver v it p d st).meter =
    s.meter ∧ (s.deliver v it p d st).seam = s.seam ∧ (s.deliver v it p d st).pair = s.pair ∧ (s.deliver v it p d
    st).casc = s.casc ∧ (s.deliver v it p d st).upd = s.upd ∧ (s.deliver v it p d st).boot = s.boot ∧ (s.deliver v
    it p d st).bk = s.bk ∧ (s.deliver v it p d st).freeCtr = s.freeCtr := by
  simp [State.deliver]
@[simp] theorem State.finishSolve_frame (s : State) (v : Solve) (r : DeRun) (st det us : Nat) :
    (s.finishSolve v r st det us).pending = s.pending ∧ (s.finishSolve v r st det us).safety = s.safety ∧
    (s.finishSolve v r st det us).frame = s.frame ∧ (s.finishSolve v r st det us).host = s.host ∧ (s.finishSolve v r
    st det us).time = s.time ∧ (s.finishSolve v r st det us).keys = s.keys ∧ (s.finishSolve v r st det us).scan =
    s.scan ∧ (s.finishSolve v r st det us).lio = s.lio ∧ (s.finishSolve v r st det us).loop = s.loop ∧
    (s.finishSolve v r st det us).bus = s.bus ∧ (s.finishSolve v r st det us).meter = s.meter ∧ (s.finishSolve v r
    st det us).seam = s.seam ∧ (s.finishSolve v r st det us).casc = s.casc ∧ (s.finishSolve v r st det us).upd =
    s.upd ∧ (s.finishSolve v r st det us).boot = s.boot ∧ (s.finishSolve v r st det us).bk = s.bk ∧ (s.finishSolve v
    r st det us).freeCtr = s.freeCtr := by
  unfold State.finishSolve; (repeat' split) <;> simp
@[simp] theorem State.cutover_frame (s : State) :
    (s.cutover).pending = s.pending ∧ (s.cutover).safety = s.safety ∧ (s.cutover).frame = s.frame ∧ (s.cutover).host
    = s.host ∧ (s.cutover).time = s.time ∧ (s.cutover).keys = s.keys ∧ (s.cutover).scan = s.scan ∧ (s.cutover).lio =
    s.lio ∧ (s.cutover).loop = s.loop ∧ (s.cutover).bus = s.bus ∧ (s.cutover).meter = s.meter ∧ (s.cutover).seam =
    s.seam ∧ (s.cutover).casc = s.casc ∧ (s.cutover).upd = s.upd ∧ (s.cutover).boot = s.boot ∧ (s.cutover).bk = s.bk
    ∧ (s.cutover).freeCtr = s.freeCtr := by
  simp only [State.cutover]; cases s.disp.candidate <;> simp
@[simp] theorem State.loadModel_frame (s : State) (b : List Byte) :
    (s.loadModel b).pending = s.pending ∧ (s.loadModel b).safety = s.safety ∧ (s.loadModel b).frame = s.frame ∧
    (s.loadModel b).host = s.host ∧ (s.loadModel b).time = s.time ∧ (s.loadModel b).keys = s.keys ∧ (s.loadModel
    b).scan = s.scan ∧ (s.loadModel b).lio = s.lio ∧ (s.loadModel b).loop = s.loop ∧ (s.loadModel b).bus = s.bus ∧
    (s.loadModel b).meter = s.meter ∧ (s.loadModel b).seam = s.seam ∧ (s.loadModel b).pair = s.pair ∧ (s.loadModel
    b).casc = s.casc ∧ (s.loadModel b).upd = s.upd ∧ (s.loadModel b).boot = s.boot ∧ (s.loadModel b).bk = s.bk ∧
    (s.loadModel b).out = s.out ∧ (s.loadModel b).freeCtr = s.freeCtr := by
  unfold State.loadModel; dsimp only; (repeat' split) <;> simp
@[simp] theorem State.dispEnable_frame (s : State) (on : Bool) :
    (s.dispEnable on).pending = s.pending ∧ (s.dispEnable on).safety = s.safety ∧ (s.dispEnable on).frame = s.frame
    ∧ (s.dispEnable on).host = s.host ∧ (s.dispEnable on).time = s.time ∧ (s.dispEnable on).keys = s.keys ∧
    (s.dispEnable on).scan = s.scan ∧ (s.dispEnable on).lio = s.lio ∧ (s.dispEnable on).loop = s.loop ∧
    (s.dispEnable on).bus = s.bus ∧ (s.dispEnable on).meter = s.meter ∧ (s.dispEnable on).seam = s.seam ∧
    (s.dispEnable on).casc = s.casc ∧ (s.dispEnable on).upd = s.upd ∧ (s.dispEnable on).boot = s.boot ∧
    (s.dispEnable on).bk = s.bk ∧ (s.dispEnable on).freeCtr = s.freeCtr := by
  simp [State.dispEnable]
@[simp] theorem State.dispSoftReset_frame (s : State) :
    (s.dispSoftReset).pending = s.pending ∧ (s.dispSoftReset).safety = s.safety ∧ (s.dispSoftReset).frame = s.frame
    ∧ (s.dispSoftReset).host = s.host ∧ (s.dispSoftReset).time = s.time ∧ (s.dispSoftReset).keys = s.keys ∧
    (s.dispSoftReset).scan = s.scan ∧ (s.dispSoftReset).lio = s.lio ∧ (s.dispSoftReset).loop = s.loop ∧
    (s.dispSoftReset).bus = s.bus ∧ (s.dispSoftReset).meter = s.meter ∧ (s.dispSoftReset).seam = s.seam ∧
    (s.dispSoftReset).pair = s.pair ∧ (s.dispSoftReset).casc = s.casc ∧ (s.dispSoftReset).upd = s.upd ∧
    (s.dispSoftReset).boot = s.boot ∧ (s.dispSoftReset).bk = s.bk ∧ (s.dispSoftReset).out = s.out ∧
    (s.dispSoftReset).freeCtr = s.freeCtr := by
  simp [State.dispSoftReset]
@[simp] theorem State.dispWarm_frame (s : State) :
    (s.dispWarm).pending = s.pending ∧ (s.dispWarm).safety = s.safety ∧ (s.dispWarm).frame = s.frame ∧
    (s.dispWarm).host = s.host ∧ (s.dispWarm).time = s.time ∧ (s.dispWarm).keys = s.keys ∧ (s.dispWarm).scan =
    s.scan ∧ (s.dispWarm).lio = s.lio ∧ (s.dispWarm).loop = s.loop ∧ (s.dispWarm).bus = s.bus ∧ (s.dispWarm).meter =
    s.meter ∧ (s.dispWarm).seam = s.seam ∧ (s.dispWarm).casc = s.casc ∧ (s.dispWarm).upd = s.upd ∧ (s.dispWarm).boot
    = s.boot ∧ (s.dispWarm).bk = s.bk ∧ (s.dispWarm).freeCtr = s.freeCtr := by
  simp [State.dispWarm]

end Sys2Proof.Machine
end

