-- ==== Sys2Proof/Laws/FramesMeter.lean ====
section
/-!
SUPPORT. The frames of the shared operations of metering, thermal metering, billing records and keys: every field of State each leaves alone.
-/
namespace Sys2Proof.Machine

@[simp] theorem State.modMe_frame (s : State) (f : MeterState → MeterState) :
    (s.modMe f).pending = s.pending ∧ (s.modMe f).reg = s.reg ∧ (s.modMe f).safety = s.safety ∧ (s.modMe f).frame =
    s.frame ∧ (s.modMe f).host = s.host ∧ (s.modMe f).time = s.time ∧ (s.modMe f).keys = s.keys ∧ (s.modMe f).scan =
    s.scan ∧ (s.modMe f).lio = s.lio ∧ (s.modMe f).loop = s.loop ∧ (s.modMe f).disp = s.disp ∧ (s.modMe f).bus =
    s.bus ∧ (s.modMe f).seam = s.seam ∧ (s.modMe f).pair = s.pair ∧ (s.modMe f).casc = s.casc ∧ (s.modMe f).upd =
    s.upd ∧ (s.modMe f).boot = s.boot ∧ (s.modMe f).bk = s.bk ∧ (s.modMe f).out = s.out ∧ (s.modMe f).freeCtr =
    s.freeCtr := by
  simp [State.modMe]
@[simp] theorem State.modAfe_frame (s : State) (n : Nat) (f : AfeChan → AfeChan) :
    (s.modAfe n f).pending = s.pending ∧ (s.modAfe n f).reg = s.reg ∧ (s.modAfe n f).safety = s.safety ∧ (s.modAfe n
    f).frame = s.frame ∧ (s.modAfe n f).host = s.host ∧ (s.modAfe n f).time = s.time ∧ (s.modAfe n f).keys = s.keys
    ∧ (s.modAfe n f).scan = s.scan ∧ (s.modAfe n f).lio = s.lio ∧ (s.modAfe n f).loop = s.loop ∧ (s.modAfe n f).disp
    = s.disp ∧ (s.modAfe n f).bus = s.bus ∧ (s.modAfe n f).seam = s.seam ∧ (s.modAfe n f).pair = s.pair ∧ (s.modAfe
    n f).casc = s.casc ∧ (s.modAfe n f).upd = s.upd ∧ (s.modAfe n f).boot = s.boot ∧ (s.modAfe n f).bk = s.bk ∧
    (s.modAfe n f).out = s.out ∧ (s.modAfe n f).freeCtr = s.freeCtr := by
  simp [State.modAfe]
@[simp] theorem State.modCir_frame (s : State) (c : Nat) (f : MeterCircuit → MeterCircuit) :
    (s.modCir c f).pending = s.pending ∧ (s.modCir c f).reg = s.reg ∧ (s.modCir c f).safety = s.safety ∧ (s.modCir c
    f).frame = s.frame ∧ (s.modCir c f).host = s.host ∧ (s.modCir c f).time = s.time ∧ (s.modCir c f).keys = s.keys
    ∧ (s.modCir c f).scan = s.scan ∧ (s.modCir c f).lio = s.lio ∧ (s.modCir c f).loop = s.loop ∧ (s.modCir c f).disp
    = s.disp ∧ (s.modCir c f).bus = s.bus ∧ (s.modCir c f).seam = s.seam ∧ (s.modCir c f).pair = s.pair ∧ (s.modCir
    c f).casc = s.casc ∧ (s.modCir c f).upd = s.upd ∧ (s.modCir c f).boot = s.boot ∧ (s.modCir c f).bk = s.bk ∧
    (s.modCir c f).out = s.out ∧ (s.modCir c f).freeCtr = s.freeCtr := by
  simp [State.modCir]
@[simp] theorem State.meterStatus_frame (s : State) :
    (s.meterStatus).pending = s.pending ∧ (s.meterStatus).safety = s.safety ∧ (s.meterStatus).frame = s.frame ∧
    (s.meterStatus).host = s.host ∧ (s.meterStatus).time = s.time ∧ (s.meterStatus).keys = s.keys ∧
    (s.meterStatus).scan = s.scan ∧ (s.meterStatus).lio = s.lio ∧ (s.meterStatus).loop = s.loop ∧
    (s.meterStatus).disp = s.disp ∧ (s.meterStatus).bus = s.bus ∧ (s.meterStatus).meter = s.meter ∧
    (s.meterStatus).seam = s.seam ∧ (s.meterStatus).pair = s.pair ∧ (s.meterStatus).casc = s.casc ∧
    (s.meterStatus).upd = s.upd ∧ (s.meterStatus).boot = s.boot ∧ (s.meterStatus).bk = s.bk ∧ (s.meterStatus).out =
    s.out ∧ (s.meterStatus).freeCtr = s.freeCtr := by
  simp [State.meterStatus]
@[simp] theorem State.showCal_frame (s : State) (n : Nat) :
    (s.showCal n).pending = s.pending ∧ (s.showCal n).safety = s.safety ∧ (s.showCal n).frame = s.frame ∧ (s.showCal
    n).host = s.host ∧ (s.showCal n).time = s.time ∧ (s.showCal n).keys = s.keys ∧ (s.showCal n).scan = s.scan ∧
    (s.showCal n).lio = s.lio ∧ (s.showCal n).loop = s.loop ∧ (s.showCal n).disp = s.disp ∧ (s.showCal n).bus =
    s.bus ∧ (s.showCal n).meter = s.meter ∧ (s.showCal n).seam = s.seam ∧ (s.showCal n).pair = s.pair ∧ (s.showCal
    n).casc = s.casc ∧ (s.showCal n).upd = s.upd ∧ (s.showCal n).boot = s.boot ∧ (s.showCal n).bk = s.bk ∧
    (s.showCal n).out = s.out ∧ (s.showCal n).freeCtr = s.freeCtr := by
  simp [State.showCal]
@[simp] theorem State.showCals_frame (s : State) :
    (s.showCals).pending = s.pending ∧ (s.showCals).safety = s.safety ∧ (s.showCals).frame = s.frame ∧
    (s.showCals).host = s.host ∧ (s.showCals).time = s.time ∧ (s.showCals).keys = s.keys ∧ (s.showCals).scan =
    s.scan ∧ (s.showCals).lio = s.lio ∧ (s.showCals).loop = s.loop ∧ (s.showCals).disp = s.disp ∧ (s.showCals).bus =
    s.bus ∧ (s.showCals).meter = s.meter ∧ (s.showCals).seam = s.seam ∧ (s.showCals).pair = s.pair ∧
    (s.showCals).casc = s.casc ∧ (s.showCals).upd = s.upd ∧ (s.showCals).boot = s.boot ∧ (s.showCals).bk = s.bk ∧
    (s.showCals).out = s.out ∧ (s.showCals).freeCtr = s.freeCtr := by
  simp [State.showCals]
@[simp] theorem State.ringPut_frame (s : State) (startNs durNs type circuit phases flags extreme : Nat) :
    (s.ringPut startNs durNs type circuit phases flags extreme).pending = s.pending ∧ (s.ringPut startNs durNs type
    circuit phases flags extreme).safety = s.safety ∧ (s.ringPut startNs durNs type circuit phases flags
    extreme).frame = s.frame ∧ (s.ringPut startNs durNs type circuit phases flags extreme).host = s.host ∧
    (s.ringPut startNs durNs type circuit phases flags extreme).time = s.time ∧ (s.ringPut startNs durNs type
    circuit phases flags extreme).keys = s.keys ∧ (s.ringPut startNs durNs type circuit phases flags extreme).scan =
    s.scan ∧ (s.ringPut startNs durNs type circuit phases flags extreme).lio = s.lio ∧ (s.ringPut startNs durNs type
    circuit phases flags extreme).loop = s.loop ∧ (s.ringPut startNs durNs type circuit phases flags extreme).disp =
    s.disp ∧ (s.ringPut startNs durNs type circuit phases flags extreme).bus = s.bus ∧ (s.ringPut startNs durNs type
    circuit phases flags extreme).seam = s.seam ∧ (s.ringPut startNs durNs type circuit phases flags extreme).pair =
    s.pair ∧ (s.ringPut startNs durNs type circuit phases flags extreme).casc = s.casc ∧ (s.ringPut startNs durNs
    type circuit phases flags extreme).upd = s.upd ∧ (s.ringPut startNs durNs type circuit phases flags
    extreme).boot = s.boot ∧ (s.ringPut startNs durNs type circuit phases flags extreme).bk = s.bk ∧ (s.ringPut
    startNs durNs type circuit phases flags extreme).out = s.out ∧ (s.ringPut startNs durNs type circuit phases
    flags extreme).freeCtr = s.freeCtr := by
  simp [State.ringPut]
@[simp] theorem State.gapEnd_frame (s : State) (ns : Nat) :
    (s.gapEnd ns).pending = s.pending ∧ (s.gapEnd ns).safety = s.safety ∧ (s.gapEnd ns).frame = s.frame ∧ (s.gapEnd
    ns).host = s.host ∧ (s.gapEnd ns).time = s.time ∧ (s.gapEnd ns).keys = s.keys ∧ (s.gapEnd ns).scan = s.scan ∧
    (s.gapEnd ns).lio = s.lio ∧ (s.gapEnd ns).loop = s.loop ∧ (s.gapEnd ns).disp = s.disp ∧ (s.gapEnd ns).bus =
    s.bus ∧ (s.gapEnd ns).seam = s.seam ∧ (s.gapEnd ns).pair = s.pair ∧ (s.gapEnd ns).casc = s.casc ∧ (s.gapEnd
    ns).upd = s.upd ∧ (s.gapEnd ns).boot = s.boot ∧ (s.gapEnd ns).bk = s.bk ∧ (s.gapEnd ns).freeCtr = s.freeCtr := by
  unfold State.gapEnd; (repeat' split) <;> simp
@[simp] theorem State.gapBegin_frame (s : State) (type ns : Nat) :
    (s.gapBegin type ns).pending = s.pending ∧ (s.gapBegin type ns).reg = s.reg ∧ (s.gapBegin type ns).safety =
    s.safety ∧ (s.gapBegin type ns).frame = s.frame ∧ (s.gapBegin type ns).host = s.host ∧ (s.gapBegin type ns).time
    = s.time ∧ (s.gapBegin type ns).keys = s.keys ∧ (s.gapBegin type ns).scan = s.scan ∧ (s.gapBegin type ns).lio =
    s.lio ∧ (s.gapBegin type ns).loop = s.loop ∧ (s.gapBegin type ns).disp = s.disp ∧ (s.gapBegin type ns).bus =
    s.bus ∧ (s.gapBegin type ns).seam = s.seam ∧ (s.gapBegin type ns).pair = s.pair ∧ (s.gapBegin type ns).casc =
    s.casc ∧ (s.gapBegin type ns).upd = s.upd ∧ (s.gapBegin type ns).boot = s.boot ∧ (s.gapBegin type ns).bk = s.bk
    ∧ (s.gapBegin type ns).out = s.out ∧ (s.gapBegin type ns).freeCtr = s.freeCtr := by
  simp [State.gapBegin]
@[simp] theorem State.meterRestart_frame (s : State) :
    (s.meterRestart).pending = s.pending ∧ (s.meterRestart).reg = s.reg ∧ (s.meterRestart).safety = s.safety ∧
    (s.meterRestart).frame = s.frame ∧ (s.meterRestart).host = s.host ∧ (s.meterRestart).time = s.time ∧
    (s.meterRestart).keys = s.keys ∧ (s.meterRestart).scan = s.scan ∧ (s.meterRestart).lio = s.lio ∧
    (s.meterRestart).loop = s.loop ∧ (s.meterRestart).disp = s.disp ∧ (s.meterRestart).bus = s.bus ∧
    (s.meterRestart).seam = s.seam ∧ (s.meterRestart).pair = s.pair ∧ (s.meterRestart).casc = s.casc ∧
    (s.meterRestart).upd = s.upd ∧ (s.meterRestart).boot = s.boot ∧ (s.meterRestart).bk = s.bk ∧
    (s.meterRestart).out = s.out ∧ (s.meterRestart).freeCtr = s.freeCtr := by
  simp [State.meterRestart]
@[simp] theorem State.meterEnable_frame (s : State) (on : Bool) :
    (s.meterEnable on).pending = s.pending ∧ (s.meterEnable on).safety = s.safety ∧ (s.meterEnable on).frame =
    s.frame ∧ (s.meterEnable on).host = s.host ∧ (s.meterEnable on).time = s.time ∧ (s.meterEnable on).keys = s.keys
    ∧ (s.meterEnable on).scan = s.scan ∧ (s.meterEnable on).lio = s.lio ∧ (s.meterEnable on).loop = s.loop ∧
    (s.meterEnable on).disp = s.disp ∧ (s.meterEnable on).bus = s.bus ∧ (s.meterEnable on).seam = s.seam ∧
    (s.meterEnable on).pair = s.pair ∧ (s.meterEnable on).casc = s.casc ∧ (s.meterEnable on).upd = s.upd ∧
    (s.meterEnable on).boot = s.boot ∧ (s.meterEnable on).bk = s.bk ∧ (s.meterEnable on).out = s.out ∧
    (s.meterEnable on).freeCtr = s.freeCtr := by
  simp [State.meterEnable]
@[simp] theorem State.cirAdd_frame (s : State) (c : Nat) (xs : List Rat) :
    (s.cirAdd c xs).pending = s.pending ∧ (s.cirAdd c xs).reg = s.reg ∧ (s.cirAdd c xs).safety = s.safety ∧
    (s.cirAdd c xs).frame = s.frame ∧ (s.cirAdd c xs).host = s.host ∧ (s.cirAdd c xs).time = s.time ∧ (s.cirAdd c
    xs).keys = s.keys ∧ (s.cirAdd c xs).scan = s.scan ∧ (s.cirAdd c xs).lio = s.lio ∧ (s.cirAdd c xs).loop = s.loop
    ∧ (s.cirAdd c xs).disp = s.disp ∧ (s.cirAdd c xs).bus = s.bus ∧ (s.cirAdd c xs).seam = s.seam ∧ (s.cirAdd c
    xs).pair = s.pair ∧ (s.cirAdd c xs).casc = s.casc ∧ (s.cirAdd c xs).upd = s.upd ∧ (s.cirAdd c xs).boot = s.boot
    ∧ (s.cirAdd c xs).bk = s.bk ∧ (s.cirAdd c xs).out = s.out ∧ (s.cirAdd c xs).freeCtr = s.freeCtr := by
  simp [State.cirAdd]
@[simp] theorem State.winFlag_frame (s : State) (c bitNo : Nat) :
    (s.winFlag c bitNo).pending = s.pending ∧ (s.winFlag c bitNo).reg = s.reg ∧ (s.winFlag c bitNo).safety =
    s.safety ∧ (s.winFlag c bitNo).frame = s.frame ∧ (s.winFlag c bitNo).host = s.host ∧ (s.winFlag c bitNo).time =
    s.time ∧ (s.winFlag c bitNo).keys = s.keys ∧ (s.winFlag c bitNo).scan = s.scan ∧ (s.winFlag c bitNo).lio = s.lio
    ∧ (s.winFlag c bitNo).loop = s.loop ∧ (s.winFlag c bitNo).disp = s.disp ∧ (s.winFlag c bitNo).bus = s.bus ∧
    (s.winFlag c bitNo).seam = s.seam ∧ (s.winFlag c bitNo).pair = s.pair ∧ (s.winFlag c bitNo).casc = s.casc ∧
    (s.winFlag c bitNo).upd = s.upd ∧ (s.winFlag c bitNo).boot = s.boot ∧ (s.winFlag c bitNo).bk = s.bk ∧ (s.winFlag
    c bitNo).out = s.out ∧ (s.winFlag c bitNo).freeCtr = s.freeCtr := by
  simp [State.winFlag]
@[simp] theorem State.cirLatch_frame (s : State) (c ns : Nat) (w : LatchWin) :
    (s.cirLatch c ns w).pending = s.pending ∧ (s.cirLatch c ns w).safety = s.safety ∧ (s.cirLatch c ns w).frame =
    s.frame ∧ (s.cirLatch c ns w).host = s.host ∧ (s.cirLatch c ns w).time = s.time ∧ (s.cirLatch c ns w).keys =
    s.keys ∧ (s.cirLatch c ns w).scan = s.scan ∧ (s.cirLatch c ns w).lio = s.lio ∧ (s.cirLatch c ns w).loop = s.loop
    ∧ (s.cirLatch c ns w).disp = s.disp ∧ (s.cirLatch c ns w).bus = s.bus ∧ (s.cirLatch c ns w).seam = s.seam ∧
    (s.cirLatch c ns w).pair = s.pair ∧ (s.cirLatch c ns w).casc = s.casc ∧ (s.cirLatch c ns w).upd = s.upd ∧
    (s.cirLatch c ns w).boot = s.boot ∧ (s.cirLatch c ns w).bk = s.bk ∧ (s.cirLatch c ns w).out = s.out ∧
    (s.cirLatch c ns w).freeCtr = s.freeCtr := by
  simp [State.cirLatch]
@[simp] theorem State.specEnd_frame (s : State) (c : Nat) (w : SpecWin) :
    (s.specEnd c w).pending = s.pending ∧ (s.specEnd c w).safety = s.safety ∧ (s.specEnd c w).frame = s.frame ∧
    (s.specEnd c w).host = s.host ∧ (s.specEnd c w).time = s.time ∧ (s.specEnd c w).keys = s.keys ∧ (s.specEnd c
    w).scan = s.scan ∧ (s.specEnd c w).lio = s.lio ∧ (s.specEnd c w).loop = s.loop ∧ (s.specEnd c w).disp = s.disp ∧
    (s.specEnd c w).bus = s.bus ∧ (s.specEnd c w).seam = s.seam ∧ (s.specEnd c w).pair = s.pair ∧ (s.specEnd c
    w).casc = s.casc ∧ (s.specEnd c w).upd = s.upd ∧ (s.specEnd c w).boot = s.boot ∧ (s.specEnd c w).bk = s.bk ∧
    (s.specEnd c w).freeCtr = s.freeCtr := by
  simp [State.specEnd]
@[simp] theorem State.specCycle_frame (s : State) (c : Nat) (e : CycleEnd) :
    (s.specCycle c e).pending = s.pending ∧ (s.specCycle c e).safety = s.safety ∧ (s.specCycle c e).frame = s.frame
    ∧ (s.specCycle c e).host = s.host ∧ (s.specCycle c e).time = s.time ∧ (s.specCycle c e).keys = s.keys ∧
    (s.specCycle c e).scan = s.scan ∧ (s.specCycle c e).lio = s.lio ∧ (s.specCycle c e).loop = s.loop ∧ (s.specCycle
    c e).disp = s.disp ∧ (s.specCycle c e).bus = s.bus ∧ (s.specCycle c e).seam = s.seam ∧ (s.specCycle c e).pair =
    s.pair ∧ (s.specCycle c e).casc = s.casc ∧ (s.specCycle c e).upd = s.upd ∧ (s.specCycle c e).boot = s.boot ∧
    (s.specCycle c e).bk = s.bk ∧ (s.specCycle c e).freeCtr = s.freeCtr := by
  unfold State.specCycle; (repeat' split) <;> simp
@[simp] theorem State.pqJudge_frame (s : State) (c ns k : Nat) (us : List Rat) (noSync : Bool) :
    (s.pqJudge c ns k us noSync).pending = s.pending ∧ (s.pqJudge c ns k us noSync).safety = s.safety ∧ (s.pqJudge c
    ns k us noSync).frame = s.frame ∧ (s.pqJudge c ns k us noSync).host = s.host ∧ (s.pqJudge c ns k us noSync).time
    = s.time ∧ (s.pqJudge c ns k us noSync).keys = s.keys ∧ (s.pqJudge c ns k us noSync).scan = s.scan ∧ (s.pqJudge
    c ns k us noSync).lio = s.lio ∧ (s.pqJudge c ns k us noSync).loop = s.loop ∧ (s.pqJudge c ns k us noSync).disp =
    s.disp ∧ (s.pqJudge c ns k us noSync).bus = s.bus ∧ (s.pqJudge c ns k us noSync).seam = s.seam ∧ (s.pqJudge c ns
    k us noSync).pair = s.pair ∧ (s.pqJudge c ns k us noSync).casc = s.casc ∧ (s.pqJudge c ns k us noSync).upd =
    s.upd ∧ (s.pqJudge c ns k us noSync).boot = s.boot ∧ (s.pqJudge c ns k us noSync).bk = s.bk ∧ (s.pqJudge c ns k
    us noSync).freeCtr = s.freeCtr := by
  unfold State.pqJudge; (repeat' split) <;> simp
@[simp] theorem State.pqRefresh_frame (s : State) (c ns : Nat) :
    (s.pqRefresh c ns).pending = s.pending ∧ (s.pqRefresh c ns).safety = s.safety ∧ (s.pqRefresh c ns).frame =
    s.frame ∧ (s.pqRefresh c ns).host = s.host ∧ (s.pqRefresh c ns).time = s.time ∧ (s.pqRefresh c ns).keys = s.keys
    ∧ (s.pqRefresh c ns).scan = s.scan ∧ (s.pqRefresh c ns).lio = s.lio ∧ (s.pqRefresh c ns).loop = s.loop ∧
    (s.pqRefresh c ns).disp = s.disp ∧ (s.pqRefresh c ns).bus = s.bus ∧ (s.pqRefresh c ns).seam = s.seam ∧
    (s.pqRefresh c ns).pair = s.pair ∧ (s.pqRefresh c ns).casc = s.casc ∧ (s.pqRefresh c ns).upd = s.upd ∧
    (s.pqRefresh c ns).boot = s.boot ∧ (s.pqRefresh c ns).bk = s.bk ∧ (s.pqRefresh c ns).freeCtr = s.freeCtr := by
  simp [State.pqRefresh]
@[simp] theorem State.cirCycle_frame (s : State) (c : Nat) (e : CycleEnd) :
    (s.cirCycle c e).pending = s.pending ∧ (s.cirCycle c e).safety = s.safety ∧ (s.cirCycle c e).frame = s.frame ∧
    (s.cirCycle c e).host = s.host ∧ (s.cirCycle c e).time = s.time ∧ (s.cirCycle c e).keys = s.keys ∧ (s.cirCycle c
    e).scan = s.scan ∧ (s.cirCycle c e).lio = s.lio ∧ (s.cirCycle c e).loop = s.loop ∧ (s.cirCycle c e).disp =
    s.disp ∧ (s.cirCycle c e).bus = s.bus ∧ (s.cirCycle c e).seam = s.seam ∧ (s.cirCycle c e).pair = s.pair ∧
    (s.cirCycle c e).casc = s.casc ∧ (s.cirCycle c e).upd = s.upd ∧ (s.cirCycle c e).boot = s.boot ∧ (s.cirCycle c
    e).bk = s.bk ∧ (s.cirCycle c e).freeCtr = s.freeCtr := by
  unfold State.cirCycle; dsimp only; (repeat' split) <;> simp
@[simp] theorem State.scaleSample_frame (s : State) (n beat : Nat) (code : Int) :
    (s.scaleSample n beat code).1.pending = s.pending ∧ (s.scaleSample n beat code).1.reg = s.reg ∧ (s.scaleSample n
    beat code).1.safety = s.safety ∧ (s.scaleSample n beat code).1.frame = s.frame ∧ (s.scaleSample n beat
    code).1.host = s.host ∧ (s.scaleSample n beat code).1.time = s.time ∧ (s.scaleSample n beat code).1.keys =
    s.keys ∧ (s.scaleSample n beat code).1.scan = s.scan ∧ (s.scaleSample n beat code).1.lio = s.lio ∧
    (s.scaleSample n beat code).1.loop = s.loop ∧ (s.scaleSample n beat code).1.disp = s.disp ∧ (s.scaleSample n
    beat code).1.bus = s.bus ∧ (s.scaleSample n beat code).1.seam = s.seam ∧ (s.scaleSample n beat code).1.pair =
    s.pair ∧ (s.scaleSample n beat code).1.casc = s.casc ∧ (s.scaleSample n beat code).1.upd = s.upd ∧
    (s.scaleSample n beat code).1.boot = s.boot ∧ (s.scaleSample n beat code).1.bk = s.bk ∧ (s.scaleSample n beat
    code).1.out = s.out ∧ (s.scaleSample n beat code).1.freeCtr = s.freeCtr := by
  unfold State.scaleSample; dsimp only; (repeat' split) <;> simp
@[simp] theorem State.trackChan_frame (s : State) (n t : Nat) (x : Rat) :
    (s.trackChan n t x).1.pending = s.pending ∧ (s.trackChan n t x).1.safety = s.safety ∧ (s.trackChan n t
    x).1.frame = s.frame ∧ (s.trackChan n t x).1.host = s.host ∧ (s.trackChan n t x).1.time = s.time ∧ (s.trackChan
    n t x).1.keys = s.keys ∧ (s.trackChan n t x).1.scan = s.scan ∧ (s.trackChan n t x).1.lio = s.lio ∧ (s.trackChan
    n t x).1.loop = s.loop ∧ (s.trackChan n t x).1.disp = s.disp ∧ (s.trackChan n t x).1.bus = s.bus ∧ (s.trackChan
    n t x).1.seam = s.seam ∧ (s.trackChan n t x).1.pair = s.pair ∧ (s.trackChan n t x).1.casc = s.casc ∧
    (s.trackChan n t x).1.upd = s.upd ∧ (s.trackChan n t x).1.boot = s.boot ∧ (s.trackChan n t x).1.bk = s.bk ∧
    (s.trackChan n t x).1.out = s.out ∧ (s.trackChan n t x).1.freeCtr = s.freeCtr := by
  simp [State.trackChan]
@[simp] theorem State.captureAdd_frame (s : State) (beat : Nat) (xs : List Rat) :
    (s.captureAdd beat xs).pending = s.pending ∧ (s.captureAdd beat xs).reg = s.reg ∧ (s.captureAdd beat xs).safety
    = s.safety ∧ (s.captureAdd beat xs).frame = s.frame ∧ (s.captureAdd beat xs).host = s.host ∧ (s.captureAdd beat
    xs).time = s.time ∧ (s.captureAdd beat xs).keys = s.keys ∧ (s.captureAdd beat xs).scan = s.scan ∧ (s.captureAdd
    beat xs).lio = s.lio ∧ (s.captureAdd beat xs).loop = s.loop ∧ (s.captureAdd beat xs).disp = s.disp ∧
    (s.captureAdd beat xs).bus = s.bus ∧ (s.captureAdd beat xs).seam = s.seam ∧ (s.captureAdd beat xs).pair = s.pair
    ∧ (s.captureAdd beat xs).casc = s.casc ∧ (s.captureAdd beat xs).upd = s.upd ∧ (s.captureAdd beat xs).boot =
    s.boot ∧ (s.captureAdd beat xs).bk = s.bk ∧ (s.captureAdd beat xs).out = s.out ∧ (s.captureAdd beat xs).freeCtr
    = s.freeCtr := by
  simp [State.captureAdd]
@[simp] theorem State.meterClips_frame (s : State) (clips : List Nat) :
    (s.meterClips clips).pending = s.pending ∧ (s.meterClips clips).safety = s.safety ∧ (s.meterClips clips).frame =
    s.frame ∧ (s.meterClips clips).host = s.host ∧ (s.meterClips clips).time = s.time ∧ (s.meterClips clips).keys =
    s.keys ∧ (s.meterClips clips).scan = s.scan ∧ (s.meterClips clips).lio = s.lio ∧ (s.meterClips clips).loop =
    s.loop ∧ (s.meterClips clips).disp = s.disp ∧ (s.meterClips clips).bus = s.bus ∧ (s.meterClips clips).seam =
    s.seam ∧ (s.meterClips clips).pair = s.pair ∧ (s.meterClips clips).casc = s.casc ∧ (s.meterClips clips).upd =
    s.upd ∧ (s.meterClips clips).boot = s.boot ∧ (s.meterClips clips).bk = s.bk ∧ (s.meterClips clips).freeCtr =
    s.freeCtr := by
  simp [State.meterClips]
@[simp] theorem State.meterLost_frame (s : State) :
    (s.meterLost).pending = s.pending ∧ (s.meterLost).safety = s.safety ∧ (s.meterLost).frame = s.frame ∧
    (s.meterLost).host = s.host ∧ (s.meterLost).time = s.time ∧ (s.meterLost).keys = s.keys ∧ (s.meterLost).scan =
    s.scan ∧ (s.meterLost).lio = s.lio ∧ (s.meterLost).loop = s.loop ∧ (s.meterLost).disp = s.disp ∧
    (s.meterLost).bus = s.bus ∧ (s.meterLost).seam = s.seam ∧ (s.meterLost).pair = s.pair ∧ (s.meterLost).casc =
    s.casc ∧ (s.meterLost).upd = s.upd ∧ (s.meterLost).boot = s.boot ∧ (s.meterLost).bk = s.bk ∧
    (s.meterLost).freeCtr = s.freeCtr := by
  simp [State.meterLost]
@[simp] theorem State.afeDegrade_frame (s : State) :
    (s.afeDegrade).pending = s.pending ∧ (s.afeDegrade).safety = s.safety ∧ (s.afeDegrade).frame = s.frame ∧
    (s.afeDegrade).host = s.host ∧ (s.afeDegrade).time = s.time ∧ (s.afeDegrade).keys = s.keys ∧ (s.afeDegrade).scan
    = s.scan ∧ (s.afeDegrade).lio = s.lio ∧ (s.afeDegrade).loop = s.loop ∧ (s.afeDegrade).disp = s.disp ∧
    (s.afeDegrade).bus = s.bus ∧ (s.afeDegrade).seam = s.seam ∧ (s.afeDegrade).pair = s.pair ∧ (s.afeDegrade).casc =
    s.casc ∧ (s.afeDegrade).upd = s.upd ∧ (s.afeDegrade).boot = s.boot ∧ (s.afeDegrade).bk = s.bk ∧
    (s.afeDegrade).freeCtr = s.freeCtr := by
  simp [State.afeDegrade]
@[simp] theorem State.afeResume_frame (s : State) :
    (s.afeResume).pending = s.pending ∧ (s.afeResume).safety = s.safety ∧ (s.afeResume).frame = s.frame ∧
    (s.afeResume).host = s.host ∧ (s.afeResume).time = s.time ∧ (s.afeResume).keys = s.keys ∧ (s.afeResume).scan =
    s.scan ∧ (s.afeResume).lio = s.lio ∧ (s.afeResume).loop = s.loop ∧ (s.afeResume).disp = s.disp ∧
    (s.afeResume).bus = s.bus ∧ (s.afeResume).seam = s.seam ∧ (s.afeResume).pair = s.pair ∧ (s.afeResume).casc =
    s.casc ∧ (s.afeResume).upd = s.upd ∧ (s.afeResume).boot = s.boot ∧ (s.afeResume).bk = s.bk ∧
    (s.afeResume).freeCtr = s.freeCtr := by
  simp [State.afeResume]
@[simp] theorem State.noSync_frame (s : State) (n : Nat) :
    (s.noSync n).pending = s.pending ∧ (s.noSync n).safety = s.safety ∧ (s.noSync n).frame = s.frame ∧ (s.noSync
    n).host = s.host ∧ (s.noSync n).time = s.time ∧ (s.noSync n).keys = s.keys ∧ (s.noSync n).scan = s.scan ∧
    (s.noSync n).lio = s.lio ∧ (s.noSync n).loop = s.loop ∧ (s.noSync n).disp = s.disp ∧ (s.noSync n).bus = s.bus ∧
    (s.noSync n).seam = s.seam ∧ (s.noSync n).pair = s.pair ∧ (s.noSync n).casc = s.casc ∧ (s.noSync n).upd = s.upd
    ∧ (s.noSync n).boot = s.boot ∧ (s.noSync n).bk = s.bk ∧ (s.noSync n).freeCtr = s.freeCtr := by
  unfold State.noSync; (repeat' split) <;> simp
@[simp] theorem State.bookTo_frame (s : State) (c r amount : Nat) :
    (s.bookTo c r amount).pending = s.pending ∧ (s.bookTo c r amount).safety = s.safety ∧ (s.bookTo c r
    amount).frame = s.frame ∧ (s.bookTo c r amount).host = s.host ∧ (s.bookTo c r amount).time = s.time ∧ (s.bookTo
    c r amount).keys = s.keys ∧ (s.bookTo c r amount).scan = s.scan ∧ (s.bookTo c r amount).lio = s.lio ∧ (s.bookTo
    c r amount).loop = s.loop ∧ (s.bookTo c r amount).disp = s.disp ∧ (s.bookTo c r amount).bus = s.bus ∧ (s.bookTo
    c r amount).seam = s.seam ∧ (s.bookTo c r amount).pair = s.pair ∧ (s.bookTo c r amount).casc = s.casc ∧
    (s.bookTo c r amount).upd = s.upd ∧ (s.bookTo c r amount).boot = s.boot ∧ (s.bookTo c r amount).bk = s.bk ∧
    (s.bookTo c r amount).freeCtr = s.freeCtr := by
  simp [State.bookTo]
@[simp] theorem State.bookQuantum_frame (s : State) (c : Nat) :
    (s.bookQuantum c).pending = s.pending ∧ (s.bookQuantum c).safety = s.safety ∧ (s.bookQuantum c).frame = s.frame
    ∧ (s.bookQuantum c).host = s.host ∧ (s.bookQuantum c).time = s.time ∧ (s.bookQuantum c).keys = s.keys ∧
    (s.bookQuantum c).scan = s.scan ∧ (s.bookQuantum c).lio = s.lio ∧ (s.bookQuantum c).loop = s.loop ∧
    (s.bookQuantum c).disp = s.disp ∧ (s.bookQuantum c).bus = s.bus ∧ (s.bookQuantum c).seam = s.seam ∧
    (s.bookQuantum c).pair = s.pair ∧ (s.bookQuantum c).casc = s.casc ∧ (s.bookQuantum c).upd = s.upd ∧
    (s.bookQuantum c).boot = s.boot ∧ (s.bookQuantum c).bk = s.bk ∧ (s.bookQuantum c).freeCtr = s.freeCtr := by
  unfold State.bookQuantum; dsimp only; (repeat' split) <;> simp
@[simp] theorem State.meterQuantum_frame (s : State) :
    (s.meterQuantum).pending = s.pending ∧ (s.meterQuantum).safety = s.safety ∧ (s.meterQuantum).frame = s.frame ∧
    (s.meterQuantum).host = s.host ∧ (s.meterQuantum).time = s.time ∧ (s.meterQuantum).keys = s.keys ∧
    (s.meterQuantum).scan = s.scan ∧ (s.meterQuantum).lio = s.lio ∧ (s.meterQuantum).loop = s.loop ∧
    (s.meterQuantum).disp = s.disp ∧ (s.meterQuantum).bus = s.bus ∧ (s.meterQuantum).seam = s.seam ∧
    (s.meterQuantum).pair = s.pair ∧ (s.meterQuantum).casc = s.casc ∧ (s.meterQuantum).upd = s.upd ∧
    (s.meterQuantum).boot = s.boot ∧ (s.meterQuantum).bk = s.bk ∧ (s.meterQuantum).freeCtr = s.freeCtr := by
  simp [State.meterQuantum]
@[simp] theorem State.publishSet_frame (s : State) (c : Nat) (words : List Word) :
    (s.publishSet c words).pending = s.pending ∧ (s.publishSet c words).safety = s.safety ∧ (s.publishSet c
    words).frame = s.frame ∧ (s.publishSet c words).host = s.host ∧ (s.publishSet c words).time = s.time ∧
    (s.publishSet c words).keys = s.keys ∧ (s.publishSet c words).scan = s.scan ∧ (s.publishSet c words).lio = s.lio
    ∧ (s.publishSet c words).loop = s.loop ∧ (s.publishSet c words).disp = s.disp ∧ (s.publishSet c words).bus =
    s.bus ∧ (s.publishSet c words).meter = s.meter ∧ (s.publishSet c words).seam = s.seam ∧ (s.publishSet c
    words).pair = s.pair ∧ (s.publishSet c words).casc = s.casc ∧ (s.publishSet c words).upd = s.upd ∧ (s.publishSet
    c words).boot = s.boot ∧ (s.publishSet c words).bk = s.bk ∧ (s.publishSet c words).freeCtr = s.freeCtr := by
  simp [State.publishSet]
@[simp] theorem State.meterPublish_frame (s : State) :
    (s.meterPublish).pending = s.pending ∧ (s.meterPublish).safety = s.safety ∧ (s.meterPublish).frame = s.frame ∧
    (s.meterPublish).host = s.host ∧ (s.meterPublish).time = s.time ∧ (s.meterPublish).keys = s.keys ∧
    (s.meterPublish).scan = s.scan ∧ (s.meterPublish).lio = s.lio ∧ (s.meterPublish).loop = s.loop ∧
    (s.meterPublish).disp = s.disp ∧ (s.meterPublish).bus = s.bus ∧ (s.meterPublish).seam = s.seam ∧
    (s.meterPublish).pair = s.pair ∧ (s.meterPublish).casc = s.casc ∧ (s.meterPublish).upd = s.upd ∧
    (s.meterPublish).boot = s.boot ∧ (s.meterPublish).bk = s.bk ∧ (s.meterPublish).freeCtr = s.freeCtr := by
  simp [State.meterPublish]
@[simp] theorem State.resolveCopies_frame (s : State) :
    (s.resolveCopies).pending = s.pending ∧ (s.resolveCopies).safety = s.safety ∧ (s.resolveCopies).frame = s.frame
    ∧ (s.resolveCopies).host = s.host ∧ (s.resolveCopies).time = s.time ∧ (s.resolveCopies).keys = s.keys ∧
    (s.resolveCopies).scan = s.scan ∧ (s.resolveCopies).lio = s.lio ∧ (s.resolveCopies).loop = s.loop ∧
    (s.resolveCopies).disp = s.disp ∧ (s.resolveCopies).bus = s.bus ∧ (s.resolveCopies).seam = s.seam ∧
    (s.resolveCopies).pair = s.pair ∧ (s.resolveCopies).casc = s.casc ∧ (s.resolveCopies).upd = s.upd ∧
    (s.resolveCopies).boot = s.boot ∧ (s.resolveCopies).bk = s.bk ∧ (s.resolveCopies).freeCtr = s.freeCtr := by
  simp [State.resolveCopies]
@[simp] theorem State.takeCopies_frame (s : State) :
    (s.takeCopies).pending = s.pending ∧ (s.takeCopies).safety = s.safety ∧ (s.takeCopies).frame = s.frame ∧
    (s.takeCopies).host = s.host ∧ (s.takeCopies).time = s.time ∧ (s.takeCopies).keys = s.keys ∧ (s.takeCopies).scan
    = s.scan ∧ (s.takeCopies).lio = s.lio ∧ (s.takeCopies).loop = s.loop ∧ (s.takeCopies).disp = s.disp ∧
    (s.takeCopies).bus = s.bus ∧ (s.takeCopies).seam = s.seam ∧ (s.takeCopies).pair = s.pair ∧ (s.takeCopies).casc =
    s.casc ∧ (s.takeCopies).upd = s.upd ∧ (s.takeCopies).boot = s.boot ∧ (s.takeCopies).bk = s.bk ∧
    (s.takeCopies).freeCtr = s.freeCtr := by
  simp [State.takeCopies]
@[simp] theorem State.saveMeterSetup_frame (s : State) :
    (s.saveMeterSetup).pending = s.pending ∧ (s.saveMeterSetup).safety = s.safety ∧ (s.saveMeterSetup).frame =
    s.frame ∧ (s.saveMeterSetup).host = s.host ∧ (s.saveMeterSetup).time = s.time ∧ (s.saveMeterSetup).keys = s.keys
    ∧ (s.saveMeterSetup).scan = s.scan ∧ (s.saveMeterSetup).lio = s.lio ∧ (s.saveMeterSetup).loop = s.loop ∧
    (s.saveMeterSetup).disp = s.disp ∧ (s.saveMeterSetup).bus = s.bus ∧ (s.saveMeterSetup).meter = s.meter ∧
    (s.saveMeterSetup).pair = s.pair ∧ (s.saveMeterSetup).casc = s.casc ∧ (s.saveMeterSetup).upd = s.upd ∧
    (s.saveMeterSetup).boot = s.boot ∧ (s.saveMeterSetup).bk = s.bk ∧ (s.saveMeterSetup).out = s.out ∧
    (s.saveMeterSetup).freeCtr = s.freeCtr := by
  simp [State.saveMeterSetup]
@[simp] theorem State.loadMeterSetup_frame (s : State) :
    (s.loadMeterSetup).1.pending = s.pending ∧ (s.loadMeterSetup).1.safety = s.safety ∧ (s.loadMeterSetup).1.frame =
    s.frame ∧ (s.loadMeterSetup).1.host = s.host ∧ (s.loadMeterSetup).1.time = s.time ∧ (s.loadMeterSetup).1.keys =
    s.keys ∧ (s.loadMeterSetup).1.scan = s.scan ∧ (s.loadMeterSetup).1.lio = s.lio ∧ (s.loadMeterSetup).1.loop =
    s.loop ∧ (s.loadMeterSetup).1.disp = s.disp ∧ (s.loadMeterSetup).1.bus = s.bus ∧ (s.loadMeterSetup).1.seam =
    s.seam ∧ (s.loadMeterSetup).1.pair = s.pair ∧ (s.loadMeterSetup).1.casc = s.casc ∧ (s.loadMeterSetup).1.upd =
    s.upd ∧ (s.loadMeterSetup).1.boot = s.boot ∧ (s.loadMeterSetup).1.bk = s.bk ∧ (s.loadMeterSetup).1.out = s.out ∧
    (s.loadMeterSetup).1.freeCtr = s.freeCtr := by
  unfold State.loadMeterSetup; dsimp only; (repeat' split) <;> simp
@[simp] theorem State.meterFault_frame (s : State) :
    (s.meterFault).pending = s.pending ∧ (s.meterFault).safety = s.safety ∧ (s.meterFault).frame = s.frame ∧
    (s.meterFault).host = s.host ∧ (s.meterFault).time = s.time ∧ (s.meterFault).keys = s.keys ∧ (s.meterFault).scan
    = s.scan ∧ (s.meterFault).lio = s.lio ∧ (s.meterFault).loop = s.loop ∧ (s.meterFault).disp = s.disp ∧
    (s.meterFault).bus = s.bus ∧ (s.meterFault).seam = s.seam ∧ (s.meterFault).pair = s.pair ∧ (s.meterFault).casc =
    s.casc ∧ (s.meterFault).upd = s.upd ∧ (s.meterFault).boot = s.boot ∧ (s.meterFault).bk = s.bk ∧
    (s.meterFault).out = s.out ∧ (s.meterFault).freeCtr = s.freeCtr := by
  simp [State.meterFault]
@[simp] theorem State.meterWarm_frame (s : State) :
    (s.meterWarm).pending = s.pending ∧ (s.meterWarm).safety = s.safety ∧ (s.meterWarm).frame = s.frame ∧
    (s.meterWarm).host = s.host ∧ (s.meterWarm).time = s.time ∧ (s.meterWarm).keys = s.keys ∧ (s.meterWarm).scan =
    s.scan ∧ (s.meterWarm).lio = s.lio ∧ (s.meterWarm).loop = s.loop ∧ (s.meterWarm).disp = s.disp ∧
    (s.meterWarm).bus = s.bus ∧ (s.meterWarm).seam = s.seam ∧ (s.meterWarm).pair = s.pair ∧ (s.meterWarm).casc =
    s.casc ∧ (s.meterWarm).upd = s.upd ∧ (s.meterWarm).boot = s.boot ∧ (s.meterWarm).bk = s.bk ∧ (s.meterWarm).out =
    s.out ∧ (s.meterWarm).freeCtr = s.freeCtr := by
  simp [State.meterWarm]
@[simp] theorem State.modThm_frame (s : State) (p : Nat) (f : ThermMeter → ThermMeter) :
    (s.modThm p f).pending = s.pending ∧ (s.modThm p f).reg = s.reg ∧ (s.modThm p f).safety = s.safety ∧ (s.modThm p
    f).frame = s.frame ∧ (s.modThm p f).host = s.host ∧ (s.modThm p f).time = s.time ∧ (s.modThm p f).keys = s.keys
    ∧ (s.modThm p f).scan = s.scan ∧ (s.modThm p f).lio = s.lio ∧ (s.modThm p f).loop = s.loop ∧ (s.modThm p f).disp
    = s.disp ∧ (s.modThm p f).bus = s.bus ∧ (s.modThm p f).seam = s.seam ∧ (s.modThm p f).pair = s.pair ∧ (s.modThm
    p f).casc = s.casc ∧ (s.modThm p f).upd = s.upd ∧ (s.modThm p f).boot = s.boot ∧ (s.modThm p f).bk = s.bk ∧
    (s.modThm p f).out = s.out ∧ (s.modThm p f).freeCtr = s.freeCtr := by
  simp [State.modThm]
@[simp] theorem State.thermStatus_frame (s : State) :
    (s.thermStatus).pending = s.pending ∧ (s.thermStatus).safety = s.safety ∧ (s.thermStatus).frame = s.frame ∧
    (s.thermStatus).host = s.host ∧ (s.thermStatus).time = s.time ∧ (s.thermStatus).keys = s.keys ∧
    (s.thermStatus).scan = s.scan ∧ (s.thermStatus).lio = s.lio ∧ (s.thermStatus).loop = s.loop ∧
    (s.thermStatus).disp = s.disp ∧ (s.thermStatus).bus = s.bus ∧ (s.thermStatus).meter = s.meter ∧
    (s.thermStatus).seam = s.seam ∧ (s.thermStatus).pair = s.pair ∧ (s.thermStatus).casc = s.casc ∧
    (s.thermStatus).upd = s.upd ∧ (s.thermStatus).boot = s.boot ∧ (s.thermStatus).bk = s.bk ∧ (s.thermStatus).out =
    s.out ∧ (s.thermStatus).freeCtr = s.freeCtr := by
  simp [State.thermStatus]
@[simp] theorem State.thermEnable_frame (s : State) (on : Bool) :
    (s.thermEnable on).pending = s.pending ∧ (s.thermEnable on).safety = s.safety ∧ (s.thermEnable on).frame =
    s.frame ∧ (s.thermEnable on).host = s.host ∧ (s.thermEnable on).time = s.time ∧ (s.thermEnable on).keys = s.keys
    ∧ (s.thermEnable on).scan = s.scan ∧ (s.thermEnable on).lio = s.lio ∧ (s.thermEnable on).loop = s.loop ∧
    (s.thermEnable on).disp = s.disp ∧ (s.thermEnable on).bus = s.bus ∧ (s.thermEnable on).seam = s.seam ∧
    (s.thermEnable on).pair = s.pair ∧ (s.thermEnable on).casc = s.casc ∧ (s.thermEnable on).upd = s.upd ∧
    (s.thermEnable on).boot = s.boot ∧ (s.thermEnable on).bk = s.bk ∧ (s.thermEnable on).out = s.out ∧
    (s.thermEnable on).freeCtr = s.freeCtr := by
  simp [State.thermEnable]
@[simp] theorem State.flowTimeout_frame (s : State) (p : Nat) :
    (s.flowTimeout p).pending = s.pending ∧ (s.flowTimeout p).safety = s.safety ∧ (s.flowTimeout p).frame = s.frame
    ∧ (s.flowTimeout p).host = s.host ∧ (s.flowTimeout p).time = s.time ∧ (s.flowTimeout p).keys = s.keys ∧
    (s.flowTimeout p).scan = s.scan ∧ (s.flowTimeout p).lio = s.lio ∧ (s.flowTimeout p).loop = s.loop ∧
    (s.flowTimeout p).disp = s.disp ∧ (s.flowTimeout p).bus = s.bus ∧ (s.flowTimeout p).seam = s.seam ∧
    (s.flowTimeout p).pair = s.pair ∧ (s.flowTimeout p).casc = s.casc ∧ (s.flowTimeout p).upd = s.upd ∧
    (s.flowTimeout p).boot = s.boot ∧ (s.flowTimeout p).bk = s.bk ∧ (s.flowTimeout p).out = s.out ∧ (s.flowTimeout
    p).freeCtr = s.freeCtr := by
  simp [State.flowTimeout]
@[simp] theorem State.bookThm_frame (s : State) (p r amount : Nat) :
    (s.bookThm p r amount).pending = s.pending ∧ (s.bookThm p r amount).reg = s.reg ∧ (s.bookThm p r amount).safety
    = s.safety ∧ (s.bookThm p r amount).frame = s.frame ∧ (s.bookThm p r amount).host = s.host ∧ (s.bookThm p r
    amount).time = s.time ∧ (s.bookThm p r amount).keys = s.keys ∧ (s.bookThm p r amount).scan = s.scan ∧ (s.bookThm
    p r amount).lio = s.lio ∧ (s.bookThm p r amount).loop = s.loop ∧ (s.bookThm p r amount).disp = s.disp ∧
    (s.bookThm p r amount).bus = s.bus ∧ (s.bookThm p r amount).seam = s.seam ∧ (s.bookThm p r amount).pair = s.pair
    ∧ (s.bookThm p r amount).casc = s.casc ∧ (s.bookThm p r amount).upd = s.upd ∧ (s.bookThm p r amount).boot =
    s.boot ∧ (s.bookThm p r amount).bk = s.bk ∧ (s.bookThm p r amount).out = s.out ∧ (s.bookThm p r amount).freeCtr
    = s.freeCtr := by
  simp [State.bookThm]
@[simp] theorem State.thermBook_frame (s : State) (p : Nat) (rtds : List (Rat × Bool)) :
    (s.thermBook p rtds).pending = s.pending ∧ (s.thermBook p rtds).safety = s.safety ∧ (s.thermBook p rtds).frame =
    s.frame ∧ (s.thermBook p rtds).host = s.host ∧ (s.thermBook p rtds).time = s.time ∧ (s.thermBook p rtds).keys =
    s.keys ∧ (s.thermBook p rtds).scan = s.scan ∧ (s.thermBook p rtds).lio = s.lio ∧ (s.thermBook p rtds).loop =
    s.loop ∧ (s.thermBook p rtds).disp = s.disp ∧ (s.thermBook p rtds).bus = s.bus ∧ (s.thermBook p rtds).seam =
    s.seam ∧ (s.thermBook p rtds).pair = s.pair ∧ (s.thermBook p rtds).casc = s.casc ∧ (s.thermBook p rtds).upd =
    s.upd ∧ (s.thermBook p rtds).boot = s.boot ∧ (s.thermBook p rtds).bk = s.bk ∧ (s.thermBook p rtds).freeCtr =
    s.freeCtr := by
  simp [State.thermBook]
@[simp] theorem State.thermLatch_frame (s : State) (p : Nat) :
    (s.thermLatch p).pending = s.pending ∧ (s.thermLatch p).reg = s.reg ∧ (s.thermLatch p).safety = s.safety ∧
    (s.thermLatch p).frame = s.frame ∧ (s.thermLatch p).host = s.host ∧ (s.thermLatch p).time = s.time ∧
    (s.thermLatch p).keys = s.keys ∧ (s.thermLatch p).scan = s.scan ∧ (s.thermLatch p).lio = s.lio ∧ (s.thermLatch
    p).loop = s.loop ∧ (s.thermLatch p).disp = s.disp ∧ (s.thermLatch p).bus = s.bus ∧ (s.thermLatch p).seam =
    s.seam ∧ (s.thermLatch p).pair = s.pair ∧ (s.thermLatch p).casc = s.casc ∧ (s.thermLatch p).upd = s.upd ∧
    (s.thermLatch p).boot = s.boot ∧ (s.thermLatch p).bk = s.bk ∧ (s.thermLatch p).out = s.out ∧ (s.thermLatch
    p).freeCtr = s.freeCtr := by
  simp [State.thermLatch]
@[simp] theorem State.thermQuantum_frame (s : State) (rtds : List (Rat × Bool)) :
    (s.thermQuantum rtds).pending = s.pending ∧ (s.thermQuantum rtds).safety = s.safety ∧ (s.thermQuantum
    rtds).frame = s.frame ∧ (s.thermQuantum rtds).host = s.host ∧ (s.thermQuantum rtds).time = s.time ∧
    (s.thermQuantum rtds).keys = s.keys ∧ (s.thermQuantum rtds).scan = s.scan ∧ (s.thermQuantum rtds).lio = s.lio ∧
    (s.thermQuantum rtds).loop = s.loop ∧ (s.thermQuantum rtds).disp = s.disp ∧ (s.thermQuantum rtds).bus = s.bus ∧
    (s.thermQuantum rtds).seam = s.seam ∧ (s.thermQuantum rtds).pair = s.pair ∧ (s.thermQuantum rtds).casc = s.casc
    ∧ (s.thermQuantum rtds).upd = s.upd ∧ (s.thermQuantum rtds).boot = s.boot ∧ (s.thermQuantum rtds).bk = s.bk ∧
    (s.thermQuantum rtds).freeCtr = s.freeCtr := by
  simp [State.thermQuantum]
@[simp] theorem State.energyQuantum_frame (s : State) (rtds : List (Rat × Bool)) :
    (s.energyQuantum rtds).pending = s.pending ∧ (s.energyQuantum rtds).safety = s.safety ∧ (s.energyQuantum
    rtds).frame = s.frame ∧ (s.energyQuantum rtds).host = s.host ∧ (s.energyQuantum rtds).time = s.time ∧
    (s.energyQuantum rtds).keys = s.keys ∧ (s.energyQuantum rtds).scan = s.scan ∧ (s.energyQuantum rtds).lio = s.lio
    ∧ (s.energyQuantum rtds).loop = s.loop ∧ (s.energyQuantum rtds).disp = s.disp ∧ (s.energyQuantum rtds).bus =
    s.bus ∧ (s.energyQuantum rtds).seam = s.seam ∧ (s.energyQuantum rtds).pair = s.pair ∧ (s.energyQuantum
    rtds).casc = s.casc ∧ (s.energyQuantum rtds).upd = s.upd ∧ (s.energyQuantum rtds).boot = s.boot ∧
    (s.energyQuantum rtds).bk = s.bk ∧ (s.energyQuantum rtds).freeCtr = s.freeCtr := by
  simp [State.energyQuantum]
@[simp] theorem State.meterBoundary_frame (s : State) (temp : Word) :
    (s.meterBoundary temp).pending = s.pending ∧ (s.meterBoundary temp).safety = s.safety ∧ (s.meterBoundary
    temp).frame = s.frame ∧ (s.meterBoundary temp).host = s.host ∧ (s.meterBoundary temp).time = s.time ∧
    (s.meterBoundary temp).keys = s.keys ∧ (s.meterBoundary temp).scan = s.scan ∧ (s.meterBoundary temp).lio = s.lio
    ∧ (s.meterBoundary temp).loop = s.loop ∧ (s.meterBoundary temp).disp = s.disp ∧ (s.meterBoundary temp).bus =
    s.bus ∧ (s.meterBoundary temp).seam = s.seam ∧ (s.meterBoundary temp).pair = s.pair ∧ (s.meterBoundary
    temp).casc = s.casc ∧ (s.meterBoundary temp).upd = s.upd ∧ (s.meterBoundary temp).boot = s.boot ∧
    (s.meterBoundary temp).bk = s.bk ∧ (s.meterBoundary temp).out = s.out ∧ (s.meterBoundary temp).freeCtr =
    s.freeCtr := by
  simp [State.meterBoundary]
@[simp] theorem State.publishThm_frame (s : State) (p : Nat) (words : List Word) :
    (s.publishThm p words).pending = s.pending ∧ (s.publishThm p words).safety = s.safety ∧ (s.publishThm p
    words).frame = s.frame ∧ (s.publishThm p words).host = s.host ∧ (s.publishThm p words).time = s.time ∧
    (s.publishThm p words).keys = s.keys ∧ (s.publishThm p words).scan = s.scan ∧ (s.publishThm p words).lio = s.lio
    ∧ (s.publishThm p words).loop = s.loop ∧ (s.publishThm p words).disp = s.disp ∧ (s.publishThm p words).bus =
    s.bus ∧ (s.publishThm p words).meter = s.meter ∧ (s.publishThm p words).seam = s.seam ∧ (s.publishThm p
    words).pair = s.pair ∧ (s.publishThm p words).casc = s.casc ∧ (s.publishThm p words).upd = s.upd ∧ (s.publishThm
    p words).boot = s.boot ∧ (s.publishThm p words).bk = s.bk ∧ (s.publishThm p words).freeCtr = s.freeCtr := by
  simp [State.publishThm]
@[simp] theorem State.thermPublish_frame (s : State) :
    (s.thermPublish).pending = s.pending ∧ (s.thermPublish).safety = s.safety ∧ (s.thermPublish).frame = s.frame ∧
    (s.thermPublish).host = s.host ∧ (s.thermPublish).time = s.time ∧ (s.thermPublish).keys = s.keys ∧
    (s.thermPublish).scan = s.scan ∧ (s.thermPublish).lio = s.lio ∧ (s.thermPublish).loop = s.loop ∧
    (s.thermPublish).disp = s.disp ∧ (s.thermPublish).bus = s.bus ∧ (s.thermPublish).seam = s.seam ∧
    (s.thermPublish).pair = s.pair ∧ (s.thermPublish).casc = s.casc ∧ (s.thermPublish).upd = s.upd ∧
    (s.thermPublish).boot = s.boot ∧ (s.thermPublish).bk = s.bk ∧ (s.thermPublish).freeCtr = s.freeCtr := by
  simp [State.thermPublish]
@[simp] theorem State.saveThermSetup_frame (s : State) :
    (s.saveThermSetup).pending = s.pending ∧ (s.saveThermSetup).safety = s.safety ∧ (s.saveThermSetup).frame =
    s.frame ∧ (s.saveThermSetup).host = s.host ∧ (s.saveThermSetup).time = s.time ∧ (s.saveThermSetup).keys = s.keys
    ∧ (s.saveThermSetup).scan = s.scan ∧ (s.saveThermSetup).lio = s.lio ∧ (s.saveThermSetup).loop = s.loop ∧
    (s.saveThermSetup).disp = s.disp ∧ (s.saveThermSetup).bus = s.bus ∧ (s.saveThermSetup).meter = s.meter ∧
    (s.saveThermSetup).pair = s.pair ∧ (s.saveThermSetup).casc = s.casc ∧ (s.saveThermSetup).upd = s.upd ∧
    (s.saveThermSetup).boot = s.boot ∧ (s.saveThermSetup).bk = s.bk ∧ (s.saveThermSetup).out = s.out ∧
    (s.saveThermSetup).freeCtr = s.freeCtr := by
  simp [State.saveThermSetup]
@[simp] theorem State.loadThermSetup_frame (s : State) :
    (s.loadThermSetup).1.pending = s.pending ∧ (s.loadThermSetup).1.safety = s.safety ∧ (s.loadThermSetup).1.frame =
    s.frame ∧ (s.loadThermSetup).1.host = s.host ∧ (s.loadThermSetup).1.time = s.time ∧ (s.loadThermSetup).1.keys =
    s.keys ∧ (s.loadThermSetup).1.scan = s.scan ∧ (s.loadThermSetup).1.lio = s.lio ∧ (s.loadThermSetup).1.loop =
    s.loop ∧ (s.loadThermSetup).1.disp = s.disp ∧ (s.loadThermSetup).1.bus = s.bus ∧ (s.loadThermSetup).1.seam =
    s.seam ∧ (s.loadThermSetup).1.pair = s.pair ∧ (s.loadThermSetup).1.casc = s.casc ∧ (s.loadThermSetup).1.upd =
    s.upd ∧ (s.loadThermSetup).1.boot = s.boot ∧ (s.loadThermSetup).1.bk = s.bk ∧ (s.loadThermSetup).1.out = s.out ∧
    (s.loadThermSetup).1.freeCtr = s.freeCtr := by
  unfold State.loadThermSetup; dsimp only; (repeat' split) <;> simp
@[simp] theorem State.modKeys_frame (s : State) (f : KeysState → KeysState) :
    (s.modKeys f).pending = s.pending ∧ (s.modKeys f).reg = s.reg ∧ (s.modKeys f).safety = s.safety ∧ (s.modKeys
    f).frame = s.frame ∧ (s.modKeys f).host = s.host ∧ (s.modKeys f).time = s.time ∧ (s.modKeys f).scan = s.scan ∧
    (s.modKeys f).lio = s.lio ∧ (s.modKeys f).loop = s.loop ∧ (s.modKeys f).disp = s.disp ∧ (s.modKeys f).bus =
    s.bus ∧ (s.modKeys f).meter = s.meter ∧ (s.modKeys f).seam = s.seam ∧ (s.modKeys f).pair = s.pair ∧ (s.modKeys
    f).casc = s.casc ∧ (s.modKeys f).upd = s.upd ∧ (s.modKeys f).boot = s.boot ∧ (s.modKeys f).bk = s.bk ∧
    (s.modKeys f).out = s.out ∧ (s.modKeys f).freeCtr = s.freeCtr := by
  simp [State.modKeys]
@[simp] theorem State.keysRefresh_frame (s : State) :
    (s.keysRefresh).pending = s.pending ∧ (s.keysRefresh).safety = s.safety ∧ (s.keysRefresh).frame = s.frame ∧
    (s.keysRefresh).host = s.host ∧ (s.keysRefresh).time = s.time ∧ (s.keysRefresh).keys = s.keys ∧
    (s.keysRefresh).scan = s.scan ∧ (s.keysRefresh).lio = s.lio ∧ (s.keysRefresh).loop = s.loop ∧
    (s.keysRefresh).disp = s.disp ∧ (s.keysRefresh).bus = s.bus ∧ (s.keysRefresh).meter = s.meter ∧
    (s.keysRefresh).seam = s.seam ∧ (s.keysRefresh).pair = s.pair ∧ (s.keysRefresh).casc = s.casc ∧
    (s.keysRefresh).upd = s.upd ∧ (s.keysRefresh).boot = s.boot ∧ (s.keysRefresh).bk = s.bk ∧
    (s.keysRefresh).freeCtr = s.freeCtr := by
  simp [State.keysRefresh]
@[simp] theorem State.secPut_frame (s : State) (p : SecPages) :
    (s.secPut p).pending = s.pending ∧ (s.secPut p).reg = s.reg ∧ (s.secPut p).safety = s.safety ∧ (s.secPut
    p).frame = s.frame ∧ (s.secPut p).host = s.host ∧ (s.secPut p).time = s.time ∧ (s.secPut p).keys = s.keys ∧
    (s.secPut p).scan = s.scan ∧ (s.secPut p).lio = s.lio ∧ (s.secPut p).loop = s.loop ∧ (s.secPut p).disp = s.disp
    ∧ (s.secPut p).bus = s.bus ∧ (s.secPut p).meter = s.meter ∧ (s.secPut p).pair = s.pair ∧ (s.secPut p).casc =
    s.casc ∧ (s.secPut p).upd = s.upd ∧ (s.secPut p).boot = s.boot ∧ (s.secPut p).bk = s.bk ∧ (s.secPut p).out =
    s.out ∧ (s.secPut p).freeCtr = s.freeCtr := by
  simp [State.secPut]
@[simp] theorem State.secSync_frame (s : State) :
    (s.secSync).pending = s.pending ∧ (s.secSync).reg = s.reg ∧ (s.secSync).safety = s.safety ∧ (s.secSync).frame =
    s.frame ∧ (s.secSync).host = s.host ∧ (s.secSync).time = s.time ∧ (s.secSync).keys = s.keys ∧ (s.secSync).scan =
    s.scan ∧ (s.secSync).lio = s.lio ∧ (s.secSync).loop = s.loop ∧ (s.secSync).disp = s.disp ∧ (s.secSync).bus =
    s.bus ∧ (s.secSync).meter = s.meter ∧ (s.secSync).pair = s.pair ∧ (s.secSync).casc = s.casc ∧ (s.secSync).upd =
    s.upd ∧ (s.secSync).boot = s.boot ∧ (s.secSync).bk = s.bk ∧ (s.secSync).out = s.out ∧ (s.secSync).freeCtr =
    s.freeCtr := by
  simp [State.secSync]
@[simp] theorem State.countUse_frame (s : State) (n : Nat) :
    (s.countUse n).pending = s.pending ∧ (s.countUse n).safety = s.safety ∧ (s.countUse n).frame = s.frame ∧
    (s.countUse n).host = s.host ∧ (s.countUse n).time = s.time ∧ (s.countUse n).scan = s.scan ∧ (s.countUse n).lio
    = s.lio ∧ (s.countUse n).loop = s.loop ∧ (s.countUse n).disp = s.disp ∧ (s.countUse n).bus = s.bus ∧ (s.countUse
    n).meter = s.meter ∧ (s.countUse n).pair = s.pair ∧ (s.countUse n).casc = s.casc ∧ (s.countUse n).upd = s.upd ∧
    (s.countUse n).boot = s.boot ∧ (s.countUse n).bk = s.bk ∧ (s.countUse n).freeCtr = s.freeCtr := by
  simp [State.countUse]
@[simp] theorem State.keyFail_frame (s : State) (code : Nat) :
    (s.keyFail code).pending = s.pending ∧ (s.keyFail code).safety = s.safety ∧ (s.keyFail code).frame = s.frame ∧
    (s.keyFail code).host = s.host ∧ (s.keyFail code).time = s.time ∧ (s.keyFail code).keys = s.keys ∧ (s.keyFail
    code).scan = s.scan ∧ (s.keyFail code).lio = s.lio ∧ (s.keyFail code).loop = s.loop ∧ (s.keyFail code).disp =
    s.disp ∧ (s.keyFail code).bus = s.bus ∧ (s.keyFail code).meter = s.meter ∧ (s.keyFail code).seam = s.seam ∧
    (s.keyFail code).pair = s.pair ∧ (s.keyFail code).casc = s.casc ∧ (s.keyFail code).upd = s.upd ∧ (s.keyFail
    code).boot = s.boot ∧ (s.keyFail code).bk = s.bk ∧ (s.keyFail code).out = s.out ∧ (s.keyFail code).freeCtr =
    s.freeCtr := by
  simp [State.keyFail]
@[simp] theorem State.keyDone_frame (s : State) (tag n : Nat) (payload : List Byte) :
    (s.keyDone tag n payload).pending = s.pending ∧ (s.keyDone tag n payload).safety = s.safety ∧ (s.keyDone tag n
    payload).frame = s.frame ∧ (s.keyDone tag n payload).time = s.time ∧ (s.keyDone tag n payload).scan = s.scan ∧
    (s.keyDone tag n payload).lio = s.lio ∧ (s.keyDone tag n payload).loop = s.loop ∧ (s.keyDone tag n payload).disp
    = s.disp ∧ (s.keyDone tag n payload).bus = s.bus ∧ (s.keyDone tag n payload).meter = s.meter ∧ (s.keyDone tag n
    payload).pair = s.pair ∧ (s.keyDone tag n payload).casc = s.casc ∧ (s.keyDone tag n payload).upd = s.upd ∧
    (s.keyDone tag n payload).boot = s.boot ∧ (s.keyDone tag n payload).bk = s.bk := by
  simp [State.keyDone]
@[simp] theorem State.keyEmit_frame (s : State) (n : Nat) (msgs : List OutMsg) :
    (s.keyEmit n msgs).pending = s.pending ∧ (s.keyEmit n msgs).safety = s.safety ∧ (s.keyEmit n msgs).frame =
    s.frame ∧ (s.keyEmit n msgs).host = s.host ∧ (s.keyEmit n msgs).time = s.time ∧ (s.keyEmit n msgs).scan = s.scan
    ∧ (s.keyEmit n msgs).lio = s.lio ∧ (s.keyEmit n msgs).loop = s.loop ∧ (s.keyEmit n msgs).disp = s.disp ∧
    (s.keyEmit n msgs).bus = s.bus ∧ (s.keyEmit n msgs).meter = s.meter ∧ (s.keyEmit n msgs).pair = s.pair ∧
    (s.keyEmit n msgs).casc = s.casc ∧ (s.keyEmit n msgs).upd = s.upd ∧ (s.keyEmit n msgs).boot = s.boot ∧
    (s.keyEmit n msgs).bk = s.bk ∧ (s.keyEmit n msgs).freeCtr = s.freeCtr := by
  simp [State.keyEmit]
@[simp] theorem State.keySealed_frame (s : State) (n addr : Nat) (bytes : List Byte) (bill : Option (Nat × Nat))
    :
    (s.keySealed n addr bytes bill).pending = s.pending ∧ (s.keySealed n addr bytes bill).safety = s.safety ∧
    (s.keySealed n addr bytes bill).frame = s.frame ∧ (s.keySealed n addr bytes bill).host = s.host ∧ (s.keySealed n
    addr bytes bill).time = s.time ∧ (s.keySealed n addr bytes bill).scan = s.scan ∧ (s.keySealed n addr bytes
    bill).lio = s.lio ∧ (s.keySealed n addr bytes bill).loop = s.loop ∧ (s.keySealed n addr bytes bill).disp =
    s.disp ∧ (s.keySealed n addr bytes bill).bus = s.bus ∧ (s.keySealed n addr bytes bill).meter = s.meter ∧
    (s.keySealed n addr bytes bill).pair = s.pair ∧ (s.keySealed n addr bytes bill).casc = s.casc ∧ (s.keySealed n
    addr bytes bill).upd = s.upd ∧ (s.keySealed n addr bytes bill).boot = s.boot ∧ (s.keySealed n addr bytes
    bill).bk = s.bk ∧ (s.keySealed n addr bytes bill).freeCtr = s.freeCtr := by
  simp [State.keySealed]
@[simp] theorem State.orphanMark_frame (s : State) :
    (s.orphanMark).pending = s.pending ∧ (s.orphanMark).safety = s.safety ∧ (s.orphanMark).frame = s.frame ∧
    (s.orphanMark).host = s.host ∧ (s.orphanMark).time = s.time ∧ (s.orphanMark).scan = s.scan ∧ (s.orphanMark).lio
    = s.lio ∧ (s.orphanMark).loop = s.loop ∧ (s.orphanMark).disp = s.disp ∧ (s.orphanMark).bus = s.bus ∧
    (s.orphanMark).meter = s.meter ∧ (s.orphanMark).seam = s.seam ∧ (s.orphanMark).pair = s.pair ∧
    (s.orphanMark).casc = s.casc ∧ (s.orphanMark).upd = s.upd ∧ (s.orphanMark).boot = s.boot ∧ (s.orphanMark).bk =
    s.bk ∧ (s.orphanMark).freeCtr = s.freeCtr := by
  simp [State.orphanMark]
@[simp] theorem State.kuReject_frame (s : State) (tag : Nat) (r : Refuse) :
    (s.kuReject tag r).pending = s.pending ∧ (s.kuReject tag r).safety = s.safety ∧ (s.kuReject tag r).frame =
    s.frame ∧ (s.kuReject tag r).time = s.time ∧ (s.kuReject tag r).keys = s.keys ∧ (s.kuReject tag r).scan = s.scan
    ∧ (s.kuReject tag r).lio = s.lio ∧ (s.kuReject tag r).loop = s.loop ∧ (s.kuReject tag r).disp = s.disp ∧
    (s.kuReject tag r).bus = s.bus ∧ (s.kuReject tag r).meter = s.meter ∧ (s.kuReject tag r).seam = s.seam ∧
    (s.kuReject tag r).pair = s.pair ∧ (s.kuReject tag r).casc = s.casc ∧ (s.kuReject tag r).upd = s.upd ∧
    (s.kuReject tag r).boot = s.boot ∧ (s.kuReject tag r).bk = s.bk := by
  simp [State.kuReject]
@[simp] theorem State.keyUpdate_frame (s : State) (req : OctahReq) :
    (s.keyUpdate req).pending = s.pending ∧ (s.keyUpdate req).safety = s.safety ∧ (s.keyUpdate req).frame = s.frame
    ∧ (s.keyUpdate req).time = s.time ∧ (s.keyUpdate req).scan = s.scan ∧ (s.keyUpdate req).lio = s.lio ∧
    (s.keyUpdate req).loop = s.loop ∧ (s.keyUpdate req).disp = s.disp ∧ (s.keyUpdate req).bus = s.bus ∧ (s.keyUpdate
    req).meter = s.meter ∧ (s.keyUpdate req).pair = s.pair ∧ (s.keyUpdate req).casc = s.casc ∧ (s.keyUpdate req).upd
    = s.upd ∧ (s.keyUpdate req).boot = s.boot ∧ (s.keyUpdate req).bk = s.bk := by
  unfold State.keyUpdate; dsimp only; (repeat' split) <;> simp
@[simp] theorem State.kuSealed_frame (s : State) :
    (s.kuSealed).pending = s.pending ∧ (s.kuSealed).safety = s.safety ∧ (s.kuSealed).frame = s.frame ∧
    (s.kuSealed).time = s.time ∧ (s.kuSealed).scan = s.scan ∧ (s.kuSealed).lio = s.lio ∧ (s.kuSealed).loop = s.loop
    ∧ (s.kuSealed).disp = s.disp ∧ (s.kuSealed).bus = s.bus ∧ (s.kuSealed).meter = s.meter ∧ (s.kuSealed).pair =
    s.pair ∧ (s.kuSealed).casc = s.casc ∧ (s.kuSealed).upd = s.upd ∧ (s.kuSealed).boot = s.boot ∧ (s.kuSealed).bk =
    s.bk := by
  unfold State.kuSealed; (repeat' split) <;> simp
@[simp] theorem State.kuFailed_frame (s : State) :
    (s.kuFailed).pending = s.pending ∧ (s.kuFailed).safety = s.safety ∧ (s.kuFailed).frame = s.frame ∧
    (s.kuFailed).time = s.time ∧ (s.kuFailed).scan = s.scan ∧ (s.kuFailed).lio = s.lio ∧ (s.kuFailed).loop = s.loop
    ∧ (s.kuFailed).disp = s.disp ∧ (s.kuFailed).bus = s.bus ∧ (s.kuFailed).meter = s.meter ∧ (s.kuFailed).pair =
    s.pair ∧ (s.kuFailed).casc = s.casc ∧ (s.kuFailed).upd = s.upd ∧ (s.kuFailed).boot = s.boot ∧ (s.kuFailed).bk =
    s.bk := by
  unfold State.kuFailed; (repeat' split) <;> simp
@[simp] theorem State.keysStart_frame (s : State) :
    (s.keysStart).pending = s.pending ∧ (s.keysStart).safety = s.safety ∧ (s.keysStart).frame = s.frame ∧
    (s.keysStart).host = s.host ∧ (s.keysStart).time = s.time ∧ (s.keysStart).scan = s.scan ∧ (s.keysStart).lio =
    s.lio ∧ (s.keysStart).loop = s.loop ∧ (s.keysStart).disp = s.disp ∧ (s.keysStart).bus = s.bus ∧
    (s.keysStart).meter = s.meter ∧ (s.keysStart).pair = s.pair ∧ (s.keysStart).casc = s.casc ∧ (s.keysStart).upd =
    s.upd ∧ (s.keysStart).boot = s.boot ∧ (s.keysStart).bk = s.bk ∧ (s.keysStart).freeCtr = s.freeCtr := by
  simp [State.keysStart]
@[simp] theorem State.keysCold_frame (s : State) :
    (s.keysCold).pending = s.pending ∧ (s.keysCold).safety = s.safety ∧ (s.keysCold).frame = s.frame ∧
    (s.keysCold).host = s.host ∧ (s.keysCold).time = s.time ∧ (s.keysCold).scan = s.scan ∧ (s.keysCold).lio = s.lio
    ∧ (s.keysCold).loop = s.loop ∧ (s.keysCold).disp = s.disp ∧ (s.keysCold).bus = s.bus ∧ (s.keysCold).meter =
    s.meter ∧ (s.keysCold).pair = s.pair ∧ (s.keysCold).casc = s.casc ∧ (s.keysCold).upd = s.upd ∧ (s.keysCold).boot
    = s.boot ∧ (s.keysCold).bk = s.bk ∧ (s.keysCold).freeCtr = s.freeCtr := by
  simp [State.keysCold]
@[simp] theorem State.reserveLeaf_frame (s : State) (tag : Nat) :
    (s.reserveLeaf tag).pending = s.pending ∧ (s.reserveLeaf tag).safety = s.safety ∧ (s.reserveLeaf tag).frame =
    s.frame ∧ (s.reserveLeaf tag).host = s.host ∧ (s.reserveLeaf tag).time = s.time ∧ (s.reserveLeaf tag).scan =
    s.scan ∧ (s.reserveLeaf tag).lio = s.lio ∧ (s.reserveLeaf tag).loop = s.loop ∧ (s.reserveLeaf tag).disp = s.disp
    ∧ (s.reserveLeaf tag).bus = s.bus ∧ (s.reserveLeaf tag).meter = s.meter ∧ (s.reserveLeaf tag).pair = s.pair ∧
    (s.reserveLeaf tag).casc = s.casc ∧ (s.reserveLeaf tag).upd = s.upd ∧ (s.reserveLeaf tag).boot = s.boot ∧
    (s.reserveLeaf tag).bk = s.bk ∧ (s.reserveLeaf tag).freeCtr = s.freeCtr := by
  simp [State.reserveLeaf]
@[simp] theorem State.attestGo_frame (s : State) (tag : Nat) :
    (s.attestGo tag).pending = s.pending ∧ (s.attestGo tag).safety = s.safety ∧ (s.attestGo tag).frame = s.frame ∧
    (s.attestGo tag).time = s.time ∧ (s.attestGo tag).scan = s.scan ∧ (s.attestGo tag).lio = s.lio ∧ (s.attestGo
    tag).loop = s.loop ∧ (s.attestGo tag).disp = s.disp ∧ (s.attestGo tag).bus = s.bus ∧ (s.attestGo tag).meter =
    s.meter ∧ (s.attestGo tag).pair = s.pair ∧ (s.attestGo tag).casc = s.casc ∧ (s.attestGo tag).upd = s.upd ∧
    (s.attestGo tag).boot = s.boot ∧ (s.attestGo tag).bk = s.bk := by
  simp [State.attestGo]
@[simp] theorem State.saveSkip_frame (s : State) (sealFail : Bool) :
    (s.saveSkip sealFail).pending = s.pending ∧ (s.saveSkip sealFail).safety = s.safety ∧ (s.saveSkip
    sealFail).frame = s.frame ∧ (s.saveSkip sealFail).host = s.host ∧ (s.saveSkip sealFail).time = s.time ∧
    (s.saveSkip sealFail).keys = s.keys ∧ (s.saveSkip sealFail).scan = s.scan ∧ (s.saveSkip sealFail).lio = s.lio ∧
    (s.saveSkip sealFail).loop = s.loop ∧ (s.saveSkip sealFail).disp = s.disp ∧ (s.saveSkip sealFail).bus = s.bus ∧
    (s.saveSkip sealFail).meter = s.meter ∧ (s.saveSkip sealFail).seam = s.seam ∧ (s.saveSkip sealFail).pair =
    s.pair ∧ (s.saveSkip sealFail).casc = s.casc ∧ (s.saveSkip sealFail).upd = s.upd ∧ (s.saveSkip sealFail).boot =
    s.boot ∧ (s.saveSkip sealFail).bk = s.bk ∧ (s.saveSkip sealFail).freeCtr = s.freeCtr := by
  simp [State.saveSkip]
@[simp] theorem State.billSaveTrigger_frame (s : State) :
    (s.billSaveTrigger).pending = s.pending ∧ (s.billSaveTrigger).safety = s.safety ∧ (s.billSaveTrigger).frame =
    s.frame ∧ (s.billSaveTrigger).host = s.host ∧ (s.billSaveTrigger).time = s.time ∧ (s.billSaveTrigger).keys =
    s.keys ∧ (s.billSaveTrigger).scan = s.scan ∧ (s.billSaveTrigger).lio = s.lio ∧ (s.billSaveTrigger).loop = s.loop
    ∧ (s.billSaveTrigger).disp = s.disp ∧ (s.billSaveTrigger).bus = s.bus ∧ (s.billSaveTrigger).seam = s.seam ∧
    (s.billSaveTrigger).pair = s.pair ∧ (s.billSaveTrigger).casc = s.casc ∧ (s.billSaveTrigger).upd = s.upd ∧
    (s.billSaveTrigger).boot = s.boot ∧ (s.billSaveTrigger).bk = s.bk ∧ (s.billSaveTrigger).freeCtr = s.freeCtr := by
  unfold State.billSaveTrigger; (repeat' split) <;> simp [-State.modMe_meter, -State.modAfe_meter, -State.modCir_meter, -State.modThm_meter]
@[simp] theorem State.billSnapshot_frame (s : State) :
    (s.billSnapshot).pending = s.pending ∧ (s.billSnapshot).safety = s.safety ∧ (s.billSnapshot).frame = s.frame ∧
    (s.billSnapshot).host = s.host ∧ (s.billSnapshot).time = s.time ∧ (s.billSnapshot).scan = s.scan ∧
    (s.billSnapshot).lio = s.lio ∧ (s.billSnapshot).loop = s.loop ∧ (s.billSnapshot).disp = s.disp ∧
    (s.billSnapshot).bus = s.bus ∧ (s.billSnapshot).pair = s.pair ∧ (s.billSnapshot).casc = s.casc ∧
    (s.billSnapshot).upd = s.upd ∧ (s.billSnapshot).boot = s.boot ∧ (s.billSnapshot).bk = s.bk ∧
    (s.billSnapshot).freeCtr = s.freeCtr := by
  unfold State.billSnapshot; (repeat' split) <;> simp
@[simp] theorem State.billStored_frame (s : State) (ok : Bool) (seq ns : Nat) :
    (s.billStored ok seq ns).pending = s.pending ∧ (s.billStored ok seq ns).safety = s.safety ∧ (s.billStored ok seq
    ns).frame = s.frame ∧ (s.billStored ok seq ns).host = s.host ∧ (s.billStored ok seq ns).time = s.time ∧
    (s.billStored ok seq ns).keys = s.keys ∧ (s.billStored ok seq ns).scan = s.scan ∧ (s.billStored ok seq ns).lio =
    s.lio ∧ (s.billStored ok seq ns).loop = s.loop ∧ (s.billStored ok seq ns).disp = s.disp ∧ (s.billStored ok seq
    ns).bus = s.bus ∧ (s.billStored ok seq ns).seam = s.seam ∧ (s.billStored ok seq ns).pair = s.pair ∧
    (s.billStored ok seq ns).casc = s.casc ∧ (s.billStored ok seq ns).upd = s.upd ∧ (s.billStored ok seq ns).boot =
    s.boot ∧ (s.billStored ok seq ns).bk = s.bk ∧ (s.billStored ok seq ns).freeCtr = s.freeCtr := by
  simp [State.billStored]
@[simp] theorem State.reloadEnergy_frame (s : State) :
    (s.reloadEnergy).pending = s.pending ∧ (s.reloadEnergy).reg = s.reg ∧ (s.reloadEnergy).safety = s.safety ∧
    (s.reloadEnergy).frame = s.frame ∧ (s.reloadEnergy).host = s.host ∧ (s.reloadEnergy).time = s.time ∧
    (s.reloadEnergy).keys = s.keys ∧ (s.reloadEnergy).scan = s.scan ∧ (s.reloadEnergy).lio = s.lio ∧
    (s.reloadEnergy).loop = s.loop ∧ (s.reloadEnergy).disp = s.disp ∧ (s.reloadEnergy).bus = s.bus ∧
    (s.reloadEnergy).seam = s.seam ∧ (s.reloadEnergy).pair = s.pair ∧ (s.reloadEnergy).casc = s.casc ∧
    (s.reloadEnergy).upd = s.upd ∧ (s.reloadEnergy).boot = s.boot ∧ (s.reloadEnergy).bk = s.bk ∧
    (s.reloadEnergy).out = s.out ∧ (s.reloadEnergy).freeCtr = s.freeCtr := by
  simp [State.reloadEnergy]
@[simp] theorem State.meterRecover_frame (s : State) :
    (s.meterRecover).pending = s.pending ∧ (s.meterRecover).safety = s.safety ∧ (s.meterRecover).frame = s.frame ∧
    (s.meterRecover).host = s.host ∧ (s.meterRecover).time = s.time ∧ (s.meterRecover).keys = s.keys ∧
    (s.meterRecover).scan = s.scan ∧ (s.meterRecover).lio = s.lio ∧ (s.meterRecover).loop = s.loop ∧
    (s.meterRecover).disp = s.disp ∧ (s.meterRecover).bus = s.bus ∧ (s.meterRecover).seam = s.seam ∧
    (s.meterRecover).pair = s.pair ∧ (s.meterRecover).casc = s.casc ∧ (s.meterRecover).upd = s.upd ∧
    (s.meterRecover).boot = s.boot ∧ (s.meterRecover).bk = s.bk ∧ (s.meterRecover).out = s.out ∧
    (s.meterRecover).freeCtr = s.freeCtr := by
  simp [State.meterRecover]
@[simp] theorem State.gapRecord_frame (s : State) :
    (s.gapRecord).pending = s.pending ∧ (s.gapRecord).safety = s.safety ∧ (s.gapRecord).frame = s.frame ∧
    (s.gapRecord).host = s.host ∧ (s.gapRecord).time = s.time ∧ (s.gapRecord).scan = s.scan ∧ (s.gapRecord).lio =
    s.lio ∧ (s.gapRecord).loop = s.loop ∧ (s.gapRecord).disp = s.disp ∧ (s.gapRecord).bus = s.bus ∧
    (s.gapRecord).pair = s.pair ∧ (s.gapRecord).casc = s.casc ∧ (s.gapRecord).upd = s.upd ∧ (s.gapRecord).boot =
    s.boot ∧ (s.gapRecord).bk = s.bk ∧ (s.gapRecord).freeCtr = s.freeCtr := by
  simp [State.gapRecord]
@[simp] theorem State.meterCold_frame (s : State) :
    (s.meterCold).1.pending = s.pending ∧ (s.meterCold).1.safety = s.safety ∧ (s.meterCold).1.frame = s.frame ∧
    (s.meterCold).1.host = s.host ∧ (s.meterCold).1.time = s.time ∧ (s.meterCold).1.keys = s.keys ∧
    (s.meterCold).1.scan = s.scan ∧ (s.meterCold).1.lio = s.lio ∧ (s.meterCold).1.loop = s.loop ∧
    (s.meterCold).1.disp = s.disp ∧ (s.meterCold).1.bus = s.bus ∧ (s.meterCold).1.seam = s.seam ∧
    (s.meterCold).1.pair = s.pair ∧ (s.meterCold).1.casc = s.casc ∧ (s.meterCold).1.upd = s.upd ∧
    (s.meterCold).1.boot = s.boot ∧ (s.meterCold).1.bk = s.bk ∧ (s.meterCold).1.out = s.out ∧
    (s.meterCold).1.freeCtr = s.freeCtr := by
  simp [State.meterCold]

end Sys2Proof.Machine
end

