-- ==== Sys2Proof/Laws/FramesPair.lean ====
section
/-!
SUPPORT. The frames of the shared operations of the pair, the faults, the backup domain and a store of Seam: every field of State each leaves alone.
-/
namespace Sys2Proof.Machine

@[simp] theorem State.modPair_frame (s : State) (f : PairState → PairState) :
    (s.modPair f).pending = s.pending ∧ (s.modPair f).reg = s.reg ∧ (s.modPair f).safety = s.safety ∧ (s.modPair
    f).frame = s.frame ∧ (s.modPair f).host = s.host ∧ (s.modPair f).time = s.time ∧ (s.modPair f).keys = s.keys ∧
    (s.modPair f).scan = s.scan ∧ (s.modPair f).lio = s.lio ∧ (s.modPair f).loop = s.loop ∧ (s.modPair f).disp =
    s.disp ∧ (s.modPair f).bus = s.bus ∧ (s.modPair f).meter = s.meter ∧ (s.modPair f).seam = s.seam ∧ (s.modPair
    f).casc = s.casc ∧ (s.modPair f).upd = s.upd ∧ (s.modPair f).boot = s.boot ∧ (s.modPair f).bk = s.bk ∧
    (s.modPair f).out = s.out ∧ (s.modPair f).freeCtr = s.freeCtr := by
  simp [State.modPair]
@[simp] theorem State.lioGate_frame (s : State) :
    (s.lioGate).pending = s.pending ∧ (s.lioGate).reg = s.reg ∧ (s.lioGate).safety = s.safety ∧ (s.lioGate).frame =
    s.frame ∧ (s.lioGate).host = s.host ∧ (s.lioGate).time = s.time ∧ (s.lioGate).keys = s.keys ∧ (s.lioGate).scan =
    s.scan ∧ (s.lioGate).loop = s.loop ∧ (s.lioGate).disp = s.disp ∧ (s.lioGate).bus = s.bus ∧ (s.lioGate).meter =
    s.meter ∧ (s.lioGate).seam = s.seam ∧ (s.lioGate).pair = s.pair ∧ (s.lioGate).casc = s.casc ∧ (s.lioGate).upd =
    s.upd ∧ (s.lioGate).boot = s.boot ∧ (s.lioGate).bk = s.bk ∧ (s.lioGate).out = s.out ∧ (s.lioGate).freeCtr =
    s.freeCtr := by
  simp [State.lioGate]
@[simp] theorem State.dropFrames_frame (s : State) :
    (s.dropFrames).pending = s.pending ∧ (s.dropFrames).reg = s.reg ∧ (s.dropFrames).safety = s.safety ∧
    (s.dropFrames).frame = s.frame ∧ (s.dropFrames).host = s.host ∧ (s.dropFrames).time = s.time ∧
    (s.dropFrames).keys = s.keys ∧ (s.dropFrames).scan = s.scan ∧ (s.dropFrames).lio = s.lio ∧ (s.dropFrames).loop =
    s.loop ∧ (s.dropFrames).disp = s.disp ∧ (s.dropFrames).meter = s.meter ∧ (s.dropFrames).seam = s.seam ∧
    (s.dropFrames).pair = s.pair ∧ (s.dropFrames).casc = s.casc ∧ (s.dropFrames).upd = s.upd ∧ (s.dropFrames).boot =
    s.boot ∧ (s.dropFrames).bk = s.bk ∧ (s.dropFrames).out = s.out ∧ (s.dropFrames).freeCtr = s.freeCtr := by
  simp [State.dropFrames]
@[simp] theorem State.pairRefresh_frame (s : State) :
    (s.pairRefresh).pending = s.pending ∧ (s.pairRefresh).safety = s.safety ∧ (s.pairRefresh).frame = s.frame ∧
    (s.pairRefresh).host = s.host ∧ (s.pairRefresh).time = s.time ∧ (s.pairRefresh).keys = s.keys ∧
    (s.pairRefresh).scan = s.scan ∧ (s.pairRefresh).lio = s.lio ∧ (s.pairRefresh).loop = s.loop ∧
    (s.pairRefresh).disp = s.disp ∧ (s.pairRefresh).bus = s.bus ∧ (s.pairRefresh).meter = s.meter ∧
    (s.pairRefresh).seam = s.seam ∧ (s.pairRefresh).pair = s.pair ∧ (s.pairRefresh).casc = s.casc ∧
    (s.pairRefresh).upd = s.upd ∧ (s.pairRefresh).boot = s.boot ∧ (s.pairRefresh).bk = s.bk ∧
    (s.pairRefresh).freeCtr = s.freeCtr := by
  simp [State.pairRefresh]
@[simp] theorem State.setPair_frame (s : State) (x : Nat) :
    (s.setPair x).pending = s.pending ∧ (s.setPair x).safety = s.safety ∧ (s.setPair x).frame = s.frame ∧ (s.setPair
    x).host = s.host ∧ (s.setPair x).time = s.time ∧ (s.setPair x).keys = s.keys ∧ (s.setPair x).scan = s.scan ∧
    (s.setPair x).loop = s.loop ∧ (s.setPair x).disp = s.disp ∧ (s.setPair x).meter = s.meter ∧ (s.setPair x).seam =
    s.seam ∧ (s.setPair x).casc = s.casc ∧ (s.setPair x).upd = s.upd ∧ (s.setPair x).boot = s.boot ∧ (s.setPair
    x).bk = s.bk ∧ (s.setPair x).freeCtr = s.freeCtr := by
  simp [State.setPair]
@[simp] theorem State.ownerChanged_frame (s : State) :
    (s.ownerChanged).pending = s.pending ∧ (s.ownerChanged).safety = s.safety ∧ (s.ownerChanged).frame = s.frame ∧
    (s.ownerChanged).host = s.host ∧ (s.ownerChanged).time = s.time ∧ (s.ownerChanged).keys = s.keys ∧
    (s.ownerChanged).scan = s.scan ∧ (s.ownerChanged).lio = s.lio ∧ (s.ownerChanged).loop = s.loop ∧
    (s.ownerChanged).disp = s.disp ∧ (s.ownerChanged).bus = s.bus ∧ (s.ownerChanged).meter = s.meter ∧
    (s.ownerChanged).seam = s.seam ∧ (s.ownerChanged).pair = s.pair ∧ (s.ownerChanged).casc = s.casc ∧
    (s.ownerChanged).upd = s.upd ∧ (s.ownerChanged).boot = s.boot ∧ (s.ownerChanged).bk = s.bk ∧
    (s.ownerChanged).out = s.out ∧ (s.ownerChanged).freeCtr = s.freeCtr := by
  simp [State.ownerChanged]
@[simp] theorem State.journalFailover_frame (s : State) :
    (s.journalFailover).pending = s.pending ∧ (s.journalFailover).safety = s.safety ∧ (s.journalFailover).frame =
    s.frame ∧ (s.journalFailover).time = s.time ∧ (s.journalFailover).keys = s.keys ∧ (s.journalFailover).scan =
    s.scan ∧ (s.journalFailover).lio = s.lio ∧ (s.journalFailover).loop = s.loop ∧ (s.journalFailover).disp = s.disp
    ∧ (s.journalFailover).bus = s.bus ∧ (s.journalFailover).meter = s.meter ∧ (s.journalFailover).seam = s.seam ∧
    (s.journalFailover).pair = s.pair ∧ (s.journalFailover).casc = s.casc ∧ (s.journalFailover).upd = s.upd ∧
    (s.journalFailover).boot = s.boot ∧ (s.journalFailover).bk = s.bk ∧ (s.journalFailover).freeCtr = s.freeCtr := by
  simp [State.journalFailover]
@[simp] theorem State.journalOwn_frame (s : State) :
    (s.journalOwn).pending = s.pending ∧ (s.journalOwn).safety = s.safety ∧ (s.journalOwn).frame = s.frame ∧
    (s.journalOwn).host = s.host ∧ (s.journalOwn).time = s.time ∧ (s.journalOwn).keys = s.keys ∧ (s.journalOwn).scan
    = s.scan ∧ (s.journalOwn).lio = s.lio ∧ (s.journalOwn).loop = s.loop ∧ (s.journalOwn).disp = s.disp ∧
    (s.journalOwn).bus = s.bus ∧ (s.journalOwn).meter = s.meter ∧ (s.journalOwn).seam = s.seam ∧ (s.journalOwn).pair
    = s.pair ∧ (s.journalOwn).casc = s.casc ∧ (s.journalOwn).upd = s.upd ∧ (s.journalOwn).boot = s.boot ∧
    (s.journalOwn).bk = s.bk ∧ (s.journalOwn).out = s.out ∧ (s.journalOwn).freeCtr = s.freeCtr := by
  simp [State.journalOwn]
@[simp] theorem State.progWarm_frame (s : State) :
    (s.progWarm).pending = s.pending ∧ (s.progWarm).reg = s.reg ∧ (s.progWarm).safety = s.safety ∧
    (s.progWarm).frame = s.frame ∧ (s.progWarm).host = s.host ∧ (s.progWarm).time = s.time ∧ (s.progWarm).keys =
    s.keys ∧ (s.progWarm).lio = s.lio ∧ (s.progWarm).loop = s.loop ∧ (s.progWarm).disp = s.disp ∧ (s.progWarm).bus =
    s.bus ∧ (s.progWarm).meter = s.meter ∧ (s.progWarm).seam = s.seam ∧ (s.progWarm).pair = s.pair ∧
    (s.progWarm).casc = s.casc ∧ (s.progWarm).upd = s.upd ∧ (s.progWarm).boot = s.boot ∧ (s.progWarm).bk = s.bk ∧
    (s.progWarm).out = s.out ∧ (s.progWarm).freeCtr = s.freeCtr := by
  simp [State.progWarm]
@[simp] theorem State.endHandover_frame (s : State) (code : Nat) :
    (s.endHandover code).pending = s.pending ∧ (s.endHandover code).safety = s.safety ∧ (s.endHandover code).frame =
    s.frame ∧ (s.endHandover code).time = s.time ∧ (s.endHandover code).keys = s.keys ∧ (s.endHandover code).scan =
    s.scan ∧ (s.endHandover code).lio = s.lio ∧ (s.endHandover code).loop = s.loop ∧ (s.endHandover code).disp =
    s.disp ∧ (s.endHandover code).bus = s.bus ∧ (s.endHandover code).meter = s.meter ∧ (s.endHandover code).seam =
    s.seam ∧ (s.endHandover code).casc = s.casc ∧ (s.endHandover code).upd = s.upd ∧ (s.endHandover code).boot =
    s.boot ∧ (s.endHandover code).bk = s.bk := by
  unfold State.endHandover; (repeat' split) <;> simp
@[simp] theorem State.takeOwnership_frame (s : State) :
    (s.takeOwnership).pending = s.pending ∧ (s.takeOwnership).safety = s.safety ∧ (s.takeOwnership).frame = s.frame
    ∧ (s.takeOwnership).time = s.time ∧ (s.takeOwnership).keys = s.keys ∧ (s.takeOwnership).loop = s.loop ∧
    (s.takeOwnership).disp = s.disp ∧ (s.takeOwnership).meter = s.meter ∧ (s.takeOwnership).seam = s.seam ∧
    (s.takeOwnership).casc = s.casc ∧ (s.takeOwnership).upd = s.upd ∧ (s.takeOwnership).boot = s.boot ∧
    (s.takeOwnership).bk = s.bk := by
  simp [State.takeOwnership]
@[simp] theorem State.loseOwnership_frame (s : State) (lease : Bool) :
    (s.loseOwnership lease).pending = s.pending ∧ (s.loseOwnership lease).safety = s.safety ∧ (s.loseOwnership
    lease).frame = s.frame ∧ (s.loseOwnership lease).host = s.host ∧ (s.loseOwnership lease).time = s.time ∧
    (s.loseOwnership lease).keys = s.keys ∧ (s.loseOwnership lease).scan = s.scan ∧ (s.loseOwnership lease).loop =
    s.loop ∧ (s.loseOwnership lease).disp = s.disp ∧ (s.loseOwnership lease).meter = s.meter ∧ (s.loseOwnership
    lease).seam = s.seam ∧ (s.loseOwnership lease).casc = s.casc ∧ (s.loseOwnership lease).upd = s.upd ∧
    (s.loseOwnership lease).boot = s.boot ∧ (s.loseOwnership lease).bk = s.bk ∧ (s.loseOwnership lease).freeCtr =
    s.freeCtr := by
  simp [State.loseOwnership]
@[simp] theorem State.leaseExpire_frame (s : State) :
    (s.leaseExpire).pending = s.pending ∧ (s.leaseExpire).safety = s.safety ∧ (s.leaseExpire).frame = s.frame ∧
    (s.leaseExpire).host = s.host ∧ (s.leaseExpire).time = s.time ∧ (s.leaseExpire).keys = s.keys ∧
    (s.leaseExpire).scan = s.scan ∧ (s.leaseExpire).loop = s.loop ∧ (s.leaseExpire).disp = s.disp ∧
    (s.leaseExpire).meter = s.meter ∧ (s.leaseExpire).seam = s.seam ∧ (s.leaseExpire).casc = s.casc ∧
    (s.leaseExpire).upd = s.upd ∧ (s.leaseExpire).boot = s.boot ∧ (s.leaseExpire).bk = s.bk ∧
    (s.leaseExpire).freeCtr = s.freeCtr := by
  simp [State.leaseExpire]
@[simp] theorem State.handoverBeat_frame (s : State) :
    (s.handoverBeat).pending = s.pending ∧ (s.handoverBeat).safety = s.safety ∧ (s.handoverBeat).frame = s.frame ∧
    (s.handoverBeat).time = s.time ∧ (s.handoverBeat).keys = s.keys ∧ (s.handoverBeat).scan = s.scan ∧
    (s.handoverBeat).loop = s.loop ∧ (s.handoverBeat).disp = s.disp ∧ (s.handoverBeat).meter = s.meter ∧
    (s.handoverBeat).seam = s.seam ∧ (s.handoverBeat).casc = s.casc ∧ (s.handoverBeat).upd = s.upd ∧
    (s.handoverBeat).boot = s.boot ∧ (s.handoverBeat).bk = s.bk := by
  unfold State.handoverBeat; (repeat' split) <;> simp
@[simp] theorem State.judgeHeartbeat_frame (s : State) (n : Nat) :
    (s.judgeHeartbeat n).pending = s.pending ∧ (s.judgeHeartbeat n).safety = s.safety ∧ (s.judgeHeartbeat n).frame =
    s.frame ∧ (s.judgeHeartbeat n).host = s.host ∧ (s.judgeHeartbeat n).keys = s.keys ∧ (s.judgeHeartbeat n).scan =
    s.scan ∧ (s.judgeHeartbeat n).loop = s.loop ∧ (s.judgeHeartbeat n).disp = s.disp ∧ (s.judgeHeartbeat n).meter =
    s.meter ∧ (s.judgeHeartbeat n).seam = s.seam ∧ (s.judgeHeartbeat n).casc = s.casc ∧ (s.judgeHeartbeat n).upd =
    s.upd ∧ (s.judgeHeartbeat n).boot = s.boot ∧ (s.judgeHeartbeat n).bk = s.bk ∧ (s.judgeHeartbeat n).freeCtr =
    s.freeCtr := by
  unfold State.judgeHeartbeat; dsimp only; (repeat' split) <;> simp
@[simp] theorem State.arbLines_frame (s : State) (level : Bool) :
    (s.arbLines level).pending = s.pending ∧ (s.arbLines level).safety = s.safety ∧ (s.arbLines level).frame =
    s.frame ∧ (s.arbLines level).host = s.host ∧ (s.arbLines level).time = s.time ∧ (s.arbLines level).keys = s.keys
    ∧ (s.arbLines level).scan = s.scan ∧ (s.arbLines level).loop = s.loop ∧ (s.arbLines level).disp = s.disp ∧
    (s.arbLines level).meter = s.meter ∧ (s.arbLines level).seam = s.seam ∧ (s.arbLines level).casc = s.casc ∧
    (s.arbLines level).upd = s.upd ∧ (s.arbLines level).boot = s.boot ∧ (s.arbLines level).bk = s.bk ∧ (s.arbLines
    level).freeCtr = s.freeCtr := by
  simp [State.arbLines]
@[simp] theorem State.pairBoundary_frame (s : State) (arbIn : Bool) :
    (s.pairBoundary arbIn).pending = s.pending ∧ (s.pairBoundary arbIn).safety = s.safety ∧ (s.pairBoundary
    arbIn).frame = s.frame ∧ (s.pairBoundary arbIn).keys = s.keys ∧ (s.pairBoundary arbIn).loop = s.loop ∧
    (s.pairBoundary arbIn).disp = s.disp ∧ (s.pairBoundary arbIn).meter = s.meter ∧ (s.pairBoundary arbIn).seam =
    s.seam ∧ (s.pairBoundary arbIn).casc = s.casc ∧ (s.pairBoundary arbIn).upd = s.upd ∧ (s.pairBoundary arbIn).boot
    = s.boot ∧ (s.pairBoundary arbIn).bk = s.bk := by
  unfold State.pairBoundary; dsimp only; (repeat' split) <;> simp
@[simp] theorem State.leaseRequest_frame (s : State) (kind arg : Nat) :
    (s.leaseRequest kind arg).pending = s.pending ∧ (s.leaseRequest kind arg).safety = s.safety ∧ (s.leaseRequest
    kind arg).frame = s.frame ∧ (s.leaseRequest kind arg).host = s.host ∧ (s.leaseRequest kind arg).time = s.time ∧
    (s.leaseRequest kind arg).scan = s.scan ∧ (s.leaseRequest kind arg).lio = s.lio ∧ (s.leaseRequest kind arg).loop
    = s.loop ∧ (s.leaseRequest kind arg).disp = s.disp ∧ (s.leaseRequest kind arg).bus = s.bus ∧ (s.leaseRequest
    kind arg).meter = s.meter ∧ (s.leaseRequest kind arg).casc = s.casc ∧ (s.leaseRequest kind arg).upd = s.upd ∧
    (s.leaseRequest kind arg).boot = s.boot ∧ (s.leaseRequest kind arg).bk = s.bk ∧ (s.leaseRequest kind
    arg).freeCtr = s.freeCtr := by
  simp [State.leaseRequest]
@[simp] theorem State.leaseSend_frame (s : State) :
    (s.leaseSend).pending = s.pending ∧ (s.leaseSend).safety = s.safety ∧ (s.leaseSend).frame = s.frame ∧
    (s.leaseSend).host = s.host ∧ (s.leaseSend).time = s.time ∧ (s.leaseSend).scan = s.scan ∧ (s.leaseSend).lio =
    s.lio ∧ (s.leaseSend).loop = s.loop ∧ (s.leaseSend).disp = s.disp ∧ (s.leaseSend).bus = s.bus ∧
    (s.leaseSend).meter = s.meter ∧ (s.leaseSend).casc = s.casc ∧ (s.leaseSend).upd = s.upd ∧ (s.leaseSend).boot =
    s.boot ∧ (s.leaseSend).bk = s.bk ∧ (s.leaseSend).freeCtr = s.freeCtr := by
  unfold State.leaseSend; dsimp only; (repeat' split) <;> simp
@[simp] theorem State.handoverRefused_frame (s : State) :
    (s.handoverRefused).pending = s.pending ∧ (s.handoverRefused).safety = s.safety ∧ (s.handoverRefused).frame =
    s.frame ∧ (s.handoverRefused).time = s.time ∧ (s.handoverRefused).keys = s.keys ∧ (s.handoverRefused).scan =
    s.scan ∧ (s.handoverRefused).lio = s.lio ∧ (s.handoverRefused).loop = s.loop ∧ (s.handoverRefused).disp = s.disp
    ∧ (s.handoverRefused).bus = s.bus ∧ (s.handoverRefused).meter = s.meter ∧ (s.handoverRefused).seam = s.seam ∧
    (s.handoverRefused).casc = s.casc ∧ (s.handoverRefused).upd = s.upd ∧ (s.handoverRefused).boot = s.boot ∧
    (s.handoverRefused).bk = s.bk := by
  simp [State.handoverRefused]
@[simp] theorem State.leaseAnswer_frame (s : State) (m : List Byte) :
    (s.leaseAnswer m).pending = s.pending ∧ (s.leaseAnswer m).safety = s.safety ∧ (s.leaseAnswer m).frame = s.frame
    ∧ (s.leaseAnswer m).time = s.time ∧ (s.leaseAnswer m).keys = s.keys ∧ (s.leaseAnswer m).scan = s.scan ∧
    (s.leaseAnswer m).loop = s.loop ∧ (s.leaseAnswer m).disp = s.disp ∧ (s.leaseAnswer m).meter = s.meter ∧
    (s.leaseAnswer m).seam = s.seam ∧ (s.leaseAnswer m).casc = s.casc ∧ (s.leaseAnswer m).upd = s.upd ∧
    (s.leaseAnswer m).boot = s.boot ∧ (s.leaseAnswer m).bk = s.bk := by
  simp [State.leaseAnswer]
@[simp] theorem State.leaseReceive_frame (s : State) (m : List Byte) (relayed : Bool) :
    (s.leaseReceive m relayed).pending = s.pending ∧ (s.leaseReceive m relayed).safety = s.safety ∧ (s.leaseReceive
    m relayed).frame = s.frame ∧ (s.leaseReceive m relayed).time = s.time ∧ (s.leaseReceive m relayed).scan = s.scan
    ∧ (s.leaseReceive m relayed).loop = s.loop ∧ (s.leaseReceive m relayed).disp = s.disp ∧ (s.leaseReceive m
    relayed).meter = s.meter ∧ (s.leaseReceive m relayed).casc = s.casc ∧ (s.leaseReceive m relayed).upd = s.upd ∧
    (s.leaseReceive m relayed).boot = s.boot ∧ (s.leaseReceive m relayed).bk = s.bk := by
  simp [State.leaseReceive]
@[simp] theorem State.modWit_frame (s : State) (f : Witness → Witness) :
    (s.modWit f).pending = s.pending ∧ (s.modWit f).reg = s.reg ∧ (s.modWit f).safety = s.safety ∧ (s.modWit
    f).frame = s.frame ∧ (s.modWit f).host = s.host ∧ (s.modWit f).time = s.time ∧ (s.modWit f).keys = s.keys ∧
    (s.modWit f).scan = s.scan ∧ (s.modWit f).lio = s.lio ∧ (s.modWit f).loop = s.loop ∧ (s.modWit f).disp = s.disp
    ∧ (s.modWit f).bus = s.bus ∧ (s.modWit f).meter = s.meter ∧ (s.modWit f).seam = s.seam ∧ (s.modWit f).casc =
    s.casc ∧ (s.modWit f).upd = s.upd ∧ (s.modWit f).boot = s.boot ∧ (s.modWit f).bk = s.bk ∧ (s.modWit f).out =
    s.out ∧ (s.modWit f).freeCtr = s.freeCtr := by
  simp [State.modWit]
@[simp] theorem State.witGrant_frame (s : State) (to_ beat : Nat) :
    (s.witGrant to_ beat).pending = s.pending ∧ (s.witGrant to_ beat).safety = s.safety ∧ (s.witGrant to_
    beat).frame = s.frame ∧ (s.witGrant to_ beat).host = s.host ∧ (s.witGrant to_ beat).time = s.time ∧ (s.witGrant
    to_ beat).scan = s.scan ∧ (s.witGrant to_ beat).lio = s.lio ∧ (s.witGrant to_ beat).loop = s.loop ∧ (s.witGrant
    to_ beat).disp = s.disp ∧ (s.witGrant to_ beat).bus = s.bus ∧ (s.witGrant to_ beat).meter = s.meter ∧
    (s.witGrant to_ beat).casc = s.casc ∧ (s.witGrant to_ beat).upd = s.upd ∧ (s.witGrant to_ beat).boot = s.boot ∧
    (s.witGrant to_ beat).bk = s.bk ∧ (s.witGrant to_ beat).freeCtr = s.freeCtr := by
  simp [State.witGrant]
@[simp] theorem State.witRefuse_frame (s : State) (to_ beat reason holder holderEnd : Nat) :
    (s.witRefuse to_ beat reason holder holderEnd).pending = s.pending ∧ (s.witRefuse to_ beat reason holder
    holderEnd).safety = s.safety ∧ (s.witRefuse to_ beat reason holder holderEnd).frame = s.frame ∧ (s.witRefuse to_
    beat reason holder holderEnd).host = s.host ∧ (s.witRefuse to_ beat reason holder holderEnd).time = s.time ∧
    (s.witRefuse to_ beat reason holder holderEnd).scan = s.scan ∧ (s.witRefuse to_ beat reason holder
    holderEnd).lio = s.lio ∧ (s.witRefuse to_ beat reason holder holderEnd).loop = s.loop ∧ (s.witRefuse to_ beat
    reason holder holderEnd).disp = s.disp ∧ (s.witRefuse to_ beat reason holder holderEnd).bus = s.bus ∧
    (s.witRefuse to_ beat reason holder holderEnd).meter = s.meter ∧ (s.witRefuse to_ beat reason holder
    holderEnd).casc = s.casc ∧ (s.witRefuse to_ beat reason holder holderEnd).upd = s.upd ∧ (s.witRefuse to_ beat
    reason holder holderEnd).boot = s.boot ∧ (s.witRefuse to_ beat reason holder holderEnd).bk = s.bk ∧ (s.witRefuse
    to_ beat reason holder holderEnd).freeCtr = s.freeCtr := by
  simp [State.witRefuse]
@[simp] theorem State.witAnswer_frame (s : State) (kind sender b l h : Nat) :
    (s.witAnswer kind sender b l h).pending = s.pending ∧ (s.witAnswer kind sender b l h).safety = s.safety ∧
    (s.witAnswer kind sender b l h).frame = s.frame ∧ (s.witAnswer kind sender b l h).host = s.host ∧ (s.witAnswer
    kind sender b l h).time = s.time ∧ (s.witAnswer kind sender b l h).scan = s.scan ∧ (s.witAnswer kind sender b l
    h).lio = s.lio ∧ (s.witAnswer kind sender b l h).loop = s.loop ∧ (s.witAnswer kind sender b l h).disp = s.disp ∧
    (s.witAnswer kind sender b l h).bus = s.bus ∧ (s.witAnswer kind sender b l h).meter = s.meter ∧ (s.witAnswer
    kind sender b l h).casc = s.casc ∧ (s.witAnswer kind sender b l h).upd = s.upd ∧ (s.witAnswer kind sender b l
    h).boot = s.boot ∧ (s.witAnswer kind sender b l h).bk = s.bk ∧ (s.witAnswer kind sender b l h).freeCtr =
    s.freeCtr := by
  simp [State.witAnswer]
@[simp] theorem State.witReceive_frame (s : State) (kind : Nat) (m : List Byte) :
    (s.witReceive kind m).pending = s.pending ∧ (s.witReceive kind m).safety = s.safety ∧ (s.witReceive kind
    m).frame = s.frame ∧ (s.witReceive kind m).host = s.host ∧ (s.witReceive kind m).time = s.time ∧ (s.witReceive
    kind m).scan = s.scan ∧ (s.witReceive kind m).lio = s.lio ∧ (s.witReceive kind m).loop = s.loop ∧ (s.witReceive
    kind m).disp = s.disp ∧ (s.witReceive kind m).bus = s.bus ∧ (s.witReceive kind m).meter = s.meter ∧
    (s.witReceive kind m).casc = s.casc ∧ (s.witReceive kind m).upd = s.upd ∧ (s.witReceive kind m).boot = s.boot ∧
    (s.witReceive kind m).bk = s.bk ∧ (s.witReceive kind m).freeCtr = s.freeCtr := by
  unfold State.witReceive; dsimp only; (repeat' split) <;> simp
@[simp] theorem State.putMeterBlock_frame (s : State) (k : Nat) (bs : List Byte) :
    (s.putMeterBlock k bs).pending = s.pending ∧ (s.putMeterBlock k bs).safety = s.safety ∧ (s.putMeterBlock k
    bs).frame = s.frame ∧ (s.putMeterBlock k bs).host = s.host ∧ (s.putMeterBlock k bs).time = s.time ∧
    (s.putMeterBlock k bs).keys = s.keys ∧ (s.putMeterBlock k bs).scan = s.scan ∧ (s.putMeterBlock k bs).lio = s.lio
    ∧ (s.putMeterBlock k bs).loop = s.loop ∧ (s.putMeterBlock k bs).disp = s.disp ∧ (s.putMeterBlock k bs).bus =
    s.bus ∧ (s.putMeterBlock k bs).seam = s.seam ∧ (s.putMeterBlock k bs).pair = s.pair ∧ (s.putMeterBlock k
    bs).casc = s.casc ∧ (s.putMeterBlock k bs).upd = s.upd ∧ (s.putMeterBlock k bs).boot = s.boot ∧ (s.putMeterBlock
    k bs).bk = s.bk ∧ (s.putMeterBlock k bs).out = s.out ∧ (s.putMeterBlock k bs).freeCtr = s.freeCtr := by
  simp [State.putMeterBlock]
@[simp] theorem State.putBlock_frame (s : State) (region k : Nat) (bs : List Byte) :
    (s.putBlock region k bs).pending = s.pending ∧ (s.putBlock region k bs).safety = s.safety ∧ (s.putBlock region k
    bs).frame = s.frame ∧ (s.putBlock region k bs).time = s.time ∧ (s.putBlock region k bs).keys = s.keys ∧
    (s.putBlock region k bs).lio = s.lio ∧ (s.putBlock region k bs).seam = s.seam ∧ (s.putBlock region k bs).casc =
    s.casc ∧ (s.putBlock region k bs).upd = s.upd ∧ (s.putBlock region k bs).boot = s.boot ∧ (s.putBlock region k
    bs).bk = s.bk ∧ (s.putBlock region k bs).out = s.out ∧ (s.putBlock region k bs).freeCtr = s.freeCtr := by
  unfold State.putBlock; (repeat' split) <;> simp
@[simp] theorem State.pairP2_frame (s : State) :
    (s.pairP2).pending = s.pending ∧ (s.pairP2).safety = s.safety ∧ (s.pairP2).frame = s.frame ∧ (s.pairP2).host =
    s.host ∧ (s.pairP2).time = s.time ∧ (s.pairP2).keys = s.keys ∧ (s.pairP2).scan = s.scan ∧ (s.pairP2).lio = s.lio
    ∧ (s.pairP2).loop = s.loop ∧ (s.pairP2).disp = s.disp ∧ (s.pairP2).bus = s.bus ∧ (s.pairP2).meter = s.meter ∧
    (s.pairP2).seam = s.seam ∧ (s.pairP2).casc = s.casc ∧ (s.pairP2).upd = s.upd ∧ (s.pairP2).boot = s.boot ∧
    (s.pairP2).bk = s.bk ∧ (s.pairP2).freeCtr = s.freeCtr := by
  simp [State.pairP2]
@[simp] theorem State.heartbeatSend_frame (s : State) :
    (s.heartbeatSend).pending = s.pending ∧ (s.heartbeatSend).reg = s.reg ∧ (s.heartbeatSend).safety = s.safety ∧
    (s.heartbeatSend).frame = s.frame ∧ (s.heartbeatSend).host = s.host ∧ (s.heartbeatSend).time = s.time ∧
    (s.heartbeatSend).keys = s.keys ∧ (s.heartbeatSend).scan = s.scan ∧ (s.heartbeatSend).lio = s.lio ∧
    (s.heartbeatSend).loop = s.loop ∧ (s.heartbeatSend).disp = s.disp ∧ (s.heartbeatSend).bus = s.bus ∧
    (s.heartbeatSend).meter = s.meter ∧ (s.heartbeatSend).seam = s.seam ∧ (s.heartbeatSend).casc = s.casc ∧
    (s.heartbeatSend).upd = s.upd ∧ (s.heartbeatSend).boot = s.boot ∧ (s.heartbeatSend).bk = s.bk ∧
    (s.heartbeatSend).freeCtr = s.freeCtr := by
  unfold State.heartbeatSend; dsimp only; (repeat' split) <;> simp
@[simp] theorem State.noteStarted_frame (s : State) (p : Nat) :
    (s.noteStarted p).pending = s.pending ∧ (s.noteStarted p).reg = s.reg ∧ (s.noteStarted p).safety = s.safety ∧
    (s.noteStarted p).frame = s.frame ∧ (s.noteStarted p).host = s.host ∧ (s.noteStarted p).time = s.time ∧
    (s.noteStarted p).keys = s.keys ∧ (s.noteStarted p).scan = s.scan ∧ (s.noteStarted p).lio = s.lio ∧
    (s.noteStarted p).loop = s.loop ∧ (s.noteStarted p).disp = s.disp ∧ (s.noteStarted p).bus = s.bus ∧
    (s.noteStarted p).meter = s.meter ∧ (s.noteStarted p).seam = s.seam ∧ (s.noteStarted p).casc = s.casc ∧
    (s.noteStarted p).upd = s.upd ∧ (s.noteStarted p).boot = s.boot ∧ (s.noteStarted p).bk = s.bk ∧ (s.noteStarted
    p).out = s.out ∧ (s.noteStarted p).freeCtr = s.freeCtr := by
  unfold State.noteStarted; (repeat' split) <;> simp
@[simp] theorem State.joinReady_frame (s : State) (run : Nat) :
    (s.joinReady run).pending = s.pending ∧ (s.joinReady run).safety = s.safety ∧ (s.joinReady run).frame = s.frame
    ∧ (s.joinReady run).host = s.host ∧ (s.joinReady run).time = s.time ∧ (s.joinReady run).keys = s.keys ∧
    (s.joinReady run).lio = s.lio ∧ (s.joinReady run).loop = s.loop ∧ (s.joinReady run).disp = s.disp ∧ (s.joinReady
    run).bus = s.bus ∧ (s.joinReady run).meter = s.meter ∧ (s.joinReady run).seam = s.seam ∧ (s.joinReady run).casc
    = s.casc ∧ (s.joinReady run).upd = s.upd ∧ (s.joinReady run).boot = s.boot ∧ (s.joinReady run).bk = s.bk ∧
    (s.joinReady run).out = s.out ∧ (s.joinReady run).freeCtr = s.freeCtr := by
  simp [State.joinReady]
@[simp] theorem State.joinEqual_frame (s : State) (equal : Bool) :
    (s.joinEqual equal).pending = s.pending ∧ (s.joinEqual equal).safety = s.safety ∧ (s.joinEqual equal).frame =
    s.frame ∧ (s.joinEqual equal).host = s.host ∧ (s.joinEqual equal).time = s.time ∧ (s.joinEqual equal).keys =
    s.keys ∧ (s.joinEqual equal).scan = s.scan ∧ (s.joinEqual equal).loop = s.loop ∧ (s.joinEqual equal).disp =
    s.disp ∧ (s.joinEqual equal).meter = s.meter ∧ (s.joinEqual equal).seam = s.seam ∧ (s.joinEqual equal).casc =
    s.casc ∧ (s.joinEqual equal).upd = s.upd ∧ (s.joinEqual equal).boot = s.boot ∧ (s.joinEqual equal).bk = s.bk ∧
    (s.joinEqual equal).freeCtr = s.freeCtr := by
  unfold State.joinEqual; (repeat' split) <;> simp
@[simp] theorem State.setBit64_frame (s : State) (lo n : Nat) (b : Bool) :
    (s.setBit64 lo n b).pending = s.pending ∧ (s.setBit64 lo n b).safety = s.safety ∧ (s.setBit64 lo n b).frame =
    s.frame ∧ (s.setBit64 lo n b).host = s.host ∧ (s.setBit64 lo n b).time = s.time ∧ (s.setBit64 lo n b).keys =
    s.keys ∧ (s.setBit64 lo n b).scan = s.scan ∧ (s.setBit64 lo n b).lio = s.lio ∧ (s.setBit64 lo n b).loop = s.loop
    ∧ (s.setBit64 lo n b).disp = s.disp ∧ (s.setBit64 lo n b).bus = s.bus ∧ (s.setBit64 lo n b).meter = s.meter ∧
    (s.setBit64 lo n b).seam = s.seam ∧ (s.setBit64 lo n b).pair = s.pair ∧ (s.setBit64 lo n b).casc = s.casc ∧
    (s.setBit64 lo n b).upd = s.upd ∧ (s.setBit64 lo n b).boot = s.boot ∧ (s.setBit64 lo n b).bk = s.bk ∧
    (s.setBit64 lo n b).out = s.out ∧ (s.setBit64 lo n b).freeCtr = s.freeCtr := by
  simp [State.setBit64]
@[simp] theorem State.lampItem_frame (s : State) (item : Nat) (ok : Bool) (coverage : Nat) :
    (s.lampItem item ok coverage).pending = s.pending ∧ (s.lampItem item ok coverage).safety = s.safety ∧
    (s.lampItem item ok coverage).frame = s.frame ∧ (s.lampItem item ok coverage).host = s.host ∧ (s.lampItem item
    ok coverage).time = s.time ∧ (s.lampItem item ok coverage).keys = s.keys ∧ (s.lampItem item ok coverage).scan =
    s.scan ∧ (s.lampItem item ok coverage).lio = s.lio ∧ (s.lampItem item ok coverage).loop = s.loop ∧ (s.lampItem
    item ok coverage).disp = s.disp ∧ (s.lampItem item ok coverage).bus = s.bus ∧ (s.lampItem item ok
    coverage).meter = s.meter ∧ (s.lampItem item ok coverage).seam = s.seam ∧ (s.lampItem item ok coverage).casc =
    s.casc ∧ (s.lampItem item ok coverage).upd = s.upd ∧ (s.lampItem item ok coverage).boot = s.boot ∧ (s.lampItem
    item ok coverage).bk = s.bk ∧ (s.lampItem item ok coverage).freeCtr = s.freeCtr := by
  simp [State.lampItem]
@[simp] theorem State.beginHandover_frame (s : State) (h : Nat) (tag : Option Nat) :
    (s.beginHandover h tag).pending = s.pending ∧ (s.beginHandover h tag).reg = s.reg ∧ (s.beginHandover h
    tag).safety = s.safety ∧ (s.beginHandover h tag).frame = s.frame ∧ (s.beginHandover h tag).host = s.host ∧
    (s.beginHandover h tag).time = s.time ∧ (s.beginHandover h tag).keys = s.keys ∧ (s.beginHandover h tag).scan =
    s.scan ∧ (s.beginHandover h tag).lio = s.lio ∧ (s.beginHandover h tag).loop = s.loop ∧ (s.beginHandover h
    tag).disp = s.disp ∧ (s.beginHandover h tag).bus = s.bus ∧ (s.beginHandover h tag).meter = s.meter ∧
    (s.beginHandover h tag).seam = s.seam ∧ (s.beginHandover h tag).casc = s.casc ∧ (s.beginHandover h tag).upd =
    s.upd ∧ (s.beginHandover h tag).boot = s.boot ∧ (s.beginHandover h tag).bk = s.bk ∧ (s.beginHandover h
    tag).freeCtr = s.freeCtr := by
  simp [State.beginHandover]
@[simp] theorem State.logDivergence_frame (s : State) (kind idx own owner : Nat) :
    (s.logDivergence kind idx own owner).pending = s.pending ∧ (s.logDivergence kind idx own owner).reg = s.reg ∧
    (s.logDivergence kind idx own owner).safety = s.safety ∧ (s.logDivergence kind idx own owner).frame = s.frame ∧
    (s.logDivergence kind idx own owner).host = s.host ∧ (s.logDivergence kind idx own owner).time = s.time ∧
    (s.logDivergence kind idx own owner).keys = s.keys ∧ (s.logDivergence kind idx own owner).scan = s.scan ∧
    (s.logDivergence kind idx own owner).lio = s.lio ∧ (s.logDivergence kind idx own owner).loop = s.loop ∧
    (s.logDivergence kind idx own owner).disp = s.disp ∧ (s.logDivergence kind idx own owner).bus = s.bus ∧
    (s.logDivergence kind idx own owner).meter = s.meter ∧ (s.logDivergence kind idx own owner).seam = s.seam ∧
    (s.logDivergence kind idx own owner).casc = s.casc ∧ (s.logDivergence kind idx own owner).upd = s.upd ∧
    (s.logDivergence kind idx own owner).boot = s.boot ∧ (s.logDivergence kind idx own owner).bk = s.bk ∧
    (s.logDivergence kind idx own owner).out = s.out ∧ (s.logDivergence kind idx own owner).freeCtr = s.freeCtr := by
  simp [State.logDivergence]
@[simp] theorem State.modSafety_frame (s : State) (f : SafetyState → SafetyState) :
    (s.modSafety f).pending = s.pending ∧ (s.modSafety f).reg = s.reg ∧ (s.modSafety f).frame = s.frame ∧
    (s.modSafety f).host = s.host ∧ (s.modSafety f).time = s.time ∧ (s.modSafety f).keys = s.keys ∧ (s.modSafety
    f).scan = s.scan ∧ (s.modSafety f).lio = s.lio ∧ (s.modSafety f).loop = s.loop ∧ (s.modSafety f).disp = s.disp ∧
    (s.modSafety f).bus = s.bus ∧ (s.modSafety f).meter = s.meter ∧ (s.modSafety f).seam = s.seam ∧ (s.modSafety
    f).pair = s.pair ∧ (s.modSafety f).casc = s.casc ∧ (s.modSafety f).upd = s.upd ∧ (s.modSafety f).boot = s.boot ∧
    (s.modSafety f).bk = s.bk ∧ (s.modSafety f).out = s.out ∧ (s.modSafety f).freeCtr = s.freeCtr := by
  simp [State.modSafety]
@[simp] theorem State.recordFault_frame (s : State) (f : FaultReport) (r : Nat) :
    (s.recordFault f r).pending = s.pending ∧ (s.recordFault f r).frame = s.frame ∧ (s.recordFault f r).host =
    s.host ∧ (s.recordFault f r).time = s.time ∧ (s.recordFault f r).keys = s.keys ∧ (s.recordFault f r).scan =
    s.scan ∧ (s.recordFault f r).lio = s.lio ∧ (s.recordFault f r).loop = s.loop ∧ (s.recordFault f r).disp = s.disp
    ∧ (s.recordFault f r).bus = s.bus ∧ (s.recordFault f r).meter = s.meter ∧ (s.recordFault f r).seam = s.seam ∧
    (s.recordFault f r).pair = s.pair ∧ (s.recordFault f r).casc = s.casc ∧ (s.recordFault f r).upd = s.upd ∧
    (s.recordFault f r).boot = s.boot ∧ (s.recordFault f r).bk = s.bk ∧ (s.recordFault f r).out = s.out := by
  simp [State.recordFault]
@[simp] theorem State.safetyRefresh_frame (s : State) :
    (s.safetyRefresh).pending = s.pending ∧ (s.safetyRefresh).safety = s.safety ∧ (s.safetyRefresh).frame = s.frame
    ∧ (s.safetyRefresh).host = s.host ∧ (s.safetyRefresh).time = s.time ∧ (s.safetyRefresh).keys = s.keys ∧
    (s.safetyRefresh).scan = s.scan ∧ (s.safetyRefresh).lio = s.lio ∧ (s.safetyRefresh).loop = s.loop ∧
    (s.safetyRefresh).disp = s.disp ∧ (s.safetyRefresh).bus = s.bus ∧ (s.safetyRefresh).meter = s.meter ∧
    (s.safetyRefresh).seam = s.seam ∧ (s.safetyRefresh).pair = s.pair ∧ (s.safetyRefresh).casc = s.casc ∧
    (s.safetyRefresh).upd = s.upd ∧ (s.safetyRefresh).boot = s.boot ∧ (s.safetyRefresh).bk = s.bk ∧
    (s.safetyRefresh).out = s.out ∧ (s.safetyRefresh).freeCtr = s.freeCtr := by
  simp [State.safetyRefresh]
@[simp] theorem State.faultCleared_frame (s : State) (head : Nat) :
    (s.faultCleared head).pending = s.pending ∧ (s.faultCleared head).frame = s.frame ∧ (s.faultCleared head).host =
    s.host ∧ (s.faultCleared head).time = s.time ∧ (s.faultCleared head).keys = s.keys ∧ (s.faultCleared head).scan
    = s.scan ∧ (s.faultCleared head).lio = s.lio ∧ (s.faultCleared head).loop = s.loop ∧ (s.faultCleared head).disp
    = s.disp ∧ (s.faultCleared head).bus = s.bus ∧ (s.faultCleared head).meter = s.meter ∧ (s.faultCleared
    head).seam = s.seam ∧ (s.faultCleared head).pair = s.pair ∧ (s.faultCleared head).casc = s.casc ∧
    (s.faultCleared head).upd = s.upd ∧ (s.faultCleared head).boot = s.boot ∧ (s.faultCleared head).bk = s.bk ∧
    (s.faultCleared head).out = s.out ∧ (s.faultCleared head).freeCtr = s.freeCtr := by
  simp [State.faultCleared]
@[simp] theorem State.scanEngineFault_frame (s : State) (e : Nat) :
    (s.scanEngineFault e).pending = s.pending ∧ (s.scanEngineFault e).safety = s.safety ∧ (s.scanEngineFault
    e).frame = s.frame ∧ (s.scanEngineFault e).time = s.time ∧ (s.scanEngineFault e).keys = s.keys ∧
    (s.scanEngineFault e).lio = s.lio ∧ (s.scanEngineFault e).loop = s.loop ∧ (s.scanEngineFault e).disp = s.disp ∧
    (s.scanEngineFault e).bus = s.bus ∧ (s.scanEngineFault e).meter = s.meter ∧ (s.scanEngineFault e).seam = s.seam
    ∧ (s.scanEngineFault e).pair = s.pair ∧ (s.scanEngineFault e).casc = s.casc ∧ (s.scanEngineFault e).upd = s.upd
    ∧ (s.scanEngineFault e).boot = s.boot ∧ (s.scanEngineFault e).bk = s.bk := by
  simp [State.scanEngineFault]
@[simp] theorem State.loopEngineFault_frame (s : State) (e : Nat) :
    (s.loopEngineFault e).pending = s.pending ∧ (s.loopEngineFault e).safety = s.safety ∧ (s.loopEngineFault
    e).frame = s.frame ∧ (s.loopEngineFault e).host = s.host ∧ (s.loopEngineFault e).time = s.time ∧
    (s.loopEngineFault e).keys = s.keys ∧ (s.loopEngineFault e).scan = s.scan ∧ (s.loopEngineFault e).lio = s.lio ∧
    (s.loopEngineFault e).loop = s.loop ∧ (s.loopEngineFault e).disp = s.disp ∧ (s.loopEngineFault e).bus = s.bus ∧
    (s.loopEngineFault e).meter = s.meter ∧ (s.loopEngineFault e).seam = s.seam ∧ (s.loopEngineFault e).pair =
    s.pair ∧ (s.loopEngineFault e).casc = s.casc ∧ (s.loopEngineFault e).upd = s.upd ∧ (s.loopEngineFault e).boot =
    s.boot ∧ (s.loopEngineFault e).bk = s.bk ∧ (s.loopEngineFault e).freeCtr = s.freeCtr := by
  simp [State.loopEngineFault]
@[simp] theorem State.busEngineFault_frame (s : State) (e : Nat) :
    (s.busEngineFault e).pending = s.pending ∧ (s.busEngineFault e).safety = s.safety ∧ (s.busEngineFault e).frame =
    s.frame ∧ (s.busEngineFault e).host = s.host ∧ (s.busEngineFault e).time = s.time ∧ (s.busEngineFault e).keys =
    s.keys ∧ (s.busEngineFault e).scan = s.scan ∧ (s.busEngineFault e).lio = s.lio ∧ (s.busEngineFault e).loop =
    s.loop ∧ (s.busEngineFault e).disp = s.disp ∧ (s.busEngineFault e).meter = s.meter ∧ (s.busEngineFault e).seam =
    s.seam ∧ (s.busEngineFault e).pair = s.pair ∧ (s.busEngineFault e).casc = s.casc ∧ (s.busEngineFault e).upd =
    s.upd ∧ (s.busEngineFault e).boot = s.boot ∧ (s.busEngineFault e).bk = s.bk ∧ (s.busEngineFault e).out = s.out ∧
    (s.busEngineFault e).freeCtr = s.freeCtr := by
  simp [State.busEngineFault]
@[simp] theorem State.raftLate_frame (s : State) :
    (s.raftLate).pending = s.pending ∧ (s.raftLate).safety = s.safety ∧ (s.raftLate).frame = s.frame ∧
    (s.raftLate).host = s.host ∧ (s.raftLate).time = s.time ∧ (s.raftLate).keys = s.keys ∧ (s.raftLate).scan =
    s.scan ∧ (s.raftLate).loop = s.loop ∧ (s.raftLate).disp = s.disp ∧ (s.raftLate).meter = s.meter ∧
    (s.raftLate).seam = s.seam ∧ (s.raftLate).casc = s.casc ∧ (s.raftLate).upd = s.upd ∧ (s.raftLate).boot = s.boot
    ∧ (s.raftLate).bk = s.bk ∧ (s.raftLate).freeCtr = s.freeCtr := by
  simp [State.raftLate]
@[simp] theorem State.dispFault_frame (s : State) :
    (s.dispFault).pending = s.pending ∧ (s.dispFault).safety = s.safety ∧ (s.dispFault).frame = s.frame ∧
    (s.dispFault).host = s.host ∧ (s.dispFault).time = s.time ∧ (s.dispFault).keys = s.keys ∧ (s.dispFault).scan =
    s.scan ∧ (s.dispFault).lio = s.lio ∧ (s.dispFault).loop = s.loop ∧ (s.dispFault).bus = s.bus ∧
    (s.dispFault).meter = s.meter ∧ (s.dispFault).seam = s.seam ∧ (s.dispFault).casc = s.casc ∧ (s.dispFault).upd =
    s.upd ∧ (s.dispFault).boot = s.boot ∧ (s.dispFault).bk = s.bk ∧ (s.dispFault).freeCtr = s.freeCtr := by
  simp [State.dispFault]
@[simp] theorem State.planCellLost_frame (s : State) (ch : Nat) :
    (s.planCellLost ch).pending = s.pending ∧ (s.planCellLost ch).safety = s.safety ∧ (s.planCellLost ch).frame =
    s.frame ∧ (s.planCellLost ch).host = s.host ∧ (s.planCellLost ch).time = s.time ∧ (s.planCellLost ch).keys =
    s.keys ∧ (s.planCellLost ch).scan = s.scan ∧ (s.planCellLost ch).lio = s.lio ∧ (s.planCellLost ch).loop = s.loop
    ∧ (s.planCellLost ch).bus = s.bus ∧ (s.planCellLost ch).meter = s.meter ∧ (s.planCellLost ch).seam = s.seam ∧
    (s.planCellLost ch).pair = s.pair ∧ (s.planCellLost ch).casc = s.casc ∧ (s.planCellLost ch).upd = s.upd ∧
    (s.planCellLost ch).boot = s.boot ∧ (s.planCellLost ch).bk = s.bk ∧ (s.planCellLost ch).freeCtr = s.freeCtr := by
  simp [State.planCellLost]
@[simp] theorem State.blockFault_frame (s : State) (f : FaultReport) :
    (s.blockFault f).pending = s.pending ∧ (s.blockFault f).safety = s.safety ∧ (s.blockFault f).time = s.time ∧
    (s.blockFault f).keys = s.keys ∧ (s.blockFault f).loop = s.loop ∧ (s.blockFault f).seam = s.seam ∧ (s.blockFault
    f).casc = s.casc ∧ (s.blockFault f).upd = s.upd ∧ (s.blockFault f).boot = s.boot ∧ (s.blockFault f).bk = s.bk := by
  unfold State.blockFault; (repeat' split) <;> simp
@[simp] theorem State.goSilent_frame (s : State) :
    (s.goSilent).pending = s.pending ∧ (s.goSilent).host = s.host ∧ (s.goSilent).time = s.time ∧ (s.goSilent).keys =
    s.keys ∧ (s.goSilent).scan = s.scan ∧ (s.goSilent).loop = s.loop ∧ (s.goSilent).disp = s.disp ∧
    (s.goSilent).meter = s.meter ∧ (s.goSilent).seam = s.seam ∧ (s.goSilent).pair = s.pair ∧ (s.goSilent).casc =
    s.casc ∧ (s.goSilent).upd = s.upd ∧ (s.goSilent).boot = s.boot ∧ (s.goSilent).bk = s.bk ∧ (s.goSilent).freeCtr =
    s.freeCtr := by
  simp [State.goSilent]
@[simp] theorem State.oneFault_frame (s : State) (f : FaultReport) :
    (s.oneFault f).pending = s.pending ∧ (s.oneFault f).time = s.time ∧ (s.oneFault f).keys = s.keys ∧ (s.oneFault
    f).loop = s.loop ∧ (s.oneFault f).seam = s.seam ∧ (s.oneFault f).casc = s.casc ∧ (s.oneFault f).upd = s.upd ∧
    (s.oneFault f).boot = s.boot ∧ (s.oneFault f).bk = s.bk := by
  unfold State.oneFault; (repeat' split) <;> simp
@[simp] theorem State.faults_frame (s : State) (fs : List FaultReport) :
    (s.faults fs).pending = s.pending ∧ (s.faults fs).time = s.time ∧ (s.faults fs).keys = s.keys ∧ (s.faults
    fs).loop = s.loop ∧ (s.faults fs).seam = s.seam ∧ (s.faults fs).casc = s.casc ∧ (s.faults fs).upd = s.upd ∧
    (s.faults fs).boot = s.boot ∧ (s.faults fs).bk = s.bk := by
  simp [State.faults]
@[simp] theorem State.fault_frame (s : State) (cls head : Nat) (info0 info1 : Word) :
    (s.fault cls head info0 info1).pending = s.pending ∧ (s.fault cls head info0 info1).time = s.time ∧ (s.fault cls
    head info0 info1).keys = s.keys ∧ (s.fault cls head info0 info1).loop = s.loop ∧ (s.fault cls head info0
    info1).seam = s.seam ∧ (s.fault cls head info0 info1).casc = s.casc ∧ (s.fault cls head info0 info1).upd = s.upd
    ∧ (s.fault cls head info0 info1).boot = s.boot ∧ (s.fault cls head info0 info1).bk = s.bk := by
  simp [State.fault]
@[simp] theorem State.orFree_frame (s : State) (x1 : Option Word) :
    (s.orFree x1).2.pending = s.pending ∧ (s.orFree x1).2.reg = s.reg ∧ (s.orFree x1).2.safety = s.safety ∧
    (s.orFree x1).2.frame = s.frame ∧ (s.orFree x1).2.host = s.host ∧ (s.orFree x1).2.time = s.time ∧ (s.orFree
    x1).2.keys = s.keys ∧ (s.orFree x1).2.scan = s.scan ∧ (s.orFree x1).2.lio = s.lio ∧ (s.orFree x1).2.loop =
    s.loop ∧ (s.orFree x1).2.disp = s.disp ∧ (s.orFree x1).2.bus = s.bus ∧ (s.orFree x1).2.meter = s.meter ∧
    (s.orFree x1).2.seam = s.seam ∧ (s.orFree x1).2.pair = s.pair ∧ (s.orFree x1).2.casc = s.casc ∧ (s.orFree
    x1).2.upd = s.upd ∧ (s.orFree x1).2.boot = s.boot ∧ (s.orFree x1).2.bk = s.bk ∧ (s.orFree x1).2.out = s.out := by
  unfold State.orFree; (repeat' split) <;> simp
@[simp] theorem State.faultInfo_frame (s : State) (cls head : Nat) (info0 info1 : Option Word) :
    (s.faultInfo cls head info0 info1).pending = s.pending ∧ (s.faultInfo cls head info0 info1).time = s.time ∧
    (s.faultInfo cls head info0 info1).keys = s.keys ∧ (s.faultInfo cls head info0 info1).loop = s.loop ∧
    (s.faultInfo cls head info0 info1).seam = s.seam ∧ (s.faultInfo cls head info0 info1).casc = s.casc ∧
    (s.faultInfo cls head info0 info1).upd = s.upd ∧ (s.faultInfo cls head info0 info1).boot = s.boot ∧ (s.faultInfo
    cls head info0 info1).bk = s.bk := by
  simp [State.faultInfo]
@[simp] theorem State.watchdog_frame (s : State) (e : Engine) :
    (s.watchdog e).pending = s.pending ∧ (s.watchdog e).time = s.time ∧ (s.watchdog e).keys = s.keys ∧ (s.watchdog
    e).loop = s.loop ∧ (s.watchdog e).seam = s.seam ∧ (s.watchdog e).casc = s.casc ∧ (s.watchdog e).upd = s.upd ∧
    (s.watchdog e).boot = s.boot ∧ (s.watchdog e).bk = s.bk := by
  simp [State.watchdog]
@[simp] theorem State.modBk_frame (s : State) (f : BackupState → BackupState) :
    (s.modBk f).pending = s.pending ∧ (s.modBk f).reg = s.reg ∧ (s.modBk f).safety = s.safety ∧ (s.modBk f).frame =
    s.frame ∧ (s.modBk f).host = s.host ∧ (s.modBk f).time = s.time ∧ (s.modBk f).keys = s.keys ∧ (s.modBk f).scan =
    s.scan ∧ (s.modBk f).lio = s.lio ∧ (s.modBk f).loop = s.loop ∧ (s.modBk f).disp = s.disp ∧ (s.modBk f).bus =
    s.bus ∧ (s.modBk f).meter = s.meter ∧ (s.modBk f).seam = s.seam ∧ (s.modBk f).pair = s.pair ∧ (s.modBk f).casc =
    s.casc ∧ (s.modBk f).upd = s.upd ∧ (s.modBk f).boot = s.boot ∧ (s.modBk f).out = s.out ∧ (s.modBk f).freeCtr =
    s.freeCtr := by
  simp [State.modBk]
@[simp] theorem State.bkStatus_frame (s : State) (n : Nat) (b : Bool) :
    (s.bkStatus n b).pending = s.pending ∧ (s.bkStatus n b).safety = s.safety ∧ (s.bkStatus n b).frame = s.frame ∧
    (s.bkStatus n b).host = s.host ∧ (s.bkStatus n b).time = s.time ∧ (s.bkStatus n b).keys = s.keys ∧ (s.bkStatus n
    b).scan = s.scan ∧ (s.bkStatus n b).lio = s.lio ∧ (s.bkStatus n b).loop = s.loop ∧ (s.bkStatus n b).disp =
    s.disp ∧ (s.bkStatus n b).bus = s.bus ∧ (s.bkStatus n b).meter = s.meter ∧ (s.bkStatus n b).seam = s.seam ∧
    (s.bkStatus n b).pair = s.pair ∧ (s.bkStatus n b).casc = s.casc ∧ (s.bkStatus n b).upd = s.upd ∧ (s.bkStatus n
    b).boot = s.boot ∧ (s.bkStatus n b).bk = s.bk ∧ (s.bkStatus n b).out = s.out ∧ (s.bkStatus n b).freeCtr =
    s.freeCtr := by
  simp [State.bkStatus]
@[simp] theorem State.bkRefresh_frame (s : State) :
    (s.bkRefresh).pending = s.pending ∧ (s.bkRefresh).safety = s.safety ∧ (s.bkRefresh).frame = s.frame ∧
    (s.bkRefresh).host = s.host ∧ (s.bkRefresh).time = s.time ∧ (s.bkRefresh).keys = s.keys ∧ (s.bkRefresh).scan =
    s.scan ∧ (s.bkRefresh).lio = s.lio ∧ (s.bkRefresh).loop = s.loop ∧ (s.bkRefresh).disp = s.disp ∧
    (s.bkRefresh).bus = s.bus ∧ (s.bkRefresh).meter = s.meter ∧ (s.bkRefresh).seam = s.seam ∧ (s.bkRefresh).pair =
    s.pair ∧ (s.bkRefresh).casc = s.casc ∧ (s.bkRefresh).upd = s.upd ∧ (s.bkRefresh).boot = s.boot ∧
    (s.bkRefresh).bk = s.bk ∧ (s.bkRefresh).out = s.out ∧ (s.bkRefresh).freeCtr = s.freeCtr := by
  simp [State.bkRefresh]
@[simp] theorem State.pwrOff_frame (s : State) :
    (s.pwrOff).pending = s.pending ∧ (s.pwrOff).safety = s.safety ∧ (s.pwrOff).frame = s.frame ∧ (s.pwrOff).host =
    s.host ∧ (s.pwrOff).time = s.time ∧ (s.pwrOff).keys = s.keys ∧ (s.pwrOff).scan = s.scan ∧ (s.pwrOff).lio = s.lio
    ∧ (s.pwrOff).loop = s.loop ∧ (s.pwrOff).disp = s.disp ∧ (s.pwrOff).bus = s.bus ∧ (s.pwrOff).meter = s.meter ∧
    (s.pwrOff).seam = s.seam ∧ (s.pwrOff).pair = s.pair ∧ (s.pwrOff).casc = s.casc ∧ (s.pwrOff).upd = s.upd ∧
    (s.pwrOff).boot = s.boot ∧ (s.pwrOff).bk = s.bk ∧ (s.pwrOff).freeCtr = s.freeCtr := by
  simp [State.pwrOff]
@[simp] theorem State.pwrAssert_frame (s : State) (cause : Nat) :
    (s.pwrAssert cause).pending = s.pending ∧ (s.pwrAssert cause).safety = s.safety ∧ (s.pwrAssert cause).frame =
    s.frame ∧ (s.pwrAssert cause).host = s.host ∧ (s.pwrAssert cause).time = s.time ∧ (s.pwrAssert cause).keys =
    s.keys ∧ (s.pwrAssert cause).scan = s.scan ∧ (s.pwrAssert cause).lio = s.lio ∧ (s.pwrAssert cause).loop = s.loop
    ∧ (s.pwrAssert cause).disp = s.disp ∧ (s.pwrAssert cause).bus = s.bus ∧ (s.pwrAssert cause).meter = s.meter ∧
    (s.pwrAssert cause).seam = s.seam ∧ (s.pwrAssert cause).pair = s.pair ∧ (s.pwrAssert cause).casc = s.casc ∧
    (s.pwrAssert cause).upd = s.upd ∧ (s.pwrAssert cause).boot = s.boot ∧ (s.pwrAssert cause).freeCtr = s.freeCtr := by
  simp [State.pwrAssert]
@[simp] theorem State.alarmFire_frame (s : State) (cause : Nat) :
    (s.alarmFire cause).pending = s.pending ∧ (s.alarmFire cause).safety = s.safety ∧ (s.alarmFire cause).frame =
    s.frame ∧ (s.alarmFire cause).host = s.host ∧ (s.alarmFire cause).time = s.time ∧ (s.alarmFire cause).keys =
    s.keys ∧ (s.alarmFire cause).scan = s.scan ∧ (s.alarmFire cause).lio = s.lio ∧ (s.alarmFire cause).loop = s.loop
    ∧ (s.alarmFire cause).disp = s.disp ∧ (s.alarmFire cause).bus = s.bus ∧ (s.alarmFire cause).meter = s.meter ∧
    (s.alarmFire cause).seam = s.seam ∧ (s.alarmFire cause).pair = s.pair ∧ (s.alarmFire cause).casc = s.casc ∧
    (s.alarmFire cause).upd = s.upd ∧ (s.alarmFire cause).boot = s.boot ∧ (s.alarmFire cause).freeCtr = s.freeCtr := by
  simp [State.alarmFire]
@[simp] theorem State.alarmArm_frame (s : State) (v : Word) :
    (s.alarmArm v).pending = s.pending ∧ (s.alarmArm v).safety = s.safety ∧ (s.alarmArm v).frame = s.frame ∧
    (s.alarmArm v).host = s.host ∧ (s.alarmArm v).time = s.time ∧ (s.alarmArm v).keys = s.keys ∧ (s.alarmArm v).scan
    = s.scan ∧ (s.alarmArm v).lio = s.lio ∧ (s.alarmArm v).loop = s.loop ∧ (s.alarmArm v).disp = s.disp ∧
    (s.alarmArm v).bus = s.bus ∧ (s.alarmArm v).meter = s.meter ∧ (s.alarmArm v).seam = s.seam ∧ (s.alarmArm v).pair
    = s.pair ∧ (s.alarmArm v).casc = s.casc ∧ (s.alarmArm v).upd = s.upd ∧ (s.alarmArm v).boot = s.boot ∧
    (s.alarmArm v).freeCtr = s.freeCtr := by
  simp [State.alarmArm]
@[simp] theorem State.counterSet_frame (s : State) (v : Word) :
    (s.counterSet v).pending = s.pending ∧ (s.counterSet v).safety = s.safety ∧ (s.counterSet v).frame = s.frame ∧
    (s.counterSet v).host = s.host ∧ (s.counterSet v).time = s.time ∧ (s.counterSet v).keys = s.keys ∧ (s.counterSet
    v).scan = s.scan ∧ (s.counterSet v).lio = s.lio ∧ (s.counterSet v).loop = s.loop ∧ (s.counterSet v).disp =
    s.disp ∧ (s.counterSet v).bus = s.bus ∧ (s.counterSet v).meter = s.meter ∧ (s.counterSet v).seam = s.seam ∧
    (s.counterSet v).pair = s.pair ∧ (s.counterSet v).casc = s.casc ∧ (s.counterSet v).upd = s.upd ∧ (s.counterSet
    v).boot = s.boot ∧ (s.counterSet v).freeCtr = s.freeCtr := by
  simp [State.counterSet]
@[simp] theorem State.bkApply_frame (s : State) (a : Nat) (v : Word) :
    (s.bkApply a v).pending = s.pending ∧ (s.bkApply a v).safety = s.safety ∧ (s.bkApply a v).frame = s.frame ∧
    (s.bkApply a v).host = s.host ∧ (s.bkApply a v).time = s.time ∧ (s.bkApply a v).keys = s.keys ∧ (s.bkApply a
    v).scan = s.scan ∧ (s.bkApply a v).lio = s.lio ∧ (s.bkApply a v).loop = s.loop ∧ (s.bkApply a v).disp = s.disp ∧
    (s.bkApply a v).bus = s.bus ∧ (s.bkApply a v).meter = s.meter ∧ (s.bkApply a v).seam = s.seam ∧ (s.bkApply a
    v).pair = s.pair ∧ (s.bkApply a v).casc = s.casc ∧ (s.bkApply a v).upd = s.upd ∧ (s.bkApply a v).boot = s.boot ∧
    (s.bkApply a v).freeCtr = s.freeCtr := by
  simp [State.bkApply]
@[simp] theorem State.wakeSample_frame (s : State) (level : Bool) :
    (s.wakeSample level).pending = s.pending ∧ (s.wakeSample level).safety = s.safety ∧ (s.wakeSample level).frame =
    s.frame ∧ (s.wakeSample level).host = s.host ∧ (s.wakeSample level).time = s.time ∧ (s.wakeSample level).keys =
    s.keys ∧ (s.wakeSample level).scan = s.scan ∧ (s.wakeSample level).lio = s.lio ∧ (s.wakeSample level).loop =
    s.loop ∧ (s.wakeSample level).disp = s.disp ∧ (s.wakeSample level).bus = s.bus ∧ (s.wakeSample level).meter =
    s.meter ∧ (s.wakeSample level).seam = s.seam ∧ (s.wakeSample level).pair = s.pair ∧ (s.wakeSample level).casc =
    s.casc ∧ (s.wakeSample level).upd = s.upd ∧ (s.wakeSample level).boot = s.boot ∧ (s.wakeSample level).freeCtr =
    s.freeCtr := by
  simp [State.wakeSample]
@[simp] theorem State.bkTick_frame (s : State) (wake : Bool) :
    (s.bkTick wake).pending = s.pending ∧ (s.bkTick wake).safety = s.safety ∧ (s.bkTick wake).frame = s.frame ∧
    (s.bkTick wake).host = s.host ∧ (s.bkTick wake).time = s.time ∧ (s.bkTick wake).keys = s.keys ∧ (s.bkTick
    wake).scan = s.scan ∧ (s.bkTick wake).lio = s.lio ∧ (s.bkTick wake).loop = s.loop ∧ (s.bkTick wake).disp =
    s.disp ∧ (s.bkTick wake).bus = s.bus ∧ (s.bkTick wake).meter = s.meter ∧ (s.bkTick wake).seam = s.seam ∧
    (s.bkTick wake).pair = s.pair ∧ (s.bkTick wake).casc = s.casc ∧ (s.bkTick wake).upd = s.upd ∧ (s.bkTick
    wake).boot = s.boot ∧ (s.bkTick wake).freeCtr = s.freeCtr := by
  simp [-State.modSeam_seam, -State.modMe_meter, -State.modPair_pair, -State.modSafety_safety, -State.modBk_bk, -State.modUpd_upd, -State.modBoot_boot, -State.modCasc_casc, -State.modFrame_frame_eq, -State.modKeys_keys, -State.modDisp_disp, State.bkTick]
@[simp] theorem State.bkEdge_frame (s : State) (wake : Bool) (p : Nat → Word → Bool) :
    (s.bkEdge wake p).pending = s.pending ∧ (s.bkEdge wake p).safety = s.safety ∧ (s.bkEdge wake p).frame = s.frame
    ∧ (s.bkEdge wake p).host = s.host ∧ (s.bkEdge wake p).time = s.time ∧ (s.bkEdge wake p).keys = s.keys ∧
    (s.bkEdge wake p).scan = s.scan ∧ (s.bkEdge wake p).lio = s.lio ∧ (s.bkEdge wake p).loop = s.loop ∧ (s.bkEdge
    wake p).disp = s.disp ∧ (s.bkEdge wake p).bus = s.bus ∧ (s.bkEdge wake p).meter = s.meter ∧ (s.bkEdge wake
    p).seam = s.seam ∧ (s.bkEdge wake p).pair = s.pair ∧ (s.bkEdge wake p).casc = s.casc ∧ (s.bkEdge wake p).upd =
    s.upd ∧ (s.bkEdge wake p).boot = s.boot ∧ (s.bkEdge wake p).freeCtr = s.freeCtr := by
  simp [State.bkEdge]
@[simp] theorem State.bkStartReport_frame (s : State) :
    (s.bkStartReport).pending = s.pending ∧ (s.bkStartReport).safety = s.safety ∧ (s.bkStartReport).frame = s.frame
    ∧ (s.bkStartReport).host = s.host ∧ (s.bkStartReport).time = s.time ∧ (s.bkStartReport).keys = s.keys ∧
    (s.bkStartReport).scan = s.scan ∧ (s.bkStartReport).lio = s.lio ∧ (s.bkStartReport).loop = s.loop ∧
    (s.bkStartReport).disp = s.disp ∧ (s.bkStartReport).bus = s.bus ∧ (s.bkStartReport).meter = s.meter ∧
    (s.bkStartReport).seam = s.seam ∧ (s.bkStartReport).pair = s.pair ∧ (s.bkStartReport).casc = s.casc ∧
    (s.bkStartReport).upd = s.upd ∧ (s.bkStartReport).boot = s.boot ∧ (s.bkStartReport).bk = s.bk ∧
    (s.bkStartReport).freeCtr = s.freeCtr := by
  simp [State.bkStartReport]
@[simp] theorem State.sealServes_frame (s : State) (gen : Nat) (f : StoreFor) :
    (s.sealServes gen f).pending = s.pending ∧ (s.sealServes gen f).safety = s.safety ∧ (s.sealServes gen f).frame =
    s.frame ∧ (s.sealServes gen f).time = s.time ∧ (s.sealServes gen f).scan = s.scan ∧ (s.sealServes gen f).lio =
    s.lio ∧ (s.sealServes gen f).loop = s.loop ∧ (s.sealServes gen f).disp = s.disp ∧ (s.sealServes gen f).bus =
    s.bus ∧ (s.sealServes gen f).pair = s.pair ∧ (s.sealServes gen f).casc = s.casc ∧ (s.sealServes gen f).upd =
    s.upd ∧ (s.sealServes gen f).boot = s.boot ∧ (s.sealServes gen f).bk = s.bk := by
  unfold State.sealServes; (repeat' split) <;> simp
@[simp] theorem State.storeFails_frame (s : State) (f : StoreFor) :
    (s.storeFails f).pending = s.pending ∧ (s.storeFails f).safety = s.safety ∧ (s.storeFails f).frame = s.frame ∧
    (s.storeFails f).time = s.time ∧ (s.storeFails f).scan = s.scan ∧ (s.storeFails f).lio = s.lio ∧ (s.storeFails
    f).loop = s.loop ∧ (s.storeFails f).disp = s.disp ∧ (s.storeFails f).bus = s.bus ∧ (s.storeFails f).pair =
    s.pair ∧ (s.storeFails f).casc = s.casc ∧ (s.storeFails f).upd = s.upd ∧ (s.storeFails f).boot = s.boot ∧
    (s.storeFails f).bk = s.bk := by
  unfold State.storeFails; (repeat' split) <;> simp
@[simp] theorem State.storeOver_frame (s : State) :
    (s.storeOver).pending = s.pending ∧ (s.storeOver).reg = s.reg ∧ (s.storeOver).safety = s.safety ∧
    (s.storeOver).frame = s.frame ∧ (s.storeOver).host = s.host ∧ (s.storeOver).time = s.time ∧ (s.storeOver).keys =
    s.keys ∧ (s.storeOver).scan = s.scan ∧ (s.storeOver).lio = s.lio ∧ (s.storeOver).loop = s.loop ∧
    (s.storeOver).disp = s.disp ∧ (s.storeOver).bus = s.bus ∧ (s.storeOver).meter = s.meter ∧ (s.storeOver).pair =
    s.pair ∧ (s.storeOver).casc = s.casc ∧ (s.storeOver).upd = s.upd ∧ (s.storeOver).boot = s.boot ∧
    (s.storeOver).bk = s.bk ∧ (s.storeOver).out = s.out ∧ (s.storeOver).freeCtr = s.freeCtr := by
  simp [State.storeOver]
@[simp] theorem State.writeSeal_frame (s : State) (r : StoreRun) :
    (s.writeSeal r).pending = s.pending ∧ (s.writeSeal r).safety = s.safety ∧ (s.writeSeal r).frame = s.frame ∧
    (s.writeSeal r).host = s.host ∧ (s.writeSeal r).time = s.time ∧ (s.writeSeal r).keys = s.keys ∧ (s.writeSeal
    r).scan = s.scan ∧ (s.writeSeal r).lio = s.lio ∧ (s.writeSeal r).loop = s.loop ∧ (s.writeSeal r).disp = s.disp ∧
    (s.writeSeal r).bus = s.bus ∧ (s.writeSeal r).meter = s.meter ∧ (s.writeSeal r).pair = s.pair ∧ (s.writeSeal
    r).casc = s.casc ∧ (s.writeSeal r).upd = s.upd ∧ (s.writeSeal r).boot = s.boot ∧ (s.writeSeal r).bk = s.bk ∧
    (s.writeSeal r).freeCtr = s.freeCtr := by
  simp [State.writeSeal]
@[simp] theorem State.pfBegin_frame (s : State) :
    (s.pfBegin).pending = s.pending ∧ (s.pfBegin).safety = s.safety ∧ (s.pfBegin).frame = s.frame ∧ (s.pfBegin).host
    = s.host ∧ (s.pfBegin).time = s.time ∧ (s.pfBegin).keys = s.keys ∧ (s.pfBegin).scan = s.scan ∧ (s.pfBegin).lio =
    s.lio ∧ (s.pfBegin).loop = s.loop ∧ (s.pfBegin).disp = s.disp ∧ (s.pfBegin).bus = s.bus ∧ (s.pfBegin).meter =
    s.meter ∧ (s.pfBegin).pair = s.pair ∧ (s.pfBegin).casc = s.casc ∧ (s.pfBegin).upd = s.upd ∧ (s.pfBegin).boot =
    s.boot ∧ (s.pfBegin).bk = s.bk ∧ (s.pfBegin).out = s.out ∧ (s.pfBegin).freeCtr = s.freeCtr := by
  simp [State.pfBegin]
@[simp] theorem State.pfiAccept_frame (s : State) :
    (s.pfiAccept).pending = s.pending ∧ (s.pfiAccept).safety = s.safety ∧ (s.pfiAccept).host = s.host ∧
    (s.pfiAccept).time = s.time ∧ (s.pfiAccept).keys = s.keys ∧ (s.pfiAccept).scan = s.scan ∧ (s.pfiAccept).loop =
    s.loop ∧ (s.pfiAccept).disp = s.disp ∧ (s.pfiAccept).pair = s.pair ∧ (s.pfiAccept).casc = s.casc ∧
    (s.pfiAccept).upd = s.upd ∧ (s.pfiAccept).boot = s.boot ∧ (s.pfiAccept).bk = s.bk ∧ (s.pfiAccept).out = s.out ∧
    (s.pfiAccept).freeCtr = s.freeCtr := by
  simp [State.pfiAccept]
@[simp] theorem State.seamHoldPf_frame (s : State) (value : Word) :
    (s.seamHoldPf value).pending = s.pending ∧ (s.seamHoldPf value).safety = s.safety ∧ (s.seamHoldPf value).frame =
    s.frame ∧ (s.seamHoldPf value).host = s.host ∧ (s.seamHoldPf value).time = s.time ∧ (s.seamHoldPf value).keys =
    s.keys ∧ (s.seamHoldPf value).scan = s.scan ∧ (s.seamHoldPf value).lio = s.lio ∧ (s.seamHoldPf value).loop =
    s.loop ∧ (s.seamHoldPf value).disp = s.disp ∧ (s.seamHoldPf value).bus = s.bus ∧ (s.seamHoldPf value).meter =
    s.meter ∧ (s.seamHoldPf value).pair = s.pair ∧ (s.seamHoldPf value).casc = s.casc ∧ (s.seamHoldPf value).upd =
    s.upd ∧ (s.seamHoldPf value).boot = s.boot ∧ (s.seamHoldPf value).bk = s.bk ∧ (s.seamHoldPf value).out = s.out ∧
    (s.seamHoldPf value).freeCtr = s.freeCtr := by
  simp [State.seamHoldPf]

end Sys2Proof.Machine
end

