-- ==== Sys2Proof/Laws/FramesStart.lean ====
section
/-!
SUPPORT. The frames of the shared operations of update, the cascade and the starts: every field of State each leaves alone.
-/
namespace Sys2Proof.Machine

@[simp] theorem State.modUpd_frame (s : State) (f : UpdState → UpdState) :
    (s.modUpd f).pending = s.pending ∧ (s.modUpd f).reg = s.reg ∧ (s.modUpd f).safety = s.safety ∧ (s.modUpd
    f).frame = s.frame ∧ (s.modUpd f).host = s.host ∧ (s.modUpd f).time = s.time ∧ (s.modUpd f).keys = s.keys ∧
    (s.modUpd f).scan = s.scan ∧ (s.modUpd f).lio = s.lio ∧ (s.modUpd f).loop = s.loop ∧ (s.modUpd f).disp = s.disp
    ∧ (s.modUpd f).bus = s.bus ∧ (s.modUpd f).meter = s.meter ∧ (s.modUpd f).seam = s.seam ∧ (s.modUpd f).pair =
    s.pair ∧ (s.modUpd f).casc = s.casc ∧ (s.modUpd f).boot = s.boot ∧ (s.modUpd f).bk = s.bk ∧ (s.modUpd f).out =
    s.out ∧ (s.modUpd f).freeCtr = s.freeCtr := by
  simp [State.modUpd]
@[simp] theorem State.modBoot_frame (s : State) (f : BootState → BootState) :
    (s.modBoot f).pending = s.pending ∧ (s.modBoot f).reg = s.reg ∧ (s.modBoot f).safety = s.safety ∧ (s.modBoot
    f).frame = s.frame ∧ (s.modBoot f).host = s.host ∧ (s.modBoot f).time = s.time ∧ (s.modBoot f).keys = s.keys ∧
    (s.modBoot f).scan = s.scan ∧ (s.modBoot f).lio = s.lio ∧ (s.modBoot f).loop = s.loop ∧ (s.modBoot f).disp =
    s.disp ∧ (s.modBoot f).bus = s.bus ∧ (s.modBoot f).meter = s.meter ∧ (s.modBoot f).seam = s.seam ∧ (s.modBoot
    f).pair = s.pair ∧ (s.modBoot f).casc = s.casc ∧ (s.modBoot f).upd = s.upd ∧ (s.modBoot f).bk = s.bk ∧
    (s.modBoot f).out = s.out ∧ (s.modBoot f).freeCtr = s.freeCtr := by
  simp [State.modBoot]
@[simp] theorem State.modNor_frame (s : State) (k : Nat) (f : NorSlot → NorSlot) :
    (s.modNor k f).pending = s.pending ∧ (s.modNor k f).reg = s.reg ∧ (s.modNor k f).safety = s.safety ∧ (s.modNor k
    f).frame = s.frame ∧ (s.modNor k f).host = s.host ∧ (s.modNor k f).time = s.time ∧ (s.modNor k f).keys = s.keys
    ∧ (s.modNor k f).scan = s.scan ∧ (s.modNor k f).lio = s.lio ∧ (s.modNor k f).loop = s.loop ∧ (s.modNor k f).disp
    = s.disp ∧ (s.modNor k f).bus = s.bus ∧ (s.modNor k f).meter = s.meter ∧ (s.modNor k f).seam = s.seam ∧
    (s.modNor k f).pair = s.pair ∧ (s.modNor k f).casc = s.casc ∧ (s.modNor k f).boot = s.boot ∧ (s.modNor k f).bk =
    s.bk ∧ (s.modNor k f).out = s.out ∧ (s.modNor k f).freeCtr = s.freeCtr := by
  simp [State.modNor]
@[simp] theorem State.brPut_frame (s : State) (ofs n v : Nat) :
    (s.brPut ofs n v).pending = s.pending ∧ (s.brPut ofs n v).reg = s.reg ∧ (s.brPut ofs n v).safety = s.safety ∧
    (s.brPut ofs n v).frame = s.frame ∧ (s.brPut ofs n v).host = s.host ∧ (s.brPut ofs n v).time = s.time ∧ (s.brPut
    ofs n v).keys = s.keys ∧ (s.brPut ofs n v).scan = s.scan ∧ (s.brPut ofs n v).lio = s.lio ∧ (s.brPut ofs n
    v).loop = s.loop ∧ (s.brPut ofs n v).disp = s.disp ∧ (s.brPut ofs n v).bus = s.bus ∧ (s.brPut ofs n v).meter =
    s.meter ∧ (s.brPut ofs n v).pair = s.pair ∧ (s.brPut ofs n v).casc = s.casc ∧ (s.brPut ofs n v).upd = s.upd ∧
    (s.brPut ofs n v).boot = s.boot ∧ (s.brPut ofs n v).bk = s.bk ∧ (s.brPut ofs n v).out = s.out ∧ (s.brPut ofs n
    v).freeCtr = s.freeCtr := by
  simp [State.brPut]
@[simp] theorem State.setBootFlag_frame (s : State) (n : Nat) (b : Bool) :
    (s.setBootFlag n b).pending = s.pending ∧ (s.setBootFlag n b).reg = s.reg ∧ (s.setBootFlag n b).safety =
    s.safety ∧ (s.setBootFlag n b).frame = s.frame ∧ (s.setBootFlag n b).host = s.host ∧ (s.setBootFlag n b).time =
    s.time ∧ (s.setBootFlag n b).keys = s.keys ∧ (s.setBootFlag n b).scan = s.scan ∧ (s.setBootFlag n b).lio = s.lio
    ∧ (s.setBootFlag n b).loop = s.loop ∧ (s.setBootFlag n b).disp = s.disp ∧ (s.setBootFlag n b).bus = s.bus ∧
    (s.setBootFlag n b).meter = s.meter ∧ (s.setBootFlag n b).pair = s.pair ∧ (s.setBootFlag n b).casc = s.casc ∧
    (s.setBootFlag n b).upd = s.upd ∧ (s.setBootFlag n b).boot = s.boot ∧ (s.setBootFlag n b).bk = s.bk ∧
    (s.setBootFlag n b).out = s.out ∧ (s.setBootFlag n b).freeCtr = s.freeCtr := by
  simp [State.setBootFlag]
@[simp] theorem State.bootResult_frame (s : State) (result check ty : Nat) :
    (s.bootResult result check ty).pending = s.pending ∧ (s.bootResult result check ty).reg = s.reg ∧ (s.bootResult
    result check ty).safety = s.safety ∧ (s.bootResult result check ty).frame = s.frame ∧ (s.bootResult result check
    ty).host = s.host ∧ (s.bootResult result check ty).time = s.time ∧ (s.bootResult result check ty).keys = s.keys
    ∧ (s.bootResult result check ty).scan = s.scan ∧ (s.bootResult result check ty).lio = s.lio ∧ (s.bootResult
    result check ty).loop = s.loop ∧ (s.bootResult result check ty).disp = s.disp ∧ (s.bootResult result check
    ty).bus = s.bus ∧ (s.bootResult result check ty).meter = s.meter ∧ (s.bootResult result check ty).pair = s.pair
    ∧ (s.bootResult result check ty).casc = s.casc ∧ (s.bootResult result check ty).upd = s.upd ∧ (s.bootResult
    result check ty).boot = s.boot ∧ (s.bootResult result check ty).bk = s.bk ∧ (s.bootResult result check ty).out =
    s.out ∧ (s.bootResult result check ty).freeCtr = s.freeCtr := by
  simp [State.bootResult]
@[simp] theorem State.bootRefresh_frame (s : State) :
    (s.bootRefresh).pending = s.pending ∧ (s.bootRefresh).safety = s.safety ∧ (s.bootRefresh).frame = s.frame ∧
    (s.bootRefresh).host = s.host ∧ (s.bootRefresh).time = s.time ∧ (s.bootRefresh).keys = s.keys ∧
    (s.bootRefresh).scan = s.scan ∧ (s.bootRefresh).lio = s.lio ∧ (s.bootRefresh).loop = s.loop ∧
    (s.bootRefresh).disp = s.disp ∧ (s.bootRefresh).bus = s.bus ∧ (s.bootRefresh).meter = s.meter ∧
    (s.bootRefresh).seam = s.seam ∧ (s.bootRefresh).pair = s.pair ∧ (s.bootRefresh).casc = s.casc ∧
    (s.bootRefresh).upd = s.upd ∧ (s.bootRefresh).boot = s.boot ∧ (s.bootRefresh).bk = s.bk ∧ (s.bootRefresh).out =
    s.out ∧ (s.bootRefresh).freeCtr = s.freeCtr := by
  simp [State.bootRefresh]
@[simp] theorem State.updRefresh_frame (s : State) :
    (s.updRefresh).pending = s.pending ∧ (s.updRefresh).safety = s.safety ∧ (s.updRefresh).frame = s.frame ∧
    (s.updRefresh).host = s.host ∧ (s.updRefresh).time = s.time ∧ (s.updRefresh).keys = s.keys ∧ (s.updRefresh).scan
    = s.scan ∧ (s.updRefresh).lio = s.lio ∧ (s.updRefresh).loop = s.loop ∧ (s.updRefresh).disp = s.disp ∧
    (s.updRefresh).bus = s.bus ∧ (s.updRefresh).meter = s.meter ∧ (s.updRefresh).seam = s.seam ∧ (s.updRefresh).pair
    = s.pair ∧ (s.updRefresh).casc = s.casc ∧ (s.updRefresh).upd = s.upd ∧ (s.updRefresh).boot = s.boot ∧
    (s.updRefresh).bk = s.bk ∧ (s.updRefresh).out = s.out ∧ (s.updRefresh).freeCtr = s.freeCtr := by
  unfold State.updRefresh; (repeat' split) <;> simp
@[simp] theorem State.updDiscard_frame (s : State) :
    (s.updDiscard).pending = s.pending ∧ (s.updDiscard).safety = s.safety ∧ (s.updDiscard).frame = s.frame ∧
    (s.updDiscard).host = s.host ∧ (s.updDiscard).time = s.time ∧ (s.updDiscard).keys = s.keys ∧ (s.updDiscard).scan
    = s.scan ∧ (s.updDiscard).lio = s.lio ∧ (s.updDiscard).loop = s.loop ∧ (s.updDiscard).disp = s.disp ∧
    (s.updDiscard).bus = s.bus ∧ (s.updDiscard).meter = s.meter ∧ (s.updDiscard).seam = s.seam ∧ (s.updDiscard).pair
    = s.pair ∧ (s.updDiscard).casc = s.casc ∧ (s.updDiscard).boot = s.boot ∧ (s.updDiscard).bk = s.bk ∧
    (s.updDiscard).freeCtr = s.freeCtr := by
  simp [State.updDiscard]
@[simp] theorem State.updOrphan_frame (s : State) (sid : Word) :
    (s.updOrphan sid).pending = s.pending ∧ (s.updOrphan sid).safety = s.safety ∧ (s.updOrphan sid).frame = s.frame
    ∧ (s.updOrphan sid).host = s.host ∧ (s.updOrphan sid).time = s.time ∧ (s.updOrphan sid).keys = s.keys ∧
    (s.updOrphan sid).scan = s.scan ∧ (s.updOrphan sid).lio = s.lio ∧ (s.updOrphan sid).loop = s.loop ∧ (s.updOrphan
    sid).disp = s.disp ∧ (s.updOrphan sid).bus = s.bus ∧ (s.updOrphan sid).meter = s.meter ∧ (s.updOrphan sid).seam
    = s.seam ∧ (s.updOrphan sid).pair = s.pair ∧ (s.updOrphan sid).casc = s.casc ∧ (s.updOrphan sid).boot = s.boot ∧
    (s.updOrphan sid).bk = s.bk ∧ (s.updOrphan sid).freeCtr = s.freeCtr := by
  unfold State.updOrphan; (repeat' split) <;> simp
@[simp] theorem State.slotClosed_frame (s : State) (t : Nat) (img : Mem) (len : Nat) (digest : List Byte) :
    (s.slotClosed t img len digest).pending = s.pending ∧ (s.slotClosed t img len digest).reg = s.reg ∧
    (s.slotClosed t img len digest).safety = s.safety ∧ (s.slotClosed t img len digest).frame = s.frame ∧
    (s.slotClosed t img len digest).host = s.host ∧ (s.slotClosed t img len digest).time = s.time ∧ (s.slotClosed t
    img len digest).keys = s.keys ∧ (s.slotClosed t img len digest).scan = s.scan ∧ (s.slotClosed t img len
    digest).lio = s.lio ∧ (s.slotClosed t img len digest).loop = s.loop ∧ (s.slotClosed t img len digest).disp =
    s.disp ∧ (s.slotClosed t img len digest).bus = s.bus ∧ (s.slotClosed t img len digest).meter = s.meter ∧
    (s.slotClosed t img len digest).seam = s.seam ∧ (s.slotClosed t img len digest).pair = s.pair ∧ (s.slotClosed t
    img len digest).casc = s.casc ∧ (s.slotClosed t img len digest).boot = s.boot ∧ (s.slotClosed t img len
    digest).bk = s.bk ∧ (s.slotClosed t img len digest).out = s.out ∧ (s.slotClosed t img len digest).freeCtr =
    s.freeCtr := by
  simp [State.slotClosed]
@[simp] theorem State.setPending_frame (s : State) (p : Option Nat) :
    (s.setPending p).pending = s.pending ∧ (s.setPending p).safety = s.safety ∧ (s.setPending p).frame = s.frame ∧
    (s.setPending p).host = s.host ∧ (s.setPending p).time = s.time ∧ (s.setPending p).keys = s.keys ∧ (s.setPending
    p).scan = s.scan ∧ (s.setPending p).lio = s.lio ∧ (s.setPending p).loop = s.loop ∧ (s.setPending p).disp =
    s.disp ∧ (s.setPending p).bus = s.bus ∧ (s.setPending p).meter = s.meter ∧ (s.setPending p).pair = s.pair ∧
    (s.setPending p).casc = s.casc ∧ (s.setPending p).upd = s.upd ∧ (s.setPending p).boot = s.boot ∧ (s.setPending
    p).bk = s.bk ∧ (s.setPending p).out = s.out ∧ (s.setPending p).freeCtr = s.freeCtr := by
  simp [State.setPending]
@[simp] theorem State.closeFail_frame (s : State) (tag code : Nat) :
    (s.closeFail tag code).pending = s.pending ∧ (s.closeFail tag code).safety = s.safety ∧ (s.closeFail tag
    code).frame = s.frame ∧ (s.closeFail tag code).time = s.time ∧ (s.closeFail tag code).keys = s.keys ∧
    (s.closeFail tag code).scan = s.scan ∧ (s.closeFail tag code).lio = s.lio ∧ (s.closeFail tag code).loop = s.loop
    ∧ (s.closeFail tag code).disp = s.disp ∧ (s.closeFail tag code).bus = s.bus ∧ (s.closeFail tag code).meter =
    s.meter ∧ (s.closeFail tag code).seam = s.seam ∧ (s.closeFail tag code).pair = s.pair ∧ (s.closeFail tag
    code).casc = s.casc ∧ (s.closeFail tag code).upd = s.upd ∧ (s.closeFail tag code).boot = s.boot ∧ (s.closeFail
    tag code).bk = s.bk := by
  simp [State.closeFail]
@[simp] theorem State.stumpClose_frame (s : State) (tag : Nat) (x : UpdSession) :
    (s.stumpClose tag x).pending = s.pending ∧ (s.stumpClose tag x).safety = s.safety ∧ (s.stumpClose tag x).frame =
    s.frame ∧ (s.stumpClose tag x).time = s.time ∧ (s.stumpClose tag x).keys = s.keys ∧ (s.stumpClose tag x).scan =
    s.scan ∧ (s.stumpClose tag x).lio = s.lio ∧ (s.stumpClose tag x).loop = s.loop ∧ (s.stumpClose tag x).disp =
    s.disp ∧ (s.stumpClose tag x).bus = s.bus ∧ (s.stumpClose tag x).meter = s.meter ∧ (s.stumpClose tag x).pair =
    s.pair ∧ (s.stumpClose tag x).casc = s.casc ∧ (s.stumpClose tag x).boot = s.boot ∧ (s.stumpClose tag x).bk =
    s.bk := by
  unfold State.stumpClose; dsimp only; (repeat' split) <;> simp
@[simp] theorem State.startDue_frame (s : State) (kind : Nat) (stump : Bool) :
    (s.startDue kind stump).pending = s.pending ∧ (s.startDue kind stump).reg = s.reg ∧ (s.startDue kind
    stump).safety = s.safety ∧ (s.startDue kind stump).frame = s.frame ∧ (s.startDue kind stump).host = s.host ∧
    (s.startDue kind stump).time = s.time ∧ (s.startDue kind stump).keys = s.keys ∧ (s.startDue kind stump).scan =
    s.scan ∧ (s.startDue kind stump).lio = s.lio ∧ (s.startDue kind stump).loop = s.loop ∧ (s.startDue kind
    stump).disp = s.disp ∧ (s.startDue kind stump).bus = s.bus ∧ (s.startDue kind stump).meter = s.meter ∧
    (s.startDue kind stump).seam = s.seam ∧ (s.startDue kind stump).pair = s.pair ∧ (s.startDue kind stump).casc =
    s.casc ∧ (s.startDue kind stump).upd = s.upd ∧ (s.startDue kind stump).bk = s.bk ∧ (s.startDue kind stump).out =
    s.out ∧ (s.startDue kind stump).freeCtr = s.freeCtr := by
  simp [State.startDue]
@[simp] theorem State.linkCrcFault_frame (s : State) (head : Nat) :
    (s.linkCrcFault head).pending = s.pending ∧ (s.linkCrcFault head).time = s.time ∧ (s.linkCrcFault head).keys =
    s.keys ∧ (s.linkCrcFault head).loop = s.loop ∧ (s.linkCrcFault head).seam = s.seam ∧ (s.linkCrcFault head).casc
    = s.casc ∧ (s.linkCrcFault head).upd = s.upd ∧ (s.linkCrcFault head).boot = s.boot ∧ (s.linkCrcFault head).bk =
    s.bk := by
  simp [State.linkCrcFault]
@[simp] theorem State.diverge_frame (s : State) (kind idx own owner : Nat) :
    (s.diverge kind idx own owner).pending = s.pending ∧ (s.diverge kind idx own owner).time = s.time ∧ (s.diverge
    kind idx own owner).keys = s.keys ∧ (s.diverge kind idx own owner).loop = s.loop ∧ (s.diverge kind idx own
    owner).seam = s.seam ∧ (s.diverge kind idx own owner).casc = s.casc ∧ (s.diverge kind idx own owner).upd = s.upd
    ∧ (s.diverge kind idx own owner).boot = s.boot ∧ (s.diverge kind idx own owner).bk = s.bk := by
  simp [State.diverge]
@[simp] theorem State.judgeDigest_frame (s : State) :
    (s.judgeDigest).pending = s.pending ∧ (s.judgeDigest).time = s.time ∧ (s.judgeDigest).keys = s.keys ∧
    (s.judgeDigest).loop = s.loop ∧ (s.judgeDigest).seam = s.seam ∧ (s.judgeDigest).casc = s.casc ∧
    (s.judgeDigest).upd = s.upd ∧ (s.judgeDigest).boot = s.boot ∧ (s.judgeDigest).bk = s.bk := by
  unfold State.judgeDigest; (repeat' split) <;> simp
@[simp] theorem State.judgeTwins_frame (s : State) :
    (s.judgeTwins).pending = s.pending ∧ (s.judgeTwins).time = s.time ∧ (s.judgeTwins).keys = s.keys ∧
    (s.judgeTwins).loop = s.loop ∧ (s.judgeTwins).seam = s.seam ∧ (s.judgeTwins).casc = s.casc ∧ (s.judgeTwins).upd
    = s.upd ∧ (s.judgeTwins).boot = s.boot ∧ (s.judgeTwins).bk = s.bk := by
  simp [State.judgeTwins]
@[simp] theorem State.joinStep_frame (s : State) :
    (s.joinStep).pending = s.pending ∧ (s.joinStep).safety = s.safety ∧ (s.joinStep).frame = s.frame ∧
    (s.joinStep).host = s.host ∧ (s.joinStep).time = s.time ∧ (s.joinStep).keys = s.keys ∧ (s.joinStep).scan =
    s.scan ∧ (s.joinStep).loop = s.loop ∧ (s.joinStep).disp = s.disp ∧ (s.joinStep).meter = s.meter ∧
    (s.joinStep).seam = s.seam ∧ (s.joinStep).casc = s.casc ∧ (s.joinStep).upd = s.upd ∧ (s.joinStep).boot = s.boot
    ∧ (s.joinStep).bk = s.bk ∧ (s.joinStep).freeCtr = s.freeCtr := by
  simp [State.joinStep]
@[simp] theorem State.heartbeatRx_frame (s : State) (data : List Byte) (peer : PeerReport) :
    (s.heartbeatRx data peer).pending = s.pending ∧ (s.heartbeatRx data peer).keys = s.keys ∧ (s.heartbeatRx data
    peer).loop = s.loop ∧ (s.heartbeatRx data peer).seam = s.seam ∧ (s.heartbeatRx data peer).casc = s.casc ∧
    (s.heartbeatRx data peer).upd = s.upd ∧ (s.heartbeatRx data peer).boot = s.boot ∧ (s.heartbeatRx data peer).bk =
    s.bk := by
  simp [State.heartbeatRx]
@[simp] theorem State.raftDone_frame (s : State) (r : RaftIn) :
    (s.raftDone r).pending = s.pending ∧ (s.raftDone r).safety = s.safety ∧ (s.raftDone r).frame = s.frame ∧
    (s.raftDone r).host = s.host ∧ (s.raftDone r).time = s.time ∧ (s.raftDone r).keys = s.keys ∧ (s.raftDone r).scan
    = s.scan ∧ (s.raftDone r).lio = s.lio ∧ (s.raftDone r).loop = s.loop ∧ (s.raftDone r).disp = s.disp ∧
    (s.raftDone r).bus = s.bus ∧ (s.raftDone r).meter = s.meter ∧ (s.raftDone r).seam = s.seam ∧ (s.raftDone r).casc
    = s.casc ∧ (s.raftDone r).upd = s.upd ∧ (s.raftDone r).boot = s.boot ∧ (s.raftDone r).bk = s.bk ∧ (s.raftDone
    r).out = s.out ∧ (s.raftDone r).freeCtr = s.freeCtr := by
  simp [State.raftDone]
@[simp] theorem State.stateBlock_frame (s : State) (region block : Nat) (data : List Byte) :
    (s.stateBlock region block data).pending = s.pending ∧ (s.stateBlock region block data).safety = s.safety ∧
    (s.stateBlock region block data).frame = s.frame ∧ (s.stateBlock region block data).time = s.time ∧
    (s.stateBlock region block data).keys = s.keys ∧ (s.stateBlock region block data).lio = s.lio ∧ (s.stateBlock
    region block data).seam = s.seam ∧ (s.stateBlock region block data).casc = s.casc ∧ (s.stateBlock region block
    data).upd = s.upd ∧ (s.stateBlock region block data).boot = s.boot ∧ (s.stateBlock region block data).bk = s.bk
    ∧ (s.stateBlock region block data).out = s.out ∧ (s.stateBlock region block data).freeCtr = s.freeCtr := by
  simp [State.stateBlock]
@[simp] theorem State.candidateBlock_frame (s : State) (block : Nat) (data : List Byte) :
    (s.candidateBlock block data).pending = s.pending ∧ (s.candidateBlock block data).reg = s.reg ∧
    (s.candidateBlock block data).safety = s.safety ∧ (s.candidateBlock block data).frame = s.frame ∧
    (s.candidateBlock block data).host = s.host ∧ (s.candidateBlock block data).time = s.time ∧ (s.candidateBlock
    block data).keys = s.keys ∧ (s.candidateBlock block data).scan = s.scan ∧ (s.candidateBlock block data).lio =
    s.lio ∧ (s.candidateBlock block data).loop = s.loop ∧ (s.candidateBlock block data).bus = s.bus ∧
    (s.candidateBlock block data).meter = s.meter ∧ (s.candidateBlock block data).seam = s.seam ∧ (s.candidateBlock
    block data).pair = s.pair ∧ (s.candidateBlock block data).casc = s.casc ∧ (s.candidateBlock block data).upd =
    s.upd ∧ (s.candidateBlock block data).boot = s.boot ∧ (s.candidateBlock block data).bk = s.bk ∧
    (s.candidateBlock block data).out = s.out ∧ (s.candidateBlock block data).freeCtr = s.freeCtr := by
  simp [State.candidateBlock]
@[simp] theorem State.copyBlock_frame (s : State) (region block : Nat) (data : List Byte) :
    (s.copyBlock region block data).pending = s.pending ∧ (s.copyBlock region block data).safety = s.safety ∧
    (s.copyBlock region block data).frame = s.frame ∧ (s.copyBlock region block data).time = s.time ∧ (s.copyBlock
    region block data).keys = s.keys ∧ (s.copyBlock region block data).lio = s.lio ∧ (s.copyBlock region block
    data).seam = s.seam ∧ (s.copyBlock region block data).casc = s.casc ∧ (s.copyBlock region block data).upd =
    s.upd ∧ (s.copyBlock region block data).boot = s.boot ∧ (s.copyBlock region block data).bk = s.bk ∧ (s.copyBlock
    region block data).out = s.out ∧ (s.copyBlock region block data).freeCtr = s.freeCtr := by
  simp [State.copyBlock]
@[simp] theorem State.judgeCandidate_frame (s : State) :
    (s.judgeCandidate).pending = s.pending ∧ (s.judgeCandidate).time = s.time ∧ (s.judgeCandidate).keys = s.keys ∧
    (s.judgeCandidate).loop = s.loop ∧ (s.judgeCandidate).seam = s.seam ∧ (s.judgeCandidate).casc = s.casc ∧
    (s.judgeCandidate).upd = s.upd ∧ (s.judgeCandidate).boot = s.boot ∧ (s.judgeCandidate).bk = s.bk := by
  unfold State.judgeCandidate; (repeat' split) <;> simp
@[simp] theorem State.candidateDigest_frame (s : State) (digest : List Byte) (verified : Bool) :
    (s.candidateDigest digest verified).pending = s.pending ∧ (s.candidateDigest digest verified).time = s.time ∧
    (s.candidateDigest digest verified).keys = s.keys ∧ (s.candidateDigest digest verified).loop = s.loop ∧
    (s.candidateDigest digest verified).seam = s.seam ∧ (s.candidateDigest digest verified).casc = s.casc ∧
    (s.candidateDigest digest verified).upd = s.upd ∧ (s.candidateDigest digest verified).boot = s.boot ∧
    (s.candidateDigest digest verified).bk = s.bk := by
  unfold State.candidateDigest; (repeat' split) <;> simp
@[simp] theorem State.planCopySend_frame (s : State) :
    (s.planCopySend).pending = s.pending ∧ (s.planCopySend).reg = s.reg ∧ (s.planCopySend).safety = s.safety ∧
    (s.planCopySend).frame = s.frame ∧ (s.planCopySend).host = s.host ∧ (s.planCopySend).time = s.time ∧
    (s.planCopySend).keys = s.keys ∧ (s.planCopySend).scan = s.scan ∧ (s.planCopySend).lio = s.lio ∧
    (s.planCopySend).loop = s.loop ∧ (s.planCopySend).disp = s.disp ∧ (s.planCopySend).bus = s.bus ∧
    (s.planCopySend).meter = s.meter ∧ (s.planCopySend).seam = s.seam ∧ (s.planCopySend).casc = s.casc ∧
    (s.planCopySend).upd = s.upd ∧ (s.planCopySend).boot = s.boot ∧ (s.planCopySend).bk = s.bk ∧
    (s.planCopySend).freeCtr = s.freeCtr := by
  unfold State.planCopySend; (repeat' split) <;> simp
@[simp] theorem State.modCasc_frame (s : State) (f : CascadeState → CascadeState) :
    (s.modCasc f).pending = s.pending ∧ (s.modCasc f).reg = s.reg ∧ (s.modCasc f).safety = s.safety ∧ (s.modCasc
    f).frame = s.frame ∧ (s.modCasc f).host = s.host ∧ (s.modCasc f).time = s.time ∧ (s.modCasc f).keys = s.keys ∧
    (s.modCasc f).scan = s.scan ∧ (s.modCasc f).lio = s.lio ∧ (s.modCasc f).loop = s.loop ∧ (s.modCasc f).disp =
    s.disp ∧ (s.modCasc f).bus = s.bus ∧ (s.modCasc f).meter = s.meter ∧ (s.modCasc f).seam = s.seam ∧ (s.modCasc
    f).pair = s.pair ∧ (s.modCasc f).upd = s.upd ∧ (s.modCasc f).boot = s.boot ∧ (s.modCasc f).bk = s.bk ∧
    (s.modCasc f).out = s.out ∧ (s.modCasc f).freeCtr = s.freeCtr := by
  simp [State.modCasc]
@[simp] theorem State.setCasc_frame (s : State) (x : Nat) :
    (s.setCasc x).pending = s.pending ∧ (s.setCasc x).safety = s.safety ∧ (s.setCasc x).frame = s.frame ∧ (s.setCasc
    x).host = s.host ∧ (s.setCasc x).time = s.time ∧ (s.setCasc x).keys = s.keys ∧ (s.setCasc x).scan = s.scan ∧
    (s.setCasc x).lio = s.lio ∧ (s.setCasc x).loop = s.loop ∧ (s.setCasc x).disp = s.disp ∧ (s.setCasc x).bus =
    s.bus ∧ (s.setCasc x).meter = s.meter ∧ (s.setCasc x).seam = s.seam ∧ (s.setCasc x).pair = s.pair ∧ (s.setCasc
    x).casc = s.casc ∧ (s.setCasc x).upd = s.upd ∧ (s.setCasc x).boot = s.boot ∧ (s.setCasc x).bk = s.bk ∧
    (s.setCasc x).out = s.out ∧ (s.setCasc x).freeCtr = s.freeCtr := by
  simp [State.setCasc]
@[simp] theorem State.extLost_frame (s : State) (e : Nat) :
    (s.extLost e).pending = s.pending ∧ (s.extLost e).safety = s.safety ∧ (s.extLost e).frame = s.frame ∧ (s.extLost
    e).host = s.host ∧ (s.extLost e).time = s.time ∧ (s.extLost e).keys = s.keys ∧ (s.extLost e).scan = s.scan ∧
    (s.extLost e).lio = s.lio ∧ (s.extLost e).loop = s.loop ∧ (s.extLost e).disp = s.disp ∧ (s.extLost e).bus =
    s.bus ∧ (s.extLost e).meter = s.meter ∧ (s.extLost e).seam = s.seam ∧ (s.extLost e).pair = s.pair ∧ (s.extLost
    e).upd = s.upd ∧ (s.extLost e).boot = s.boot ∧ (s.extLost e).bk = s.bk ∧ (s.extLost e).freeCtr = s.freeCtr := by
  simp [State.extLost]
@[simp] theorem State.extConfig_frame (s : State) (tally : List Byte) (recs : List (List Byte)) (progs : List
    (Nat × Nat × Nat)) :
    (s.extConfig tally recs progs).pending = s.pending ∧ (s.extConfig tally recs progs).safety = s.safety ∧
    (s.extConfig tally recs progs).frame = s.frame ∧ (s.extConfig tally recs progs).host = s.host ∧ (s.extConfig
    tally recs progs).time = s.time ∧ (s.extConfig tally recs progs).keys = s.keys ∧ (s.extConfig tally recs
    progs).lio = s.lio ∧ (s.extConfig tally recs progs).loop = s.loop ∧ (s.extConfig tally recs progs).disp = s.disp
    ∧ (s.extConfig tally recs progs).meter = s.meter ∧ (s.extConfig tally recs progs).seam = s.seam ∧ (s.extConfig
    tally recs progs).pair = s.pair ∧ (s.extConfig tally recs progs).upd = s.upd ∧ (s.extConfig tally recs
    progs).boot = s.boot ∧ (s.extConfig tally recs progs).bk = s.bk ∧ (s.extConfig tally recs progs).out = s.out ∧
    (s.extConfig tally recs progs).freeCtr = s.freeCtr := by
  simp [State.extConfig]
@[simp] theorem State.extSend_frame (s : State) :
    (s.extSend).pending = s.pending ∧ (s.extSend).reg = s.reg ∧ (s.extSend).safety = s.safety ∧ (s.extSend).frame =
    s.frame ∧ (s.extSend).host = s.host ∧ (s.extSend).time = s.time ∧ (s.extSend).keys = s.keys ∧ (s.extSend).scan =
    s.scan ∧ (s.extSend).lio = s.lio ∧ (s.extSend).loop = s.loop ∧ (s.extSend).disp = s.disp ∧ (s.extSend).meter =
    s.meter ∧ (s.extSend).seam = s.seam ∧ (s.extSend).casc = s.casc ∧ (s.extSend).upd = s.upd ∧ (s.extSend).boot =
    s.boot ∧ (s.extSend).bk = s.bk ∧ (s.extSend).freeCtr = s.freeCtr := by
  simp [State.extSend]
@[simp] theorem State.extLate_frame (s : State) (e : Nat) :
    (s.extLate e).pending = s.pending ∧ (s.extLate e).safety = s.safety ∧ (s.extLate e).frame = s.frame ∧ (s.extLate
    e).host = s.host ∧ (s.extLate e).time = s.time ∧ (s.extLate e).keys = s.keys ∧ (s.extLate e).scan = s.scan ∧
    (s.extLate e).lio = s.lio ∧ (s.extLate e).loop = s.loop ∧ (s.extLate e).disp = s.disp ∧ (s.extLate e).bus =
    s.bus ∧ (s.extLate e).meter = s.meter ∧ (s.extLate e).seam = s.seam ∧ (s.extLate e).pair = s.pair ∧ (s.extLate
    e).upd = s.upd ∧ (s.extLate e).boot = s.boot ∧ (s.extLate e).bk = s.bk ∧ (s.extLate e).freeCtr = s.freeCtr := by
  simp [State.extLate]
@[simp] theorem State.cascP2_frame (s : State) :
    (s.cascP2).pending = s.pending ∧ (s.cascP2).safety = s.safety ∧ (s.cascP2).frame = s.frame ∧ (s.cascP2).host =
    s.host ∧ (s.cascP2).time = s.time ∧ (s.cascP2).keys = s.keys ∧ (s.cascP2).scan = s.scan ∧ (s.cascP2).lio = s.lio
    ∧ (s.cascP2).loop = s.loop ∧ (s.cascP2).disp = s.disp ∧ (s.cascP2).bus = s.bus ∧ (s.cascP2).meter = s.meter ∧
    (s.cascP2).seam = s.seam ∧ (s.cascP2).pair = s.pair ∧ (s.cascP2).casc = s.casc ∧ (s.cascP2).upd = s.upd ∧
    (s.cascP2).boot = s.boot ∧ (s.cascP2).bk = s.bk ∧ (s.cascP2).freeCtr = s.freeCtr := by
  simp [State.cascP2]
@[simp] theorem State.cascBoundary_frame (s : State) :
    (s.cascBoundary).pending = s.pending ∧ (s.cascBoundary).safety = s.safety ∧ (s.cascBoundary).frame = s.frame ∧
    (s.cascBoundary).host = s.host ∧ (s.cascBoundary).time = s.time ∧ (s.cascBoundary).keys = s.keys ∧
    (s.cascBoundary).scan = s.scan ∧ (s.cascBoundary).lio = s.lio ∧ (s.cascBoundary).loop = s.loop ∧
    (s.cascBoundary).disp = s.disp ∧ (s.cascBoundary).bus = s.bus ∧ (s.cascBoundary).meter = s.meter ∧
    (s.cascBoundary).seam = s.seam ∧ (s.cascBoundary).pair = s.pair ∧ (s.cascBoundary).upd = s.upd ∧
    (s.cascBoundary).boot = s.boot ∧ (s.cascBoundary).bk = s.bk ∧ (s.cascBoundary).out = s.out ∧
    (s.cascBoundary).freeCtr = s.freeCtr := by
  simp [State.cascBoundary]
@[simp] theorem State.takeReg_frame (s : State) (a : Nat) (b : List Byte) (o : Nat) :
    (s.takeReg a b o).pending = s.pending ∧ (s.takeReg a b o).safety = s.safety ∧ (s.takeReg a b o).frame = s.frame
    ∧ (s.takeReg a b o).host = s.host ∧ (s.takeReg a b o).time = s.time ∧ (s.takeReg a b o).keys = s.keys ∧
    (s.takeReg a b o).scan = s.scan ∧ (s.takeReg a b o).lio = s.lio ∧ (s.takeReg a b o).loop = s.loop ∧ (s.takeReg a
    b o).disp = s.disp ∧ (s.takeReg a b o).bus = s.bus ∧ (s.takeReg a b o).meter = s.meter ∧ (s.takeReg a b o).seam
    = s.seam ∧ (s.takeReg a b o).pair = s.pair ∧ (s.takeReg a b o).casc = s.casc ∧ (s.takeReg a b o).upd = s.upd ∧
    (s.takeReg a b o).boot = s.boot ∧ (s.takeReg a b o).bk = s.bk ∧ (s.takeReg a b o).out = s.out ∧ (s.takeReg a b
    o).freeCtr = s.freeCtr := by
  simp [State.takeReg]
@[simp] theorem State.loadDevCfg_frame (s : State) (c : List Byte) :
    (s.loadDevCfg c).pending = s.pending ∧ (s.loadDevCfg c).safety = s.safety ∧ (s.loadDevCfg c).frame = s.frame ∧
    (s.loadDevCfg c).host = s.host ∧ (s.loadDevCfg c).time = s.time ∧ (s.loadDevCfg c).keys = s.keys ∧ (s.loadDevCfg
    c).scan = s.scan ∧ (s.loadDevCfg c).lio = s.lio ∧ (s.loadDevCfg c).loop = s.loop ∧ (s.loadDevCfg c).disp =
    s.disp ∧ (s.loadDevCfg c).bus = s.bus ∧ (s.loadDevCfg c).meter = s.meter ∧ (s.loadDevCfg c).seam = s.seam ∧
    (s.loadDevCfg c).pair = s.pair ∧ (s.loadDevCfg c).casc = s.casc ∧ (s.loadDevCfg c).upd = s.upd ∧ (s.loadDevCfg
    c).bk = s.bk ∧ (s.loadDevCfg c).out = s.out ∧ (s.loadDevCfg c).freeCtr = s.freeCtr := by
  simp [State.loadDevCfg]
@[simp] theorem State.loadPrograms_frame (s : State) (images : List Image) :
    (s.loadPrograms images).pending = s.pending ∧ (s.loadPrograms images).safety = s.safety ∧ (s.loadPrograms
    images).frame = s.frame ∧ (s.loadPrograms images).host = s.host ∧ (s.loadPrograms images).time = s.time ∧
    (s.loadPrograms images).keys = s.keys ∧ (s.loadPrograms images).lio = s.lio ∧ (s.loadPrograms images).loop =
    s.loop ∧ (s.loadPrograms images).disp = s.disp ∧ (s.loadPrograms images).bus = s.bus ∧ (s.loadPrograms
    images).meter = s.meter ∧ (s.loadPrograms images).seam = s.seam ∧ (s.loadPrograms images).pair = s.pair ∧
    (s.loadPrograms images).casc = s.casc ∧ (s.loadPrograms images).upd = s.upd ∧ (s.loadPrograms images).boot =
    s.boot ∧ (s.loadPrograms images).bk = s.bk ∧ (s.loadPrograms images).out = s.out ∧ (s.loadPrograms
    images).freeCtr = s.freeCtr := by
  simp [State.loadPrograms]
@[simp] theorem State.loadLio_frame (s : State) (b : List Byte) :
    (s.loadLio b).pending = s.pending ∧ (s.loadLio b).safety = s.safety ∧ (s.loadLio b).frame = s.frame ∧ (s.loadLio
    b).host = s.host ∧ (s.loadLio b).time = s.time ∧ (s.loadLio b).keys = s.keys ∧ (s.loadLio b).scan = s.scan ∧
    (s.loadLio b).loop = s.loop ∧ (s.loadLio b).disp = s.disp ∧ (s.loadLio b).bus = s.bus ∧ (s.loadLio b).meter =
    s.meter ∧ (s.loadLio b).seam = s.seam ∧ (s.loadLio b).pair = s.pair ∧ (s.loadLio b).casc = s.casc ∧ (s.loadLio
    b).upd = s.upd ∧ (s.loadLio b).boot = s.boot ∧ (s.loadLio b).bk = s.bk ∧ (s.loadLio b).out = s.out ∧ (s.loadLio
    b).freeCtr = s.freeCtr := by
  simp [State.loadLio]
@[simp] theorem State.partnerBase_frame (s : State) :
    (s.partnerBase).pending = s.pending ∧ (s.partnerBase).safety = s.safety ∧ (s.partnerBase).frame = s.frame ∧
    (s.partnerBase).host = s.host ∧ (s.partnerBase).keys = s.keys ∧ (s.partnerBase).scan = s.scan ∧
    (s.partnerBase).lio = s.lio ∧ (s.partnerBase).loop = s.loop ∧ (s.partnerBase).disp = s.disp ∧
    (s.partnerBase).bus = s.bus ∧ (s.partnerBase).meter = s.meter ∧ (s.partnerBase).seam = s.seam ∧
    (s.partnerBase).pair = s.pair ∧ (s.partnerBase).casc = s.casc ∧ (s.partnerBase).upd = s.upd ∧
    (s.partnerBase).boot = s.boot ∧ (s.partnerBase).bk = s.bk ∧ (s.partnerBase).freeCtr = s.freeCtr := by
  unfold State.partnerBase; (repeat' split) <;> simp
@[simp] theorem State.loadBundle_frame (s : State) (b : List Byte) :
    (s.loadBundle b).pending = s.pending ∧ (s.loadBundle b).safety = s.safety ∧ (s.loadBundle b).frame = s.frame ∧
    (s.loadBundle b).host = s.host ∧ (s.loadBundle b).keys = s.keys ∧ (s.loadBundle b).meter = s.meter ∧
    (s.loadBundle b).seam = s.seam ∧ (s.loadBundle b).upd = s.upd ∧ (s.loadBundle b).bk = s.bk ∧ (s.loadBundle
    b).freeCtr = s.freeCtr := by
  unfold State.loadBundle; (repeat' split) <;> simp
@[simp] theorem State.seamShow_frame (s : State) (valid : Bool) :
    (s.seamShow valid).pending = s.pending ∧ (s.seamShow valid).safety = s.safety ∧ (s.seamShow valid).frame =
    s.frame ∧ (s.seamShow valid).host = s.host ∧ (s.seamShow valid).time = s.time ∧ (s.seamShow valid).keys = s.keys
    ∧ (s.seamShow valid).scan = s.scan ∧ (s.seamShow valid).lio = s.lio ∧ (s.seamShow valid).loop = s.loop ∧
    (s.seamShow valid).disp = s.disp ∧ (s.seamShow valid).bus = s.bus ∧ (s.seamShow valid).meter = s.meter ∧
    (s.seamShow valid).seam = s.seam ∧ (s.seamShow valid).pair = s.pair ∧ (s.seamShow valid).casc = s.casc ∧
    (s.seamShow valid).upd = s.upd ∧ (s.seamShow valid).boot = s.boot ∧ (s.seamShow valid).bk = s.bk ∧ (s.seamShow
    valid).out = s.out ∧ (s.seamShow valid).freeCtr = s.freeCtr := by
  simp [State.seamShow]
@[simp] theorem State.recall_frame (s : State) (carry : Bool) :
    (s.recall carry).pending = s.pending ∧ (s.recall carry).safety = s.safety ∧ (s.recall carry).frame = s.frame ∧
    (s.recall carry).host = s.host ∧ (s.recall carry).time = s.time ∧ (s.recall carry).keys = s.keys ∧ (s.recall
    carry).scan = s.scan ∧ (s.recall carry).lio = s.lio ∧ (s.recall carry).loop = s.loop ∧ (s.recall carry).disp =
    s.disp ∧ (s.recall carry).bus = s.bus ∧ (s.recall carry).meter = s.meter ∧ (s.recall carry).pair = s.pair ∧
    (s.recall carry).casc = s.casc ∧ (s.recall carry).upd = s.upd ∧ (s.recall carry).boot = s.boot ∧ (s.recall
    carry).bk = s.bk ∧ (s.recall carry).freeCtr = s.freeCtr := by
  simp [State.recall]
@[simp] theorem State.bootCount_frame (s : State) (leaves : Bool) :
    (s.bootCount leaves).pending = s.pending ∧ (s.bootCount leaves).safety = s.safety ∧ (s.bootCount leaves).frame =
    s.frame ∧ (s.bootCount leaves).host = s.host ∧ (s.bootCount leaves).time = s.time ∧ (s.bootCount leaves).keys =
    s.keys ∧ (s.bootCount leaves).scan = s.scan ∧ (s.bootCount leaves).lio = s.lio ∧ (s.bootCount leaves).loop =
    s.loop ∧ (s.bootCount leaves).disp = s.disp ∧ (s.bootCount leaves).bus = s.bus ∧ (s.bootCount leaves).meter =
    s.meter ∧ (s.bootCount leaves).pair = s.pair ∧ (s.bootCount leaves).casc = s.casc ∧ (s.bootCount leaves).upd =
    s.upd ∧ (s.bootCount leaves).boot = s.boot ∧ (s.bootCount leaves).bk = s.bk ∧ (s.bootCount leaves).out = s.out ∧
    (s.bootCount leaves).freeCtr = s.freeCtr := by
  simp [State.bootCount]
@[simp] theorem State.enterStump_frame (s : State) (result check ty : Nat) :
    (s.enterStump result check ty).pending = s.pending ∧ (s.enterStump result check ty).safety = s.safety ∧
    (s.enterStump result check ty).frame = s.frame ∧ (s.enterStump result check ty).host = s.host ∧ (s.enterStump
    result check ty).time = s.time ∧ (s.enterStump result check ty).keys = s.keys ∧ (s.enterStump result check
    ty).scan = s.scan ∧ (s.enterStump result check ty).lio = s.lio ∧ (s.enterStump result check ty).loop = s.loop ∧
    (s.enterStump result check ty).disp = s.disp ∧ (s.enterStump result check ty).bus = s.bus ∧ (s.enterStump result
    check ty).meter = s.meter ∧ (s.enterStump result check ty).pair = s.pair ∧ (s.enterStump result check ty).casc =
    s.casc ∧ (s.enterStump result check ty).upd = s.upd ∧ (s.enterStump result check ty).boot = s.boot ∧
    (s.enterStump result check ty).bk = s.bk ∧ (s.enterStump result check ty).freeCtr = s.freeCtr := by
  simp [State.enterStump]
@[simp] theorem State.runSlot_frame (s : State) (k result check ty : Nat) :
    (s.runSlot k result check ty).pending = s.pending ∧ (s.runSlot k result check ty).safety = s.safety ∧ (s.runSlot
    k result check ty).frame = s.frame ∧ (s.runSlot k result check ty).host = s.host ∧ (s.runSlot k result check
    ty).time = s.time ∧ (s.runSlot k result check ty).keys = s.keys ∧ (s.runSlot k result check ty).scan = s.scan ∧
    (s.runSlot k result check ty).lio = s.lio ∧ (s.runSlot k result check ty).loop = s.loop ∧ (s.runSlot k result
    check ty).disp = s.disp ∧ (s.runSlot k result check ty).bus = s.bus ∧ (s.runSlot k result check ty).meter =
    s.meter ∧ (s.runSlot k result check ty).pair = s.pair ∧ (s.runSlot k result check ty).casc = s.casc ∧ (s.runSlot
    k result check ty).upd = s.upd ∧ (s.runSlot k result check ty).boot = s.boot ∧ (s.runSlot k result check ty).bk
    = s.bk ∧ (s.runSlot k result check ty).out = s.out ∧ (s.runSlot k result check ty).freeCtr = s.freeCtr := by
  simp [State.runSlot]
@[simp] theorem State.noteRevert_frame (s : State) :
    (s.noteRevert).pending = s.pending ∧ (s.noteRevert).safety = s.safety ∧ (s.noteRevert).frame = s.frame ∧
    (s.noteRevert).host = s.host ∧ (s.noteRevert).time = s.time ∧ (s.noteRevert).keys = s.keys ∧ (s.noteRevert).scan
    = s.scan ∧ (s.noteRevert).lio = s.lio ∧ (s.noteRevert).loop = s.loop ∧ (s.noteRevert).disp = s.disp ∧
    (s.noteRevert).bus = s.bus ∧ (s.noteRevert).meter = s.meter ∧ (s.noteRevert).seam = s.seam ∧ (s.noteRevert).pair
    = s.pair ∧ (s.noteRevert).casc = s.casc ∧ (s.noteRevert).upd = s.upd ∧ (s.noteRevert).boot = s.boot ∧
    (s.noteRevert).bk = s.bk ∧ (s.noteRevert).freeCtr = s.freeCtr := by
  simp [State.noteRevert]
@[simp] theorem State.judgeAttempts_frame (s : State) :
    (s.judgeAttempts).pending = s.pending ∧ (s.judgeAttempts).safety = s.safety ∧ (s.judgeAttempts).frame = s.frame
    ∧ (s.judgeAttempts).host = s.host ∧ (s.judgeAttempts).time = s.time ∧ (s.judgeAttempts).keys = s.keys ∧
    (s.judgeAttempts).scan = s.scan ∧ (s.judgeAttempts).lio = s.lio ∧ (s.judgeAttempts).loop = s.loop ∧
    (s.judgeAttempts).disp = s.disp ∧ (s.judgeAttempts).bus = s.bus ∧ (s.judgeAttempts).meter = s.meter ∧
    (s.judgeAttempts).pair = s.pair ∧ (s.judgeAttempts).casc = s.casc ∧ (s.judgeAttempts).upd = s.upd ∧
    (s.judgeAttempts).boot = s.boot ∧ (s.judgeAttempts).bk = s.bk ∧ (s.judgeAttempts).freeCtr = s.freeCtr := by
  unfold State.judgeAttempts; (repeat' split) <;> simp
@[simp] theorem State.slotFailed_frame (s : State) (c ty : Nat) :
    (s.slotFailed c ty).pending = s.pending ∧ (s.slotFailed c ty).safety = s.safety ∧ (s.slotFailed c ty).frame =
    s.frame ∧ (s.slotFailed c ty).host = s.host ∧ (s.slotFailed c ty).time = s.time ∧ (s.slotFailed c ty).keys =
    s.keys ∧ (s.slotFailed c ty).scan = s.scan ∧ (s.slotFailed c ty).lio = s.lio ∧ (s.slotFailed c ty).loop = s.loop
    ∧ (s.slotFailed c ty).disp = s.disp ∧ (s.slotFailed c ty).bus = s.bus ∧ (s.slotFailed c ty).meter = s.meter ∧
    (s.slotFailed c ty).pair = s.pair ∧ (s.slotFailed c ty).casc = s.casc ∧ (s.slotFailed c ty).upd = s.upd ∧
    (s.slotFailed c ty).boot = s.boot ∧ (s.slotFailed c ty).bk = s.bk ∧ (s.slotFailed c ty).freeCtr = s.freeCtr := by
  unfold State.slotFailed; (repeat' split) <;> simp
@[simp] theorem State.chooseSlot_frame (s : State) :
    (s.chooseSlot).pending = s.pending ∧ (s.chooseSlot).safety = s.safety ∧ (s.chooseSlot).frame = s.frame ∧
    (s.chooseSlot).host = s.host ∧ (s.chooseSlot).time = s.time ∧ (s.chooseSlot).keys = s.keys ∧ (s.chooseSlot).scan
    = s.scan ∧ (s.chooseSlot).lio = s.lio ∧ (s.chooseSlot).loop = s.loop ∧ (s.chooseSlot).disp = s.disp ∧
    (s.chooseSlot).bus = s.bus ∧ (s.chooseSlot).meter = s.meter ∧ (s.chooseSlot).pair = s.pair ∧ (s.chooseSlot).casc
    = s.casc ∧ (s.chooseSlot).upd = s.upd ∧ (s.chooseSlot).boot = s.boot ∧ (s.chooseSlot).bk = s.bk ∧
    (s.chooseSlot).freeCtr = s.freeCtr := by
  unfold State.chooseSlot; dsimp only; (repeat' split) <;> simp
@[simp] theorem State.showSet_frame (s : State) :
    (s.showSet).pending = s.pending ∧ (s.showSet).safety = s.safety ∧ (s.showSet).frame = s.frame ∧ (s.showSet).host
    = s.host ∧ (s.showSet).time = s.time ∧ (s.showSet).keys = s.keys ∧ (s.showSet).scan = s.scan ∧ (s.showSet).lio =
    s.lio ∧ (s.showSet).loop = s.loop ∧ (s.showSet).disp = s.disp ∧ (s.showSet).bus = s.bus ∧ (s.showSet).meter =
    s.meter ∧ (s.showSet).seam = s.seam ∧ (s.showSet).pair = s.pair ∧ (s.showSet).casc = s.casc ∧ (s.showSet).upd =
    s.upd ∧ (s.showSet).boot = s.boot ∧ (s.showSet).bk = s.bk ∧ (s.showSet).out = s.out ∧ (s.showSet).freeCtr =
    s.freeCtr := by
  unfold State.showSet; (repeat' split) <;> simp
@[simp] theorem State.coldLoad_frame (s : State) :
    (s.coldLoad).pending = s.pending ∧ (s.coldLoad).safety = s.safety ∧ (s.coldLoad).frame = s.frame ∧
    (s.coldLoad).host = s.host ∧ (s.coldLoad).keys = s.keys ∧ (s.coldLoad).upd = s.upd ∧ (s.coldLoad).bk = s.bk ∧
    (s.coldLoad).freeCtr = s.freeCtr := by
  unfold State.coldLoad; dsimp only; (repeat' split) <;> simp
@[simp] theorem State.coldFrom3_frame (s : State) (stump : Bool) :
    (s.coldFrom3 stump).pending = s.pending ∧ (s.coldFrom3 stump).safety = s.safety ∧ (s.coldFrom3 stump).frame =
    s.frame ∧ (s.coldFrom3 stump).host = s.host ∧ (s.coldFrom3 stump).upd = s.upd ∧ (s.coldFrom3 stump).bk = s.bk ∧
    (s.coldFrom3 stump).freeCtr = s.freeCtr := by
  simp [State.coldFrom3]
@[simp] theorem State.seamWarm_frame (s : State) (crcOk : Bool) :
    (s.seamWarm crcOk).pending = s.pending ∧ (s.seamWarm crcOk).safety = s.safety ∧ (s.seamWarm crcOk).frame =
    s.frame ∧ (s.seamWarm crcOk).host = s.host ∧ (s.seamWarm crcOk).time = s.time ∧ (s.seamWarm crcOk).keys = s.keys
    ∧ (s.seamWarm crcOk).scan = s.scan ∧ (s.seamWarm crcOk).lio = s.lio ∧ (s.seamWarm crcOk).loop = s.loop ∧
    (s.seamWarm crcOk).disp = s.disp ∧ (s.seamWarm crcOk).bus = s.bus ∧ (s.seamWarm crcOk).meter = s.meter ∧
    (s.seamWarm crcOk).pair = s.pair ∧ (s.seamWarm crcOk).casc = s.casc ∧ (s.seamWarm crcOk).upd = s.upd ∧
    (s.seamWarm crcOk).boot = s.boot ∧ (s.seamWarm crcOk).bk = s.bk ∧ (s.seamWarm crcOk).freeCtr = s.freeCtr := by
  simp [State.seamWarm]
@[simp] theorem State.faultsWarm_frame (s : State) :
    (s.faultsWarm).pending = s.pending ∧ (s.faultsWarm).frame = s.frame ∧ (s.faultsWarm).host = s.host ∧
    (s.faultsWarm).time = s.time ∧ (s.faultsWarm).keys = s.keys ∧ (s.faultsWarm).scan = s.scan ∧ (s.faultsWarm).lio
    = s.lio ∧ (s.faultsWarm).loop = s.loop ∧ (s.faultsWarm).disp = s.disp ∧ (s.faultsWarm).bus = s.bus ∧
    (s.faultsWarm).meter = s.meter ∧ (s.faultsWarm).seam = s.seam ∧ (s.faultsWarm).pair = s.pair ∧
    (s.faultsWarm).casc = s.casc ∧ (s.faultsWarm).upd = s.upd ∧ (s.faultsWarm).boot = s.boot ∧ (s.faultsWarm).bk =
    s.bk ∧ (s.faultsWarm).out = s.out ∧ (s.faultsWarm).freeCtr = s.freeCtr := by
  simp [State.faultsWarm]
@[simp] theorem State.exchReset_frame (s : State) :
    (s.exchReset).pending = s.pending ∧ (s.exchReset).safety = s.safety ∧ (s.exchReset).frame = s.frame ∧
    (s.exchReset).host = s.host ∧ (s.exchReset).time = s.time ∧ (s.exchReset).keys = s.keys ∧ (s.exchReset).scan =
    s.scan ∧ (s.exchReset).lio = s.lio ∧ (s.exchReset).loop = s.loop ∧ (s.exchReset).disp = s.disp ∧
    (s.exchReset).bus = s.bus ∧ (s.exchReset).meter = s.meter ∧ (s.exchReset).seam = s.seam ∧ (s.exchReset).pair =
    s.pair ∧ (s.exchReset).casc = s.casc ∧ (s.exchReset).upd = s.upd ∧ (s.exchReset).boot = s.boot ∧
    (s.exchReset).bk = s.bk ∧ (s.exchReset).freeCtr = s.freeCtr := by
  simp [State.exchReset]
@[simp] theorem State.setEnable_frame (s : State) (head : Nat) (b : Bool) :
    (s.setEnable head b).pending = s.pending ∧ (s.setEnable head b).safety = s.safety ∧ (s.setEnable head b).frame =
    s.frame ∧ (s.setEnable head b).host = s.host ∧ (s.setEnable head b).time = s.time ∧ (s.setEnable head b).keys =
    s.keys ∧ (s.setEnable head b).scan = s.scan ∧ (s.setEnable head b).lio = s.lio ∧ (s.setEnable head b).loop =
    s.loop ∧ (s.setEnable head b).disp = s.disp ∧ (s.setEnable head b).bus = s.bus ∧ (s.setEnable head b).meter =
    s.meter ∧ (s.setEnable head b).seam = s.seam ∧ (s.setEnable head b).pair = s.pair ∧ (s.setEnable head b).casc =
    s.casc ∧ (s.setEnable head b).upd = s.upd ∧ (s.setEnable head b).boot = s.boot ∧ (s.setEnable head b).bk = s.bk
    ∧ (s.setEnable head b).out = s.out ∧ (s.setEnable head b).freeCtr = s.freeCtr := by
  simp [State.setEnable]
@[simp] theorem State.enableMeters_frame (s : State) :
    (s.enableMeters).pending = s.pending ∧ (s.enableMeters).safety = s.safety ∧ (s.enableMeters).frame = s.frame ∧
    (s.enableMeters).host = s.host ∧ (s.enableMeters).time = s.time ∧ (s.enableMeters).keys = s.keys ∧
    (s.enableMeters).scan = s.scan ∧ (s.enableMeters).lio = s.lio ∧ (s.enableMeters).loop = s.loop ∧
    (s.enableMeters).disp = s.disp ∧ (s.enableMeters).bus = s.bus ∧ (s.enableMeters).seam = s.seam ∧
    (s.enableMeters).pair = s.pair ∧ (s.enableMeters).casc = s.casc ∧ (s.enableMeters).upd = s.upd ∧
    (s.enableMeters).boot = s.boot ∧ (s.enableMeters).bk = s.bk ∧ (s.enableMeters).out = s.out ∧
    (s.enableMeters).freeCtr = s.freeCtr := by
  simp [State.enableMeters]
@[simp] theorem State.enableBuses_frame (s : State) :
    (s.enableBuses).pending = s.pending ∧ (s.enableBuses).safety = s.safety ∧ (s.enableBuses).frame = s.frame ∧
    (s.enableBuses).host = s.host ∧ (s.enableBuses).time = s.time ∧ (s.enableBuses).keys = s.keys ∧
    (s.enableBuses).scan = s.scan ∧ (s.enableBuses).lio = s.lio ∧ (s.enableBuses).loop = s.loop ∧
    (s.enableBuses).disp = s.disp ∧ (s.enableBuses).meter = s.meter ∧ (s.enableBuses).seam = s.seam ∧
    (s.enableBuses).pair = s.pair ∧ (s.enableBuses).casc = s.casc ∧ (s.enableBuses).upd = s.upd ∧
    (s.enableBuses).boot = s.boot ∧ (s.enableBuses).bk = s.bk ∧ (s.enableBuses).out = s.out ∧
    (s.enableBuses).freeCtr = s.freeCtr := by
  simp [State.enableBuses]
@[simp] theorem State.coldEnables_frame (s : State) :
    (s.coldEnables).pending = s.pending ∧ (s.coldEnables).safety = s.safety ∧ (s.coldEnables).frame = s.frame ∧
    (s.coldEnables).host = s.host ∧ (s.coldEnables).time = s.time ∧ (s.coldEnables).keys = s.keys ∧
    (s.coldEnables).scan = s.scan ∧ (s.coldEnables).lio = s.lio ∧ (s.coldEnables).loop = s.loop ∧
    (s.coldEnables).seam = s.seam ∧ (s.coldEnables).casc = s.casc ∧ (s.coldEnables).upd = s.upd ∧ (s.coldEnables).bk
    = s.bk ∧ (s.coldEnables).freeCtr = s.freeCtr := by
  simp [State.coldEnables]
@[simp] theorem State.suppliesGood_frame (s : State) (vinBus : Bool) :
    (s.suppliesGood vinBus).pending = s.pending ∧ (s.suppliesGood vinBus).safety = s.safety ∧ (s.suppliesGood
    vinBus).frame = s.frame ∧ (s.suppliesGood vinBus).host = s.host ∧ (s.suppliesGood vinBus).time = s.time ∧
    (s.suppliesGood vinBus).keys = s.keys ∧ (s.suppliesGood vinBus).scan = s.scan ∧ (s.suppliesGood vinBus).lio =
    s.lio ∧ (s.suppliesGood vinBus).loop = s.loop ∧ (s.suppliesGood vinBus).disp = s.disp ∧ (s.suppliesGood
    vinBus).bus = s.bus ∧ (s.suppliesGood vinBus).meter = s.meter ∧ (s.suppliesGood vinBus).seam = s.seam ∧
    (s.suppliesGood vinBus).pair = s.pair ∧ (s.suppliesGood vinBus).casc = s.casc ∧ (s.suppliesGood vinBus).upd =
    s.upd ∧ (s.suppliesGood vinBus).bk = s.bk ∧ (s.suppliesGood vinBus).out = s.out ∧ (s.suppliesGood
    vinBus).freeCtr = s.freeCtr := by
  simp [State.suppliesGood]

end Sys2Proof.Machine
end

