-- ==== Sys2Proof/Laws/FramesHost.lean ====
section
/-!
SUPPORT. The frames of the shared operations of the host paths, the latch and the beat: every field of State each leaves alone.
-/
namespace Sys2Proof.Machine

@[simp] theorem State.pathErr_frame (s : State) (p : HostPath) (addr : Nat) (window write : Bool) (code : Nat) :
    (s.pathErr p addr window write code).pending = s.pending ∧ (s.pathErr p addr window write code).safety =
    s.safety ∧ (s.pathErr p addr window write code).frame = s.frame ∧ (s.pathErr p addr window write code).host =
    s.host ∧ (s.pathErr p addr window write code).time = s.time ∧ (s.pathErr p addr window write code).keys = s.keys
    ∧ (s.pathErr p addr window write code).scan = s.scan ∧ (s.pathErr p addr window write code).lio = s.lio ∧
    (s.pathErr p addr window write code).loop = s.loop ∧ (s.pathErr p addr window write code).disp = s.disp ∧
    (s.pathErr p addr window write code).bus = s.bus ∧ (s.pathErr p addr window write code).meter = s.meter ∧
    (s.pathErr p addr window write code).seam = s.seam ∧ (s.pathErr p addr window write code).pair = s.pair ∧
    (s.pathErr p addr window write code).casc = s.casc ∧ (s.pathErr p addr window write code).upd = s.upd ∧
    (s.pathErr p addr window write code).boot = s.boot ∧ (s.pathErr p addr window write code).bk = s.bk ∧ (s.pathErr
    p addr window write code).freeCtr = s.freeCtr := by
  unfold State.pathErr; (repeat' split) <;> simp
@[simp] theorem State.windowRead_frame (s : State) (a : Nat) :
    (s.windowRead a).2.pending = s.pending ∧ (s.windowRead a).2.safety = s.safety ∧ (s.windowRead a).2.frame =
    s.frame ∧ (s.windowRead a).2.host = s.host ∧ (s.windowRead a).2.time = s.time ∧ (s.windowRead a).2.keys = s.keys
    ∧ (s.windowRead a).2.scan = s.scan ∧ (s.windowRead a).2.lio = s.lio ∧ (s.windowRead a).2.loop = s.loop ∧
    (s.windowRead a).2.disp = s.disp ∧ (s.windowRead a).2.bus = s.bus ∧ (s.windowRead a).2.meter = s.meter ∧
    (s.windowRead a).2.seam = s.seam ∧ (s.windowRead a).2.pair = s.pair ∧ (s.windowRead a).2.casc = s.casc ∧
    (s.windowRead a).2.upd = s.upd ∧ (s.windowRead a).2.boot = s.boot ∧ (s.windowRead a).2.bk = s.bk ∧ (s.windowRead
    a).2.freeCtr = s.freeCtr := by
  unfold State.windowRead; (repeat' split) <;> simp
@[simp] theorem State.freezeViews_frame (s : State) :
    (s.freezeViews).pending = s.pending ∧ (s.freezeViews).safety = s.safety ∧ (s.freezeViews).frame = s.frame ∧
    (s.freezeViews).host = s.host ∧ (s.freezeViews).time = s.time ∧ (s.freezeViews).keys = s.keys ∧
    (s.freezeViews).scan = s.scan ∧ (s.freezeViews).lio = s.lio ∧ (s.freezeViews).loop = s.loop ∧
    (s.freezeViews).disp = s.disp ∧ (s.freezeViews).bus = s.bus ∧ (s.freezeViews).meter = s.meter ∧
    (s.freezeViews).seam = s.seam ∧ (s.freezeViews).pair = s.pair ∧ (s.freezeViews).casc = s.casc ∧
    (s.freezeViews).upd = s.upd ∧ (s.freezeViews).boot = s.boot ∧ (s.freezeViews).bk = s.bk ∧ (s.freezeViews).out =
    s.out ∧ (s.freezeViews).freeCtr = s.freeCtr := by
  simp [State.freezeViews]
@[simp] theorem State.regRead_frame (s : State) (p : HostPath) (a : Nat) :
    (s.regRead p a).2.pending = s.pending ∧ (s.regRead p a).2.safety = s.safety ∧ (s.regRead p a).2.frame = s.frame
    ∧ (s.regRead p a).2.host = s.host ∧ (s.regRead p a).2.time = s.time ∧ (s.regRead p a).2.keys = s.keys ∧
    (s.regRead p a).2.scan = s.scan ∧ (s.regRead p a).2.lio = s.lio ∧ (s.regRead p a).2.loop = s.loop ∧ (s.regRead p
    a).2.disp = s.disp ∧ (s.regRead p a).2.bus = s.bus ∧ (s.regRead p a).2.meter = s.meter ∧ (s.regRead p a).2.seam
    = s.seam ∧ (s.regRead p a).2.pair = s.pair ∧ (s.regRead p a).2.casc = s.casc ∧ (s.regRead p a).2.upd = s.upd ∧
    (s.regRead p a).2.boot = s.boot ∧ (s.regRead p a).2.bk = s.bk ∧ (s.regRead p a).2.out = s.out ∧ (s.regRead p
    a).2.freeCtr = s.freeCtr := by
  unfold State.regRead; dsimp only; (repeat' split) <;> simp
@[simp] theorem State.readWord_frame (s : State) (p : HostPath) (a : Nat) :
    (s.readWord p a).2.pending = s.pending ∧ (s.readWord p a).2.safety = s.safety ∧ (s.readWord p a).2.frame =
    s.frame ∧ (s.readWord p a).2.host = s.host ∧ (s.readWord p a).2.time = s.time ∧ (s.readWord p a).2.keys = s.keys
    ∧ (s.readWord p a).2.scan = s.scan ∧ (s.readWord p a).2.lio = s.lio ∧ (s.readWord p a).2.loop = s.loop ∧
    (s.readWord p a).2.disp = s.disp ∧ (s.readWord p a).2.bus = s.bus ∧ (s.readWord p a).2.meter = s.meter ∧
    (s.readWord p a).2.seam = s.seam ∧ (s.readWord p a).2.pair = s.pair ∧ (s.readWord p a).2.casc = s.casc ∧
    (s.readWord p a).2.upd = s.upd ∧ (s.readWord p a).2.boot = s.boot ∧ (s.readWord p a).2.bk = s.bk ∧ (s.readWord p
    a).2.freeCtr = s.freeCtr := by
  unfold State.readWord; (repeat' split) <;> simp
@[simp] theorem State.setProt_frame (s : State) (head : Nat) (x : Option ProtStage) :
    (s.setProt head x).pending = s.pending ∧ (s.setProt head x).safety = s.safety ∧ (s.setProt head x).frame =
    s.frame ∧ (s.setProt head x).host = s.host ∧ (s.setProt head x).time = s.time ∧ (s.setProt head x).keys = s.keys
    ∧ (s.setProt head x).scan = s.scan ∧ (s.setProt head x).lio = s.lio ∧ (s.setProt head x).loop = s.loop ∧
    (s.setProt head x).disp = s.disp ∧ (s.setProt head x).bus = s.bus ∧ (s.setProt head x).meter = s.meter ∧
    (s.setProt head x).seam = s.seam ∧ (s.setProt head x).pair = s.pair ∧ (s.setProt head x).casc = s.casc ∧
    (s.setProt head x).upd = s.upd ∧ (s.setProt head x).boot = s.boot ∧ (s.setProt head x).bk = s.bk ∧ (s.setProt
    head x).out = s.out ∧ (s.setProt head x).freeCtr = s.freeCtr := by
  simp [State.setProt]
@[simp] theorem State.abortTags_frame (s : State) (tags : List Nat) :
    (s.abortTags tags).pending = s.pending ∧ (s.abortTags tags).safety = s.safety ∧ (s.abortTags tags).frame =
    s.frame ∧ (s.abortTags tags).time = s.time ∧ (s.abortTags tags).keys = s.keys ∧ (s.abortTags tags).scan = s.scan
    ∧ (s.abortTags tags).lio = s.lio ∧ (s.abortTags tags).loop = s.loop ∧ (s.abortTags tags).disp = s.disp ∧
    (s.abortTags tags).bus = s.bus ∧ (s.abortTags tags).meter = s.meter ∧ (s.abortTags tags).seam = s.seam ∧
    (s.abortTags tags).pair = s.pair ∧ (s.abortTags tags).casc = s.casc ∧ (s.abortTags tags).upd = s.upd ∧
    (s.abortTags tags).boot = s.boot ∧ (s.abortTags tags).bk = s.bk := by
  simp [State.abortTags]
@[simp] theorem State.ethRefresh_frame (s : State) :
    (s.ethRefresh).pending = s.pending ∧ (s.ethRefresh).safety = s.safety ∧ (s.ethRefresh).frame = s.frame ∧
    (s.ethRefresh).host = s.host ∧ (s.ethRefresh).time = s.time ∧ (s.ethRefresh).keys = s.keys ∧ (s.ethRefresh).scan
    = s.scan ∧ (s.ethRefresh).lio = s.lio ∧ (s.ethRefresh).loop = s.loop ∧ (s.ethRefresh).disp = s.disp ∧
    (s.ethRefresh).bus = s.bus ∧ (s.ethRefresh).meter = s.meter ∧ (s.ethRefresh).seam = s.seam ∧ (s.ethRefresh).pair
    = s.pair ∧ (s.ethRefresh).casc = s.casc ∧ (s.ethRefresh).upd = s.upd ∧ (s.ethRefresh).boot = s.boot ∧
    (s.ethRefresh).bk = s.bk ∧ (s.ethRefresh).out = s.out ∧ (s.ethRefresh).freeCtr = s.freeCtr := by
  simp [State.ethRefresh]
@[simp] theorem State.enableActs_frame (s : State) (head : Nat) (on : Bool) :
    (s.enableActs head on).pending = s.pending ∧ (s.enableActs head on).safety = s.safety ∧ (s.enableActs head
    on).frame = s.frame ∧ (s.enableActs head on).host = s.host ∧ (s.enableActs head on).time = s.time ∧
    (s.enableActs head on).keys = s.keys ∧ (s.enableActs head on).scan = s.scan ∧ (s.enableActs head on).loop =
    s.loop ∧ (s.enableActs head on).seam = s.seam ∧ (s.enableActs head on).casc = s.casc ∧ (s.enableActs head
    on).upd = s.upd ∧ (s.enableActs head on).bk = s.bk ∧ (s.enableActs head on).freeCtr = s.freeCtr := by
  simp [State.enableActs]
@[simp] theorem State.enableWrite_frame (s : State) (head : Nat) (v : Word) :
    (s.enableWrite head v).pending = s.pending ∧ (s.enableWrite head v).safety = s.safety ∧ (s.enableWrite head
    v).frame = s.frame ∧ (s.enableWrite head v).host = s.host ∧ (s.enableWrite head v).time = s.time ∧
    (s.enableWrite head v).keys = s.keys ∧ (s.enableWrite head v).scan = s.scan ∧ (s.enableWrite head v).loop =
    s.loop ∧ (s.enableWrite head v).seam = s.seam ∧ (s.enableWrite head v).casc = s.casc ∧ (s.enableWrite head
    v).upd = s.upd ∧ (s.enableWrite head v).bk = s.bk ∧ (s.enableWrite head v).freeCtr = s.freeCtr := by
  unfold State.enableWrite; dsimp only; (repeat' split) <;> simp
@[simp] theorem State.clearEvents_frame (s : State) (head : Nat) :
    (s.clearEvents head).pending = s.pending ∧ (s.clearEvents head).safety = s.safety ∧ (s.clearEvents head).frame =
    s.frame ∧ (s.clearEvents head).host = s.host ∧ (s.clearEvents head).time = s.time ∧ (s.clearEvents head).keys =
    s.keys ∧ (s.clearEvents head).scan = s.scan ∧ (s.clearEvents head).lio = s.lio ∧ (s.clearEvents head).loop =
    s.loop ∧ (s.clearEvents head).disp = s.disp ∧ (s.clearEvents head).bus = s.bus ∧ (s.clearEvents head).meter =
    s.meter ∧ (s.clearEvents head).seam = s.seam ∧ (s.clearEvents head).pair = s.pair ∧ (s.clearEvents head).casc =
    s.casc ∧ (s.clearEvents head).upd = s.upd ∧ (s.clearEvents head).boot = s.boot ∧ (s.clearEvents head).bk = s.bk
    ∧ (s.clearEvents head).out = s.out ∧ (s.clearEvents head).freeCtr = s.freeCtr := by
  simp [State.clearEvents]
@[simp] theorem State.freezeWrite_frame (s : State) (head : Nat) (v : Word) :
    (s.freezeWrite head v).pending = s.pending ∧ (s.freezeWrite head v).safety = s.safety ∧ (s.freezeWrite head
    v).frame = s.frame ∧ (s.freezeWrite head v).host = s.host ∧ (s.freezeWrite head v).time = s.time ∧
    (s.freezeWrite head v).keys = s.keys ∧ (s.freezeWrite head v).scan = s.scan ∧ (s.freezeWrite head v).lio = s.lio
    ∧ (s.freezeWrite head v).loop = s.loop ∧ (s.freezeWrite head v).disp = s.disp ∧ (s.freezeWrite head v).bus =
    s.bus ∧ (s.freezeWrite head v).meter = s.meter ∧ (s.freezeWrite head v).seam = s.seam ∧ (s.freezeWrite head
    v).pair = s.pair ∧ (s.freezeWrite head v).casc = s.casc ∧ (s.freezeWrite head v).upd = s.upd ∧ (s.freezeWrite
    head v).boot = s.boot ∧ (s.freezeWrite head v).bk = s.bk ∧ (s.freezeWrite head v).out = s.out ∧ (s.freezeWrite
    head v).freeCtr = s.freeCtr := by
  simp [State.freezeWrite]
@[simp] theorem State.resignal_frame (s : State) (head : Nat) :
    (s.resignal head).pending = s.pending ∧ (s.resignal head).reg = s.reg ∧ (s.resignal head).safety = s.safety ∧
    (s.resignal head).frame = s.frame ∧ (s.resignal head).host = s.host ∧ (s.resignal head).time = s.time ∧
    (s.resignal head).keys = s.keys ∧ (s.resignal head).scan = s.scan ∧ (s.resignal head).lio = s.lio ∧ (s.resignal
    head).loop = s.loop ∧ (s.resignal head).disp = s.disp ∧ (s.resignal head).bus = s.bus ∧ (s.resignal head).meter
    = s.meter ∧ (s.resignal head).seam = s.seam ∧ (s.resignal head).pair = s.pair ∧ (s.resignal head).casc = s.casc
    ∧ (s.resignal head).upd = s.upd ∧ (s.resignal head).boot = s.boot ∧ (s.resignal head).bk = s.bk ∧ (s.resignal
    head).freeCtr = s.freeCtr := by
  simp [State.resignal]
@[simp] theorem State.frameCtrl_frame (s : State) (opened : Bool) (v : Word) :
    (s.frameCtrl opened v).pending = s.pending ∧ (s.frameCtrl opened v).safety = s.safety ∧ (s.frameCtrl opened
    v).host = s.host ∧ (s.frameCtrl opened v).time = s.time ∧ (s.frameCtrl opened v).keys = s.keys ∧ (s.frameCtrl
    opened v).scan = s.scan ∧ (s.frameCtrl opened v).lio = s.lio ∧ (s.frameCtrl opened v).loop = s.loop ∧
    (s.frameCtrl opened v).disp = s.disp ∧ (s.frameCtrl opened v).bus = s.bus ∧ (s.frameCtrl opened v).meter =
    s.meter ∧ (s.frameCtrl opened v).seam = s.seam ∧ (s.frameCtrl opened v).pair = s.pair ∧ (s.frameCtrl opened
    v).casc = s.casc ∧ (s.frameCtrl opened v).upd = s.upd ∧ (s.frameCtrl opened v).boot = s.boot ∧ (s.frameCtrl
    opened v).bk = s.bk ∧ (s.frameCtrl opened v).freeCtr = s.freeCtr := by
  simp [State.frameCtrl]
@[simp] theorem State.beatMatch_frame (s : State) :
    (s.beatMatch).pending = s.pending ∧ (s.beatMatch).safety = s.safety ∧ (s.beatMatch).host = s.host ∧
    (s.beatMatch).time = s.time ∧ (s.beatMatch).keys = s.keys ∧ (s.beatMatch).scan = s.scan ∧ (s.beatMatch).lio =
    s.lio ∧ (s.beatMatch).loop = s.loop ∧ (s.beatMatch).disp = s.disp ∧ (s.beatMatch).bus = s.bus ∧
    (s.beatMatch).meter = s.meter ∧ (s.beatMatch).seam = s.seam ∧ (s.beatMatch).pair = s.pair ∧ (s.beatMatch).casc =
    s.casc ∧ (s.beatMatch).upd = s.upd ∧ (s.beatMatch).boot = s.boot ∧ (s.beatMatch).bk = s.bk ∧
    (s.beatMatch).freeCtr = s.freeCtr := by
  simp [State.beatMatch]
@[simp] theorem State.alarmWrite_frame (s : State) (v : Word) :
    (s.alarmWrite v).pending = s.pending ∧ (s.alarmWrite v).safety = s.safety ∧ (s.alarmWrite v).host = s.host ∧
    (s.alarmWrite v).time = s.time ∧ (s.alarmWrite v).keys = s.keys ∧ (s.alarmWrite v).scan = s.scan ∧ (s.alarmWrite
    v).lio = s.lio ∧ (s.alarmWrite v).loop = s.loop ∧ (s.alarmWrite v).disp = s.disp ∧ (s.alarmWrite v).bus = s.bus
    ∧ (s.alarmWrite v).meter = s.meter ∧ (s.alarmWrite v).seam = s.seam ∧ (s.alarmWrite v).pair = s.pair ∧
    (s.alarmWrite v).casc = s.casc ∧ (s.alarmWrite v).upd = s.upd ∧ (s.alarmWrite v).boot = s.boot ∧ (s.alarmWrite
    v).bk = s.bk ∧ (s.alarmWrite v).freeCtr = s.freeCtr := by
  simp [State.alarmWrite]
@[simp] theorem State.debugOff_frame (s : State) :
    (s.debugOff).pending = s.pending ∧ (s.debugOff).reg = s.reg ∧ (s.debugOff).safety = s.safety ∧
    (s.debugOff).frame = s.frame ∧ (s.debugOff).host = s.host ∧ (s.debugOff).time = s.time ∧ (s.debugOff).keys =
    s.keys ∧ (s.debugOff).lio = s.lio ∧ (s.debugOff).loop = s.loop ∧ (s.debugOff).disp = s.disp ∧ (s.debugOff).bus =
    s.bus ∧ (s.debugOff).meter = s.meter ∧ (s.debugOff).seam = s.seam ∧ (s.debugOff).pair = s.pair ∧
    (s.debugOff).casc = s.casc ∧ (s.debugOff).upd = s.upd ∧ (s.debugOff).boot = s.boot ∧ (s.debugOff).bk = s.bk ∧
    (s.debugOff).out = s.out ∧ (s.debugOff).freeCtr = s.freeCtr := by
  simp [State.debugOff]
@[simp] theorem State.slotCtrl_frame (s : State) (p : HostPath) (n : Nat) (v : Word) :
    (s.slotCtrl p n v).pending = s.pending ∧ (s.slotCtrl p n v).safety = s.safety ∧ (s.slotCtrl p n v).frame =
    s.frame ∧ (s.slotCtrl p n v).time = s.time ∧ (s.slotCtrl p n v).keys = s.keys ∧ (s.slotCtrl p n v).scan = s.scan
    ∧ (s.slotCtrl p n v).lio = s.lio ∧ (s.slotCtrl p n v).loop = s.loop ∧ (s.slotCtrl p n v).disp = s.disp ∧
    (s.slotCtrl p n v).bus = s.bus ∧ (s.slotCtrl p n v).meter = s.meter ∧ (s.slotCtrl p n v).seam = s.seam ∧
    (s.slotCtrl p n v).pair = s.pair ∧ (s.slotCtrl p n v).casc = s.casc ∧ (s.slotCtrl p n v).upd = s.upd ∧
    (s.slotCtrl p n v).boot = s.boot ∧ (s.slotCtrl p n v).bk = s.bk ∧ (s.slotCtrl p n v).freeCtr = s.freeCtr := by
  unfold State.slotCtrl; (repeat' split) <;> simp
@[simp] theorem State.pathErrClear_frame (s : State) (infoAddr : Nat) (v : Word) :
    (s.pathErrClear infoAddr v).pending = s.pending ∧ (s.pathErrClear infoAddr v).safety = s.safety ∧
    (s.pathErrClear infoAddr v).frame = s.frame ∧ (s.pathErrClear infoAddr v).host = s.host ∧ (s.pathErrClear
    infoAddr v).time = s.time ∧ (s.pathErrClear infoAddr v).keys = s.keys ∧ (s.pathErrClear infoAddr v).scan =
    s.scan ∧ (s.pathErrClear infoAddr v).lio = s.lio ∧ (s.pathErrClear infoAddr v).loop = s.loop ∧ (s.pathErrClear
    infoAddr v).disp = s.disp ∧ (s.pathErrClear infoAddr v).bus = s.bus ∧ (s.pathErrClear infoAddr v).meter =
    s.meter ∧ (s.pathErrClear infoAddr v).seam = s.seam ∧ (s.pathErrClear infoAddr v).pair = s.pair ∧
    (s.pathErrClear infoAddr v).casc = s.casc ∧ (s.pathErrClear infoAddr v).upd = s.upd ∧ (s.pathErrClear infoAddr
    v).boot = s.boot ∧ (s.pathErrClear infoAddr v).bk = s.bk ∧ (s.pathErrClear infoAddr v).out = s.out ∧
    (s.pathErrClear infoAddr v).freeCtr = s.freeCtr := by
  simp [State.pathErrClear]
@[simp] theorem State.bkWrite_frame (s : State) (a : Nat) (opened : Bool) (v : Word) (fs : List FieldDef) :
    (s.bkWrite a opened v fs).pending = s.pending ∧ (s.bkWrite a opened v fs).safety = s.safety ∧ (s.bkWrite a
    opened v fs).frame = s.frame ∧ (s.bkWrite a opened v fs).host = s.host ∧ (s.bkWrite a opened v fs).time = s.time
    ∧ (s.bkWrite a opened v fs).keys = s.keys ∧ (s.bkWrite a opened v fs).scan = s.scan ∧ (s.bkWrite a opened v
    fs).lio = s.lio ∧ (s.bkWrite a opened v fs).loop = s.loop ∧ (s.bkWrite a opened v fs).disp = s.disp ∧ (s.bkWrite
    a opened v fs).bus = s.bus ∧ (s.bkWrite a opened v fs).meter = s.meter ∧ (s.bkWrite a opened v fs).seam = s.seam
    ∧ (s.bkWrite a opened v fs).pair = s.pair ∧ (s.bkWrite a opened v fs).casc = s.casc ∧ (s.bkWrite a opened v
    fs).upd = s.upd ∧ (s.bkWrite a opened v fs).boot = s.boot ∧ (s.bkWrite a opened v fs).freeCtr = s.freeCtr := by
  simp [State.bkWrite]
@[simp] theorem State.imageWindow_frame (s : State) (addr : Nat) (v : Word) :
    (s.imageWindow addr v).pending = s.pending ∧ (s.imageWindow addr v).safety = s.safety ∧ (s.imageWindow addr
    v).frame = s.frame ∧ (s.imageWindow addr v).host = s.host ∧ (s.imageWindow addr v).time = s.time ∧
    (s.imageWindow addr v).keys = s.keys ∧ (s.imageWindow addr v).lio = s.lio ∧ (s.imageWindow addr v).loop = s.loop
    ∧ (s.imageWindow addr v).disp = s.disp ∧ (s.imageWindow addr v).bus = s.bus ∧ (s.imageWindow addr v).meter =
    s.meter ∧ (s.imageWindow addr v).seam = s.seam ∧ (s.imageWindow addr v).casc = s.casc ∧ (s.imageWindow addr
    v).upd = s.upd ∧ (s.imageWindow addr v).boot = s.boot ∧ (s.imageWindow addr v).bk = s.bk ∧ (s.imageWindow addr
    v).freeCtr = s.freeCtr := by
  simp [State.imageWindow]
@[simp] theorem State.slotWrite_frame (s : State) (p : HostPath) (ofs : Nat) (data : List Byte) :
    (s.slotWrite p ofs data).pending = s.pending ∧ (s.slotWrite p ofs data).safety = s.safety ∧ (s.slotWrite p ofs
    data).frame = s.frame ∧ (s.slotWrite p ofs data).time = s.time ∧ (s.slotWrite p ofs data).keys = s.keys ∧
    (s.slotWrite p ofs data).scan = s.scan ∧ (s.slotWrite p ofs data).lio = s.lio ∧ (s.slotWrite p ofs data).loop =
    s.loop ∧ (s.slotWrite p ofs data).disp = s.disp ∧ (s.slotWrite p ofs data).bus = s.bus ∧ (s.slotWrite p ofs
    data).meter = s.meter ∧ (s.slotWrite p ofs data).seam = s.seam ∧ (s.slotWrite p ofs data).pair = s.pair ∧
    (s.slotWrite p ofs data).casc = s.casc ∧ (s.slotWrite p ofs data).upd = s.upd ∧ (s.slotWrite p ofs data).boot =
    s.boot ∧ (s.slotWrite p ofs data).bk = s.bk ∧ (s.slotWrite p ofs data).freeCtr = s.freeCtr := by
  simp [State.slotWrite]
@[simp] theorem State.qspiActive_frame (s : State) :
    (s.qspiActive).pending = s.pending ∧ (s.qspiActive).safety = s.safety ∧ (s.qspiActive).frame = s.frame ∧
    (s.qspiActive).host = s.host ∧ (s.qspiActive).time = s.time ∧ (s.qspiActive).keys = s.keys ∧ (s.qspiActive).scan
    = s.scan ∧ (s.qspiActive).lio = s.lio ∧ (s.qspiActive).loop = s.loop ∧ (s.qspiActive).disp = s.disp ∧
    (s.qspiActive).bus = s.bus ∧ (s.qspiActive).meter = s.meter ∧ (s.qspiActive).seam = s.seam ∧ (s.qspiActive).pair
    = s.pair ∧ (s.qspiActive).casc = s.casc ∧ (s.qspiActive).upd = s.upd ∧ (s.qspiActive).boot = s.boot ∧
    (s.qspiActive).bk = s.bk ∧ (s.qspiActive).out = s.out ∧ (s.qspiActive).freeCtr = s.freeCtr := by
  simp [State.qspiActive]
@[simp] theorem State.qspiWord_frame (s : State) (a : Nat) :
    (s.qspiWord a).2.pending = s.pending ∧ (s.qspiWord a).2.safety = s.safety ∧ (s.qspiWord a).2.frame = s.frame ∧
    (s.qspiWord a).2.host = s.host ∧ (s.qspiWord a).2.time = s.time ∧ (s.qspiWord a).2.keys = s.keys ∧ (s.qspiWord
    a).2.scan = s.scan ∧ (s.qspiWord a).2.lio = s.lio ∧ (s.qspiWord a).2.loop = s.loop ∧ (s.qspiWord a).2.disp =
    s.disp ∧ (s.qspiWord a).2.bus = s.bus ∧ (s.qspiWord a).2.meter = s.meter ∧ (s.qspiWord a).2.seam = s.seam ∧
    (s.qspiWord a).2.pair = s.pair ∧ (s.qspiWord a).2.casc = s.casc ∧ (s.qspiWord a).2.upd = s.upd ∧ (s.qspiWord
    a).2.boot = s.boot ∧ (s.qspiWord a).2.bk = s.bk ∧ (s.qspiWord a).2.freeCtr = s.freeCtr := by
  unfold State.qspiWord; (repeat' split) <;> simp
@[simp] theorem State.qspiDiscard_frame (s : State) (addr code : Nat) :
    (s.qspiDiscard addr code).pending = s.pending ∧ (s.qspiDiscard addr code).safety = s.safety ∧ (s.qspiDiscard
    addr code).frame = s.frame ∧ (s.qspiDiscard addr code).time = s.time ∧ (s.qspiDiscard addr code).keys = s.keys ∧
    (s.qspiDiscard addr code).scan = s.scan ∧ (s.qspiDiscard addr code).lio = s.lio ∧ (s.qspiDiscard addr code).loop
    = s.loop ∧ (s.qspiDiscard addr code).disp = s.disp ∧ (s.qspiDiscard addr code).bus = s.bus ∧ (s.qspiDiscard addr
    code).meter = s.meter ∧ (s.qspiDiscard addr code).seam = s.seam ∧ (s.qspiDiscard addr code).pair = s.pair ∧
    (s.qspiDiscard addr code).casc = s.casc ∧ (s.qspiDiscard addr code).upd = s.upd ∧ (s.qspiDiscard addr code).boot
    = s.boot ∧ (s.qspiDiscard addr code).bk = s.bk ∧ (s.qspiDiscard addr code).freeCtr = s.freeCtr := by
  simp [State.qspiDiscard]
@[simp] theorem State.ethTake_frame (s : State) (f : EthFrame) :
    (s.ethTake f).2.pending = s.pending ∧ (s.ethTake f).2.safety = s.safety ∧ (s.ethTake f).2.frame = s.frame ∧
    (s.ethTake f).2.time = s.time ∧ (s.ethTake f).2.keys = s.keys ∧ (s.ethTake f).2.scan = s.scan ∧ (s.ethTake
    f).2.lio = s.lio ∧ (s.ethTake f).2.loop = s.loop ∧ (s.ethTake f).2.disp = s.disp ∧ (s.ethTake f).2.bus = s.bus ∧
    (s.ethTake f).2.meter = s.meter ∧ (s.ethTake f).2.seam = s.seam ∧ (s.ethTake f).2.pair = s.pair ∧ (s.ethTake
    f).2.casc = s.casc ∧ (s.ethTake f).2.upd = s.upd ∧ (s.ethTake f).2.boot = s.boot ∧ (s.ethTake f).2.bk = s.bk ∧
    (s.ethTake f).2.out = s.out ∧ (s.ethTake f).2.freeCtr = s.freeCtr := by
  unfold State.ethTake; dsimp only; (repeat' split) <;> simp
@[simp] theorem State.fragDrop_frame (s : State) :
    (s.fragDrop).pending = s.pending ∧ (s.fragDrop).safety = s.safety ∧ (s.fragDrop).frame = s.frame ∧
    (s.fragDrop).host = s.host ∧ (s.fragDrop).time = s.time ∧ (s.fragDrop).keys = s.keys ∧ (s.fragDrop).scan =
    s.scan ∧ (s.fragDrop).lio = s.lio ∧ (s.fragDrop).loop = s.loop ∧ (s.fragDrop).disp = s.disp ∧ (s.fragDrop).bus =
    s.bus ∧ (s.fragDrop).meter = s.meter ∧ (s.fragDrop).seam = s.seam ∧ (s.fragDrop).pair = s.pair ∧
    (s.fragDrop).casc = s.casc ∧ (s.fragDrop).upd = s.upd ∧ (s.fragDrop).boot = s.boot ∧ (s.fragDrop).bk = s.bk ∧
    (s.fragDrop).freeCtr = s.freeCtr := by
  simp [State.fragDrop]
@[simp] theorem State.packetIn_frame (s : State) (req : OctahReq) :
    (s.packetIn req).pending = s.pending ∧ (s.packetIn req).safety = s.safety ∧ (s.packetIn req).frame = s.frame ∧
    (s.packetIn req).time = s.time ∧ (s.packetIn req).keys = s.keys ∧ (s.packetIn req).scan = s.scan ∧ (s.packetIn
    req).lio = s.lio ∧ (s.packetIn req).loop = s.loop ∧ (s.packetIn req).disp = s.disp ∧ (s.packetIn req).bus =
    s.bus ∧ (s.packetIn req).meter = s.meter ∧ (s.packetIn req).seam = s.seam ∧ (s.packetIn req).pair = s.pair ∧
    (s.packetIn req).casc = s.casc ∧ (s.packetIn req).upd = s.upd ∧ (s.packetIn req).boot = s.boot ∧ (s.packetIn
    req).bk = s.bk ∧ (s.packetIn req).out = s.out ∧ (s.packetIn req).freeCtr = s.freeCtr := by
  simp [State.packetIn]
@[simp] theorem State.datagram_frame (s : State) (g : EthFragment) :
    (s.datagram g).pending = s.pending ∧ (s.datagram g).safety = s.safety ∧ (s.datagram g).frame = s.frame ∧
    (s.datagram g).time = s.time ∧ (s.datagram g).keys = s.keys ∧ (s.datagram g).scan = s.scan ∧ (s.datagram g).lio
    = s.lio ∧ (s.datagram g).loop = s.loop ∧ (s.datagram g).disp = s.disp ∧ (s.datagram g).bus = s.bus ∧ (s.datagram
    g).meter = s.meter ∧ (s.datagram g).seam = s.seam ∧ (s.datagram g).pair = s.pair ∧ (s.datagram g).casc = s.casc
    ∧ (s.datagram g).upd = s.upd ∧ (s.datagram g).boot = s.boot ∧ (s.datagram g).bk = s.bk ∧ (s.datagram g).freeCtr
    = s.freeCtr := by
  unfold State.datagram; dsimp only; (repeat' split) <;> simp
@[simp] theorem State.netReply_frame (s : State) (kind : String) (dest content : List Byte) :
    (s.netReply kind dest content).pending = s.pending ∧ (s.netReply kind dest content).reg = s.reg ∧ (s.netReply
    kind dest content).safety = s.safety ∧ (s.netReply kind dest content).frame = s.frame ∧ (s.netReply kind dest
    content).host = s.host ∧ (s.netReply kind dest content).time = s.time ∧ (s.netReply kind dest content).keys =
    s.keys ∧ (s.netReply kind dest content).scan = s.scan ∧ (s.netReply kind dest content).lio = s.lio ∧ (s.netReply
    kind dest content).loop = s.loop ∧ (s.netReply kind dest content).disp = s.disp ∧ (s.netReply kind dest
    content).bus = s.bus ∧ (s.netReply kind dest content).meter = s.meter ∧ (s.netReply kind dest content).seam =
    s.seam ∧ (s.netReply kind dest content).pair = s.pair ∧ (s.netReply kind dest content).casc = s.casc ∧
    (s.netReply kind dest content).upd = s.upd ∧ (s.netReply kind dest content).boot = s.boot ∧ (s.netReply kind
    dest content).bk = s.bk ∧ (s.netReply kind dest content).freeCtr = s.freeCtr := by
  simp [State.netReply]
@[simp] theorem State.endSession_frame (s : State) (id : Word) :
    (s.endSession id).pending = s.pending ∧ (s.endSession id).safety = s.safety ∧ (s.endSession id).frame = s.frame
    ∧ (s.endSession id).time = s.time ∧ (s.endSession id).keys = s.keys ∧ (s.endSession id).scan = s.scan ∧
    (s.endSession id).lio = s.lio ∧ (s.endSession id).loop = s.loop ∧ (s.endSession id).disp = s.disp ∧
    (s.endSession id).bus = s.bus ∧ (s.endSession id).meter = s.meter ∧ (s.endSession id).seam = s.seam ∧
    (s.endSession id).pair = s.pair ∧ (s.endSession id).casc = s.casc ∧ (s.endSession id).boot = s.boot ∧
    (s.endSession id).bk = s.bk ∧ (s.endSession id).freeCtr = s.freeCtr := by
  simp [State.endSession]
@[simp] theorem State.supplyFlag_frame (s : State) (x : Supply) (ok : Bool) :
    (s.supplyFlag x ok).pending = s.pending ∧ (s.supplyFlag x ok).safety = s.safety ∧ (s.supplyFlag x ok).frame =
    s.frame ∧ (s.supplyFlag x ok).host = s.host ∧ (s.supplyFlag x ok).time = s.time ∧ (s.supplyFlag x ok).keys =
    s.keys ∧ (s.supplyFlag x ok).scan = s.scan ∧ (s.supplyFlag x ok).lio = s.lio ∧ (s.supplyFlag x ok).loop = s.loop
    ∧ (s.supplyFlag x ok).disp = s.disp ∧ (s.supplyFlag x ok).bus = s.bus ∧ (s.supplyFlag x ok).meter = s.meter ∧
    (s.supplyFlag x ok).seam = s.seam ∧ (s.supplyFlag x ok).pair = s.pair ∧ (s.supplyFlag x ok).casc = s.casc ∧
    (s.supplyFlag x ok).upd = s.upd ∧ (s.supplyFlag x ok).bk = s.bk ∧ (s.supplyFlag x ok).out = s.out ∧
    (s.supplyFlag x ok).freeCtr = s.freeCtr := by
  unfold State.supplyFlag; (repeat' split) <;> simp
@[simp] theorem State.modFrame_frame (s : State) (f : FrameState → FrameState) :
    (s.modFrame f).pending = s.pending ∧ (s.modFrame f).reg = s.reg ∧ (s.modFrame f).safety = s.safety ∧ (s.modFrame
    f).host = s.host ∧ (s.modFrame f).time = s.time ∧ (s.modFrame f).keys = s.keys ∧ (s.modFrame f).scan = s.scan ∧
    (s.modFrame f).lio = s.lio ∧ (s.modFrame f).loop = s.loop ∧ (s.modFrame f).disp = s.disp ∧ (s.modFrame f).bus =
    s.bus ∧ (s.modFrame f).meter = s.meter ∧ (s.modFrame f).seam = s.seam ∧ (s.modFrame f).pair = s.pair ∧
    (s.modFrame f).casc = s.casc ∧ (s.modFrame f).upd = s.upd ∧ (s.modFrame f).boot = s.boot ∧ (s.modFrame f).bk =
    s.bk ∧ (s.modFrame f).out = s.out ∧ (s.modFrame f).freeCtr = s.freeCtr := by
  simp [State.modFrame]
@[simp] theorem State.setLogging_frame (s : State) (b : Bool) :
    (s.setLogging b).pending = s.pending ∧ (s.setLogging b).reg = s.reg ∧ (s.setLogging b).safety = s.safety ∧
    (s.setLogging b).frame = s.frame ∧ (s.setLogging b).host = s.host ∧ (s.setLogging b).time = s.time ∧
    (s.setLogging b).keys = s.keys ∧ (s.setLogging b).scan = s.scan ∧ (s.setLogging b).lio = s.lio ∧ (s.setLogging
    b).loop = s.loop ∧ (s.setLogging b).disp = s.disp ∧ (s.setLogging b).bus = s.bus ∧ (s.setLogging b).meter =
    s.meter ∧ (s.setLogging b).seam = s.seam ∧ (s.setLogging b).casc = s.casc ∧ (s.setLogging b).upd = s.upd ∧
    (s.setLogging b).boot = s.boot ∧ (s.setLogging b).bk = s.bk ∧ (s.setLogging b).out = s.out ∧ (s.setLogging
    b).freeCtr = s.freeCtr := by
  simp [State.setLogging]
@[simp] theorem State.goOn_frame (s : State) (p : Nat) :
    (s.goOn p).pending = s.pending ∧ (s.goOn p).reg = s.reg ∧ (s.goOn p).safety = s.safety ∧ (s.goOn p).frame =
    s.frame ∧ (s.goOn p).host = s.host ∧ (s.goOn p).time = s.time ∧ (s.goOn p).keys = s.keys ∧ (s.goOn p).lio =
    s.lio ∧ (s.goOn p).loop = s.loop ∧ (s.goOn p).disp = s.disp ∧ (s.goOn p).bus = s.bus ∧ (s.goOn p).meter =
    s.meter ∧ (s.goOn p).seam = s.seam ∧ (s.goOn p).pair = s.pair ∧ (s.goOn p).casc = s.casc ∧ (s.goOn p).upd =
    s.upd ∧ (s.goOn p).boot = s.boot ∧ (s.goOn p).bk = s.bk ∧ (s.goOn p).out = s.out ∧ (s.goOn p).freeCtr =
    s.freeCtr := by
  simp [State.goOn]
@[simp] theorem State.applyReq_frame (s : State) (p : Nat) :
    (s.applyReq p).pending = s.pending ∧ (s.applyReq p).safety = s.safety ∧ (s.applyReq p).frame = s.frame ∧
    (s.applyReq p).time = s.time ∧ (s.applyReq p).keys = s.keys ∧ (s.applyReq p).lio = s.lio ∧ (s.applyReq p).loop =
    s.loop ∧ (s.applyReq p).disp = s.disp ∧ (s.applyReq p).bus = s.bus ∧ (s.applyReq p).meter = s.meter ∧
    (s.applyReq p).seam = s.seam ∧ (s.applyReq p).pair = s.pair ∧ (s.applyReq p).casc = s.casc ∧ (s.applyReq p).upd
    = s.upd ∧ (s.applyReq p).boot = s.boot ∧ (s.applyReq p).bk = s.bk := by
  unfold State.applyReq; (repeat' split) <;> simp
@[simp] theorem State.applyAbort_frame (s : State) (p : Nat) :
    (s.applyAbort p).pending = s.pending ∧ (s.applyAbort p).safety = s.safety ∧ (s.applyAbort p).frame = s.frame ∧
    (s.applyAbort p).host = s.host ∧ (s.applyAbort p).time = s.time ∧ (s.applyAbort p).keys = s.keys ∧ (s.applyAbort
    p).lio = s.lio ∧ (s.applyAbort p).loop = s.loop ∧ (s.applyAbort p).disp = s.disp ∧ (s.applyAbort p).bus = s.bus
    ∧ (s.applyAbort p).meter = s.meter ∧ (s.applyAbort p).seam = s.seam ∧ (s.applyAbort p).pair = s.pair ∧
    (s.applyAbort p).casc = s.casc ∧ (s.applyAbort p).upd = s.upd ∧ (s.applyAbort p).boot = s.boot ∧ (s.applyAbort
    p).bk = s.bk ∧ (s.applyAbort p).freeCtr = s.freeCtr := by
  unfold State.applyAbort; (repeat' split) <;> simp
@[simp] theorem State.modeChanges_frame (s : State) :
    (s.modeChanges).pending = s.pending ∧ (s.modeChanges).safety = s.safety ∧ (s.modeChanges).frame = s.frame ∧
    (s.modeChanges).time = s.time ∧ (s.modeChanges).keys = s.keys ∧ (s.modeChanges).lio = s.lio ∧
    (s.modeChanges).loop = s.loop ∧ (s.modeChanges).disp = s.disp ∧ (s.modeChanges).bus = s.bus ∧
    (s.modeChanges).meter = s.meter ∧ (s.modeChanges).seam = s.seam ∧ (s.modeChanges).pair = s.pair ∧
    (s.modeChanges).casc = s.casc ∧ (s.modeChanges).upd = s.upd ∧ (s.modeChanges).boot = s.boot ∧ (s.modeChanges).bk
    = s.bk := by
  simp [State.modeChanges]
@[simp] theorem State.forceChanges_frame (s : State) :
    (s.forceChanges).pending = s.pending ∧ (s.forceChanges).safety = s.safety ∧ (s.forceChanges).frame = s.frame ∧
    (s.forceChanges).host = s.host ∧ (s.forceChanges).time = s.time ∧ (s.forceChanges).keys = s.keys ∧
    (s.forceChanges).lio = s.lio ∧ (s.forceChanges).loop = s.loop ∧ (s.forceChanges).disp = s.disp ∧
    (s.forceChanges).bus = s.bus ∧ (s.forceChanges).meter = s.meter ∧ (s.forceChanges).seam = s.seam ∧
    (s.forceChanges).casc = s.casc ∧ (s.forceChanges).upd = s.upd ∧ (s.forceChanges).boot = s.boot ∧
    (s.forceChanges).bk = s.bk ∧ (s.forceChanges).out = s.out ∧ (s.forceChanges).freeCtr = s.freeCtr := by
  simp [State.forceChanges]
@[simp] theorem State.lioCopies_frame (s : State) (p : Nat) :
    (s.lioCopies p).pending = s.pending ∧ (s.lioCopies p).reg = s.reg ∧ (s.lioCopies p).safety = s.safety ∧
    (s.lioCopies p).frame = s.frame ∧ (s.lioCopies p).host = s.host ∧ (s.lioCopies p).time = s.time ∧ (s.lioCopies
    p).keys = s.keys ∧ (s.lioCopies p).lio = s.lio ∧ (s.lioCopies p).loop = s.loop ∧ (s.lioCopies p).disp = s.disp ∧
    (s.lioCopies p).bus = s.bus ∧ (s.lioCopies p).meter = s.meter ∧ (s.lioCopies p).seam = s.seam ∧ (s.lioCopies
    p).casc = s.casc ∧ (s.lioCopies p).upd = s.upd ∧ (s.lioCopies p).boot = s.boot ∧ (s.lioCopies p).bk = s.bk ∧
    (s.lioCopies p).out = s.out ∧ (s.lioCopies p).freeCtr = s.freeCtr := by
  simp [State.lioCopies]
@[simp] theorem State.beginCycle_frame (s : State) (p : Nat) :
    (s.beginCycle p).pending = s.pending ∧ (s.beginCycle p).reg = s.reg ∧ (s.beginCycle p).safety = s.safety ∧
    (s.beginCycle p).frame = s.frame ∧ (s.beginCycle p).host = s.host ∧ (s.beginCycle p).time = s.time ∧
    (s.beginCycle p).keys = s.keys ∧ (s.beginCycle p).lio = s.lio ∧ (s.beginCycle p).loop = s.loop ∧ (s.beginCycle
    p).disp = s.disp ∧ (s.beginCycle p).bus = s.bus ∧ (s.beginCycle p).meter = s.meter ∧ (s.beginCycle p).seam =
    s.seam ∧ (s.beginCycle p).casc = s.casc ∧ (s.beginCycle p).upd = s.upd ∧ (s.beginCycle p).boot = s.boot ∧
    (s.beginCycle p).bk = s.bk ∧ (s.beginCycle p).out = s.out ∧ (s.beginCycle p).freeCtr = s.freeCtr := by
  simp [State.beginCycle]
@[simp] theorem State.inputRaft_frame (s : State) :
    (s.inputRaft).pending = s.pending ∧ (s.inputRaft).safety = s.safety ∧ (s.inputRaft).frame = s.frame ∧
    (s.inputRaft).host = s.host ∧ (s.inputRaft).time = s.time ∧ (s.inputRaft).keys = s.keys ∧ (s.inputRaft).scan =
    s.scan ∧ (s.inputRaft).lio = s.lio ∧ (s.inputRaft).loop = s.loop ∧ (s.inputRaft).disp = s.disp ∧
    (s.inputRaft).bus = s.bus ∧ (s.inputRaft).meter = s.meter ∧ (s.inputRaft).seam = s.seam ∧ (s.inputRaft).casc =
    s.casc ∧ (s.inputRaft).upd = s.upd ∧ (s.inputRaft).boot = s.boot ∧ (s.inputRaft).bk = s.bk ∧
    (s.inputRaft).freeCtr = s.freeCtr := by
  simp [State.inputRaft]
@[simp] theorem State.followSend_frame (s : State) :
    (s.followSend).pending = s.pending ∧ (s.followSend).reg = s.reg ∧ (s.followSend).safety = s.safety ∧
    (s.followSend).frame = s.frame ∧ (s.followSend).host = s.host ∧ (s.followSend).time = s.time ∧
    (s.followSend).keys = s.keys ∧ (s.followSend).scan = s.scan ∧ (s.followSend).lio = s.lio ∧ (s.followSend).loop =
    s.loop ∧ (s.followSend).disp = s.disp ∧ (s.followSend).bus = s.bus ∧ (s.followSend).meter = s.meter ∧
    (s.followSend).seam = s.seam ∧ (s.followSend).pair = s.pair ∧ (s.followSend).casc = s.casc ∧ (s.followSend).upd
    = s.upd ∧ (s.followSend).boot = s.boot ∧ (s.followSend).bk = s.bk ∧ (s.followSend).freeCtr = s.freeCtr := by
  simp [State.followSend]
@[simp] theorem State.overlayLoops_frame (s : State) (bs : List Byte) :
    (s.overlayLoops bs).pending = s.pending ∧ (s.overlayLoops bs).reg = s.reg ∧ (s.overlayLoops bs).safety =
    s.safety ∧ (s.overlayLoops bs).frame = s.frame ∧ (s.overlayLoops bs).host = s.host ∧ (s.overlayLoops bs).time =
    s.time ∧ (s.overlayLoops bs).keys = s.keys ∧ (s.overlayLoops bs).scan = s.scan ∧ (s.overlayLoops bs).lio = s.lio
    ∧ (s.overlayLoops bs).disp = s.disp ∧ (s.overlayLoops bs).bus = s.bus ∧ (s.overlayLoops bs).meter = s.meter ∧
    (s.overlayLoops bs).seam = s.seam ∧ (s.overlayLoops bs).pair = s.pair ∧ (s.overlayLoops bs).casc = s.casc ∧
    (s.overlayLoops bs).upd = s.upd ∧ (s.overlayLoops bs).boot = s.boot ∧ (s.overlayLoops bs).bk = s.bk ∧
    (s.overlayLoops bs).out = s.out ∧ (s.overlayLoops bs).freeCtr = s.freeCtr := by
  simp [State.overlayLoops]
@[simp] theorem State.showLio_frame (s : State) :
    (s.showLio).pending = s.pending ∧ (s.showLio).safety = s.safety ∧ (s.showLio).frame = s.frame ∧ (s.showLio).host
    = s.host ∧ (s.showLio).time = s.time ∧ (s.showLio).keys = s.keys ∧ (s.showLio).scan = s.scan ∧ (s.showLio).lio =
    s.lio ∧ (s.showLio).loop = s.loop ∧ (s.showLio).disp = s.disp ∧ (s.showLio).bus = s.bus ∧ (s.showLio).meter =
    s.meter ∧ (s.showLio).seam = s.seam ∧ (s.showLio).pair = s.pair ∧ (s.showLio).casc = s.casc ∧ (s.showLio).upd =
    s.upd ∧ (s.showLio).boot = s.boot ∧ (s.showLio).bk = s.bk ∧ (s.showLio).out = s.out ∧ (s.showLio).freeCtr =
    s.freeCtr := by
  simp [State.showLio]
@[simp] theorem State.overlayLio_frame (s : State) (bs : List Byte) :
    (s.overlayLio bs).pending = s.pending ∧ (s.overlayLio bs).safety = s.safety ∧ (s.overlayLio bs).frame = s.frame
    ∧ (s.overlayLio bs).host = s.host ∧ (s.overlayLio bs).time = s.time ∧ (s.overlayLio bs).keys = s.keys ∧
    (s.overlayLio bs).scan = s.scan ∧ (s.overlayLio bs).loop = s.loop ∧ (s.overlayLio bs).disp = s.disp ∧
    (s.overlayLio bs).bus = s.bus ∧ (s.overlayLio bs).meter = s.meter ∧ (s.overlayLio bs).seam = s.seam ∧
    (s.overlayLio bs).pair = s.pair ∧ (s.overlayLio bs).casc = s.casc ∧ (s.overlayLio bs).upd = s.upd ∧
    (s.overlayLio bs).boot = s.boot ∧ (s.overlayLio bs).bk = s.bk ∧ (s.overlayLio bs).out = s.out ∧ (s.overlayLio
    bs).freeCtr = s.freeCtr := by
  simp [State.overlayLio]
@[simp] theorem State.takeSections_frame (s : State) :
    (s.takeSections).pending = s.pending ∧ (s.takeSections).safety = s.safety ∧ (s.takeSections).frame = s.frame ∧
    (s.takeSections).host = s.host ∧ (s.takeSections).time = s.time ∧ (s.takeSections).keys = s.keys ∧
    (s.takeSections).scan = s.scan ∧ (s.takeSections).loop = s.loop ∧ (s.takeSections).disp = s.disp ∧
    (s.takeSections).bus = s.bus ∧ (s.takeSections).meter = s.meter ∧ (s.takeSections).seam = s.seam ∧
    (s.takeSections).casc = s.casc ∧ (s.takeSections).upd = s.upd ∧ (s.takeSections).boot = s.boot ∧
    (s.takeSections).bk = s.bk ∧ (s.takeSections).out = s.out ∧ (s.takeSections).freeCtr = s.freeCtr := by
  simp [State.takeSections]
@[simp] theorem State.latchSend_frame (s : State) :
    (s.latchSend).pending = s.pending ∧ (s.latchSend).safety = s.safety ∧ (s.latchSend).frame = s.frame ∧
    (s.latchSend).host = s.host ∧ (s.latchSend).time = s.time ∧ (s.latchSend).scan = s.scan ∧ (s.latchSend).lio =
    s.lio ∧ (s.latchSend).loop = s.loop ∧ (s.latchSend).disp = s.disp ∧ (s.latchSend).bus = s.bus ∧
    (s.latchSend).meter = s.meter ∧ (s.latchSend).casc = s.casc ∧ (s.latchSend).upd = s.upd ∧ (s.latchSend).boot =
    s.boot ∧ (s.latchSend).bk = s.bk ∧ (s.latchSend).freeCtr = s.freeCtr := by
  simp [State.latchSend]
@[simp] theorem State.latchLate_frame (s : State) :
    (s.latchLate).pending = s.pending ∧ (s.latchLate).safety = s.safety ∧ (s.latchLate).host = s.host ∧
    (s.latchLate).keys = s.keys ∧ (s.latchLate).scan = s.scan ∧ (s.latchLate).lio = s.lio ∧ (s.latchLate).loop =
    s.loop ∧ (s.latchLate).disp = s.disp ∧ (s.latchLate).bus = s.bus ∧ (s.latchLate).meter = s.meter ∧
    (s.latchLate).seam = s.seam ∧ (s.latchLate).pair = s.pair ∧ (s.latchLate).casc = s.casc ∧ (s.latchLate).upd =
    s.upd ∧ (s.latchLate).boot = s.boot ∧ (s.latchLate).bk = s.bk ∧ (s.latchLate).freeCtr = s.freeCtr := by
  simp [State.latchLate]
@[simp] theorem State.latchTimeout_frame (s : State) :
    (s.latchTimeout).pending = s.pending ∧ (s.latchTimeout).keys = s.keys ∧ (s.latchTimeout).loop = s.loop ∧
    (s.latchTimeout).seam = s.seam ∧ (s.latchTimeout).casc = s.casc ∧ (s.latchTimeout).upd = s.upd ∧
    (s.latchTimeout).boot = s.boot ∧ (s.latchTimeout).bk = s.bk := by
  simp [State.latchTimeout]
@[simp] theorem State.scrub_frame (s : State) :
    (s.scrub).pending = s.pending ∧ (s.scrub).frame = s.frame ∧ (s.scrub).host = s.host ∧ (s.scrub).time = s.time ∧
    (s.scrub).keys = s.keys ∧ (s.scrub).scan = s.scan ∧ (s.scrub).lio = s.lio ∧ (s.scrub).loop = s.loop ∧
    (s.scrub).disp = s.disp ∧ (s.scrub).bus = s.bus ∧ (s.scrub).meter = s.meter ∧ (s.scrub).seam = s.seam ∧
    (s.scrub).pair = s.pair ∧ (s.scrub).casc = s.casc ∧ (s.scrub).upd = s.upd ∧ (s.scrub).boot = s.boot ∧
    (s.scrub).bk = s.bk ∧ (s.scrub).out = s.out ∧ (s.scrub).freeCtr = s.freeCtr := by
  simp [State.scrub]
@[simp] theorem State.clearMax_frame (s : State) :
    (s.clearMax).pending = s.pending ∧ (s.clearMax).safety = s.safety ∧ (s.clearMax).host = s.host ∧
    (s.clearMax).time = s.time ∧ (s.clearMax).keys = s.keys ∧ (s.clearMax).scan = s.scan ∧ (s.clearMax).lio = s.lio
    ∧ (s.clearMax).loop = s.loop ∧ (s.clearMax).disp = s.disp ∧ (s.clearMax).bus = s.bus ∧ (s.clearMax).meter =
    s.meter ∧ (s.clearMax).seam = s.seam ∧ (s.clearMax).pair = s.pair ∧ (s.clearMax).casc = s.casc ∧
    (s.clearMax).upd = s.upd ∧ (s.clearMax).boot = s.boot ∧ (s.clearMax).bk = s.bk ∧ (s.clearMax).out = s.out ∧
    (s.clearMax).freeCtr = s.freeCtr := by
  simp [State.clearMax]
@[simp] theorem State.timeBoundary_frame (s : State) (stoppedBefore : Bool) :
    (s.timeBoundary stoppedBefore).pending = s.pending ∧ (s.timeBoundary stoppedBefore).safety = s.safety ∧
    (s.timeBoundary stoppedBefore).frame = s.frame ∧ (s.timeBoundary stoppedBefore).host = s.host ∧ (s.timeBoundary
    stoppedBefore).keys = s.keys ∧ (s.timeBoundary stoppedBefore).scan = s.scan ∧ (s.timeBoundary stoppedBefore).lio
    = s.lio ∧ (s.timeBoundary stoppedBefore).loop = s.loop ∧ (s.timeBoundary stoppedBefore).disp = s.disp ∧
    (s.timeBoundary stoppedBefore).bus = s.bus ∧ (s.timeBoundary stoppedBefore).meter = s.meter ∧ (s.timeBoundary
    stoppedBefore).seam = s.seam ∧ (s.timeBoundary stoppedBefore).pair = s.pair ∧ (s.timeBoundary stoppedBefore).upd
    = s.upd ∧ (s.timeBoundary stoppedBefore).boot = s.boot ∧ (s.timeBoundary stoppedBefore).bk = s.bk ∧
    (s.timeBoundary stoppedBefore).freeCtr = s.freeCtr := by
  simp [State.timeBoundary]
@[simp] theorem State.sampleLio_frame (s : State) (levels : Nat) :
    (s.sampleLio levels).pending = s.pending ∧ (s.sampleLio levels).safety = s.safety ∧ (s.sampleLio levels).frame =
    s.frame ∧ (s.sampleLio levels).host = s.host ∧ (s.sampleLio levels).time = s.time ∧ (s.sampleLio levels).keys =
    s.keys ∧ (s.sampleLio levels).scan = s.scan ∧ (s.sampleLio levels).loop = s.loop ∧ (s.sampleLio levels).disp =
    s.disp ∧ (s.sampleLio levels).bus = s.bus ∧ (s.sampleLio levels).meter = s.meter ∧ (s.sampleLio levels).seam =
    s.seam ∧ (s.sampleLio levels).pair = s.pair ∧ (s.sampleLio levels).casc = s.casc ∧ (s.sampleLio levels).upd =
    s.upd ∧ (s.sampleLio levels).boot = s.boot ∧ (s.sampleLio levels).bk = s.bk ∧ (s.sampleLio levels).out = s.out ∧
    (s.sampleLio levels).freeCtr = s.freeCtr := by
  simp [State.sampleLio]
@[simp] theorem State.frameBoundary_frame (s : State) :
    (s.frameBoundary).pending = s.pending ∧ (s.frameBoundary).safety = s.safety ∧ (s.frameBoundary).host = s.host ∧
    (s.frameBoundary).time = s.time ∧ (s.frameBoundary).keys = s.keys ∧ (s.frameBoundary).scan = s.scan ∧
    (s.frameBoundary).lio = s.lio ∧ (s.frameBoundary).loop = s.loop ∧ (s.frameBoundary).disp = s.disp ∧
    (s.frameBoundary).meter = s.meter ∧ (s.frameBoundary).seam = s.seam ∧ (s.frameBoundary).pair = s.pair ∧
    (s.frameBoundary).casc = s.casc ∧ (s.frameBoundary).upd = s.upd ∧ (s.frameBoundary).bk = s.bk ∧
    (s.frameBoundary).freeCtr = s.freeCtr := by
  unfold State.frameBoundary; dsimp only; (repeat' split) <;> simp
@[simp] theorem State.commitLio_frame (s : State) :
    (s.commitLio).pending = s.pending ∧ (s.commitLio).safety = s.safety ∧ (s.commitLio).frame = s.frame ∧
    (s.commitLio).host = s.host ∧ (s.commitLio).time = s.time ∧ (s.commitLio).keys = s.keys ∧ (s.commitLio).scan =
    s.scan ∧ (s.commitLio).lio = s.lio ∧ (s.commitLio).loop = s.loop ∧ (s.commitLio).disp = s.disp ∧
    (s.commitLio).bus = s.bus ∧ (s.commitLio).meter = s.meter ∧ (s.commitLio).seam = s.seam ∧ (s.commitLio).pair =
    s.pair ∧ (s.commitLio).casc = s.casc ∧ (s.commitLio).upd = s.upd ∧ (s.commitLio).boot = s.boot ∧
    (s.commitLio).bk = s.bk ∧ (s.commitLio).out = s.out ∧ (s.commitLio).freeCtr = s.freeCtr := by
  simp [State.commitLio]
@[simp] theorem State.publish_frame (s : State) (i : Nat) (r : List Byte) :
    (s.publish i r).pending = s.pending ∧ (s.publish i r).safety = s.safety ∧ (s.publish i r).frame = s.frame ∧
    (s.publish i r).host = s.host ∧ (s.publish i r).time = s.time ∧ (s.publish i r).scan = s.scan ∧ (s.publish i
    r).lio = s.lio ∧ (s.publish i r).loop = s.loop ∧ (s.publish i r).disp = s.disp ∧ (s.publish i r).bus = s.bus ∧
    (s.publish i r).meter = s.meter ∧ (s.publish i r).pair = s.pair ∧ (s.publish i r).casc = s.casc ∧ (s.publish i
    r).upd = s.upd ∧ (s.publish i r).boot = s.boot ∧ (s.publish i r).bk = s.bk ∧ (s.publish i r).freeCtr = s.freeCtr := by
  simp [State.publish]
@[simp] theorem State.publishAll_frame (s : State) :
    (s.publishAll).pending = s.pending ∧ (s.publishAll).safety = s.safety ∧ (s.publishAll).frame = s.frame ∧
    (s.publishAll).host = s.host ∧ (s.publishAll).time = s.time ∧ (s.publishAll).scan = s.scan ∧ (s.publishAll).lio
    = s.lio ∧ (s.publishAll).loop = s.loop ∧ (s.publishAll).disp = s.disp ∧ (s.publishAll).bus = s.bus ∧
    (s.publishAll).meter = s.meter ∧ (s.publishAll).pair = s.pair ∧ (s.publishAll).casc = s.casc ∧
    (s.publishAll).upd = s.upd ∧ (s.publishAll).boot = s.boot ∧ (s.publishAll).bk = s.bk ∧ (s.publishAll).freeCtr =
    s.freeCtr := by
  simp [State.publishAll]
@[simp] theorem State.foldPosted_frame (s : State) (p : Nat) (q : List Byte) :
    (s.foldPosted p q).pending = s.pending ∧ (s.foldPosted p q).reg = s.reg ∧ (s.foldPosted p q).safety = s.safety ∧
    (s.foldPosted p q).frame = s.frame ∧ (s.foldPosted p q).host = s.host ∧ (s.foldPosted p q).time = s.time ∧
    (s.foldPosted p q).keys = s.keys ∧ (s.foldPosted p q).scan = s.scan ∧ (s.foldPosted p q).lio = s.lio ∧
    (s.foldPosted p q).loop = s.loop ∧ (s.foldPosted p q).disp = s.disp ∧ (s.foldPosted p q).bus = s.bus ∧
    (s.foldPosted p q).meter = s.meter ∧ (s.foldPosted p q).seam = s.seam ∧ (s.foldPosted p q).casc = s.casc ∧
    (s.foldPosted p q).upd = s.upd ∧ (s.foldPosted p q).boot = s.boot ∧ (s.foldPosted p q).bk = s.bk ∧ (s.foldPosted
    p q).out = s.out ∧ (s.foldPosted p q).freeCtr = s.freeCtr := by
  simp [State.foldPosted]
@[simp] theorem State.postQ_frame (s : State) (p : Nat) (q : List Byte) :
    (s.postQ p q).pending = s.pending ∧ (s.postQ p q).reg = s.reg ∧ (s.postQ p q).safety = s.safety ∧ (s.postQ p
    q).frame = s.frame ∧ (s.postQ p q).host = s.host ∧ (s.postQ p q).time = s.time ∧ (s.postQ p q).keys = s.keys ∧
    (s.postQ p q).lio = s.lio ∧ (s.postQ p q).loop = s.loop ∧ (s.postQ p q).disp = s.disp ∧ (s.postQ p q).meter =
    s.meter ∧ (s.postQ p q).seam = s.seam ∧ (s.postQ p q).casc = s.casc ∧ (s.postQ p q).upd = s.upd ∧ (s.postQ p
    q).boot = s.boot ∧ (s.postQ p q).bk = s.bk ∧ (s.postQ p q).out = s.out ∧ (s.postQ p q).freeCtr = s.freeCtr := by
  simp [State.postQ]
@[simp] theorem State.commitL_frame (s : State) (p : Nat) :
    (s.commitL p).pending = s.pending ∧ (s.commitL p).reg = s.reg ∧ (s.commitL p).safety = s.safety ∧ (s.commitL
    p).frame = s.frame ∧ (s.commitL p).host = s.host ∧ (s.commitL p).time = s.time ∧ (s.commitL p).keys = s.keys ∧
    (s.commitL p).lio = s.lio ∧ (s.commitL p).loop = s.loop ∧ (s.commitL p).disp = s.disp ∧ (s.commitL p).bus =
    s.bus ∧ (s.commitL p).meter = s.meter ∧ (s.commitL p).seam = s.seam ∧ (s.commitL p).pair = s.pair ∧ (s.commitL
    p).casc = s.casc ∧ (s.commitL p).upd = s.upd ∧ (s.commitL p).boot = s.boot ∧ (s.commitL p).bk = s.bk ∧
    (s.commitL p).out = s.out ∧ (s.commitL p).freeCtr = s.freeCtr := by
  simp [State.commitL]
@[simp] theorem State.closeCycle_frame (s : State) (p : Nat) :
    (s.closeCycle p).pending = s.pending ∧ (s.closeCycle p).reg = s.reg ∧ (s.closeCycle p).safety = s.safety ∧
    (s.closeCycle p).frame = s.frame ∧ (s.closeCycle p).host = s.host ∧ (s.closeCycle p).time = s.time ∧
    (s.closeCycle p).keys = s.keys ∧ (s.closeCycle p).lio = s.lio ∧ (s.closeCycle p).loop = s.loop ∧ (s.closeCycle
    p).disp = s.disp ∧ (s.closeCycle p).bus = s.bus ∧ (s.closeCycle p).meter = s.meter ∧ (s.closeCycle p).seam =
    s.seam ∧ (s.closeCycle p).pair = s.pair ∧ (s.closeCycle p).casc = s.casc ∧ (s.closeCycle p).upd = s.upd ∧
    (s.closeCycle p).boot = s.boot ∧ (s.closeCycle p).bk = s.bk ∧ (s.closeCycle p).out = s.out ∧ (s.closeCycle
    p).freeCtr = s.freeCtr := by
  simp [State.closeCycle]
@[simp] theorem State.postSlot_frame (s : State) (p : Nat) :
    (s.postSlot p).pending = s.pending ∧ (s.postSlot p).reg = s.reg ∧ (s.postSlot p).safety = s.safety ∧ (s.postSlot
    p).frame = s.frame ∧ (s.postSlot p).host = s.host ∧ (s.postSlot p).time = s.time ∧ (s.postSlot p).keys = s.keys
    ∧ (s.postSlot p).lio = s.lio ∧ (s.postSlot p).loop = s.loop ∧ (s.postSlot p).disp = s.disp ∧ (s.postSlot
    p).meter = s.meter ∧ (s.postSlot p).seam = s.seam ∧ (s.postSlot p).casc = s.casc ∧ (s.postSlot p).upd = s.upd ∧
    (s.postSlot p).boot = s.boot ∧ (s.postSlot p).bk = s.bk ∧ (s.postSlot p).out = s.out ∧ (s.postSlot p).freeCtr =
    s.freeCtr := by
  unfold State.postSlot; (repeat' split) <;> simp
@[simp] theorem State.postFields_frame (s : State) :
    (s.postFields).pending = s.pending ∧ (s.postFields).reg = s.reg ∧ (s.postFields).safety = s.safety ∧
    (s.postFields).frame = s.frame ∧ (s.postFields).host = s.host ∧ (s.postFields).time = s.time ∧
    (s.postFields).keys = s.keys ∧ (s.postFields).scan = s.scan ∧ (s.postFields).lio = s.lio ∧ (s.postFields).disp =
    s.disp ∧ (s.postFields).meter = s.meter ∧ (s.postFields).seam = s.seam ∧ (s.postFields).casc = s.casc ∧
    (s.postFields).upd = s.upd ∧ (s.postFields).boot = s.boot ∧ (s.postFields).bk = s.bk ∧ (s.postFields).out =
    s.out ∧ (s.postFields).freeCtr = s.freeCtr := by
  simp [State.postFields]
@[simp] theorem State.withhold_frame (s : State) :
    (s.withhold).pending = s.pending ∧ (s.withhold).safety = s.safety ∧ (s.withhold).frame = s.frame ∧
    (s.withhold).time = s.time ∧ (s.withhold).keys = s.keys ∧ (s.withhold).lio = s.lio ∧ (s.withhold).disp = s.disp
    ∧ (s.withhold).meter = s.meter ∧ (s.withhold).seam = s.seam ∧ (s.withhold).pair = s.pair ∧ (s.withhold).casc =
    s.casc ∧ (s.withhold).upd = s.upd ∧ (s.withhold).boot = s.boot ∧ (s.withhold).bk = s.bk := by
  simp [State.withhold]
@[simp] theorem State.foldSections_frame (s : State) (p : Nat) :
    (s.foldSections p).pending = s.pending ∧ (s.foldSections p).reg = s.reg ∧ (s.foldSections p).safety = s.safety ∧
    (s.foldSections p).frame = s.frame ∧ (s.foldSections p).host = s.host ∧ (s.foldSections p).time = s.time ∧
    (s.foldSections p).keys = s.keys ∧ (s.foldSections p).scan = s.scan ∧ (s.foldSections p).lio = s.lio ∧
    (s.foldSections p).loop = s.loop ∧ (s.foldSections p).disp = s.disp ∧ (s.foldSections p).bus = s.bus ∧
    (s.foldSections p).meter = s.meter ∧ (s.foldSections p).seam = s.seam ∧ (s.foldSections p).casc = s.casc ∧
    (s.foldSections p).upd = s.upd ∧ (s.foldSections p).boot = s.boot ∧ (s.foldSections p).bk = s.bk ∧
    (s.foldSections p).out = s.out ∧ (s.foldSections p).freeCtr = s.freeCtr := by
  simp [State.foldSections]
@[simp] theorem State.withFetchWord_frame (s : State) (nbits w : Nat) :
    (s.withFetchWord nbits w).reg = s.reg ∧ (s.withFetchWord nbits w).safety = s.safety ∧ (s.withFetchWord nbits
    w).frame = s.frame ∧ (s.withFetchWord nbits w).host = s.host ∧ (s.withFetchWord nbits w).time = s.time ∧
    (s.withFetchWord nbits w).keys = s.keys ∧ (s.withFetchWord nbits w).scan = s.scan ∧ (s.withFetchWord nbits
    w).lio = s.lio ∧ (s.withFetchWord nbits w).loop = s.loop ∧ (s.withFetchWord nbits w).disp = s.disp ∧
    (s.withFetchWord nbits w).bus = s.bus ∧ (s.withFetchWord nbits w).meter = s.meter ∧ (s.withFetchWord nbits
    w).seam = s.seam ∧ (s.withFetchWord nbits w).pair = s.pair ∧ (s.withFetchWord nbits w).casc = s.casc ∧
    (s.withFetchWord nbits w).upd = s.upd ∧ (s.withFetchWord nbits w).boot = s.boot ∧ (s.withFetchWord nbits w).bk =
    s.bk ∧ (s.withFetchWord nbits w).out = s.out ∧ (s.withFetchWord nbits w).freeCtr = s.freeCtr := by
  unfold State.withFetchWord; (repeat' split) <;> simp

end Sys2Proof.Machine
end

