-- ==== Sys2Proof/Laws/Ops.lean ====
section
/-!
SUPPORT. What each shared operation of Ops does to the registers and to what has left the device, said once: fields of
words, block status, events (R35, R36), refusals (R33), and free values.
-/
namespace Sys2Proof.Machine

/-! ### Fields of words -/

theorem bits_lt (v hi lo : Nat) : bits v hi lo < 2 ^ (hi + 1 - lo) := Nat.mod_lt _ (Nat.two_pow_pos _)

theorem bits_mul_le (v hi lo : Nat) : bits v hi lo * 2 ^ lo ≤ v :=
  Nat.le_trans (Nat.mul_le_mul_right _ (Nat.mod_le _ _)) (Nat.div_mul_le_self v (2 ^ lo))

/-- A word is what lies above a field, the field, and what lies below it. -/
theorem bits_decompose (v hi lo : Nat) :
    v = v / 2 ^ lo / 2 ^ (hi + 1 - lo) * 2 ^ (hi + 1 - lo) * 2 ^ lo + bits v hi lo * 2 ^ lo + v % 2 ^ lo := by
  have h1 := Nat.div_add_mod (v / 2 ^ lo) (2 ^ (hi + 1 - lo))
  have h2 := Nat.div_add_mod v (2 ^ lo)
  unfold bits
  calc v = 2 ^ lo * (v / 2 ^ lo) + v % 2 ^ lo := h2.symm
    _ = 2 ^ lo * (2 ^ (hi + 1 - lo) * (v / 2 ^ lo / 2 ^ (hi + 1 - lo)) + v / 2 ^ lo % 2 ^ (hi + 1 - lo)) + v % 2 ^ lo := by rw [h1]
    _ = _ := by
      rw [Nat.mul_add, Nat.add_left_inj]; simp only [Nat.mul_comm, Nat.mul_left_comm]

/-- A word with a field replaced is what lay above it, the new field, and what lay below it. -/
theorem setBits_eq (v hi lo x : Nat) :
    setBits v hi lo x = v / 2 ^ lo / 2 ^ (hi + 1 - lo) * 2 ^ (hi + 1 - lo) * 2 ^ lo + x % 2 ^ (hi + 1 - lo) * 2 ^ lo + v % 2 ^ lo := by
  have h := bits_decompose v hi lo
  have hl := bits_mul_le v hi lo
  unfold setBits
  omega

/-- A field reads as what was put into it, as far as the field's width goes. -/
theorem bits_setBits_same (v hi lo x : Nat) : bits (setBits v hi lo x) hi lo = x % 2 ^ (hi + 1 - lo) := by
  rw [setBits_eq]
  have hlt : v % 2 ^ lo < 2 ^ lo := Nat.mod_lt _ (Nat.two_pow_pos _)
  unfold bits
  rw [← Nat.add_mul, Nat.add_comm, Nat.add_mul_div_right _ _ (Nat.two_pow_pos lo), Nat.div_eq_of_lt hlt, Nat.zero_add,
    Nat.add_comm, Nat.add_mul_mod_self_right, Nat.mod_mod]

/-! ### Registers that count -/

theorem State.rg_incSat (s : State) (a b : Nat) : (s.incSat a).rg b = if b = a then satInc (s.rg a) else s.rg b :=
  s.rg_setRg a b _

theorem State.rg_incWrap (s : State) (a b : Nat) : (s.incWrap a).rg b = if b = a then s.rg a + 1 else s.rg b :=
  s.rg_setRg a b _

theorem State.rg_setFld (s : State) (a hi lo x b : Nat) :
    (s.setFld a hi lo x).rg b = if b = a then wset (s.rg a) hi lo x else s.rg b := s.rg_setRg a b _

/-! ### Block status (R29) -/

/-- BLK_STATUS takes the word; where it changes, BEAT_STAMP takes the beat; no other register moves. -/
theorem State.rg_setStatus (s : State) (head : Nat) (w : Word) (a : Nat) (h : a ≠ Reg.beatStamp head) :
    (s.setStatus head w).rg a = if a = Reg.status head then w else s.rg a := by
  unfold State.setStatus
  split
  · next e => split
              · next e' => rw [e', e]
              · rfl
  · rw [State.rg_setRg_other _ _ h, State.rg_setRg]

/-! ### Events (R35, R36) -/

@[simp] theorem State.signalHost_reg (s : State) (head : Nat) : (s.signalHost head).reg = s.reg := by simp

theorem State.rg_putEvtRaw (s : State) (head : Nat) (raw : Word) (a : Nat) :
    (s.putEvtRaw head raw).rg a = if a = Reg.evtRaw head then raw else s.rg a := by
  unfold State.putEvtRaw
  dsimp only
  split
  · rw [State.rg_congr (State.signalHost_reg _ _), State.rg_setRg]
  · exact s.rg_setRg _ _ _

/-- An event sets its bit of EVT_RAW, and no other register moves. -/
theorem State.rg_evt (s : State) (head n a : Nat) :
    (s.evt head n).rg a = if a = Reg.evtRaw head then s.rg (Reg.evtRaw head) ||| BitVec.ofNat 32 (2 ^ n) else s.rg a :=
  s.rg_putEvtRaw _ _ _

/-- What a register outside the event's EVT_RAW reads after it. -/
theorem State.rg_evt_other (s : State) {head a : Nat} (n : Nat) (h : a ≠ Reg.evtRaw head) : (s.evt head n).rg a = s.rg a := by
  rw [State.rg_evt, if_neg h]

/-- Nothing leaves the device on an event but the MSI-X message of its block, and that only where EVT_PEND left zero, the
host is a destination and PCI Express a path. -/
theorem State.evt_out (s : State) (head n : Nat) :
    (s.evt head n).out = s.out ∨
      (s.evtPend head = 0 ∧ s.hostEn head = true ∧ (s.evt head n).out = s.out ++ [.msix (s.fld (Reg.evtRoute head) 4 0)]) := by
  have hr : ∀ w, (s.setRg (Reg.evtRaw head) w).rg (Reg.evtRoute head) = s.rg (Reg.evtRoute head) :=
    fun w => s.rg_setRg_other w (fun e => absurd (Nat.add_left_cancel e) (by decide))
  unfold State.evt State.putEvtRaw
  dsimp only
  split
  · next h =>
    by_cases hh : ((s.setRg (Reg.evtRaw head) (s.rg (Reg.evtRaw head) ||| BitVec.ofNat 32 (2 ^ n))).hostEn head &&
        (s.setRg (Reg.evtRaw head) (s.rg (Reg.evtRaw head) ||| BitVec.ofNat 32 (2 ^ n))).pcieUp) = true
    · refine .inr ⟨h.1, ?_, ?_⟩
      · have := (Bool.and_eq_true _ _ ▸ hh : _ ∧ _).1
        unfold State.hostEn at this ⊢
        rwa [hr] at this
      · unfold State.signalHost
        rw [if_pos hh]
        simp [State.fld, hr]
    · exact .inl (by unfold State.signalHost; rw [if_neg hh]; simp)
  · exact .inl (by simp)

/-! ### Refusals (R33) -/

/-- ERR_CODE keeps the first error: it takes a new one where its code is zero, and else only sets OVF. -/
theorem State.rg_err_code (s : State) (head ofs : Nat) (window : Bool) (code : Nat) (info : Word) :
    (s.err head ofs window code info).rg (Reg.errCode head) =
      if wbits (s.rg (Reg.errCode head)) 7 0 = 0 then BitVec.ofNat 32 (code + 256 * (ofs % 4096) + 2 ^ 20 * b2n window)
      else wset (s.rg (Reg.errCode head)) 30 30 1 := by
  have h1 : Reg.errCode head ≠ Reg.evtRaw head := fun e => absurd (Nat.add_left_cancel e) (by decide)
  have h2 : Reg.errCode head ≠ Reg.errInfo head := fun e => absurd (Nat.add_left_cancel e) (by decide)
  unfold State.err
  dsimp only
  rw [State.rg_evt_other _ _ h1]
  split
  · rw [State.rg_setRg_other _ _ h2, State.rg_setRg_same]
  · rw [State.rg_setRg_same]

/-- A refusal writes ERR_CODE, ERR_INFO and EVT_RAW of its block and no other register. -/
theorem State.rg_err_other (s : State) (head ofs : Nat) (window : Bool) (code : Nat) (info : Word) (a : Nat)
    (h : a ∉ [Reg.errCode head, Reg.errInfo head, Reg.evtRaw head]) : (s.err head ofs window code info).rg a = s.rg a := by
  simp only [List.mem_cons, List.not_mem_nil, or_false, not_or] at h
  unfold State.err
  dsimp only
  rw [State.rg_evt_other _ _ h.2.2]
  split
  · rw [State.rg_setRg_other _ _ h.2.1, State.rg_setRg_other _ _ h.1]
  · rw [State.rg_setRg_other _ _ h.1]

/-! ### Device time -/

/-- Running on to an offset of the beat leaves the beat as it was and ends at the offset, unless that has passed. -/
theorem State.advanceTo_ns (s : State) (ofs : Nat) (h : ofs < 250000) :
    (s.advanceTo ofs).time.ns = s.time.ns + (ofs - s.beatOfs) := by
  unfold State.advanceTo State.elapse
  split
  · rfl
  · next hn => have : ofs ≤ s.beatOfs := Nat.not_lt.mp (fun g => hn ⟨g, h⟩)
               simp [Nat.sub_eq_zero_of_le this]

end Sys2Proof.Machine
end

