-- ==== Sys2Proof/Laws/Octah.lean ====
section
/-!
SUPPORT. What the shared operation of all Octah commands does, said once: a request that is ready and passes its row's
checks takes its row's effect; one that fails a check is answered at that check; no other outcome exists. And what the
end of a command leaves of its journal entry.
-/
namespace Sys2Proof.Machine

/-! ### The outcomes of a request -/

theorem State.acceptedReq_mirror {s : State} {req : OctahReq} (op : Nat) (h : req.src = .mirror) : s.acceptedReq op req = s := by
  unfold State.acceptedReq; rw [if_pos h]

/-- A request of another opcode, or one that comes to a unit that takes no command, changes nothing. -/
theorem octah_not_taken {row : OpRow} {req : OctahReq} {s : State} (h : s.silent = true ∨ Pkt.opcode req.packet ≠ row.opcode) :
    octah row req s = s := by
  unfold octah; rw [if_pos h]

/-- A request turned away by rows 1 to 3 of R435 only loses its place and is answered so. -/
theorem octah_turned_away {row : OpRow} {req : OctahReq} {s : State} {code : Nat} (hs : s.silent = false)
    (ho : Pkt.opcode req.packet = row.opcode) (hm : req.src ≠ .mirror)
    (ht : ({ s with host := { s.host with waiting := s.host.waiting.erase req } } : State).turnAway req = some code) :
    octah row req s = ({ s with host := { s.host with waiting := s.host.waiting.erase req } } : State).respondAway req code := by
  unfold octah
  rw [if_neg (by simp [hs, ho]), if_neg hm]
  simp only [ht]

/-- Rows 1 to 3 read nothing of the queue of waiting requests. -/
theorem State.turnAway_waiting (s : State) (req : OctahReq) (l : List OctahReq) :
    ({ s with host := { s.host with waiting := l } } : State).turnAway req = s.turnAway req := rfl

/-- A request that passes rows 1 to 3 is not turned away. -/
theorem State.turnAway_none {s : State} {req : OctahReq} (hv : Pkt.ver req.packet = 1) (ha : s.authentic req = true)
    (ho : s.tagOwner req = true) (hf : s.tagFree req = true) : s.turnAway req = none := by
  unfold State.turnAway
  simp [hv, ha, ho, hf]

/-- Acceptance counts JSEQ_LAST up and writes no other register. -/
theorem State.journalAccept_reg (s : State) (req : OctahReq) (op : Nat) :
    (s.journalAccept req op).reg = (s.setRg Reg.JSEQ_LAST (BitVec.ofNat 32 ((s.rg Reg.JSEQ_LAST).toNat + 1))).reg := by
  unfold State.journalAccept State.noteRequest
  dsimp only
  split <;> rfl

theorem State.acceptedReq_rg (s : State) (op : Nat) (req : OctahReq) {a : Nat} (h : a ≠ Reg.JSEQ_LAST) :
    (s.acceptedReq op req).rg a = s.rg a := by
  unfold State.acceptedReq
  split
  · rfl
  · rw [State.rg_congr (State.journalAccept_reg _ _ _), State.rg_setRg_other _ _ h]
    rfl

/-- It changes neither stump mode nor the ownership of control. -/
theorem State.acceptedReq_stump (s : State) (op : Nat) (req : OctahReq) : (s.acceptedReq op req).stump = s.stump := by
  unfold State.stump State.blkState State.fld
  rw [State.acceptedReq_rg s op req (by decide)]

theorem State.acceptedReq_owns (s : State) (op : Nat) (req : OctahReq) : (s.acceptedReq op req).owns = s.owns := by
  unfold State.owns State.role State.blkState State.fld
  rw [State.acceptedReq_rg s op req (a := Reg.DEV_CONFIG) (by decide), State.acceptedReq_rg s op req (by decide)]

/-- A request that is ready, with a payload and a state its row admits, takes its row's effect on the state in which it is
accepted (R435). -/
theorem octah_answers {row : OpRow} {req : OctahReq} {s : State} (hr : OctahReady row.opcode row.owner req s)
    (hl : row.len (Pkt.length req.packet) = true) (hf : row.fits req.pl = true)
    (ha : row.args (s.acceptedReq row.opcode req) req.pl = none) (hg : row.legal (s.acceptedReq row.opcode req) req = none) :
    octah row req s = row.run (s.taken row.opcode row.owner req) req := by
  obtain ⟨hs, ho, hc⟩ := hr
  unfold octah
  rw [if_neg (by simp [hs, ho])]
  by_cases hm : req.src = .mirror
  · rw [if_pos hm]; unfold State.taken; rw [if_pos hm]
  · obtain ⟨hv, hau, hto, htf, hst, how⟩ := hc.resolve_left hm
    have hacc : (({ s with host := { s.host with waiting := s.host.waiting.erase req } } : State).journalAccept req row.opcode) =
        s.acceptedReq row.opcode req := by unfold State.acceptedReq; rw [if_neg hm]
    rw [if_neg hm]
    simp only [State.turnAway_waiting, State.turnAway_none hv hau hto htf, hacc]
    rw [if_neg, if_neg, if_neg]
    · change (match row.args (s.acceptedReq row.opcode req) req.pl with | some _ => _ | none => _) = _
      simp only [ha, hg]
      unfold State.taken
      rw [if_neg hm]
      rfl
    · exact fun h => Bool.noConfusion ((how h.1).symm.trans h.2)
    · change ¬ (row.len (Pkt.length req.packet) = false ∨ row.fits req.pl = false)
      simp [hl, hf]
    · exact fun h => Bool.noConfusion ((hst h.1).symm.trans h.2)

/-- The form in which the statements about Octah commands use it. -/
theorem answers_of_row {row : OpRow} {i : OctahReq → Instr} {ok : State → OctahReq → Prop} {run : State → OctahReq → State}
    (he : ∀ s req, exec (i req) s = .next (octah row req s)) (hrun : row.run = run)
    (hok : ∀ s req, ok s req → row.len (Pkt.length req.packet) = true ∧ row.fits req.pl = true ∧ row.args s req.pl = none ∧
      row.legal s req = none) : Answers row.opcode row.owner i ok run := by
  intro s req hr hk
  obtain ⟨hl, hf, ha, hg⟩ := hok _ _ hk
  rw [he, octah_answers hr hl hf ha hg, hrun]

/-! ### The journal -/

@[simp] theorem getD_modifyNth_same {α : Type} (f : α → α) (n : Nat) (l : List α) (d : α) (h : n < l.length) :
    (modifyNth f n l).getD n d = f (l.getD n d) := by
  induction l generalizing n with
  | nil => exact absurd h (Nat.not_lt_zero n)
  | cons x t ih => cases n with
    | zero => rfl
    | succ k => simpa [modifyNth] using ih k (Nat.lt_of_succ_lt_succ h)

theorem getD_modifyNth_other {α : Type} (f : α → α) {n m : Nat} (l : List α) (d : α) (h : m ≠ n) :
    (modifyNth f n l).getD m d = l.getD m d := by
  induction l generalizing n m with
  | nil => cases n <;> rfl
  | cons x t ih => cases n with
    | zero => cases m with
      | zero => exact absurd rfl h
      | succ j => rfl
    | succ k => cases m with
      | zero => rfl
      | succ j => simpa [modifyNth] using ih (fun e => h (by rw [e]))

/-- The entry of a tag after it is replaced by a function of it; every other entry stays. -/
theorem State.jentry_modJ (s : State) (tag g : Nat) (f : JEntry → JEntry) (h : tag < s.host.journal.length) :
    (s.modJ tag f).jentry g = if g = tag then f (s.jentry tag) else s.jentry g := by
  split
  · next e => rw [e]; exact getD_modifyNth_same f tag _ _ h
  · next e => exact getD_modifyNth_other f _ _ e

/-- Answering a request touches no journal entry. -/
theorem State.respond_journal (s : State) (req : OctahReq) (na : Bool) (tag st op b j : Nat) (pl : List Byte) :
    (s.respond req na tag st op b j pl).host.journal = s.host.journal := by
  have hp : (s.respPacket req na tag st op b j pl).2.host.journal = s.host.journal := by
    unfold State.respPacket State.openPacket
    dsimp only
    repeat' split
    all_goals first | rfl | simp [State.countTx]
  unfold State.respond State.sendBack
  dsimp only
  repeat' split
  all_goals first | exact hp | simp [hp]

/-- The end of a command: its journal entry is DONE or FAILED with the code, the beat and the start of the payload (R442). -/
theorem State.opEnd_jentry (s : State) (tag code : Nat) (pl : List Byte) (pr : Nat) (h : tag < s.host.journal.length) :
    (s.opEnd tag code pl pr).jentry tag =
      { s.jentry tag with state := if code = Code.ok then .done else .failed, result := code, endBeat := s.hdrBeat, progress := pr,
                          respLen := pl.length, respHead := bytesAt pl 0 192 } := by
  unfold State.opEnd
  dsimp only
  split
  · rw [State.jentry_modJ _ _ _ _ h, if_pos rfl]
  · unfold State.jentry
    rw [State.respond_journal]
    exact getD_modifyNth_same _ tag _ _ h

/-- No other entry is touched. -/
theorem State.opEnd_jentry_other (s : State) (tag code : Nat) (pl : List Byte) (pr g : Nat) (h : g ≠ tag) :
    (s.opEnd tag code pl pr).jentry g = s.jentry g := by
  unfold State.opEnd
  dsimp only
  split
  · exact getD_modifyNth_other _ _ _ h
  · unfold State.jentry
    rw [State.respond_journal]
    exact getD_modifyNth_other _ _ _ h

end Sys2Proof.Machine
end

