-- ==== Sys2Proof/Laws/Scan.lean ====
section
/-!
SUPPORT. What the shared operations of the scan instructions do, said once: every operand form ends in a next cycle with
the state as it was, or in a trap; the forms that store change program data and the pair's digest alone. And what a stop
and a trap leave in the slot.
-/
namespace Sys2Proof.Machine

/-- Two states agree on everything but program data with its slots, END's registers and the pair's digest. -/
def ScanFrame (s t : State) : Prop := t = { s with reg := t.reg, scan := t.scan, pair := t.pair }

theorem ScanFrame.refl (s : State) : ScanFrame s s := rfl

theorem ScanFrame.trans {s t u : State} (h : ScanFrame s t) (g : ScanFrame t u) : ScanFrame s u := by
  unfold ScanFrame at *
  rw [g, h]

/-! ### The operand forms -/

theorem writeNext_ok {s t : State} {c c' : Cycle} {d : SReg} {v : DWord} (h : writeNext s c d v = .ok t c') :
    t = s ∧ c' = (c.wr d v).next := by
  unfold writeNext at h; cases h; exact ⟨rfl, rfl⟩

theorem intOp_ok {f : Int → Int → Int} {w : Bool} {s t : State} {c c' : Cycle} {d a b : SReg}
    (h : intOp f w s c d a b = .ok t c') : t = s ∧ c' = (c.wr d (ires w (f (ival w (c.rd a)) (ival w (c.rd b))))).next :=
  writeNext_ok h

theorem divOp_ok {f : Int → Int → Int} {w : Bool} {s t : State} {c c' : Cycle} {d a b : SReg}
    (h : divOp f w s c d a b = .ok t c') :
    ival w (c.rd b) ≠ 0 ∧ t = s ∧ c' = (c.wr d (ires w (f (ival w (c.rd a)) (ival w (c.rd b))))).next := by
  unfold divOp at h
  split at h
  · cases h
  · exact ⟨‹_›, intOp_ok h⟩

theorem branchTo_ok {s t : State} {p : Nat} {c c' : Cycle} {ofs : Int} {f : Cycle → Nat → Cycle}
    (h : branchTo s p c ofs f = .ok t c') :
    0 ≤ (c.pc : Int) + 4 * ofs ∧ (c.pc : Int) + 4 * ofs < Image.codeLen (s.image p) ∧ t = s ∧
      c' = f c ((c.pc : Int) + 4 * ofs).toNat := by
  unfold branchTo at h
  dsimp only at h
  split at h
  · cases h
  · next g => cases h; exact ⟨by omega, by omega, rfl, rfl⟩

theorem branchIf_ok {b : Bool} {s t : State} {p : Nat} {c c' : Cycle} {imm : BitVec 16} (h : branchIf b s p c imm = .ok t c') :
    t = s := by
  unfold branchIf at h
  split at h
  · exact (branchTo_ok h).2.2.1
  · cases h; rfl

theorem chanOp_ok {s t : State} {c c' : Cycle} {d a : SReg} {imm : Nat} {f : Nat → DWord} (h : chanOp s c d a imm f = .ok t c') :
    ((c.rd a).toNat + imm) % 2 ^ 64 < 8192 ∧ t = s ∧ c' = (c.wr d (f (((c.rd a).toNat + imm) % 2 ^ 64))).next := by
  unfold chanOp at h
  dsimp only at h
  split at h
  · cases h
  · next g => exact ⟨Nat.lt_of_not_le g, writeNext_ok h⟩

theorem scanLoad_ok {s t : State} {p : Nat} {c c' : Cycle} {d a : SReg} {ar : BitVec 3} {disp : BitVec 13} {n : Nat} {f : Nat → DWord}
    (h : scanLoad s p c d a ar disp n f = .ok t c') :
    t = s ∧ accessTrap s p .load ar.toNat (accessOfs c a disp n) n = none := by
  unfold scanLoad at h
  dsimp only at h
  split at h
  · cases h
  · next g => exact ⟨(writeNext_ok h).1, g⟩

/-! ### Stores -/

theorem State.foldWord_scanFrame (s : State) (r k : Nat) (v : Word) : ScanFrame s (s.foldWord r k v) := by
  unfold ScanFrame State.foldWord; split <;> rfl

theorem foldl_scanFrame {α : Type} {f : State → α → State} (h : ∀ s a, ScanFrame s (f s a)) (l : List α) (s : State) :
    ScanFrame s (l.foldl f s) := by
  induction l generalizing s with
  | nil => rfl
  | cons a t ih => exact (h s a).trans (ih (f s a))

theorem State.foldMem_scanFrame (s : State) (r : Nat) (m : Mem) (a n : Nat) : ScanFrame s (s.foldMem r m a n) := by
  unfold State.foldMem
  split
  · exact foldl_scanFrame (fun s j => s.foldWord_scanFrame _ _ _) _ _
  · exact .refl s

theorem State.putData_scanFrame (s : State) (a : Nat) (bs : List Byte) : ScanFrame s (s.putData a bs) := by
  unfold State.putData
  refine ScanFrame.trans (t := ({ s with scan := { s.scan with data := s.scan.data.putN a bs } } : State).logLatch a bs) ?_
    (State.foldMem_scanFrame _ _ _ _ _)
  unfold ScanFrame State.logLatch
  split <;> rfl

/-- Folding a word into a digest moves no byte of program data. -/
@[simp] theorem State.foldMem_scan (s : State) (r : Nat) (m : Mem) (a n : Nat) : (s.foldMem r m a n).scan = s.scan := by
  simp

/-- A store: the bytes stand at their address, and no other byte moves. -/
@[simp] theorem State.putData_data (s : State) (a : Nat) (bs : List Byte) : (s.putData a bs).scan.data = s.scan.data.putN a bs := by
  unfold State.putData
  simp

theorem scanStore_ok {s t : State} {p : Nat} {c c' : Cycle} {k : Access} {a : SReg} {ar : BitVec 3} {disp : BitVec 13} {bs : List Byte}
    {held : Nat → Nat → Bool} (h : scanStore s p c k a ar disp bs held = .ok t c') :
    c' = c.next ∧ accessTrap s p k ar.toNat (accessOfs c a disp bs.length) bs.length = none ∧
      (t = s ∨ t = s.putData (s.secBase p ar.toNat + accessOfs c a disp bs.length) bs) := by
  unfold scanStore at h
  dsimp only at h
  split at h
  · cases h
  · next g =>
    split at h
    · cases h; exact ⟨rfl, g, .inl rfl⟩
    · cases h; exact ⟨rfl, g, .inr rfl⟩

theorem scanStore_frame {s t : State} {p : Nat} {c c' : Cycle} {k : Access} {a : SReg} {ar : BitVec 3} {disp : BitVec 13}
    {bs : List Byte} {held : Nat → Nat → Bool} (h : scanStore s p c k a ar disp bs held = .ok t c') : ScanFrame s t := by
  rcases (scanStore_ok h).2.2 with rfl | rfl
  · exact .refl _
  · exact s.putData_scanFrame _ _

theorem scanBlock_frame {kind : Nat} {s t : State} {p : Nat} {c c' : Cycle} {d a x : SReg} {vp rs : Bool} {num : BitVec 9}
    (h : scanBlock kind s p c d a x vp rs num = .ok t c') : ScanFrame s t := by
  unfold scanBlock at h
  dsimp only at h
  repeat' split at h
  all_goals first
    | cases h; done
    | (rw [(writeNext_ok h).1]
       exact ScanFrame.trans (t := { s with scan := _ }) rfl (State.foldMem_scanFrame _ _ _ _ _))

theorem State.endCycle_frame' (s : State) (p : Nat) (c : Cycle) : ScanFrame s (s.endCycle p c) := by
  have hr : ∀ (u : State) (a : Nat) (w : Word), ScanFrame u (u.setRg a w) := fun _ _ _ => rfl
  have hp : ∀ (u : State) (a v : Nat), ScanFrame u (u.peak a v) := fun u a v => by
    unfold State.peak; split
    · exact hr _ _ _
    · exact .refl u
  unfold State.endCycle
  dsimp only
  refine ScanFrame.trans ?_ (rfl : ScanFrame _ (State.setCycle _ p _))
  split
  · exact ((((hr _ _ _).trans (hr _ _ _)).trans (hr _ _ _)).trans (hp _ _ _)).trans (State.putData_scanFrame _ _ _)
  · exact (((hr _ _ _).trans (hr _ _ _)).trans (hr _ _ _)).trans (hp _ _ _)

/-- An instruction that retires leaves everything but program data with its slots, the registers END writes and the pair's
digest as it was. -/
theorem scanEffect_frame {i : Instr} {s t : State} {p : Nat} {c c' : Cycle} (h : scanEffect i s p c = .ok t c') : ScanFrame s t := by
  cases i
  all_goals simp only [scanEffect] at h
  all_goals first
    | cases h; done
    | (rw [(writeNext_ok h).1]; exact .refl _)
    | (rw [(divOp_ok h).2.1]; exact .refl _)
    | (rw [(branchTo_ok h).2.2.1]; exact .refl _)
    | (rw [branchIf_ok h]; exact .refl _)
    | (rw [(chanOp_ok h).2.1]; exact .refl _)
    | (rw [(scanLoad_ok h).1]; exact .refl _)
    | exact scanStore_frame h
    | exact scanBlock_frame h
    | (cases h; exact .refl _)
    | (cases h; exact State.endCycle_frame' _ _ _)
    | (split at h
       all_goals first
         | (cases h; exact .refl _)
         | cases h; done
         | (rw [(branchTo_ok h).2.2.1]; exact .refl _)
         | (rw [(chanOp_ok h).2.1]; exact .refl _)
         | (rw [(writeNext_ok h).1]; exact .refl _)
         | (split at h
            · cases h
            · cases h; exact (State.putData_scanFrame _ _ _).trans rfl))

/-! ### Slots -/

/-- A slot after it is replaced by a function of it; every other slot stays. -/
theorem State.slot_modSlot (s : State) (p q : Nat) (f : ProgSlot → ProgSlot) (h : p < s.scan.slots.length) :
    (s.modSlot p f).slot q = if q = p then f (s.slot p) else s.slot q := by
  split
  · next e => rw [e]; exact getD_modifyNth_same f p _ _ h
  · next e => exact getD_modifyNth_other f _ _ e

/-- A mode change moves the mode of its slot and of no other, and nothing else of it. -/
theorem State.slot_setMode (s : State) (p q : Nat) (m : ProgMode) (h : p < s.scan.slots.length) :
    (s.setMode p m).slot q = if q = p then { s.slot p with mode := m } else s.slot q := by
  have hs : ∀ (t : State) (n : Nat), ((t.evt Head.scan n).scanRefresh).slot q = t.slot q := fun t n => by
    unfold State.slot
    simp
  unfold State.setMode
  split
  · next e => split
              · next g => rw [g, ← e]
              · rfl
  · rw [hs, State.slot_modSlot _ _ _ _ h]

/-- A stop: the slot is in STOP with its cause and no cycle; every other slot stays (R125, R127). -/
theorem State.slot_stopProg (s : State) (p q cause : Nat) (h : p < s.scan.slots.length) :
    (s.stopProg p cause).slot q =
      if q = p then { s.slot p with mode := .stop, cause := cause, suspended := false, stepping := false, cycle := none, req := none,
                                    abortAt := none, safeDue := Image.stopSafe (s.slot p).image }
      else s.slot q := by
  unfold State.stopProg
  dsimp only
  rw [State.slot_setMode _ _ _ _ (by simpa using h)]
  split
  · rw [State.slot_modSlot _ _ _ _ h, if_pos rfl]
  · next e => rw [State.slot_modSlot _ _ _ _ h, if_neg e]

end Sys2Proof.Machine
end

