-- ==== Sys2Proof/Tests/Slice0.lean ====
section
/-!
SUPPORT. Tests of the model: ill-formed commands that WellFormed refuses, words written out from the manual's formats and
what they decode to, single commands on small states with results worked out by hand from the manual, and, for every
statement of the obligations that has premises, small states and operands that meet them, at the boundary values of each
clause.
-/
namespace Sys2Proof.Tests
set_option Elab.async false
open Sys2Proof.Machine

/-- The state a command answers. -/
def after (i : Instr) (s : State) : State :=
  match exec i s with
  | .next t => t
  | .fault _ => s
  | .refused _ => s

/-! ### WellFormed: an ill-formed command for each check -/

/-- A packet of `n` zero bytes from an Ethernet port. -/
def zeros (n : Nat) : OctahReq := { src := .eth [] 0, packet := List.replicate n 0 }
/-- A fault of a class. -/
def faultOf (cls : Nat) : FaultReport := { cls := cls, srcType := 0, srcInst := 0, info0 := 0, info1 := 0, area := none }
/-- A base-format frame with an identifier and a DLC. -/
def frameOf (ident dlc : Nat) : BusFrame :=
  { ide := false, ident := ident, fdf := false, brs := false, esi := false, rtr := false, dlc := dlc, data := [] }
/-- A PTP message of a port and an instance. -/
def ptpOf (port base : Nat) : PtpMsg :=
  { port := port, base := base, seq := 0, source := [], twoStep := false, stampNs := 0, corr := 0, rxQ := 0 }

theorem test_wf_slot : (Instr.opNop 32).wf = false ∧ (Instr.opNop 31).wf = true := by decide
theorem test_wf_channel : (Instr.txdTimeout 8).wf = false ∧ (Instr.txdTimeout 7).wf = true := by decide
theorem test_wf_base : (Instr.ptpSourceLost 4).wf = false ∧ (Instr.ptpSourceLost 3).wf = true := by decide
theorem test_wf_port : (Instr.ptpMasterTx 0 2).wf = false ∧ (Instr.ptpMasterTx 0 1).wf = true := by decide
theorem test_wf_window_slot : (Instr.slotPost .pcie 16 0).wf = false ∧ (Instr.slotPost .pcie 15 0).wf = true := by decide
theorem test_wf_line : (Instr.lioPulseEdge 32 true 0 true 0).wf = false ∧ (Instr.lioPulseEdge 31 true 0 true 0).wf = true := by decide
theorem test_wf_offset : (Instr.p0Latch 250000).wf = false ∧ (Instr.p0Latch 249999).wf = true := by decide +kernel
theorem test_wf_quarter : (Instr.ppsInEdge 1000000).wf = false ∧ (Instr.ppsInEdge 999999).wf = true := by decide +kernel
theorem test_wf_page : (Instr.freezeExpire 0x400).wf = false ∧ (Instr.freezeExpire 0x3FF).wf = true := by decide +kernel
theorem test_wf_request : (Instr.devInfo (zeros 63)).wf = false ∧ (Instr.devInfo (zeros 64)).wf = true := by decide +kernel
theorem test_wf_engine :
    (Instr.engineWatchdogExpire (.be 2) true true true).wf = false ∧ (Instr.engineWatchdogExpire (.be 1) true true true).wf = true := by
  decide
theorem test_wf_class : (Instr.faultDetected [faultOf 13]).wf = false ∧ (Instr.faultDetected [faultOf 12]).wf = true := by decide
theorem test_wf_frame :
    (Instr.busFrameRx 0 (frameOf 2048 0) 0).wf = false ∧ (Instr.busFrameRx 0 (frameOf 2047 16) 0).wf = false ∧
    (Instr.busFrameRx 0 (frameOf 2047 15) 0).wf = true := by decide +kernel
theorem test_wf_supply : (Instr.supplyReturn (.vio 5)).wf = false ∧ (Instr.supplyReturn (.vio 4)).wf = true := by decide
theorem test_wf_inputs :
    (Instr.opCtud 0 1 28 0 true false 0).wf = false ∧ (Instr.opCtud 0 1 27 0 true false 0).wf = true := by decide +kernel
theorem test_wf_illegal :
    (Instr.opIllegalInstruction 0 0x04000000).wf = false ∧ (Instr.opIllegalInstruction 0 0x04000001).wf = true := by decide +kernel
theorem test_wf_ptp : (Instr.ptpSync (ptpOf 0 4)).wf = false ∧ (Instr.ptpSync (ptpOf 1 3)).wf = true := by decide +kernel

/-! ### Words of R156 and R157, written out bit by bit, one of each operation code's family -/

/-- A format A word: OP, D, A, B, W, FN, C. -/
def wordA (op d a b w fn c : Nat) : Word := BitVec.ofNat 32 (op * 2 ^ 26 + d * 2 ^ 21 + a * 2 ^ 16 + b * 2 ^ 11 + w * 2 ^ 10 + fn * 2 ^ 5 + c)

theorem test_decode_control :
    decodeScan 0 0b00000100000000000000000000000000 = .opNop 0 ∧ decodeScan 0 0b00000100000000000000000000100000 = .opEnd 0 ∧
    decodeScan 0 0b00000100000000000000000001000000 = .opRet 0 ∧ decodeScan 0 0b00001000000000000000000010000001 = .opTrap 0 0x81 := by
  decide +kernel
theorem test_decode_integer :
    decodeScan 0 0b00010011111111101111110001100000 = .opDiv 0 true 31 30 31 ∧
    decodeScan 0 0b00010000001000100000000010100000 = .opAbs 0 false 1 2 := by decide +kernel
theorem test_decode_bitwise :
    decodeScan 0 (wordA 4 1 2 3 1 8 0) = .opAnd 0 true 1 2 3 ∧ decodeScan 0 (wordA 4 1 2 3 1 8 1) = .opIllegalInstruction 0 (wordA 4 1 2 3 1 8 1) := by
  decide +kernel
theorem test_decode_immediates :
    decodeScan 0 0b00100000001000101000000000000001 = .opAddiw 0 1 2 0x8001 ∧ decodeScan 0 0b00110100001000001000000000000001 = .opLui 0 1 0x8001 ∧
    decodeScan 0 0b00111000001000100000000000111111 = .opBtst 0 1 2 63 := by decide +kernel
theorem test_decode_memory :
    decodeScan 0 0b01010000001000100011111111111111 = .opLdb 0 1 2 1 0x1FFF ∧ decodeScan 0 0b01101000001000101010000000000000 = .opStd 0 1 2 5 0 ∧
    decodeScan 0 0b01110100001000100010000000000011 = .opStfw 0 1 2 1 3 := by decide +kernel
theorem test_decode_branches :
    decodeScan 0 0b10000100000000000000000000000101 = .opCall 0 5 ∧ decodeScan 0 0b10001000001000001111111111111111 = .opBt 0 1 0xFFFF := by
  decide +kernel

/-! ### The queue, reset and the invariants -/

/-- Reset with a command waiting. -/
def queued : State := { State.reset with pending := [.clrMax .pcie 2, .beatMatch] }
theorem test_premise_front : queued.pending = .clrMax .pcie 2 :: [.beatMatch] := rfl
theorem test_step_takes_one : ∃ t, step queued = .next t ∧ t.pending = [.beatMatch] := ⟨_, rfl, rfl⟩
theorem test_premise_empty_queue : State.reset.pending = [] := rfl
theorem test_premise_invariants :
    RegistersCanonical queued ∧ MemoriesCanonical queued ∧ TablesSized queued ∧ DeferredOnlyWhileStoring queued ∧ ∃ t, step queued = .next t :=
  ⟨rfl, ⟨rfl, rfl⟩, by unfold TablesSized; decide +kernel, fun _ => rfl, _, rfl⟩
theorem test_premise_encode : (Instr.opAdd 31 true 31 0 31).wf = true ∧ encodeScan (.opAdd 31 true 31 0 31) = some 0x13E0FC00 := by
  decide +kernel
theorem test_premise_encode_illegal :
    (Instr.opIllegalInstruction 0 0xFFFFFFFF).wf = true ∧ encodeScan (.opIllegalInstruction 0 0xFFFFFFFF) = some 0xFFFFFFFF := by decide +kernel

/-! ### Scan instructions: a program slot with a cycle in progress -/

/-- A small image, its header in the form of R173: K 4, 64 bytes of code, 16 of constants at 96, one Q symbol of type DINT at 112, sections of 16 bytes, one instance each
in TN and TR. -/
def tinyImage : Image :=
  [0, 0, 0, 0, 0, 0, 0, 0, 4, 0, 0, 0, 0, 0, 0, 0, 100, 0, 0, 0, 0, 0, 0, 0, 128, 0, 0, 0, 64, 0, 0, 0] ++
  [96, 0, 0, 0, 16, 0, 0, 0, 112, 0, 0, 0, 1, 0, 0, 0, 0, 0, 0, 0, 0, 0, 0, 0, 0, 0, 0, 0, 0, 0, 0, 0] ++
  [16, 0, 0, 0, 16, 0, 0, 0, 16, 0, 0, 0, 16, 0, 0, 0, 1, 0, 1, 0, 0, 0, 0, 0, 152, 0, 0, 0, 0, 0, 0, 0] ++
  [254, 255, 255, 255, 0, 0, 0, 0, 0, 0, 0, 0, 0, 0, 0, 0, 7, 0, 0, 0, 1, 1, 0, 0, 0, 0, 0, 0, 1, 0, 0, 0] ++
  [0, 0, 0, 0, 0, 0, 0, 0, 0, 0, 0, 0, 0, 0, 0, 0, 0, 0, 0, 0, 0, 0, 0, 0]

/-- A cycle at code offset 8 with a list of registers from g1 on. -/
def cycleWith (regs : List DWord) (stack : List Nat) : Cycle :=
  { f0 := 0, regs := 0 :: (regs ++ List.replicate (31 - regs.length) 0), pc := 8, stack := stack, cost := 0, paid := 0, entered := true,
    done := false, late := false, passed := false, snap := { plan := none, step := 0, left := 0 }, lArea := [] }

/-- Reset, with the small image in slot 0 and a cycle in progress. -/
def scanState (c : Cycle) : State := State.reset.modSlot 0 (fun x => { x with image := tinyImage, mode := .run, cycle := some c })

/-- The register a scan instruction leaves, with the program counter and the cost. -/
def result (c : Cycle) (i : Instr) (r : SReg) : Option (DWord × Nat × Nat) :=
  (((after i (scanState c)).slot 0).cycle).map (fun x => (x.rd r, x.pc, x.cost))

/-- Where a trap leaves the slot: mode, cause, code and detail. -/
def trapOf (c : Cycle) (i : Instr) : ProgMode × Nat × Word :=
  let t := after i (scanState c)
  ((t.slot 0).mode, (t.slot 0).cause, t.rg (Reg.PROG_INFO 0))

/-- g1 = 7, g2 = −2 (as INT32 and INT64), g3 = the largest INT32, g4 = 2 in REAL32, g5 = 1.5 in REAL32. -/
def c1 : Cycle := cycleWith [7, 0xFFFFFFFFFFFFFFFE, 0x7FFFFFFF, 0x40000000, 0x3FC00000] [4]

theorem test_premise_scan_cycle : (scanState c1).liveCycle 0 = some c1 := by decide +kernel
theorem test_add_wraps : result c1 (.opAdd 0 false 6 3 1) 6 = some (0xFFFFFFFF80000006, 12, 1) := by decide +kernel
theorem test_sub_long : result c1 (.opSub 0 true 6 1 2) 6 = some (9, 12, 1) := by decide +kernel
theorem test_mul_costs : result c1 (.opMul 0 true 6 1 2) 6 = some (0xFFFFFFFFFFFFFFF2, 12, 4) := by decide +kernel
theorem test_div_truncates : result c1 (.opDiv 0 false 6 1 2) 6 = some (0xFFFFFFFFFFFFFFFD, 12, 18) := by decide +kernel
theorem test_rem_sign : result c1 (.opRem 0 true 6 1 2) 6 = some (1, 12, 34) := by decide +kernel
theorem test_abs : result c1 (.opAbs 0 false 6 2) 6 = some (2, 12, 1) := by decide +kernel
theorem test_min_max_signed :
    result c1 (.opMin 0 true 6 1 2) 6 = some (0xFFFFFFFFFFFFFFFE, 12, 1) ∧ result c1 (.opMax 0 true 6 1 2) 6 = some (7, 12, 1) := by
  decide +kernel
theorem test_g0_discards : result c1 (.opAdd 0 true 0 1 1) 0 = some (0, 12, 1) := by decide +kernel
theorem test_bitwise :
    result c1 (.opAnd 0 true 6 1 2) 6 = some (6, 12, 1) ∧ result c1 (.opOr 0 true 6 1 2) 6 = some (0xFFFFFFFFFFFFFFFF, 12, 1) ∧
    result c1 (.opXor 0 false 6 1 3) 6 = some (0x7FFFFFF8, 12, 1) ∧ result c1 (.opNot 0 false 6 3) 6 = some (0xFFFFFFFF80000000, 12, 1) := by
  decide +kernel
theorem test_shifts :
    result c1 (.opShl 0 false 6 3 1) 6 = some (0xFFFFFFFFFFFFFF80, 12, 1) ∧ result c1 (.opShr 0 false 6 2 1) 6 = some (0x1FFFFFF, 12, 1) ∧
    result c1 (.opSar 0 true 6 2 1) 6 = some (0xFFFFFFFFFFFFFFFF, 12, 1) := by decide +kernel
theorem test_sel : result c1 (.opSel 0 6 1 2 0) 6 = some (0xFFFFFFFFFFFFFFFE, 12, 1) := by decide +kernel
theorem test_compare :
    result c1 (.opCeq 0 true 6 1 1) 6 = some (1, 12, 1) ∧ result c1 (.opCne 0 true 6 1 1) 6 = some (0, 12, 1) ∧
    result c1 (.opClt 0 true 6 2 1) 6 = some (1, 12, 1) ∧ result c1 (.opCle 0 false 6 1 2) 6 = some (0, 12, 1) := by decide +kernel
theorem test_float_compare :
    result c1 (.opFceq 0 false 6 4 5) 6 = some (0, 12, 2) ∧ result c1 (.opFclt 0 false 6 5 4) 6 = some (1, 12, 2) ∧
    result c1 (.opFcle 0 false 6 4 4) 6 = some (1, 12, 2) ∧ result c1 (.opFcun 0 false 6 2 4) 6 = some (1, 12, 2) := by decide +kernel
theorem test_fadd_fsub :
    result c1 (.opFadd 0 false 6 4 5) 6 = some (0x40600000, 12, 4) ∧ result c1 (.opFsub 0 false 6 4 5) 6 = some (0x3F000000, 12, 4) := by
  decide +kernel
theorem test_fmul_fdiv :
    result c1 (.opFmul 0 false 6 4 5) 6 = some (0x40400000, 12, 4) ∧ result c1 (.opFdiv 0 false 6 5 4) 6 = some (0x3F400000, 12, 14) := by
  decide +kernel
theorem test_fma : result c1 (.opFma 0 false 6 4 5 4) 6 = some (0x40A00000, 12, 5) := by decide +kernel
theorem test_fneg_fabs :
    result c1 (.opFneg 0 false 6 4) 6 = some (0xC0000000, 12, 1) ∧ result c1 (.opFabs 0 false 6 5) 6 = some (0x3FC00000, 12, 1) := by
  decide +kernel
theorem test_fsqrt : result (cycleWith [0x40800000] []) (.opFsqrt 0 false 6 1) 6 = some (0x40000000, 12, 16) := by decide +kernel
theorem test_fmin_fmax :
    result c1 (.opFmin 0 false 6 4 5) 6 = some (0x3FC00000, 12, 2) ∧ result c1 (.opFmax 0 false 6 4 5) 6 = some (0x40000000, 12, 2) := by
  decide +kernel
theorem test_conversions :
    result c1 (.opItof 0 false false 6 2) 6 = some (0xC0000000, 12, 3) ∧ result c1 (.opFtoi 0 false false 6 5) 6 = some (1, 12, 3) ∧
    result c1 (.opFrnd 0 false false 6 5) 6 = some (2, 12, 3) ∧ result c1 (.opFwid 0 6 5) 6 = some (0x3FF8000000000000, 12, 2) ∧
    result (cycleWith [0x3FF8000000000000] []) (.opFnar 0 6 1) 6 = some (0x3FC00000, 12, 3) := by decide +kernel
theorem test_satw : result (cycleWith [0x80000000] []) (.opSatw 0 6 1) 6 = some (0x7FFFFFFF, 12, 1) := by decide +kernel
theorem test_immediates :
    result c1 (.opAddiw 0 6 3 1) 6 = some (0xFFFFFFFF80000000, 12, 1) ∧ result c1 (.opAddil 0 6 1 0xFFFF) 6 = some (6, 12, 1) ∧
    result c1 (.opAndi 0 6 2 0xFFFF) 6 = some (0xFFFE, 12, 1) ∧ result c1 (.opOri 0 6 1 0x8000) 6 = some (0x8007, 12, 1) ∧
    result c1 (.opXori 0 6 1 1) 6 = some (6, 12, 1) ∧ result c1 (.opLui 0 6 0x8000) 6 = some (0xFFFFFFFF80000000, 12, 1) := by decide +kernel
theorem test_bits :
    result c1 (.opBtst 0 6 2 63) 6 = some (1, 12, 1) ∧ result c1 (.opBset 0 6 0 63) 6 = some (0x8000000000000000, 12, 1) ∧
    result c1 (.opBclr 0 6 1 0) 6 = some (6, 12, 1) := by decide +kernel

/-! Memory: the constants hold −2 at offset 0; each access is at the last place its section admits, and one beyond. -/

theorem test_ldw_constant : result c1 (.opLdw 0 6 0 4 0) 6 = some (0xFFFFFFFFFFFFFFFE, 12, 2) := by decide +kernel
theorem test_ldb_ldd_last :
    result c1 (.opLdb 0 6 0 0 15) 6 = some (0, 12, 2) ∧ result c1 (.opLdd 0 6 0 5 1) 6 = some (0, 12, 2) := by decide +kernel
theorem test_load_beyond : trapOf c1 (.opLdw 0 6 0 3 4) = (.stop, 4, 0x302) := by decide +kernel
theorem test_load_unaligned : trapOf c1 (.opLdw 0 6 1 3 0) = (.stop, 4, 0x304) := by decide +kernel
theorem test_premise_loads :
    (∀ area < 8, area ≠ 2 → (if area = 4 then 0 else (scanState c1).secBase 0 area) % 8 = 0) ∧
    (∀ area ∈ [0, 1, 3, 4, 5], Image.secLen ((scanState c1).image 0) area = 16) := by decide +kernel
theorem test_stores_last :
    (after (.opStb 0 1 0 3 15) (scanState c1)).scan.data.get 0x20000F = 1 ∧
    (after (.opStw 0 1 0 5 3) (scanState c1)).scan.data.get 0x60000C = 7 ∧
    (after (.opStd 0 2 0 2 0) (scanState c1)).scan.data.nat 0x100000 8 = 0xFFFFFFFFFFFFFFFE := by decide +kernel
theorem test_store_q_plain : trapOf c1 (.opStw 0 1 0 1 0) = (.stop, 4, 0x103) := by decide +kernel
theorem test_force_aware_stores :
    (after (.opStfb 0 1 0 1 15) (scanState c1)).scan.data.get 0x8000F = 1 ∧
    (after (.opStfw 0 1 0 1 3) (scanState c1)).scan.data.get 0x8000C = 7 ∧
    (after (.opStfd 0 1 0 1 1) (scanState c1)).scan.data.get 0x80008 = 7 := by decide +kernel
/-- A force of the Q symbol 7 in entry 0 of the force table, type DINT, value 9. -/
def forcedState : State :=
  { scanState c1 with scan := { (scanState c1).scan with data := [(0xE0000, 7), (0xE0004, 1), (0xE0005, 1), (0xE0008, 9)] } }
theorem test_force_holds : (after (.opStfw 0 1 0 1 0) forcedState).scan.data.get 0x80000 = 0 := by decide +kernel

/-! Control flow: the code section ends at 64, the cycle stands at 8. -/

theorem test_nop_end :
    result c1 (.opNop 0) 0 = some (0, 12, 1) ∧ ((after (.opEnd 0) (scanState c1)).slot 0).cycle.map (·.done) = some true ∧
    (after (.opEnd 0) (scanState c1)).rg (Reg.PROG_CYCLES_LO 0) = 1 ∧ (after (.opEnd 0) (scanState c1)).rg (Reg.PROG_COST_LAST 0) = 4 := by
  decide +kernel
theorem test_branch_bounds :
    result c1 (.opBr 0 (BitVec.ofInt 26 (-2))) 0 = some (0, 0, 2) ∧ result c1 (.opBr 0 13) 0 = some (0, 60, 2) ∧
    trapOf c1 (.opBr 0 14) = (.stop, 4, 7) ∧ trapOf c1 (.opBr 0 (BitVec.ofInt 26 (-3))) = (.stop, 4, 7) := by decide +kernel
theorem test_conditional_branches :
    result c1 (.opBt 0 1 13) 0 = some (0, 60, 2) ∧ result c1 (.opBt 0 0 13) 0 = some (0, 12, 2) ∧
    result c1 (.opBf 0 0 0xFFFE) 0 = some (0, 0, 2) ∧ result c1 (.opBf 0 1 0xFFFE) 0 = some (0, 12, 2) := by decide +kernel
theorem test_call_ret :
    (((after (.opCall 0 1) (scanState c1)).slot 0).cycle).map (fun x => (x.pc, x.stack)) = some (12, [12, 4]) ∧
    result c1 (.opRet 0) 0 = some (0, 4, 3) := by decide +kernel
theorem test_call_depth :
    trapOf (cycleWith [] (List.replicate 16 0)) (.opCall 0 1) = (.stop, 4, 6) ∧
    result (cycleWith [] (List.replicate 15 0)) (.opCall 0 1) 0 = some (0, 12, 3) ∧ trapOf (cycleWith [] []) (.opRet 0) = (.stop, 4, 0x106) := by
  decide +kernel
theorem test_traps :
    trapOf c1 (.opTrap 0 0x81) = (.stop, 4, 0x810B) ∧ trapOf c1 (.opIllegalInstruction 0 0xFC000000) = (.stop, 4, 0x3F01) ∧
    trapOf c1 (.opDiv 0 true 6 1 0) = (.stop, 4, 5) ∧ trapOf c1 (.opRem 0 false 6 1 0) = (.stop, 4, 5) := by decide +kernel
theorem test_trap_pc : (after (.opTrap 0 1) (scanState c1)).rg (Reg.PROG_PC 0) = 8 := by decide +kernel

/-! Plan and loop instructions, at the last channel and loop and one beyond. -/

/-- g1 = 8,191, g2 = 47, g3 = 1,023. -/
def c2 : Cycle := cycleWith [8191, 47, 1023] []
theorem test_plan_last :
    result c2 (.opSpr 0 6 1 0) 6 = some (0, 12, 6) ∧ result c2 (.opSps 0 6 1 0) 6 = some (1, 12, 4) ∧ result c2 (.opSpra 0 6 1 2) 6 = some (0, 12, 8) := by
  decide +kernel
theorem test_plan_beyond :
    trapOf c2 (.opSpr 0 6 1 1) = (.stop, 4, 0x0A) ∧ trapOf c2 (.opSps 0 6 1 1) = (.stop, 4, 0x0A) := by decide +kernel
theorem test_loops_last :
    result c2 (.opLin 0 6 3 31) 6 = some (0, 12, 3) ∧ (after (.opLout 0 2 3 15) (scanState c2)).scan.data.nat (0xC0000 + 128 * 1023 + 60) 4 = 47 := by
  decide +kernel
theorem test_loops_beyond :
    trapOf c2 (.opLin 0 6 3 32) = (.stop, 4, 9) ∧ trapOf c2 (.opLout 0 6 3 32) = (.stop, 4, 9) ∧ trapOf c2 (.opLout 0 6 3 16) = (.stop, 4, 0x803) := by
  decide +kernel

/-! Blocks: instance 0 of TN, its TYPE put in place. -/

/-- The state with the instance record's TYPE. -/
def blockState (kind : Nat) : State :=
  { scanState c1 with scan := { (scanState c1).scan with data := Mem.put [] 0x700004 (BitVec.ofNat 8 kind) } }
/-- Q and the cost of a block instruction on it. -/
def blockResult (kind : Nat) (i : Instr) : Option (DWord × Nat) :=
  (((after i (blockState kind)).slot 0).cycle).map (fun x => (x.rd 6, x.cost))
theorem test_timers :
    blockResult 0 (.opTon 0 6 1 0 false false 0) = some (1, 10) ∧ blockResult 1 (.opTof 0 6 1 0 false false 0) = some (1, 10) ∧
    blockResult 2 (.opTp 0 6 0 0 true false 0) = some (0, 34) := by decide +kernel
theorem test_counters :
    blockResult 3 (.opCtu 0 6 1 0 false false 0) = some (1, 8) ∧ blockResult 4 (.opCtd 0 6 0 0 true false 0) = some (1, 9) ∧
    blockResult 5 (.opCtud 0 6 0 0 false false 0) = some (1, 10) := by decide +kernel
theorem test_edges :
    blockResult 6 (.opRTrig 0 6 1 0 false 0) = some (1, 6) ∧ blockResult 7 (.opFTrig 0 6 0 0 false 0) = some (0, 6) := by decide +kernel
theorem test_block_instance :
    trapOf c1 (.opTon 0 6 1 0 false false 1) = (.stop, 4, 8) ∧ trapOf c1 (.opCtu 0 6 1 0 false false 0) = (.stop, 4, 0x308) := by decide +kernel
theorem test_premise_blocks : ∀ kind < 8, blockIllegal kind 1 false = false ∧ blockIllegal kind 1 true = false := by decide +kernel

/-! ### Register writes (R29 to R36, R52, R72) -/

theorem test_premise_heads : ∀ h ∈ headPages, Reaches State.reset (h * 0x1000) := by unfold Reaches; decide +kernel
/-- PCI Express up, HOST_EN with vector 5 for a block, event 1 raised and masked in. -/
def signalling (h : Nat) : State :=
  (((State.reset.setRg Reg.HOST_STATUS 1).setRg (Reg.evtRoute h) 0x85).setRg (Reg.evtRaw h) 2).setRg (Reg.evtMask h) 2
theorem test_premise_signalling :
    ∀ h ∈ headPages, Reaches (signalling h) (h * 0x1000) ∧ (signalling h).pcieUp = true ∧ (signalling h).hostEn h = true := by
  unfold Reaches; decide +kernel
theorem test_evt_raw_resends :
    (after (.evtRawClear .pcie (Head.bus 0) 1) (signalling (Head.bus 0))).out = [.msix 5] ∧
    (after (.evtRawClear .pcie (Head.bus 0) 2) (signalling (Head.bus 0))).out = [] := by decide +kernel
theorem test_evt_mask_signals :
    (after (.evtMaskWrite .pcie (Head.bus 0) 3) (signalling (Head.bus 0))).out = [.msix 5] ∧
    (after (.evtMaskWrite .pcie (Head.bus 0) 1) (signalling (Head.bus 0))).out = [] := by decide +kernel
theorem test_err_clear : (after (.errClear .qspi Head.scan 0x80000000) (State.reset.errBlk Head.scan 4 9)).rg (Reg.errInfo Head.scan) = 0 := by
  decide +kernel
theorem test_prot_key :
    (after (.protKeyWrite .pcie Head.frame 0x65C3) (after (.protKeyWrite .pcie Head.frame 0x9A3C) State.reset)).protOf Head.frame = some .opened ∧
    (after (.protKeyWrite .pcie Head.frame 0x65C3) State.reset).protOf Head.frame = none := by decide +kernel

/-! BLK_CTRL -/

/-- The unlock sequence of a block complete. -/
def opened (h : Nat) (s : State) : State := s.setProt h (some .opened)
theorem test_premise_freeze : ∀ h ∈ headPages, ∃ v : Word, bit v.toNat 0 = State.reset.enabled h ∧ bit v.toNat 1 = false ∧
    (State.reset.fld (Reg.ctrl h) 2 2 = 1) ≠ (bit v.toNat 2 = true) := fun h hh =>
  ⟨if State.reset.enabled h then 5 else 4, by revert h; decide +kernel⟩
theorem test_freeze_sets :
    (after (.freeze .pcie Head.scan 4) State.reset).reg.frozen.map (·.head) = [Head.scan] ∧
    (after (.freeze .pcie Head.scan 4) State.reset).fld (Reg.ctrl Head.scan) 2 2 = 1 := by decide +kernel
/-- FREEZE of SCAN set 4,000 beats ago. -/
def frozenLong : State :=
  let s := State.reset.setRg (Reg.ctrl Head.scan) 4
  { s with reg := { s.reg with frozen := [{ head := Head.scan, setBeat := 0, view := none }] }, time := { s.time with ns := 4000 * 250000 } }
theorem test_premise_freeze_expire :
    frozenLong.reg.frozen.find? (fun x => x.head == Head.scan) = some { head := Head.scan, setBeat := 0, view := none } ∧
    0 + 4000 ≤ frozenLong.beat ∧ frozenLong.fld (Reg.ctrl Head.scan) 2 2 = 1 := by decide +kernel
theorem test_freeze_expires : (after (.freezeExpire Head.scan) frozenLong).reg.frozen = [] := by decide +kernel
theorem test_block_enable :
    ∀ h ∈ [Head.scan, Head.loop, Head.eth, Head.time, Head.lio, Head.update, Head.backup],
      (after (.blockEnable .pcie h 1) State.reset).enabled h = true := by decide +kernel
theorem test_premise_soft_reset :
    State.reset.enabled Head.scan = false ∧ State.reset.blkFault Head.scan = false ∧ (after (.blockEnable .pcie Head.scan 1) State.reset).enabled Head.scan = true ∧
    (after (.blockEnable .pcie Head.scan 1) State.reset).fld (Reg.errCode Head.scan) 7 0 = 0 := by decide +kernel
theorem test_soft_reset_refused :
    (after (.softReset .pcie Head.scan 3) (after (.blockEnable .pcie Head.scan 1) State.reset)).rg (Reg.errCode Head.scan) = 0x804 := by decide +kernel

/-! ENABLE of a bus channel, METER and THERM -/

/-- VIN_BUS in range, a bit timing that R252 admits on channel 7. -/
def busReady : State := (((State.reset.setRg Reg.PWR_STATUS 2).setRg (Reg.FB_BITTIME 7) 0x1E3E1E00).setRg (Reg.FB_DBITTIME 7) 0x330A0000).setRg (Reg.FB_TDC 7) 1
theorem test_premise_bus_enable :
    busReady.busEnableRefused 7 = none ∧ busReady.enabled (Head.bus 7) = false ∧ busReady.blkFault (Head.bus 7) = false ∧
    State.reset.busEnableRefused 0 = some Code.state ∧ State.reset.fld (Reg.errCode (Head.bus 0)) 7 0 = 0 := by decide +kernel
theorem test_bus_enable : (after (.busChannelEnable .pcie 7 1) busReady).blkState (Head.bus 7) = 1 := by decide +kernel
/-- Circuit 0 enabled with its voltage channel off. -/
def meterBad : State := State.reset.setRg (Reg.CIR_CFG 0) 1
theorem test_premise_meter_enable :
    State.reset.meterRefused = none ∧ State.reset.enabled Head.meter = false ∧ meterBad.meterRefused = some 256 ∧
    State.reset.thermRefused = none ∧ (State.reset.setRg (Reg.THP_CFG 7) 1).thermRefused = some 7 ∧ State.reset.enabled Head.therm = false := by
  decide +kernel
theorem test_therm_enable : (after (.thermEnable .pcie 1) State.reset).enabled Head.therm = true := by decide +kernel

/-! Single registers -/

theorem test_premise_frame :
    Reaches (opened Head.frame State.reset) Reg.FRAME_CTRL ∧ Opened (opened Head.frame State.reset) Head.frame ∧
    State.reset.fld Reg.FRAME_CTRL 0 0 = 0 ∧ State.reset.blkState Head.frame = 0 := by unfold Reaches Opened; decide +kernel
theorem test_frame_run_stop :
    (after (.frameRun .pcie 1) (opened Head.frame State.reset)).blkState Head.frame = 1 ∧
    (after (.frameStop .pcie 0) (opened Head.frame (after (.frameRun .pcie 1) (opened Head.frame State.reset)))).blkState Head.frame = 0 := by decide +kernel
/-- FRAME in RUNNING, unlocked. -/
def frameRunning : State := opened Head.frame ((State.reset.setRg Reg.FRAME_CTRL 1).setRg (Reg.status Head.frame) 0x20)
theorem test_premise_frame_running : frameRunning.blkState Head.frame = 2 ∧ frameRunning.fld Reg.FRAME_CTRL 0 0 = 1 := by decide +kernel
theorem test_frame_stop_waits :
    (after (.frameStop .pcie 0) frameRunning).frame.stopping = true ∧ (after (.frameStop .pcie 0) frameRunning).blkState Head.frame = 2 := by
  decide +kernel
theorem test_clr_max : (after (.clrMax .pcie 2) State.reset).frame.clrMax = true := by decide +kernel
theorem test_alarm :
    (after (.beatAlarmArm .pcie 1) State.reset).frame.alarm = some (2 ^ 32) ∧ (after (.beatAlarmArm .pcie 0) State.reset).frame.alarm = none := by
  decide +kernel
/-- An alarm for beat 3 in beat 3. -/
def alarmed : State := { State.reset with frame := { State.reset.frame with alarm := some 3 }, time := { State.reset.time with ns := 750000 } }
theorem test_premise_alarm : alarmed.frame.alarm = some 3 ∧ 3 ≤ alarmed.beat := by decide +kernel
theorem test_beat_match : (after .beatMatch alarmed).frame.alarm = none := by decide +kernel
theorem test_premise_plain_registers :
    ∀ n < 4, ∀ a ∈ [Reg.TB_COMP n, Reg.PORT_ASYM (n % 2), Reg.BEAT_ALARM_LO], Reaches State.reset a := by unfold Reaches; decide +kernel
theorem test_register_write : (after (.registerWrite .pcie (Reg.TB_COMP 3) 4 0x55) State.reset).rg (Reg.TB_COMP 3) = 0x55 := by decide +kernel
theorem test_register_width :
    State.reset.fld Reg.PCIE_ERR_INFO 7 0 = 0 ∧ (after (.registerWrite .pcie 0xFFFFFF 2 0x55) State.reset).fld Reg.PCIE_ERR_INFO 7 0 = 2 := by
  decide +kernel
theorem test_flog_sel :
    Reaches State.reset Reg.FLOG_SEL ∧ (after (.flogSelWrite .pcie 0x1FF) State.reset).fld Reg.FLOG_SEL 7 0 = 0xFF := by unfold Reaches; decide +kernel
theorem test_tb_cfg :
    Reaches State.reset (Reg.TB_CFG 3) ∧ (opened Head.time State.reset).tbCfgRefused 3 2 = none ∧ State.reset.rg (Reg.TB_CFG 3) = 0 ∧
    (after (.tbCfgWrite .pcie 3 2) (opened Head.time State.reset)).rg (Reg.TB_CFG 3) = 2 := by unfold Reaches; decide +kernel
theorem test_rtc_measure :
    Reaches State.reset Reg.RTC_CFG ∧ State.reset.time.rtc = none ∧
    (after (.rtcMeasure .pcie 0x11) State.reset).time.rtc = some { startBeat := 0, gate := 1 } ∧
    (after (.rtcMeasure .pcie 0x4001) State.reset).time.rtc = some { startBeat := 0, gate := 1024 } := by unfold Reaches; decide +kernel
theorem test_scan_ctrl :
    Reaches State.reset Reg.SCAN_CTRL ∧ (after (.scanCtrlWrite .pcie 2) (opened Head.scan State.reset)).fld Reg.SCAN_CTRL 1 1 = 1 := by
  unfold Reaches; decide +kernel
theorem test_clr_cnt :
    (∀ ch < 8, Reaches State.reset (Reg.FB_CTRL ch) ∧ State.reset.fld (Reg.FB_CTRL ch) 6 5 < 3 ∧ State.reset.fld (Reg.FB_CTRL ch) 4 3 < 2) ∧
    (after (.clrCnt .pcie 7 (BitVec.ofNat 32 (State.reset.fld (Reg.FB_CTRL 7) 6 0 + 128))) (State.reset.setRg (Reg.BIT_ERR_CNT 7) 5)).rg (Reg.BIT_ERR_CNT 7) = 0 := by
  unfold Reaches; decide +kernel

/-! ### The host protocol: requests of a local session over quad-SPI (R429 to R443) -/

/-- A request of an opcode with a payload and a tag, NO_AUTH, over quad-SPI. -/
def ask (op : Nat) (payload : List Byte) (tag : Nat := 7) : OctahReq :=
  { src := .slot .qspi 0, packet := Pkt.build 4 tag 0 op 0 0 0 0 payload [] 0 }
/-- The journal entry of tag 7 after a command, as its state and its result. -/
def ended (i : Instr) (s : State) : JState × Nat := (((after i s).jentry 7).state, ((after i s).jentry 7).result)
/-- The start of the response payload that the entry of tag 7 keeps. -/
def answered (i : Instr) (s : State) (n : Nat) : List Byte := (((after i s).jentry 7).respHead).take n

/-- Every opcode of R440 but SESSION_OPEN: a request of it is ready in the state after reset, as far as the header goes. -/
theorem test_premise_ready : ∀ op ∈ ((List.range 13).flatMap (fun g => (List.range 25).map (256 * g + ·))).filter (fun op => opcodeDefined op && op != 1),
    OctahReady op true (ask op []) State.reset := by
  unfold OctahReady; decide +kernel
theorem test_premise_undefined : opcodeDefined 0x0D00 = false ∧ OctahReady 0x0D00 false (ask 0x0D00 []) State.reset := by
  unfold OctahReady; decide +kernel
theorem test_premise_mirror : OctahReady 0x0201 true { ask 0x0201 [] with src := .mirror } State.reset := by unfold OctahReady; decide +kernel
theorem test_premise_journal : (ask 3 []).src ≠ .mirror ∧ State.reset.host.journal.length = 256 := by decide +kernel
theorem test_journal_accepts : (State.reset.acceptedReq 3 (ask 3 [])).rg Reg.JSEQ_LAST = 1 := by decide +kernel

/-! The order of checks: one request for each row. -/

/-- The packet with its VER changed. -/
def badVersion : OctahReq := { src := .slot .qspi 0, packet := setBytes (ask 3 []).packet 0 [2] }
/-- A unit of a pair that does not own control. -/
def standby : State := State.reset.setRg Reg.DEV_CONFIG 2
/-- The tag's entry STARTED by another session. -/
def tagTaken : State := State.reset.modJ 7 (fun e => { e with state := .started, session := 9 })
theorem test_premise_checks :
    State.reset.silent = false ∧ Pkt.ver badVersion.packet ≠ 1 ∧
    State.reset.authentic { ask 3 [] with src := .eth [] 0 } = false ∧ Pkt.ver (ask 3 []).packet = 1 ∧
    standby.tagOwner (ask 3 []) = false ∧ standby.authentic (ask 3 []) = true ∧ standby.tagOwner (ask 3 [] 192) = true ∧
    tagTaken.tagFree (ask 3 []) = false ∧ tagTaken.tagOwner (ask 3 []) = true ∧ tagTaken.authentic (ask 3 []) = true := by decide +kernel
theorem test_bad_length : ended (.devInfo (ask 0 [1])) State.reset = (.failed, 2) := by decide +kernel
theorem test_bad_opcode : ended (.octahUndefinedOpcode (ask 0x0D00 [])) State.reset = (.failed, 1) := by decide +kernel
theorem test_not_owner :
    (let s := standby; let r := ask 0x0201 (List.replicate 16 0) 192; ((after (.progStart r) s).jentry 192).result) = 0x0B := by decide +kernel
theorem test_premise_stump : (State.reset.setRg (Reg.status Head.boot) 0x30).stump = true ∧ stumpServes 0x0A00 = true ∧ stumpServes 0x0200 = false := by
  decide +kernel

/-! Received packets: discarded by length, by CRC, by flag; one that waits; one too many. -/

/-- A packet as it arrives. -/
def arrives (p : List Byte) : OctahReq := { src := .eth [] 0, packet := p }
/-- The state with 64 requests waiting. -/
def fullQueue : State := { State.reset with host := { State.reset.host with waiting := List.replicate 64 (zeros 64) } }
theorem test_packet_waits : (State.reset.packetIn (arrives (ask 3 [1]).packet)).host.waiting.length = 1 := by decide +kernel
theorem test_packet_discarded :
    (State.reset.packetIn (zeros 63)).rg Reg.CRC_DROP_CNT = 1 ∧ (State.reset.packetIn (zeros 64)).rg Reg.CRC_DROP_CNT = 1 ∧
    (State.reset.packetIn (arrives (Pkt.build 1 7 0 3 0 0 0 0 [] [] 0))).rg Reg.CRC_DROP_CNT = 1 := by decide +kernel
theorem test_packet_too_many : (fullQueue.packetIn (arrives (ask 3 []).packet)).rg Reg.RX_DROP_CNT = 1 := by decide +kernel

/-! The command window -/

/-- Slot 15 of the window holds a sound packet of 64 bytes. -/
def windowState : State := { State.reset with host := { State.reset.host with slotMem := Mem.putN [] 0xF000 (ask 3 []).packet } }
/-- Slot 15 in a mode. -/
def slotMode (m : SlotMode) : State :=
  { State.reset with host := { State.reset.host with slots := modifyNth (fun x => { x with mode := m }) 15 State.reset.host.slots } }
theorem test_premise_window :
    (∀ n < 16, (State.reset.host.slots[n]?).map (·.mode) = some .free) ∧ State.reset.host.slots.length = 16 ∧
    Pkt.sound (windowState.host.slotMem.getN 0xF000 64) = true ∧ (windowState.host.slots[15]?).map (·.mode) = some .free ∧
    ((slotMode .response).host.slots[15]?).map (·.mode) = some .response ∧ ((slotMode .discarded).host.slots[15]?).map (·.mode) = some .discarded ∧
    Reaches State.reset (Reg.SLOT_CTRL 15) := by unfold Reaches; decide +kernel
theorem test_window_write : (after (.commandWindowWrite .pcie 0xFFFC [1, 2, 3, 4]) State.reset).host.slotMem.getN 0xFFFC 4 = [1, 2, 3, 4] := by
  decide +kernel
theorem test_slot_post : (after (.slotPost .qspi 15 0x10040) windowState).host.waiting = [ask 3 [] |> fun r => { r with src := .slot .qspi 15 }] := by
  decide +kernel
theorem test_slot_release : ((after (.slotRelease .pcie 15 0x20000) (slotMode .discarded)).host.slots[15]?).map (·.mode) = some .free := by
  decide +kernel

/-! Quad-SPI: bursts of 1 and 256 words that end at their page's end -/

theorem test_premise_qspi :
    (0xFFC / 4096 = (0xFFC + 4 * 1 - 1) / 4096) ∧ (0xC00 / 4096 = (0xC00 + 4 * 256 - 1) / 4096) ∧ State.reset.boot.held = false ∧
    State.reset.seam.pf ≠ some .held := by decide +kernel
theorem test_qspi_read :
    (after (.qspiRead 0x1000 1 .full) State.reset).out.map (fun m => match m with | .qspi b => b.take 1 | _ => []) = [[0xA5]] := by decide +kernel
theorem test_qspi_write :
    (after (.qspiWrite (Reg.TB_COMP 3) 1 [0x55] true false) State.reset).rg (Reg.TB_COMP 3) = 0x55 ∧
    (after (.qspiWrite (Reg.TB_COMP 3) 2 [0x55] true false) State.reset).host.qspiErr = true ∧
    (after (.qspiWrite (Reg.TB_COMP 3) 1 [0x55] true true) State.reset).host.qspiErr = true := by decide +kernel
theorem test_qspi_status : (after (.qspiStatus false) State.reset).out = [.qspi [4]] := by decide +kernel

/-! Ethernet -/

/-- ETH enabled with E0, E1 and IPv6 on. -/
def ethState : State := (State.reset.setRg (Reg.ctrl Head.eth) 1).setRg Reg.ETH_CFG 0x0E
/-- The same with PRP on. -/
def prpState : State := (State.reset.setRg (Reg.ctrl Head.eth) 1).setRg Reg.ETH_CFG 0x0F
/-- A good untagged frame on E0. -/
def plainFrame : EthFrame := { port := 0, good := true, vid := none, prp := none }
/-- A whole datagram of 8 header bytes and a packet, or its first fragment. -/
def datagram (more : Bool) (data : List Byte) : EthFragment := { addr := [1], udp := 2, ident := 3, ofs := 0, more := more, data := data }
theorem test_premise_eth :
    ethState.enabled Head.eth = true ∧ ethState.silent = false ∧ ethState.stump = false ∧ ethState.fld Reg.ETH_CFG 1 1 = 1 ∧
    ethState.fld Reg.ETH_CFG 2 2 = 1 ∧ ethState.fld Reg.ETH_CFG 3 3 = 1 ∧ ethState.fld Reg.ETH_CFG 4 4 = 0 ∧ ethState.prpOn = false ∧
    prpState.prpOn = true ∧ prpState.fld Reg.ETH_CFG 1 1 = 1 ∧ prpState.fld Reg.ETH_CFG 2 2 = 1 ∧ prpState.stump = false ∧ ethState.host.reasm = [] ∧
    ethState.ipv6 ≠ [] := by decide +kernel
theorem test_datagram_whole :
    (after (.octahDatagramRx plainFrame (datagram false (List.replicate 8 0 ++ (ask 3 []).packet))) ethState).host.waiting =
      [{ src := .eth [1] 2, packet := (ask 3 []).packet }] := by decide +kernel
theorem test_datagram_fragment :
    (after (.octahDatagramRx plainFrame (datagram true (List.replicate 16 0))) ethState).host.reasm.map (·.ident) = [3] := by decide +kernel
theorem test_icmp : (after (.icmpEcho plainFrame [9] ethState.ipv4 [5]) ethState).out = [.netReply "ICMP" 0 [9] [5]] := by decide +kernel
theorem test_prp_supervision : (after .prpSupervision prpState).out.length = 2 ∧ (after .prpSupervision prpState).host.prpSup = 1 := by decide +kernel
theorem test_link_change : (after (.linkChange 1 true true) ethState).fld Reg.ETH_STATUS 3 0 = 0xA := by decide +kernel
/-- A reassembly begun at time 0, a second later. -/
def oldFragment : State :=
  { ethState with host := { ethState.host with reasm := [{ addr := [1], ident := 3, startNs := 0, parts := [], total := none }] }
                  time := { ethState.time with ns := 1000000000 } }
theorem test_reassembly_timeout : (after .reassemblyTimeout oldFragment).host.reasm = [] := by decide +kernel

/-! The host chapter's opcodes -/

theorem test_dev_info : ended (.devInfo (ask 0 [])) State.reset = (.done, 0) := by decide +kernel
theorem test_echo : answered (.echo (ask 3 [1, 2, 3])) State.reset 3 = [1, 2, 3] := by decide +kernel
theorem test_premise_echo_longest : Pkt.length (ask 3 (List.replicate 4032 0)).packet ≤ 4032 := by decide +kernel
theorem test_journal_read :
    natAt (ask 0x0C00 [241, 15, 0, 0]).pl 0 1 + natAt (ask 0x0C00 [241, 15, 0, 0]).pl 1 1 ≤ 256 ∧
    ended (.journalRead (ask 0x0C00 [241, 15, 0, 0])) State.reset = (.done, 0) := by decide +kernel
theorem test_journal_read_beyond : ended (.journalRead (ask 0x0C00 [242, 15, 0, 0])) State.reset = (.failed, 3) := by decide +kernel
theorem test_reg_read : ended (.regRead (ask 0x0100 (leBytes 4 0xFFF060 ++ [1, 0, 0, 0]))) State.reset = (.done, 0) := by decide +kernel
/-- A REG_WRITE of TB_COMP 3. -/
def compWrite : OctahReq := ask 0x0101 (leBytes 4 (Reg.TB_COMP 3) ++ [1, 0, 0, 0, 0x55, 0, 0, 0])
theorem test_premise_reg_write :
    Pkt.length compWrite.packet = 12 ∧
    ((State.reset.acceptedReq 0x0101 compWrite).opStart 7).writeCode (reqPath compWrite) (natAt compWrite.pl 0 4) (BitVec.ofNat 32 (natAt compWrite.pl 8 4)) = 0 := by
  decide +kernel
theorem test_reg_write : (after (.regWrite compWrite) State.reset).rg (Reg.TB_COMP 3) = 0x55 ∧ answered (.regWrite compWrite) State.reset 2 = [1, 0] := by
  decide +kernel
/-- Two entries DONE. -/
def twoDone : State := (State.reset.modJ 0 (fun e => { e with state := .done })).modJ 255 (fun e => { e with state := .done })
theorem test_journal_release :
    (after (.journalRelease (ask 0x0C01 (1 :: List.replicate 31 0))) twoDone).jentry 0 = JEntry.free ∧
    ((after (.journalRelease (ask 0x0C01 (1 :: List.replicate 31 0))) twoDone).jentry 255).state = .done := by decide +kernel
/-- A key of KMAC256 with the MAC use bit in slot 0. -/
def macSlot : State :=
  { State.reset with keys := { State.reset.keys with rngOk := true, slots := modifyNth (fun k => { k with type := 2, use := 4 }) 0 State.reset.keys.slots } }
/-- The MAC of a SESSION_OPEN of slot 0 with COUNTER 1. -/
def openMac : List Byte :=
  kmac (macSlot.keySlot 0).material (Pkt.body (Pkt.build 0 7 0 1 0 0 0 0 (List.replicate 20 0) [] 1) ++ leBytes 8 1) (asciiBytes "FM9400 OPEN") 16
/-- That request. -/
def openReq : OctahReq := { src := .slot .qspi 0, packet := Pkt.build 0 7 0 1 0 0 0 0 (List.replicate 20 0) openMac 1 }
theorem test_open_mac :
    kmac (macSlot.keySlot (natAt (Pkt.payload openReq.packet) 0 1)).material (Pkt.body openReq.packet ++ leBytes 8 (Pkt.counter openReq.packet))
      (asciiBytes "FM9400 OPEN") 16 = Pkt.mac openReq.packet := by rfl
theorem test_premise_session_open :
    OctahReady 0x0001 false openReq macSlot ∧ Pkt.length openReq.packet = 20 ∧ natAt openReq.pl 1 3 = 0 ∧
    slotRefused (macSlot.keySlot (natAt openReq.pl 0 1)) 2 2 = none ∧ (macSlot.keySlot (natAt openReq.pl 0 1)).limited = false ∧
    macSlot.host.sessions.length < 8 ∧ macSlot.keys.rngOk = true := by
  have ha : macSlot.authentic openReq = true := by
    unfold State.authentic
    rw [if_neg (by decide +kernel), if_pos (by decide +kernel)]
    dsimp only
    rw [test_open_mac]
    simp; decide +kernel
  refine ⟨⟨by decide +kernel, by decide +kernel, .inr ⟨by decide +kernel, ha, ?_⟩⟩, ?_⟩ <;> decide +kernel
/-- A session of identifier 9, last used at time 0, sixty seconds later. -/
def oldSession : State :=
  { State.reset with
    host := { State.reset.host with sessions := [{ id := 9, link := .pcie, keySlot := 0, key := [], rxHigh := 0, rxSeen := [], txCount := 0, lastNs := 0 }] }
    time := { State.reset.time with ns := 60000000000 } }
theorem test_session_timeout : oldSession.session? 9 ≠ none ∧ (after (.sessionTimeout 9) oldSession).session? 9 = none := by decide +kernel
theorem test_session_close_local : ended (.sessionClose (ask 2 [])) State.reset = (.done, 0) := by decide +kernel

/-! Supplies and links -/

theorem test_supply_flags :
    (after (.supplyReturn .vinBus) State.reset).fld Reg.PWR_STATUS 1 1 = 1 ∧ (after (.supplyReturn (.vio 4)) State.reset).boot.vio = (State.reset.boot.vio ||| 8) ∧
    (after (.supplyOutOfRange .vinAfe) State.reset).fld Reg.PWR_STATUS 2 2 = 0 := by decide +kernel
theorem test_pcie_link :
    (after (.pcieLinkChange true 3 3 true) State.reset).fld Reg.HOST_STATUS 5 0 = 0x3F ∧
    (after .pcieReset (after (.pcieLinkChange true 3 3 true) State.reset)).fld Reg.HOST_STATUS 5 0 = 0 := by decide +kernel
theorem test_premise_low_word :
    ∀ a ∈ [Reg.BEAT_CNT_LO, Reg.PPS_IN_LO, Reg.GEN_LO, Reg.LEASE_END_LO, Reg.BK_CNT_LO], Reaches State.reset a ∧ State.reset.latched .pcie a = none := by
  unfold Reaches; decide +kernel
theorem test_low_word_latches :
    (after (.lowWordRead .pcie Reg.BEAT_CNT_LO) { State.reset with time := { State.reset.time with ns := 2 ^ 32 * 250000 } }).latched .pcie (Reg.BEAT_CNT_LO + 4) = some 1 := by
  decide +kernel
theorem test_flog_read : Reaches State.reset (Reg.FLOG_DATA 0) ∧ (after (.flogData0Read .pcie) State.reset).reg.flogLatch.length = 1 := by
  unfold Reaches; decide +kernel

/-! ### Seam and keys -/

/-- Seam enabled and open to the host (SEAM_CTRL). -/
def seamOpen : State := (State.reset.setRg (Reg.ctrl Head.seam) 1).setRg Reg.SEAM_CTRL 1
theorem test_premise_seam_window :
    seamOpen.pageRefused 2013 = none ∧ seamOpen.pageRefused 128 = none ∧ seamOpen.pageRefused 0 = none ∧ seamOpen.pageRefused 2014 = some 3 ∧
    seamOpen.pageRefused 127 = some 3 ∧ State.reset.pageRefused 2013 = some 4 ∧ 0x7DDFC % 4 = 0 ∧ 0x7DDFC / 256 = 2013 ∧ seamOpen.stump = false ∧ seamOpen.boot.held = false ∧ State.reset.fld (Reg.errCode Head.seam) 7 0 = 0 := by
  decide +kernel
theorem test_seam_window_write : (after (.seamWindowWrite .pcie 0x87DDFC 0x01020304) seamOpen).seam.sram.getN 0x7DDFC 4 = [4, 3, 2, 1] := by
  decide +kernel
theorem test_seam_window_refused : (after (.seamWindowWrite .pcie 0x87DDFC 5) State.reset).rg (Reg.errCode Head.seam) = 0x1DFC04 := by decide +kernel
theorem test_premise_seam_cmd_store :
    Reaches seamOpen Reg.SEAM_CMD ∧ seamOpen.enabled Head.seam = true := by unfold Reaches; decide +kernel
theorem test_request_store : (seamOpen.requestStore .plain).seam.queued = some [.plain] := by
  have h : seamOpen.seam.queued = none := rfl
  simp [State.requestStore, h]
theorem test_premise_seam_hold :
    Reaches seamOpen Reg.SEAM_HOLD ∧ seamOpen.seam.pf = none ∧ seamOpen.seam.bracket = none := by unfold Reaches; decide +kernel
theorem test_path_err_clear :
    Reaches State.reset Reg.PCIE_ERR_INFO ∧ Reaches State.reset Reg.QSPI_ERR_INFO ∧
    (after (.pathErrClear .pcie false 0x80000000) (after (.registerWrite .pcie 0xFFFFFF 2 0x55) State.reset)).rg Reg.PCIE_ERR_ADDR = 0 := by
  unfold Reaches; decide +kernel
theorem test_seam_status_bank_info :
    ended (.seamBankInfo (ask 0x0705 [])) State.reset = (.done, 0) ∧ ended (.seamStatus (ask 0x0700 [])) State.reset = (.done, 0) := by decide +kernel
theorem test_seam_read_last :
    ended (.seamRead (ask 0x0701 [0xFF, 7, 1, 0])) State.reset = (.done, 0) ∧ ended (.seamRead (ask 0x0701 [0, 0, 1, 0])) State.reset = (.done, 0) ∧
    ended (.seamRead (ask 0x0701 [31, 0, 1, 0])) State.reset = (.failed, 3) := by decide +kernel
theorem test_seam_write :
    ended (.seamWrite (ask 0x0702 ([0xDD, 7, 1, 0] ++ List.replicate 256 9))) seamOpen = (.done, 0) := by decide +kernel
/-- SEAM_LOCK with its word and the digest of page 0 as it stands. -/
def lockReq : OctahReq := ask 0x0704 (leBytes 4 0x4B434F4C ++ shake (State.reset.seam.sram.getN 0 256) 32)
theorem test_premise_seam_lock :
    OctahReady 0x0704 false lockReq State.reset ∧ Pkt.length lockReq.packet = 36 ∧ natAt lockReq.pl 0 4 = 0x4B434F4C ∧ State.reset.seam.lock = 0 ∧
    State.reset.seam.run = none := by unfold OctahReady; decide +kernel
theorem test_premise_seam_lock_digest : bytesAt lockReq.pl 4 32 = shake (State.reset.seam.sram.getN 0 256) 32 := by rfl

/-! Stores and power failure -/

/-- A store requested; one that runs into bank 1; a bracket open; the phases of a power failure. -/
def seamWith (f : SeamState → SeamState) : State := State.reset.modSeam f
/-- A store that runs into a bank. -/
def runInto (k : Nat) : StoreRun := { target := k, startNs := 0, stampNs := 0, fors := [.plain] }
theorem test_premise_store_begin :
    State.reset.seam.banks.length = 2 ∧ (seamWith (fun m => { m with queued := some [.plain] })).seam.queued = some [.plain] ∧
    State.reset.seam.run = none ∧ State.reset.seam.bracket = none ∧ State.reset.seam.pf = none := by decide +kernel
theorem test_premise_store_done :
    ∀ k < 2, (seamWith (fun m => { m with run := some (runInto k) })).seam.run = some (runInto k) ∧ (runInto k).target < 2 ∧ (runInto k).fors = [.plain] := by
  decide +kernel
theorem test_premise_bracket_timeout :
    (seamWith (fun m => { m with bracket := some (0, [40]) })).seam.bracket = some (0, [40]) := by decide +kernel
theorem test_vhold : (after (.vholdOkChange true) State.reset).fld Reg.PWR_STATUS 3 3 = 1 := by decide +kernel
theorem test_pfi_second : (after (.pfiAccepted 0) (seamWith (fun m => { m with pf := some .held }))).seam.pf = some .held := by decide +kernel
theorem test_premise_pfi_again : (seamWith (fun m => { m with pf := some .waiting })).seam.pf = some .waiting := by decide +kernel
/-- The wait with a bracket of 16 pages. -/
def pfWaiting : State := seamWith (fun m => { m with pf := some .waiting, bracket := some (0, List.range 16) })
theorem test_premise_bracket_wait_end :
    pfWaiting.seam.bracket = some (0, List.range 16) ∧ (List.range 16).length ≤ 16 ∧ pfWaiting.seam.pf = some .waiting := by decide +kernel
/-- The automatic store into bank 0. -/
def pfStoring : State := seamWith (fun m => { m with pf := some .storing, run := some (runInto 0) })
theorem test_premise_pf_seal : pfStoring.seam.pf = some .storing ∧ pfStoring.seam.run = some (runInto 0) ∧ (runInto 0).target < 2 := by decide +kernel

/-! Keys -/

/-- A slot of a type with use bits, in slot 255. -/
def keyState (type use : Nat) : State :=
  { State.reset with keys := { State.reset.keys with slots := modifyNth (fun k => { k with type := type, use := use }) 255 State.reset.keys.slots } }
theorem test_key_list : ended (.keyList (ask 0x0900 [255, 1, 0, 0])) State.reset = (.done, 0) ∧
    ended (.keyList (ask 0x0900 [136, 120, 0, 0])) State.reset = (.done, 0) ∧ ended (.keyList (ask 0x0900 [137, 120, 0, 0])) State.reset = (.failed, 3) := by
  decide +kernel
theorem test_premise_public_read : (State.reset.keySlot 0).type ≠ 0 ∧ natAt (ask 0x0901 [0, 0, 0, 0]).pl 0 1 < 3 := by decide +kernel
theorem test_premise_key_mac :
    slotRefused ((keyState 2 0x0C).keySlot 255) 2 2 = none ∧ slotRefused ((keyState 2 0x0C).keySlot 255) 2 3 = none ∧
    Pkt.length (ask 0x0904 ([255, 0, 32, 0] ++ List.replicate 32 1)).packet = 36 ∧
    bytesAt (ask 0x0904 ([255, 0, 32, 0] ++ List.replicate 32 1)).pl 4 6 ≠ asciiBytes "FM9400" ∧
    Pkt.length (ask 0x0904 ([255, 1, 5, 0] ++ List.replicate 64 1)).packet = 68 := by decide +kernel
theorem test_key_mac :
    ended (.keyMac (ask 0x0904 ([255, 0, 32, 0] ++ List.replicate 32 1))) (keyState 2 0x0C) = (.done, 0) ∧
    ended (.keyMac (ask 0x0904 ([255, 1, 5, 0] ++ List.replicate 64 1))) (keyState 2 0x0C) = (.done, 0) := by decide +kernel
theorem test_premise_key_crypt :
    slotRefused ((keyState 1 3).keySlot 255) 1 0 = none ∧ slotRefused ((keyState 1 3).keySlot 255) 1 1 = none ∧
    Pkt.length (ask 0x0905 ([255, 1, 0, 0, 1, 0, 0, 0] ++ List.replicate 29 0)).packet = 37 := by decide +kernel
theorem test_key_crypt : ended (.keyCrypt (ask 0x0905 ([255, 0, 0, 0, 1, 0, 0, 0] ++ List.replicate 13 0))) (keyState 1 3) = (.done, 0) := by decide +kernel
/-- KEY_UPDATE of the bootstrap form: one record, IMPORT of the update key into slot 2, COUNTER 1. -/
def updateReq : OctahReq :=
  ask 0x0902 (leBytes 4 0x4B554553 ++ leBytes 2 1 ++ [1, 1] ++ idHash ++ leBytes 8 1 ++ List.replicate 8 0 ++
    ([1, 2, 4, 8] ++ List.replicate 140 0))
/-- The state of a module whose KU_COUNTER is zero. -/
def blankKeys : State := { State.reset with keys := { State.reset.keys with counter := 0, rngOk := true } }
set_option maxRecDepth 100000 in
theorem test_premise_update_hash : bytesAt updateReq.pl 8 32 = idHash := by rfl
set_option maxRecDepth 100000 in
theorem test_premise_key_update :
    OctahReady 0x0902 false updateReq blankKeys ∧ blankKeys.keys.update = none ∧ blankKeys.keys.rngOk = true ∧
    ∃ l, blankKeys.kuCheck updateReq (fun k => ((blankKeys.drawBytes 256).1.drop (32 * k)).take 32) = .inr (l, [2]) := by
  refine ⟨by unfold OctahReady; decide +kernel, rfl, rfl, ?_⟩
  unfold State.kuCheck
  simp only [test_premise_update_hash, ne_eq, not_true_eq_false, if_false]
  exact ⟨_, rfl⟩
/-- The identity in slot 0, leaves left. -/
def attestState (ready : Bool) : State :=
  { State.reset with keys := { State.reset.keys with rngOk := true, xmssReady := ready, nextLeaf := 1048575, attestWaiting := [] } }
theorem test_premise_attest :
    OctahReady 0x0903 false (ask 0x0903 (List.replicate 32 0 ++ [8] ++ List.replicate 11 0)) (attestState true) ∧
    ((attestState true).keySlot 0).type = 3 ∧ (attestState true).keys.nextLeaf < 1048576 ∧ (attestState false).keys.xmssReady = false ∧
    Pkt.length (ask 0x0903 (List.replicate 32 0 ++ [8] ++ List.replicate 11 0)).packet = 44 := by unfold OctahReady; decide +kernel
theorem test_attest_waits :
    (after (.attest (ask 0x0903 (List.replicate 32 0 ++ [8] ++ List.replicate 11 0))) (attestState false)).keys.attestWaiting = [7] := by decide +kernel
/-- One ATTEST waits for XMSS_READY. -/
def attestPending : State := { attestState false with keys := { (attestState false).keys with attestWaiting := [7] } }
theorem test_premise_xmss_ready :
    attestPending.keys.attestWaiting = [7] ∧ attestPending.keys.xmssReady = false ∧ attestPending.keys.nextLeaf < 1048576 ∧ (attestPending.keySlot 0).type = 3 := by
  decide +kernel

/-! ### Update and boot -/

/-- A session of a local owner over quad-SPI. -/
def session0 (len : Nat) (digest : List Byte) (data : Mem) (units : List Nat) : UpdSession :=
  { owner := 0, path := 1, keySlot := 0, len := len, digest := digest, data := data, units := units, orphanNs := none, closing := none }
/-- Reset with an update session. -/
def updating (x : UpdSession) : State := { State.reset with upd := { State.reset.upd with session := some x } }
/-- UPDATE_OPEN of the shortest and of the longest image. -/
def openUpd (len : Nat) : OctahReq := ask 0x0A00 (leBytes 4 len ++ List.replicate 36 0)
theorem test_premise_update_open :
    ∀ len ∈ [6728, 50327552], OctahReady 0x0A00 false (openUpd len) State.reset ∧ Pkt.length (openUpd len).packet = 40 ∧ natAt (openUpd len).pl 0 4 = len ∧
      natAt (openUpd len).pl 4 4 = 0 ∧ State.reset.upd.session = none ∧ State.reset.stump = false ∧ State.reset.slotConfirmed = true := by
  unfold OctahReady; decide +kernel
/-- UPDATE_WRITE of the last byte of an image of 6,913 bytes. -/
def lastUnit : OctahReq := ask 0x0A01 (leBytes 4 6912 ++ [0, 0, 0, 0, 0x55])
theorem test_premise_update_write :
    OctahReady 0x0A01 false lastUnit (updating (session0 6913 [] [] [])) ∧ ownsUpdate (session0 6913 [] [] []) lastUnit = true ∧
    9 ≤ Pkt.length lastUnit.packet ∧ natAt lastUnit.pl 0 4 % 256 = 0 ∧ natAt lastUnit.pl 0 4 + (lastUnit.pl.drop 8).length = 6913 := by
  unfold OctahReady; decide +kernel
theorem test_premise_update_write_longest : Pkt.length (ask 0x0A01 (List.replicate 3848 0)).packet ≤ 3848 := by decide +kernel
theorem test_update_write : (after (.updateWrite lastUnit) (updating (session0 6913 [] [] []))).upd.session.map (·.units) = some [27] := by decide +kernel
theorem test_update_status :
    ended (.updateStatus (ask 0x0A02 [0, 0, 0, 0, 1, 0, 0, 0])) (updating (session0 6913 [] [] [1])) = (.done, 0) ∧
    answered (.updateStatus (ask 0x0A02 [0, 0, 0, 0, 1, 0, 0, 0])) (updating (session0 6913 [] [] [1])) 13 = List.replicate 12 0 ++ [2] := by decide +kernel
/-- The bytes other than zero of an image whose nine parts of one byte stand 4,096 bytes apart from 0x2000 on. -/
def imageData : Mem :=
  [(0, 83), (1, 69), (2, 77), (3, 70), (4, 1), (6, 9), (12, 1), (13, 160), (64, 1), (77, 32), (80, 1), (128, 2)] ++
  [(141, 48), (144, 1), (192, 3), (205, 64), (208, 1), (256, 4), (269, 80), (272, 1), (320, 5), (333, 96), (336, 1), (384, 6)] ++
  [(397, 112), (400, 1), (448, 7), (461, 128), (464, 1), (512, 8), (525, 144), (528, 1), (576, 9), (589, 160), (592, 1)]
/-- A session that has received it whole. -/
def wholeImage : UpdSession := session0 0xA001 (manifestDigest imageData.manifest) imageData (List.range 161)
theorem test_premise_update_close : (updating wholeImage).closeCheck wholeImage = none := by
  have hi : (updating wholeImage).updImage wholeImage (updating wholeImage).updTarget = (imageData, List.range 161) := rfl
  have hd : wholeImage.digest = manifestDigest imageData.manifest := rfl
  unfold State.closeCheck
  simp only [hi, hd, ne_eq, not_true_eq_false, if_false]
  decide +kernel
theorem test_premise_update_close_request :
    OctahReady 0x0A03 false (ask 0x0A03 []) (updating wholeImage) ∧ ownsUpdate wholeImage (ask 0x0A03 []) = true ∧ wholeImage.closing = none ∧
    (updating wholeImage).upd.nor.length = 2 ∧ (updating wholeImage).stump = false ∧ (updating wholeImage).silent = false := by
  unfold OctahReady; decide +kernel
theorem test_premise_deferred : DeferredOnlyWhileStoring (updating wholeImage) := fun _ => rfl
theorem test_premise_update_close_done : (updating { wholeImage with closing := some 7 }).upd.session = some { wholeImage with closing := some 7 } := rfl
theorem test_update_abort :
    OctahReady 0x0A04 false (ask 0x0A04 []) (updating (session0 6913 [] [] [])) ∧
    (after (.updateAbort (ask 0x0A04 [])) (updating (session0 6913 [] [] []))).upd.session = none := by unfold OctahReady; decide +kernel
/-- A session an orphan since time 0, at a time. -/
def orphaned (ns : Nat) : State :=
  { updating { session0 6913 [] [] [] with orphanNs := some 0 } with time := { State.reset.time with ns := ns } }
theorem test_orphan_timeout :
    (after .updateOrphanTimeout (orphaned 300000000000)).upd.session = none ∧
    (after .updateOrphanTimeout (orphaned 299999999999)).upd.session.isSome = true := by decide +kernel
/-- A slot is PENDING: the boot record reads slot 0. -/
theorem test_premise_activate :
    State.reset.pendingSlot.isSome = true ∧ OctahReady 0x0A05 false (ask 0x0A05 [1, 0, 0, 0]) State.reset ∧ natAt (ask 0x0A05 [1, 0, 0, 0]).pl 0 1 < 2 ∧
    OctahReady 0x0A06 false (ask 0x0A06 []) State.reset ∧ State.reset.blkState Head.update ≠ 3 := by unfold OctahReady; decide +kernel
theorem test_boot_info : ended (.bootInfo (ask 0x0A07 [])) State.reset = (.done, 0) := by decide +kernel
theorem test_boot_reset :
    OctahReady 0x0A08 false (ask 0x0A08 ([2, 0, 0, 0] ++ leBytes 4 0x54455352)) State.reset ∧
    (after (.bootReset (ask 0x0A08 ([2, 0, 0, 0] ++ leBytes 4 0x54455352))) State.reset).boot.due = some (2, 3, true) ∧
    (after (.bootReset (ask 0x0A08 ([0, 0, 0, 0] ++ leBytes 4 0x54455352))) State.reset).boot.due = some (2, 4, false) := by
  unfold OctahReady; decide +kernel
/-- RUNNING since beat 0, in beat 4,000. -/
def confirming : State :=
  { State.reset.setRg (Reg.status Head.boot) 0x10 with
    boot := { State.reset.boot with since := some 0 }
    time := { State.reset.time with ns := 1000000000 } }
theorem test_premise_start_confirm :
    confirming.boot.since = some 0 ∧ confirming.silent = false ∧ confirming.blkState Head.boot = 1 ∧ 0 + 4000 ≤ confirming.beat ∧ confirming.activeSlot < 2 := by
  decide +kernel

/-! Starts -/

/-- Reset with a start due in this beat, of a kind. -/
def startDue (kind : Nat) : State := { State.reset with boot := { State.reset.boot with due := some (0, kind, false) } }
theorem test_premise_starts :
    (seamWith (fun m => { m with pf := some .held })).seam.pf = some .held ∧
    (∀ kind ∈ [2, 3, 4], (startDue kind).boot.due = some (0, kind, false) ∧ 0 ≤ (startDue kind).beat) := by decide +kernel
theorem test_reset_n : (after .resetNAssert State.reset).boot.held = true ∧ (after .resetNAssert State.reset).seam.pf = none := by decide +kernel
/-- Fail-silent since beat 0, in beat 4,000, AUTO_RESTART set. -/
def silentLong : State :=
  { State.reset.setRg Reg.SAFETY_CTRL 1 with
    safety := { State.reset.safety with silentSince := some 0 }
    time := { State.reset.time with ns := 1000000000 } }
theorem test_premise_auto_restart :
    silentLong.safety.silentSince = some 0 ∧ 0 + 4000 ≤ silentLong.beat ∧ silentLong.fld Reg.SAFETY_CTRL 0 0 = 1 ∧ silentLong.boot.held = false ∧
    silentLong.seam.pf = none := by decide +kernel
/-- A start at step 9 with VHOLD_OK and VALID. -/
def atStep9 : State :=
  { (State.reset.setRg Reg.PWR_STATUS 8).setRg Reg.DT_STATUS 0x20 with boot := { State.reset.boot with waiting := some false } }
theorem test_premise_start_enable :
    atStep9.boot.waiting = some false ∧ atStep9.silent = false ∧ atStep9.stump = false ∧ atStep9.fld Reg.PWR_STATUS 3 3 = 1 ∧ atStep9.fld Reg.DT_STATUS 5 5 = 1 := by
  decide +kernel

/-! Faults -/

theorem test_premise_fault : State.reset.safety.kept.length < 8 ∧ State.reset.safety.ring = [] ∧ State.reset.silent = false := by decide +kernel
theorem test_fault_enters_log :
    (after (.faultDetected [faultOf 12]) State.reset).safety.newest.map (·.cls) = some 12 ∧
    (after (.faultDetected [faultOf 1]) State.reset).safety.newest.map (·.cls) = some 1 := by decide +kernel
theorem test_fault_silences : State.reset.reaction (faultOf 1) = 3 ∧ (after (.faultDetected [faultOf 1]) State.reset).silent = true := by decide +kernel
theorem test_watchdog : (after (.engineWatchdogExpire (.be 1) true true true) State.reset).safety.newest.map (·.cls) = some 3 := by decide +kernel
theorem test_clock_loss : (after .clockLoss State.reset).fld Reg.CLK_STATUS 4 4 = 1 ∧ (after .clockLoss State.reset).fld Reg.CLK_STATUS 1 0 = 0 := by decide +kernel
theorem test_safety_ctrl :
    Reaches (opened Head.safety State.reset) Reg.SAFETY_CTRL ∧
    (after (.safetyCtrlWrite .pcie 1 true true true) (opened Head.safety State.reset)).fld Reg.SAFETY_CTRL 0 0 = 1 := by unfold Reaches; decide +kernel

/-! Backup -/

/-- The backup domain with writes waiting, after register writes. -/
def backup (f : BackupState → BackupState) (regs : List (Nat × Word) := []) : State :=
  (regs.foldl (fun s x => s.setRg x.1 x.2) State.reset).modBk f
theorem test_bk_tick :
    (after (.bkTick true) (backup (fun b => { b with cnt := 2 ^ 48 - 1, writes := [] }))).bk.cnt = 0 ∧ (backup (fun b => { b with writes := [] })).bk.writes = [] := by
  decide +kernel
theorem test_bk_cnt_set :
    (after (.bkCntSet true) (backup (fun b => { b with writes := [(Reg.BK_CNT_LO, 5), (Reg.BK_CNT_HI, 0x1FFFF)] }))).bk.cnt = 5 + 2 ^ 32 * 0xFFFF := by
  decide +kernel
theorem test_bk_alarm :
    0 < tickDiff ((State.reset.rg Reg.BK_ALARM_LO).toNat + 2 ^ 32 * wbits 1 15 0) ((State.reset.bk.cnt + 1) % 2 ^ 48) ∧
    (after (.bkAlarmArm true) (backup (fun b => { b with writes := [(Reg.BK_ALARM_HI, 1)] }))).bkBit 2 = true ∧
    (after (.bkAlarmDisarm true) (backup (fun b => { b with writes := [(Reg.BK_ALARM_CTRL, 2)] }) [(Reg.BK_STATUS, 4)])).bkBit 2 = false := by decide +kernel
theorem test_pwr_on :
    (after (.pwrAssert true) (backup (fun b => { b with writes := [(Reg.BK_PWR, 1)] }))).bkBit 5 = true ∧
    (after (.pwrRelease true) (backup (fun b => { b with writes := [(Reg.BK_PWR, 2)], wakeReady := false }) [(Reg.BK_STATUS, 0x20)])).bkBit 5 = false := by
  decide +kernel
/-- The alarm armed for the next count. -/
def alarmNext : State := backup (fun b => { b with cnt := 4, writes := [] }) [(Reg.BK_ALARM_LO, 5), (Reg.BK_STATUS, 4)]
theorem test_alarm_reached :
    alarmNext.bkBit 2 = true ∧ (alarmNext.bk.cnt + 1) % 2 ^ 48 = alarmNext.alarmCount ∧ (after (.alarmReached true) alarmNext).fld Reg.BK_ALARM_CTRL 5 4 = 1 := by
  decide +kernel
/-- WAKE_IN sampled low 32 times. -/
def wakeNext : State := backup (fun b => { b with writes := [], wakeLow := 32, wakeReady := true }) [(Reg.BK_PWR, 0x10)]
theorem test_wake_in :
    wakeNext.fld Reg.BK_PWR 4 4 = 1 ∧ wakeNext.bk.wakeReady = true ∧ wakeNext.safety.silentSince = none ∧ (after .wakeIn wakeNext).fld Reg.BK_WAKE_CAUSE 1 1 = 1 := by
  decide +kernel
/-- PWR_ON asserted for PULSE_MS = 1. -/
def pulseOver : State := backup (fun b => { b with since := 33 }) [(Reg.BK_PWR, 0x10000), (Reg.BK_STATUS, 0x20)]
theorem test_pulse_end :
    pulseOver.bkBit 5 = true ∧ pulseOver.fld Reg.BK_PWR 3 3 = 0 ∧ pulseOver.fld Reg.BK_PWR 25 16 * 32768 ≤ pulseOver.bk.since * 1000 ∧
    (after .pwrOnPulseEnd pulseOver).bkBit 5 = false := by decide +kernel
theorem test_xt_stopped :
    (backup (fun b => { b with xtRuns := true })).bk.xtRuns = true ∧ (after .xtStopped (backup (fun b => { b with xtRuns := true }))).bkBit 1 = true := by
  decide +kernel
/-- A whole second with SNAP_EN. -/
def snapNow : State := { State.reset.setRg Reg.RTC_CFG 0x10000 with time := { State.reset.time with ns := 1000000000 } }
theorem test_rtc_snapshot : snapNow.fld Reg.RTC_CFG 16 16 = 1 ∧ (after .rtcSnapshot snapNow).rg Reg.RTC_SNAP_NS_LO = 1000000000 := by decide +kernel
theorem test_backup_por : (after .backupPor (backup id [(Reg.BK_REG 15, 9)])).rg (Reg.BK_REG 15) = 0 := by decide +kernel

/-! ### Network time -/

/-- TIME with base 3 in a state of TB_STATUS. -/
def baseIn (st : Nat) : State := State.reset.setRg (Reg.TB_STATUS 3) (BitVec.ofNat 32 st)
theorem test_premise_jump :
    (baseIn 2).time.bases.length = 4 ∧ (baseIn 2).baseState 3 = 2 ∧ (baseIn 2).jumpLimit < absR (-1001) ∧ (baseIn 2).jumpLimit < absR (1001) ∧
    ¬ (baseIn 2).jumpLimit < absR 1000 := by decide +kernel
/-- TIME_SET with the last nanosecond; TOD_SET; BASE_REACQUIRE of base 3; UTC_SET with a leap second. -/
def timeSetReq : OctahReq := ask 0x0B01 (leBytes 6 5 ++ [0, 0] ++ leBytes 4 999999999)
def todReq : OctahReq := ask 0x0B02 (leBytes 6 9 ++ [0, 0])
def reacquireReq : OctahReq := ask 0x0B03 [3, 0, 0, 0]
def utcReq : OctahReq := ask 0x0B05 [37, 0, 2, 0]
/-- Base 0 takes its time from a source (TB_CFG). -/
def baseFrom (src : Nat) : State := State.reset.setRg (Reg.TB_CFG 0) (BitVec.ofNat 32 src)
theorem test_time_read : ended (.timeRead (ask 0x0B00 [])) State.reset = (.done, 0) := by decide +kernel
theorem test_premise_ptp_dataset :
    OctahReady 0x0B04 false (ask 0x0B04 [0, 5, 0, 0]) (baseFrom 1) ∧ Pkt.length (ask 0x0B04 [0, 5, 0, 0]).packet = 4 ∧ (baseFrom 1).baseSource 0 = 1 := by
  unfold OctahReady; decide +kernel
theorem test_premise_time_set :
    OctahReady 0x0B01 false timeSetReq State.reset ∧ Pkt.length timeSetReq.packet = 12 ∧ natAt timeSetReq.pl 8 4 < 1000000000 ∧
    natAt timeSetReq.pl 6 2 = 0 ∧ State.reset.stopped = true := by unfold OctahReady; decide +kernel
theorem test_time_set : (after (.timeSet timeSetReq) State.reset).time.ns = 5999999999 := by decide +kernel
theorem test_premise_tod_set :
    OctahReady 0x0B02 false todReq (baseFrom 2) ∧ Pkt.length todReq.packet = 8 ∧ natAt todReq.pl 6 2 = 0 ∧ ((baseFrom 2).baseWith 2).isSome = true := by
  unfold OctahReady; decide +kernel
theorem test_premise_reacquire :
    ∀ st ∈ [2, 3], OctahReady 0x0B03 false reacquireReq (baseIn st) ∧ Pkt.length reacquireReq.packet = 4 ∧ natAt reacquireReq.pl 0 1 = 3 ∧
      natAt reacquireReq.pl 1 3 = 0 ∧ (baseIn st).time.bases.length = 4 ∧ (baseIn st).baseState 3 = st := by unfold OctahReady; decide +kernel
theorem test_reacquire : (after (.baseReacquire reacquireReq) (baseIn 2)).baseState 3 = 1 := by decide +kernel
theorem test_premise_utc_set :
    OctahReady 0x0B05 false utcReq State.reset ∧ Pkt.length utcReq.packet = 4 ∧ natAt utcReq.pl 2 1 = 2 ∧ natAt utcReq.pl 3 1 = 0 ∧
    ∀ n < 4, State.reset.baseState n ≠ 2 := by unfold OctahReady; decide +kernel

/-- Base 3 runs PTP on port 1; peer delay where asked (TB_CFG[19:18] = 1). -/
def ptpState (p2p : Bool) (f : PtpPort → PtpPort) : State :=
  let s := (((baseIn 2).setRg (Reg.TB_CFG 3) (if p2p then 0x40001 else 1)).setRg (Reg.PORT_CFG 1) 1).setRg Reg.PTP_CLK 1
  { s with time := { s.time with ports := modifyNth f 7 s.time.ports } }
/-- A message on it; with its sequence number, its origin stamp in ns, and two-step. -/
def ptpMsg (twoStep : Bool) (stamp : Nat) : PtpMsg :=
  { port := 1, base := 3, seq := 65535, source := [], twoStep := twoStep, stampNs := stamp, corr := 2, rxQ := 400 }
theorem test_premise_ptp :
    ∀ p2p ∈ [false, true], (ptpState p2p id).time.ports.length = 8 ∧ (ptpState p2p id).time.bases.length = 4 ∧ (ptpState p2p id).ptpOn 3 1 = true ∧
      (ptpState p2p id).silent = false ∧ (ptpState p2p id).ptpP2P 3 = p2p ∧ (ptpState p2p id).baseState 3 = 2 := by decide +kernel
/-- A port in SLAVE with a two-step Sync waiting. -/
def ptpSlave : State := ptpState false (fun p => { p with state := 9, sync := some (65535, [], 100, 1), lastSync := some (10, 20), delayReq := some (65535, 30) })
theorem test_premise_ptp_slave :
    (ptpSlave.ptpPort 3 1).sync = some ((ptpMsg false 2000).seq, (ptpMsg false 2000).source, 100, 1) ∧ (ptpSlave.ptpPort 3 1).state = 9 ∧
    (ptpSlave.ptpPort 3 1).delayReq = some (65535, 30) ∧ (ptpSlave.ptpPort 3 1).lastSync = some (10, 20) ∧
    ptpSlave.jumpLimit < absR (((2000 : Nat) : Rat) + (1 + 2) + ptpSlave.portAsym 1 + (ptpSlave.ptpPort 3 1).path - 100) := by decide +kernel
/-- A port in MASTER. -/
def ptpMaster : State := ptpState false (fun p => { p with state := 6 })
theorem test_premise_ptp_master : (ptpMaster.ptpPort 3 1).state = 6 ∧ ptpMaster.ptpP2P 3 = false := by decide +kernel
theorem test_ptp_master_tx : (after (.ptpMasterTx 3 1) ptpMaster).out.length = 3 := by decide +kernel
/-- A port that waits for its peer's answers. -/
def ptpPeer : State := ptpState true (fun p => { p with delayReq := some (65535, 30), pdelay := some (65535, 40, 60, 1) })
theorem test_premise_ptp_peer :
    (ptpPeer.ptpPort 3 1).delayReq = some ((ptpMsg true 50).seq, 30) ∧ (ptpPeer.ptpPort 3 1).pdelay = some ((ptpMsg true 50).seq, 40, 60, 1) ∧
    ptpPeer.ptpP2P 3 = true := by decide +kernel
theorem test_ptp_management : exec (.ptpManagement (ptpMsg true 0)) State.reset = .next State.reset := rfl

/-- A PPS_IN base (0) that is LOCKED, with a second set; PPS_OUT enabled with device time valid. -/
def ppsState : State :=
  let s := ((baseFrom 2).setRg (Reg.TB_STATUS 0) 2)
  { s with time := { s.time with tod := some 77 } }
def ppsOut : State := (State.reset.setRg Reg.PPS_CFG 1).setRg Reg.DT_STATUS 0x20
theorem test_premise_pps :
    ppsState.time.bases.length = 4 ∧ ppsState.baseWith 2 = some 0 ∧ ppsState.time.tod = some 77 ∧ ppsState.baseState 0 = 2 ∧
    ppsOut.fld Reg.PPS_CFG 0 0 = 1 ∧ ppsOut.fld Reg.DT_STATUS 5 5 = 1 ∧ ppsOut.silent = false := by decide +kernel
theorem test_tclk_limits :
    (after (.tclkInOkChange true (-(2 ^ 31))) State.reset).rg Reg.TCLK_IN_FREQ = 0x80000000 ∧
    (after (.tclkInOkChange false (2 ^ 31 - 1)) State.reset).rg Reg.TCLK_IN_FREQ = 0x7FFFFFFF := by decide +kernel
theorem test_reference_returns :
    (after .referenceClockReturn (State.reset.setRg Reg.CLK_STATUS 0x18)).rg Reg.CLK_STATUS = 0x0B := by decide +kernel
/-- A measurement of the RTC under way. -/
def rtcRunning : State := { State.reset with time := { State.reset.time with rtc := some { startBeat := 0, gate := 1 } } }
theorem test_premise_rtc : rtcRunning.time.bases.length = 4 ∧ rtcRunning.time.rtc = some { startBeat := 0, gate := 1 } := by decide +kernel
/-- Manual selection of base 2 with none selected yet (SEL_CTRL, DT_STATUS). -/
def chooseTwo : State := (State.reset.setRg Reg.SEL_CTRL 0x400).setRg Reg.DT_STATUS 4
theorem test_premise_choose : chooseTwo.time.bases.length = 4 ∧ chooseTwo.chooseBase = some 2 ∧ chooseTwo.selBase = none := by decide +kernel
theorem test_choose : (after .revertHoldExpire chooseTwo).selBase = some 2 := by decide +kernel

/-! ### Programs -/

/-- The small image in slot 31 (slot 0 empty), in a mode with a stop cause. -/
def slot31 (m : ProgMode) (cause : Nat) : State :=
  State.reset.modSlot 31 (fun x => { x with image := tinyImage, mode := m, cause := cause })
/-- DEBUG_EN and HOST_WR_EN of SCAN_CTRL. -/
def debug (s : State) : State := s.setRg Reg.SCAN_CTRL 3
/-- The mask of slot 31. -/
def m31 : List Byte := [0, 0, 0, 0x80]
def startReq (kind : Byte) : OctahReq := ask 0x0201 (m31 ++ [kind, 0, 0, 0] ++ leBytes 8 5)
def stopReq (abort : Byte) : OctahReq := ask 0x0202 (m31 ++ [abort, 0, 0, 0])
theorem test_premise_prog_start :
    ∀ kind ∈ [(0 : Byte), 2], let s := slot31 .stop 1
      OctahReady 0x0201 true (startReq kind) s ∧ Pkt.length (startReq kind).packet = 16 ∧ natAt (startReq kind).pl 4 1 = kind.toNat ∧
      natAt (startReq kind).pl 5 3 = 0 ∧ maskSlots (natAt (startReq kind).pl 0 4) = [31] ∧ s.scan.slots.length = 32 ∧ (s.slot 31).mode = .stop ∧
      Image.engine (s.image 31) ∉ s.scan.dead ∧ (s.slot 31).cause = 1 := by unfold OctahReady; decide +kernel
theorem test_prog_start : ((after (.progStart (startReq 0)) (slot31 .stop 1)).slot 31).req = some (8, .start 0) := by decide +kernel
theorem test_premise_prog_stop :
    ∀ m ∈ [ProgMode.run, .hold], ∀ a ∈ [(0 : Byte), 1], OctahReady 0x0202 true (stopReq a) (slot31 m 0) ∧ Pkt.length (stopReq a).packet = 8 ∧
      natAt (stopReq a).pl 5 3 = 0 ∧ natAt (stopReq a).pl 4 1 = a.toNat ∧ maskSlots (natAt (stopReq a).pl 0 4) = [31] ∧ ((slot31 m 0).slot 31).mode = m := by
  unfold OctahReady; decide +kernel
theorem test_prog_stop : ((after (.progStop (stopReq 0)) (slot31 .run 0)).slot 31).req = some (4, .stop) := by decide +kernel
theorem test_premise_prog_hold :
    OctahReady 0x0203 true (ask 0x0203 m31) (debug (slot31 .run 0)) ∧ (debug (slot31 .run 0)).debugEn = true ∧
    OctahReady 0x0204 true (ask 0x0204 m31) (slot31 .hold 0) ∧ OctahReady 0x0205 true (ask 0x0205 [31, 0, 0, 0]) (slot31 .hold 0) ∧
    maskSlots (natAt (ask 0x0203 m31).pl 0 4) = [31] ∧ ((debug (slot31 .run 0)).slot 31).mode = .run ∧ Pkt.length (ask 0x0204 m31).packet = 4 := by
  unfold OctahReady; decide +kernel
theorem test_prog_hold_resume_step :
    ((after (.progHold (ask 0x0203 m31)) (debug (slot31 .run 0))).slot 31).req = some (4, .hold) ∧
    ((after (.progResume (ask 0x0204 m31)) (slot31 .hold 0)).slot 31).req = some (4, .resume) ∧
    ((after (.progStep (ask 0x0205 [31, 0, 0, 0])) (slot31 .hold 0)).slot 31).req = some (4, .step) := by decide +kernel
theorem test_prog_list : answered (.progList (ask 0x0200 [])) (slot31 .hold 0) 4 = [0, 0, 0, 0] := by decide +kernel

/-- Breakpoint 7 at the last instruction of slot 31; all cleared. -/
def breakReq : OctahReq := ask 0x0206 [31, 7, 0, 0, 60, 0, 0, 0]
theorem test_premise_break :
    let s := debug (slot31 .run 0)
    OctahReady 0x0206 true breakReq s ∧ Pkt.length breakReq.packet = 8 ∧ natAt breakReq.pl 0 1 = 31 ∧ natAt breakReq.pl 1 1 = 7 ∧
    natAt breakReq.pl 2 2 = 0 ∧ natAt breakReq.pl 4 4 = 60 ∧ Image.codeLen (s.image 31) = 64 ∧ s.debugEn = true ∧ (s.slot 31).breaks.length = 8 ∧
    OctahReady 0x0207 true (ask 0x0207 [31, 0xFF, 0, 0]) s ∧ OctahReady 0x0207 true (ask 0x0207 [31, 7, 0, 0]) s := by unfold OctahReady; decide +kernel
theorem test_break : ((after (.breakSet breakReq) (debug (slot31 .run 0))).slot 31).breaks.getD 7 none = some 60 := by decide +kernel
/-- Symbol 7 (DINT in Q) forced to −1. -/
def forceReq : OctahReq := ask 0x0208 (leBytes 4 7 ++ leBytes 4 0 ++ leBytes 8 0xFFFFFFFF)
theorem test_premise_force :
    let s := slot31 .run 0
    OctahReady 0x0208 true forceReq s ∧ Pkt.length forceReq.packet = 16 ∧ natAt forceReq.pl 4 4 = 0 ∧ s.forceSlot (natAt forceReq.pl 0 4) = some 0 ∧
    (s.forceable (natAt forceReq.pl 0 4)).map (fun x => (x.1, x.2.area, valueFits x.2.type (natAt forceReq.pl 8 8))) = some (31, 1, true) ∧
    OctahReady 0x0209 true (ask 0x0209 (leBytes 4 7)) s ∧ OctahReady 0x020B false (ask 0x020B ([1, 0, 0, 0] ++ leBytes 4 7)) s ∧
    Pkt.length (ask 0x020B ([64, 0, 0, 0] ++ (List.replicate 64 (leBytes 4 7)).flatten)).packet = 4 + 4 * 64 := by unfold OctahReady; decide +kernel
theorem test_force_list : ended (.forceList (ask 0x020A [0xFF, 3, 0, 0])) State.reset = (.done, 0) ∧
    ended (.forceList (ask 0x020A [0, 4, 0, 0])) State.reset = (.failed, 3) := by decide +kernel
/-- The image with its symbol in area M and writable by the host. -/
def mImage : Image := (tinyImage.set 116 2).set 118 2
def mState : State := debug (State.reset.modSlot 31 (fun x => { x with image := mImage, mode := .run }))
def symReq : OctahReq := ask 0x020C ([1, 0, 0, 0] ++ leBytes 4 7 ++ [1, 0, 0, 0] ++ leBytes 8 0xFFFFFFFF)
theorem test_premise_sym_write :
    OctahReady 0x020C true symReq mState ∧ Pkt.length symReq.packet = 20 ∧ natAt symReq.pl 0 2 = 1 ∧ natAt symReq.pl 2 2 = 0 ∧ natAt symReq.pl 9 3 = 0 ∧
    (mState.symWritable (natAt symReq.pl 4 4)).map (fun x => (x.2.type == natAt symReq.pl 8 1, valueFits x.2.type (natAt symReq.pl 12 8))) = some (true, true) ∧
    mState.scan.hostQ.length < 256 := by unfold OctahReady; decide +kernel
theorem test_premise_image_write :
    mState.boot.held = false ∧ mState.seam.pf ≠ some .held ∧ mState.stump = false ∧ mState.owns = true ∧ mState.fld Reg.SCAN_CTRL 1 1 = 1 ∧
    (0x7FFFFC % 4 = 0 ∧ 0x7FFFFC < 0x800000) := by decide +kernel
theorem test_image_write :
    (after (.processImageWrite .pcie 0x7FFFFC 5) mState).scan.hostQ.map (·.ofs) = [0x1FFFFC] ∧
    (after (.processImageWrite .pcie 0x700000 5) mState).scan.hostQ.map (·.ofs) = [0x100000] := by decide +kernel

/-! Staging and exchange -/

/-- A staged package in a state of EXCH_STATUS, owned by the local host over quad-SPI. -/
def staged (st : BitVec 32) (g : Staging → Staging) : State :=
  ((debug State.reset).setRg Reg.EXCH_STATUS st).modStage (fun x => g { x with owner := some 0, path := 1 })
theorem test_premise_stage_open :
    OctahReady 0x020D true (ask 0x020D (leBytes 4 5767168 ++ List.replicate 36 0)) State.reset ∧ State.reset.scan.stage.owner = none ∧
    State.reset.exchState = 0 ∧ Pkt.length (ask 0x020D (leBytes 4 5767168 ++ List.replicate 36 0)).packet = 40 := by unfold OctahReady; decide +kernel
/-- The last byte of a package of 257. -/
def stageReq : OctahReq := ask 0x020E (leBytes 4 256 ++ leBytes 4 0 ++ [9])
theorem test_premise_stage_write :
    let s := staged 1 (fun g => { g with len := 257 })
    OctahReady 0x020E false stageReq s ∧ 8 < Pkt.length stageReq.packet ∧ natAt stageReq.pl 0 4 % 256 = 0 ∧ natAt stageReq.pl 4 4 = 0 ∧
    natAt stageReq.pl 0 4 + (Pkt.length stageReq.packet - 8) = s.scan.stage.len ∧ s.exchState = 1 ∧ s.ownsStage stageReq = true := by
  unfold OctahReady; decide +kernel
theorem test_stage_write : (after (.stageWrite stageReq) (staged 1 (fun g => { g with len := 257 }))).scan.stage.units = [1] := by decide +kernel
/-- A package without a program for a device without one: its header, with the digest of the empty set. -/
def emptyPkg : Mem :=
  [(0, 0x53), (1, 0x45), (2, 0x50), (3, 0x4B), (4, 1)] ++ (setDigest State.reset.images).mapIdx (fun k b => (16 + k, b)) ++ [(48, 64)]
def emptyStaged : State := staged 1 (fun g => { g with len := 320, data := emptyPkg, units := [0, 1], digest := shake (Mem.getN emptyPkg 0 320) 32 })
theorem test_premise_stage_check :
    OctahReady 0x020F false (ask 0x020F []) emptyStaged ∧ emptyStaged.ownsStage (ask 0x020F []) = true ∧ emptyStaged.scan.stage.unitCount = 2 ∧
    emptyStaged.scan.stage.units = [0, 1] ∧ emptyStaged.exchState = 1 ∧ emptyStaged.stageAgreed = true := by unfold OctahReady; decide +kernel
set_option maxRecDepth 100000 in
theorem test_premise_stage_passes : emptyStaged.pkgRefuse = none := by
  have h1 : shake emptyStaged.scan.stage.bytes 32 = emptyStaged.scan.stage.digest := rfl
  have h2 : bytesAt emptyStaged.scan.stage.bytes 0x10 32 = setDigest emptyStaged.images := rfl
  have h3 : natAt emptyStaged.scan.stage.bytes 0 4 = 0x4B504553 ∧ natAt emptyStaged.scan.stage.bytes 4 2 = 1 := by decide +kernel
  have h4 : setOk (pkgImages emptyStaged.scan.stage.bytes) = true := by decide +kernel
  have h5 : (List.range 32).all (fun p => bit (pkgMask emptyStaged.scan.stage.bytes) p || (pkgImages emptyStaged.scan.stage.bytes).getD p [] == emptyStaged.image p) =
      true := by decide +kernel
  have h6 : natAt emptyStaged.scan.stage.bytes 0x38 4 = 0 ∧ natAt emptyStaged.scan.stage.bytes 0x3C 4 = 0 ∧
      ((pkgMigr emptyStaged.scan.stage.bytes).map (·.len)).sum = 0 := by decide +kernel
  have h7 : migrOk emptyStaged.images (pkgImages emptyStaged.scan.stage.bytes) (pkgMask emptyStaged.scan.stage.bytes) (pkgMigr emptyStaged.scan.stage.bytes) =
      true := by decide +kernel
  simp only [State.pkgRefuse, h1, h2, h3.1, h3.2, h4, h5, h6.1, h6.2.1, h6.2.2, h7]
  simp
/-- A package that adds the small image in slot 31: its mask, the directory at 64 and the image at 320. -/
def addPkg : Mem :=
  [(0, 0x53), (1, 0x45), (2, 0x50), (3, 0x4B), (4, 1), (11, 0x80), (48, 64), (312, 64), (313, 1), (316, 152)] ++ tinyImage.mapIdx (fun k b => (320 + k, b))
def addStaged (st : BitVec 32) (g : Staging → Staging) : State := staged st (fun x => g { x with len := 472, data := addPkg })
/-- EXCHANGE at the first beat R144 allows: 8. -/
def exchReq : OctahReq := ask 0x0210 (leBytes 8 8 ++ m31 ++ m31)
theorem test_premise_exchange :
    let s := addStaged 2 id
    OctahReady 0x0210 false exchReq s ∧ Pkt.length exchReq.packet = 16 ∧ s.ownsStage exchReq = true ∧ s.exchState = 2 ∧
    s.beat + 8 = natAt exchReq.pl 0 8 ∧ natAt exchReq.pl 8 4 = pkgMask s.scan.stage.bytes ∧ maskSlots (natAt exchReq.pl 8 4) = [31] ∧
    (pkgImages s.scan.stage.bytes).getD 31 [] = tinyImage ∧ (s.slot 31).mode = .empty ∧ s.image 31 = [] ∧ schedAt tinyImage 8 = true ∧
    maskSlots (natAt exchReq.pl 12 4) = [31] := by unfold OctahReady; decide +kernel
theorem test_exchange : (after (.exchange exchReq) (addStaged 2 id)).exchState = 3 := by decide +kernel
theorem test_premise_discard :
    OctahReady 0x0211 false (ask 0x0211 []) (addStaged 2 id) ∧ (addStaged 2 id).scan.stage.armed = none ∧ (addStaged 2 id).exchState = 2 := by
  unfold OctahReady; decide +kernel
/-- Armed for the next beat. -/
def armedNext : State := addStaged 3 (fun g => { g with armed := some (1, 0x80000000, 0, 7) })
theorem test_premise_migrate :
    armedNext.scan.stage.armed = some (1, 0x80000000, 0, 7) ∧ armedNext.scan.stage.migrated = false ∧ armedNext.exchState = 3 ∧
    armedNext.beat + 1 = 1 ∧ armedNext.role ≠ Role.pairMember ∧ bit 0x80000000 31 = true ∧ armedNext.scan.slots.length = 32 := by decide +kernel
theorem test_migrate : (after .exchangeMigrate armedNext).image 31 = tinyImage := by decide +kernel
theorem test_exchange_status : ended (.exchangeStatus (ask 0x0212 [0, 0, 0, 0])) armedNext = (.done, 0) := by decide +kernel

/-! Loops -/

/-- LOOP_CTRL.HOST_WR_EN set; loop 1023. -/
def loopOpen : State := State.reset.setRg Reg.LOOP_CTRL 1
def l1023 : List Byte := [0xFF, 3]
/-- MODE MANUAL with a first output; MODE 3 of a loop with a cascade; one parameter word, the last. -/
def modeReq (m : Byte) : OctahReq := ask 0x0302 (l1023 ++ [m, 1, 0, 0, 0x80, 0x3F])
def paramReq (k : Nat) (v : Nat) : OctahReq := ask 0x0303 (l1023 ++ [0, 0] ++ leBytes 4 (2 ^ k) ++ leBytes 4 v)
def cascadeLoop : State := { State.reset with loop := { State.reset.loop with blocks := Mem.putN [] (256 * 1023) [0, 4] } }
theorem test_premise_loop_commands :
    OctahReady 0x0301 false (ask 0x0301 (l1023 ++ [0, 0])) State.reset ∧ natAt (ask 0x0301 (l1023 ++ [0, 0])).pl 0 2 = 1023 ∧
    OctahReady 0x0302 true (modeReq 2) State.reset ∧ f32.finite (natAt (modeReq 2).pl 4 4) = true ∧ State.reset.loopDead 1023 = false ∧
    cascadeLoop.lbits 1023 0 11 10 = 1 ∧ natAt (modeReq 3).pl 2 1 = 3 ∧ natAt (modeReq 3).pl 3 1 = 1 ∧
    OctahReady 0x0304 true (ask 0x0304 (l1023 ++ [0, 0])) State.reset := by unfold OctahReady; decide +kernel
theorem test_premise_loop_params :
    ∀ x ∈ [(0, 0), (15, 0x3F800000), (16, 5), (23, 0)], let r := paramReq x.1 x.2
      OctahReady 0x0303 true r State.reset ∧ Pkt.length r.packet = 12 ∧ natAt r.pl 4 4 < 2 ^ 24 ∧ paramWords r.pl = [(4 * x.1, BitVec.ofNat 32 x.2)] ∧
      loopWordOk (4 * x.1) (BitVec.ofNat 32 x.2) = true ∧ State.reset.loopRelations 1023 [(4 * x.1, BitVec.ofNat 32 x.2)] = true ∧
      State.reset.modeSel 1023 < 2 := by unfold OctahReady; decide +kernel
theorem test_loop_list : ended (.loopList (ask 0x0300 [0, 3, 0, 1])) State.reset = (.done, 0) ∧
    ended (.loopList (ask 0x0300 [1, 3, 0, 1])) State.reset = (.failed, 3) := by decide +kernel
theorem test_premise_loop_window :
    (∀ a ∈ [8, 1023 * 256 + 0x3C], a < 0x40000 ∧ loopWindowWord (a % 256) = true ∧ loopWordOk (a % 256) 1000 = true) ∧
    loopOpen.boot.held = false ∧ loopOpen.seam.pf ≠ some .held ∧ loopOpen.stump = false ∧ loopOpen.owns = true ∧
    loopOpen.fld Reg.LOOP_CTRL 0 0 = 1 ∧ loopOpen.loop.winQ.length = 0 := by decide +kernel
theorem test_loop_window : (after (.loopWindowWrite .qspi (0x500000 + 1023 * 256 + 0x3C) 7) loopOpen).loop.winQ = [(1023 * 256 + 0x3C, 7)] := by
  decide +kernel
/-- Loops 5 and 6 late. -/
def lateLoops : State := { State.reset with loop := { State.reset.loop with late := [5, 6] } }
theorem test_loop_late : lateLoops.loop.late ≠ [] ∧ (after .loopLate lateLoops).rg Reg.LOOP_LATE_CNT = 1 := by decide +kernel

/-! Deadlines and pulses -/

/-- Slot 31 in its last beat (K is 4) with a cycle not finished. -/
def overrunning (late : Bool) (image : Image) : State :=
  let s := State.reset.modSlot 31 (fun x => { x with image := image, mode := .run, cycle := some { cycleWith [] [] with late := late } })
  let s := s.setRg (Reg.status Head.frame) 0x20
  { s with frame := { s.frame with phase := .p1 }, time := { s.time with ns := 750000 } }
theorem test_premise_deadline :
    ∀ late ∈ [false, true], let s := overrunning late tinyImage
      (s.slot 31).cycle = some { cycleWith [] [] with late := late } ∧ (s.slot 31).suspended = false ∧ s.running = true ∧ s.frame.phase = .p1 ∧
      s.beat + 1 = 0 + Image.k (s.image 31) ∧ Image.overrunStop (s.image 31) = false ∧ s.scan.slots.length = 32 := by decide +kernel
theorem test_deadline :
    ((after (.programDeadline 31) (overrunning true tinyImage)).slot 31).mode = .stop ∧
    ((after (.programDeadline 31) (overrunning false tinyImage)).slot 31).cycle.map (·.f0) = some 4 := by decide +kernel
/-- Line 31 with its bank supplied, in a configuration. -/
def pulseLine (cfg : BitVec 32) : State :=
  { State.reset.setRg (Reg.LIO_PCFG 31) cfg with boot := { State.reset.boot with vio := 3 } }
theorem test_premise_pulse :
    ∀ cfg ∈ [1, 5, 0x25, 0x1025], (pulseLine (BitVec.ofNat 32 cfg)).fld (Reg.LIO_PCFG 31) 0 0 = 1 ∧
      (pulseLine (BitVec.ofNat 32 cfg)).fld (Reg.LIO_PCFG 31) 2 1 = (if cfg = 1 then 0 else 2) ∧
      filterNs ((pulseLine (BitVec.ofNat 32 cfg)).fld (Reg.LIO_PCFG 31) 4 3) = 0 := by decide +kernel
theorem test_premise_pulse_lines :
    (pulseLine 1).lio.fwd.length = 32 ∧ (pulseLine 1).lio.rev.length = 32 ∧ bit (pulseLine 1).boot.vio (31 / 24) = true := by decide +kernel
theorem test_pulse_direction :
    (after (.lioPulseEdge 31 true 0 true 0) (pulseLine 0x25)).lio.rev.getD 31 0 = 1 ∧
    (after (.lioPulseEdge 31 true 0 true 0) (pulseLine 0x1025)).lio.fwd.getD 31 0 = 1 := by decide +kernel

/-! ### Field buses -/

/-- Channel 7 enabled in a state; entry words and a frame of data where they stand. -/
def chan7 (st : Nat) : State := (State.reset.setRg (Reg.ctrl (Head.bus 7)) 1).setRg (Reg.status (Head.bus 7)) (BitVec.ofNat 32 (16 * st))
/-- Entry 4095 on channel 7: a host-writable scheduled TX entry with data of its own; entry 5: an RX entry of ident 0x123. -/
def entries (s : State) : State :=
  ((((s.setTw 5 0 0x80000123).setTw 5 4 7).setTw 4095 0 0x80000200).setTw 4095 4 0xCF).setTw 4095 8 0x100
/-- A configuration of one round (number 9, of one slot at its first beat) on channel 7 for entry 4095. -/
def oneRound : List Byte :=
  List.replicate 16 0 ++ [1, 0, 0, 0, 0x30, 0, 0, 0, 1, 0, 0, 0, 0x40, 0, 0, 0] ++ List.replicate 16 0 ++
  [7, 9, 0, 0, 0, 0, 1, 0, 4, 0, 0, 0, 0, 0, 0, 0] ++ [0xFF, 0x0F, 0, 0, 0, 0, 0, 0]
def bussed (s : State) (f : BusState → BusState) : State := { s with bus := f s.bus }
/-- That round open since this beat. -/
def inRound (s : State) : State := bussed (entries s) (fun b => { b with cfg := oneRound, rounds := [⟨7, 9, 0, 4⟩] })

theorem test_bus_status : ended (.busStatus (ask 0x0500 [7, 0, 0, 0])) State.reset = (.done, 0) ∧
    ended (.busStatus (ask 0x0500 [8, 0, 0, 0])) State.reset = (.failed, 3) := by decide +kernel
theorem test_premise_sched_read :
    OctahReady 0x0505 false (ask 0x0505 [7, 9, 0, 0]) (inRound (chan7 2)) ∧ Pkt.length (ask 0x0505 [7, 9, 0, 0]).packet = 4 ∧
    ((inRound (chan7 2)).roundRec 7 9).map (fun x => (x.first, x.slots)) = some (0, 1) := by unfold OctahReady; decide +kernel
theorem test_tally_find :
    answered (.tallyFind (ask 0x0506 ([7, 0, 0, 0] ++ leBytes 4 0x123))) (entries (chan7 2)) 2 = [5, 0] ∧
    answered (.tallyFind (ask 0x0506 ([7, 1, 0, 0] ++ leBytes 4 0x123))) (entries (chan7 2)) 2 = [0xFF, 0xFF] := by decide +kernel
def tallyReq : OctahReq := ask 0x0502 ([0xFF, 0x0F, 0, 0] ++ List.replicate 64 3)
theorem test_premise_tally :
    let s := entries (chan7 2)
    OctahReady 0x0501 false (ask 0x0501 [0xF1, 0x0F, 15, 0]) s ∧ 0xFF1 + 15 = 4096 ∧ natAt (ask 0x0501 [0xF1, 0x0F, 15, 0]).pl 0 2 = 0xFF1 ∧
    OctahReady 0x0502 true tallyReq s ∧ Pkt.length tallyReq.packet = 68 ∧ natAt tallyReq.pl 0 2 = 4095 ∧ natAt tallyReq.pl 2 2 = 0 ∧
    s.entryValid 4095 = true ∧ s.entryTx 4095 = true ∧ s.tf 4095 4 6 6 = 1 ∧ OctahReady 0x0503 false (ask 0x0503 [48, 0, 0, 0]) s ∧
    Pkt.length (ask 0x0503 [48, 0, 0, 0]).packet = 4 := by unfold OctahReady; decide +kernel
theorem test_premise_recover :
    OctahReady 0x0504 false (ask 0x0504 [7, 0, 0, 0]) ((chan7 4).setRg (Reg.FB_CTRL 7) 4) ∧ ((chan7 4).setRg (Reg.FB_CTRL 7) 4).chState 7 = 4 ∧
    ((chan7 4).setRg (Reg.FB_CTRL 7) 4).fld (Reg.FB_CTRL 7) 0 0 = 0 := by unfold OctahReady; decide +kernel
theorem test_recover : (after (.busRecover (ask 0x0504 [7, 0, 0, 0])) ((chan7 4).setRg (Reg.FB_CTRL 7) 4)).chState 7 = 5 := by decide +kernel
theorem test_premise_tally_window :
    let s := entries (chan7 2)
    s.entryValid 4095 = true ∧ s.boot.held = false ∧ s.seam.pf ≠ some .held ∧ s.stump = false ∧ s.owns = true ∧ s.bus.winQ.length < 256 := by decide +kernel
theorem test_tally_window :
    (after (.tallyWindowWrite .pcie (0x400000 + 256 * 4095 + 0x0C) 1) (entries (chan7 2))).bus.winQ = [(4095, 1)] ∧
    (after (.tallyWindowWrite .pcie (0x400000 + 256 * 4095 + 0x10) 1) (entries (chan7 2))).bus.winQ = [] := by decide +kernel

/-! What happens on a channel -/

theorem test_premise_channel :
    ∀ st ∈ [2, 3], (chan7 st).bus.chans.length = 8 ∧ (chan7 st).busOn 7 = true ∧ (chan7 st).silent = false ∧ (chan7 st).chLive 7 = true ∧
      (chan7 st).sendsOutputs = true ∧ (chan7 st).opMode 7 ≠ 1 ∧ (chan7 st).opMode 7 ≠ 2 := by decide +kernel
/-- A SYNC launched in this beat, with FOLLOW asked for. -/
def synced : State :=
  bussed ((inRound (chan7 2)).setRg (Reg.SYNC_CFG 7) 2) (fun b => { b with chans := modifyNth (fun c => { c with lastSync := some 0 }) 7 b.chans })
theorem test_premise_follow :
    synced.bus.rounds.find? (fun r => r.ch == 7 && r.start == synced.beat) = some ⟨7, 9, 0, 4⟩ ∧ synced.fld (Reg.SYNC_CFG 7) 1 1 = 1 ∧
    (synced.chan 7).syncFailed = false ∧ (synced.chan 7).lastSync = some synced.beat ∧ synced.chLive 7 = true ∧ synced.opMode 7 ≠ 1 := by decide +kernel
theorem test_premise_slot :
    let s := inRound (chan7 2)
    (s.roundRec 7 9).map (fun o => (o.slots, cfgSlot s.bus.cfg (o.first + 0))) = some (1, (4095, 0, 0)) ∧
    s.bus.rounds.find? (fun y => y.ch == 7 && y.round == 9) = some ⟨7, 9, 0, 4⟩ ∧ s.entryValid 4095 = true ∧ s.entryTx 4095 = true ∧
    s.entrySched 4095 = true ∧ s.tf 4095 8 8 8 = 1 ∧ 4095 ∉ s.bus.muted ∧ s.beat = 0 := by decide +kernel
theorem test_slot :
    ((after (.slotDue 7 9 0 false) (inRound (chan7 2))).chan 7).pend = [TxFrame.new (.entry 4095) 0 3 9] ∧
    ((after (.followDue 7) synced).chan 7).pend = [TxFrame.new .follow 0 3 9] := by decide +kernel
/-- The frame of entry 4095 on the bus, with its retries so far; FB_RETRY allows two of each. -/
def onWire (arb errs : Nat) : TxFrame := { TxFrame.new (.entry 4095) 0 3 9 with arb := arb, errs := errs }
def sending (arb errs : Nat) : State :=
  bussed ((inRound (chan7 2)).setRg (Reg.FB_RETRY 7) 0x202) (fun b => { b with chans := modifyNth (fun c => { c with pend := [onWire arb errs] }) 7 b.chans })
theorem test_premise_sending :
    ∀ n ∈ [1, 2], let s := sending n n
      s.onBus 7 = some (onWire n n) ∧ (onWire n n).what = .entry 4095 ∧ (s.chan 7).pend = [onWire n n] ∧ s.chLive 7 = true ∧ s.bus.mismatch = [] ∧
      s.tec 7 + 8 ≤ 255 ∧ s.fld (Reg.FB_RETRY 7) 3 0 = 2 ∧ s.fld (Reg.FB_RETRY 7) 11 8 = 2 ∧ s.mayStart 7 (onWire n n) 0 = true ∧
      s.mayStart 7 (onWire n n) (s.beat * 250000 + 1000000) = false := by decide +kernel
theorem test_arbitration :
    ((after (.arbitrationLost 7) (sending 1 0)).chan 7).pend = [onWire 2 0] ∧ ((after (.arbitrationLost 7) (sending 2 0)).chan 7).pend = [] ∧
    (after (.arbitrationLost 7) (sending 2 0)).tf 4095 8 15 12 = 1 := by decide +kernel
theorem test_error : ((after (.busError 7 .crc false true false) (sending 0 1)).chan 7).pend = [onWire 0 2] := by decide +kernel
theorem test_frame_sent : ((after (.busFrameTxDone 7 0 100000 200) (sending 0 0)).chan 7).pend = [] := by decide +kernel
theorem test_cutoff : (after (.roundCutoff 7 1000000) (sending 0 0)).tf 4095 8 15 12 = 3 := by decide +kernel
/-- A classical data frame of ident 0x123. -/
def frame123 : BusFrame := { ide := false, ident := 0x123, fdf := false, brs := false, esi := false, rtr := false, dlc := 2, data := [1, 2] }
theorem test_premise_receive :
    let s := entries (chan7 2)
    s.findEntry 7 frame123.ide frame123.ident = some 5 ∧ s.entryTx 5 = false ∧ s.tf 5 4 4 4 = b2n frame123.fdf ∧ s.tf 5 8 2 2 = 0 ∧ s.bus.mismatch = [] ∧
    frame123.rtr = false ∧ s.opMode 7 ≠ 2 := by decide +kernel
theorem test_receive : (after (.busFrameRx 7 frame123 0) (entries (chan7 2))).tbytes 5 0x20 4 = [1, 2, 0, 0] := by decide +kernel
theorem test_premise_res :
    (chan7 2).fld (Reg.FB_CTRL 7) 2 2 = 1 ∧ ((chan7 2).setRg (Reg.FB_CTRL 7) 0).fld (Reg.FB_CTRL 7) 2 2 = 0 := by decide +kernel
theorem test_receive_error :
    (after (.receiveError 7 .res false) (chan7 2)).chState 7 = 1 ∧ (after (.receiveError 7 .res true) ((chan7 2).setRg (Reg.FB_CTRL 7) 0)).rec_ 7 = 8 := by
  decide +kernel
theorem test_premise_alone : (chan7 4).busOn 7 = true ∧ ((chan7 4).setRg (Reg.FB_RETRY 7) 0x20000).fld (Reg.FB_RETRY 7) 23 16 = 2 ∧
    (((chan7 4).setRg (Reg.FB_RETRY 7) 0x20000).setRg (Reg.ALONE_RUN 7) 2).rg (Reg.ALONE_RUN 7) = 2 := by decide +kernel
/-- Integrating with TEC below and at 128. -/
def integrating (tec : Nat) : State := (chan7 1).setRg (Reg.FB_ERRCNT 7) (BitVec.ofNat 32 tec)
theorem test_integration :
    (integrating 127).chState 7 = 1 ∧ (integrating 128).tec 7 = 128 ∧ (after (.busIntegrationDone 7) (integrating 127)).chState 7 = 2 ∧
    (after (.busIntegrationDone 7) (integrating 128)).chState 7 = 3 := by decide +kernel
theorem test_recovery_done : (chan7 5).chState 7 = 5 ∧ (after (.busRecoveryDone 7) (chan7 5)).chState 7 = 2 := by decide +kernel
theorem test_txd_timeout : (chan7 2).fld (Reg.FB_CTRL 7) 4 3 = 0 ∧ ((after (.txdTimeout 7) (chan7 2)).chan 7).timedOut = true := by decide +kernel

/-! ### Dispatch -/

/-- A model of no variables and no rows, 48 steps, with a number of bindings in a table at 0x50 (kind 1: host data word 0 into q). -/
def modelBytes (binds : Byte) : List Byte :=
  [0x53, 0x45, 0x4D, 0x44, 1, 0, 48, 0] ++ List.replicate 16 0 ++ [0xA0, 0x0F, 0, 0, binds, 0, 0, 0] ++ List.replicate 36 0 ++
  [0x50, 0, 0, 0] ++ List.replicate 8 0 ++ [0, 0, 0, 0, 1, 0, 0, 0, 0, 0, 0x80, 0x3F, 0, 0, 0, 0]
/-- DISPATCH enabled with that model in a state, in a beat of FRAME RUNNING. -/
def dispatching (st binds : Nat) (f : DispState → DispState) : State :=
  let s := ((State.reset.setRg (Reg.ctrl Head.dispatch) 1).setRg (Reg.status Head.dispatch) (BitVec.ofNat 32 (16 * st))).setRg (Reg.status Head.frame) 0x20
  { s with disp := f { s.disp with model := modelBytes (BitVec.ofNat 8 binds) }, frame := { s.frame with latched := true } }
theorem test_disp_status : ended (.dispStatus (ask 0x0400 [])) (dispatching 1 0 id) = (.done, 0) := by decide +kernel
theorem test_disp_reads :
    let s := dispatching 1 1 id
    s.disp.model ≠ [] ∧
    ended (.dispDataRead (ask 0x0406 (leBytes 4 64536 ++ [0xE8, 3, 0, 0]))) s = (.done, 0) ∧
    ended (.planRead (ask 0x0407 ([1, 0] ++ leBytes 2 8191 ++ [1, 0, 0, 48]))) s = (.done, 0) ∧
    ended (.dispBindRead (ask 0x0409 [0, 0, 1, 0])) s = (.done, 0) ∧ ended (.dispLogRead (ask 0x040A [])) s = (.done, 0) := by decide +kernel
/-- The model with one variable. -/
def oneVar : State := dispatching 1 0 (fun d => { d with model := d.model.set 8 1 })
theorem test_disp_result_read : ended (.dispResultRead (ask 0x0408 ([0, 0, 0, 0] ++ leBytes 4 0 ++ [1, 0, 0, 0]))) oneVar = (.done, 0) := by decide +kernel
/-- DISP_PARAM_SET of the first two parameters: the largest ADMM_MAX and CG_MAX. -/
def dispParams : OctahReq := ask 0x0401 (leBytes 4 3 ++ leBytes 4 4000 ++ leBytes 4 64)
theorem test_premise_disp_params :
    let s := dispatching 1 0 id
    OctahReady 0x0401 true dispParams s ∧ Pkt.length dispParams.packet = 4 + 4 * (dispWords dispParams.pl).length ∧
    dispWords dispParams.pl = [(0, 4000), (1, 64)] ∧ (∀ x ∈ dispWords dispParams.pl, paramOk x.1 x.2 = true) ∧
    w2r (s.rg (Reg.ADMM_MAX + 4 * 7)) ≤ w2r (s.rg (Reg.ADMM_MAX + 4 * 9)) ∧ w2r (s.rg (Reg.ADMM_MAX + 4 * 8)) ≤ w2r (s.rg (Reg.ADMM_MAX + 4 * 10)) := by
  unfold OctahReady; decide +kernel
theorem test_disp_params : (after (.dispParamSet dispParams) (dispatching 1 0 id)).rg Reg.ADMM_MAX = 4000 := by decide +kernel
/-- DISP_SCHED_SET with the longest period and the longest delay. -/
def schedReq : OctahReq := ask 0x0402 ([1, 0, 0, 0] ++ leBytes 4 14400000 ++ leBytes 4 14399999 ++ leBytes 4 14400000)
theorem test_premise_disp_sched :
    ∀ st ∈ [1, 6], let s := dispatching st 0 id
      OctahReady 0x0402 true schedReq s ∧ Pkt.length schedReq.packet = 16 ∧ natAt schedReq.pl 0 1 = 1 ∧ natAt schedReq.pl 1 3 = 0 ∧
      natAt schedReq.pl 4 4 = 14400000 ∧ natAt schedReq.pl 8 4 < natAt schedReq.pl 4 4 ∧
      (s.rg Reg.VERIFY_LEAD).toNat + 4 ≤ natAt schedReq.pl 12 4 ∧ natAt schedReq.pl 12 4 = natAt schedReq.pl 4 4 ∧ s.blkState Head.dispatch = st := by
  unfold OctahReady; decide +kernel
/-- DISP_SOLVE at the first beat allowed and the first cut-over allowed. -/
def solveReq : OctahReq := ask 0x0403 (leBytes 8 4 ++ leBytes 8 (4 + (State.reset.rg Reg.VERIFY_LEAD).toNat + 4))
theorem test_premise_disp_solve :
    let s := dispatching 1 0 id
    OctahReady 0x0403 true solveReq s ∧ Pkt.length solveReq.packet = 16 ∧ s.beat + 4 = natAt solveReq.pl 0 8 ∧
    natAt solveReq.pl 0 8 + (s.rg Reg.VERIFY_LEAD).toNat + 4 = natAt solveReq.pl 8 8 ∧ s.fld Reg.DISP_SCHED 0 0 = 0 ∧ s.blkState Head.dispatch = 1 ∧
    s.enabled Head.dispatch = true ∧ s.disp.stopped = false ∧ s.disp.solve = none := by unfold OctahReady; decide +kernel
theorem test_disp_solve : (after (.dispSolve solveReq) (dispatching 1 0 id)).blkState Head.dispatch = 2 := by decide +kernel
/-- A solve in progress, with no iteration allowed; its candidate; the plan in use. -/
def solving : Solve :=
  { id := 9, start := 0, cut := 2, params := [1], snapshot := [], q := [], l := [], u := [], values := [], first := Iterate.zero 0 0, startNs := 0, endNs := 0 }
def planOf (id : Nat) : Plan := { solve := id, nsteps := 2, status := 1, origin := 0, stepBeats := 4, cells := [], lost := [] }
theorem test_premise_disp_abort :
    OctahReady 0x0404 true (ask 0x0404 []) (dispatching 2 0 (fun d => { d with due := some (4, 9, 1) })) ∧
    OctahReady 0x0404 true (ask 0x0404 []) (dispatching 3 0 (fun d => { d with solve := some solving })) ∧
    OctahReady 0x0404 true (ask 0x0404 []) (dispatching 4 0 (fun d => { d with solve := some solving, candidate := some (planOf 9) })) ∧
    (dispatching 3 0 (fun d => { d with solve := some solving })).beat + 2 = solving.cut := by unfold OctahReady; decide +kernel
theorem test_disp_abort :
    (after (.dispAbort (ask 0x0404 [])) (dispatching 3 0 (fun d => { d with solve := some solving }))).verdict = 4 ∧
    (after (.dispAbort (ask 0x0404 [])) (dispatching 4 0 (fun d => { d with solve := some solving, candidate := some (planOf 9) }))).verdict = 6 := by
  decide +kernel
/-- DISP_DATA_WRITE of the last word. -/
def dataReq : OctahReq := ask 0x0405 (leBytes 4 65535 ++ [1, 0, 1, 0] ++ leBytes 4 0x3F800000)
theorem test_premise_data_write :
    let s := dispatching 1 0 id
    OctahReady 0x0405 true dataReq s ∧ natAt dataReq.pl 0 4 + natAt dataReq.pl 4 2 = 65536 ∧ natAt dataReq.pl 4 2 = 1 ∧
    Pkt.length dataReq.packet = 8 + 4 * natAt dataReq.pl 4 2 ∧ natAt dataReq.pl 6 1 = 1 ∧ natAt dataReq.pl 7 1 = 0 ∧
    (s.disp.hdQueue.map (fun w => w.values.length)).sum + natAt dataReq.pl 4 2 ≤ 4096 := by unfold OctahReady; decide +kernel
theorem test_data_write_long : Pkt.length (ask 0x0405 (leBytes 4 0 ++ leBytes 2 1000 ++ [0, 0] ++ List.replicate 4000 0)).packet = 8 + 4 * 1000 := by decide +kernel

/-! The life of a solve -/

/-- Due in this beat; with host data open for 401 beats. -/
def due (binds : Nat) (hd : Mem) (o : Option Nat) : State :=
  let s := dispatching 2 binds (fun d => { d with due := some (0, 900, 7), hostData := hd, hdOpen := o })
  { s with time := { s.time with ns := 401 * 250000 } }
theorem test_premise_solve_start :
    ∀ o ∈ [none, some 0], let s := due 1 [] o
      s.dispReady = true ∧ s.solveDue = some (0, 900, 7) ∧ s.disp.hdOpen = o ∧ 0 + 401 ≤ s.beat ∧ s.pair.bind = none ∧
      (Model.bindings s.disp.model).length = 1 ∧ ((Model.bindings s.disp.model).map s.bindSource).all f64.finite = true ∧
      (Model.bindings s.disp.model).all (fun x => !s.bindStale x) = true := by decide +kernel
theorem test_premise_solve_bounds :
    let s := due 1 [] none
    let bs := Model.bindings s.disp.model
    let vec := applyBindings bs (bs.map s.bindSource) (Model.words s.disp.model 0x38 (Model.n s.disp.model), Model.words s.disp.model 0x3C (Model.m s.disp.model),
      Model.words s.disp.model 0x40 (Model.m s.disp.model))
    (vec.2.1.zip vec.2.2).all (fun x => f32.le x.1.toNat x.2.toNat) = true := by decide +kernel
/-- A NaN as the bound value. -/
theorem test_premise_solve_nan :
    let s := due 1 [(2, 0xC0), (3, 0x7F)] none
    firstFail f64.finite ((Model.bindings s.disp.model).map s.bindSource) = some 0 ∧ s.dispReady = true := by decide +kernel
theorem test_solve_start : (after .solveStart (due 0 [] none)).disp.solve.map (fun v => (v.id, v.start, v.cut)) = some (7, 401, 900) := by decide +kernel
/-- Before and at the deadline of a solve. -/
def iteratingTo (cut : Nat) : State := dispatching 3 0 (fun d => { d with solve := some { solving with cut := cut } })
theorem test_premise_solve_end :
    (iteratingTo 900).iterating = some { solving with cut := 900 } ∧ (iteratingTo 900).beat + ({ solving with cut := 900 } : Solve).lead < 900 ∧
    (iteratingTo 0).iterating = some { solving with cut := 0 } ∧ 0 ≤ (iteratingTo 0).beat + ({ solving with cut := 0 } : Solve).lead ∧
    (solveFor (iteratingTo 900).disp.model solving.params solving.q solving.l solving.u solving.first (Params.at solving.params 0).toNat).ended = some (1, 0) := by
  decide +kernel
/-- One iteration is the last where ADMM_MAX is 1: whatever the model, the solve ends. -/
theorem test_solve_ends (model : List Byte) (params : Params) (q l u : Vec) (first : Iterate) (h : params.at 0 = 1) :
    ∃ e, (solveFor model params q l u first (params.at 0).toNat).ended = some e := by
  have h1 : (params.at 0).toNat = 1 := by rw [h]; rfl
  have hp : (Problem.make model params q l u).params = params := rfl
  simp only [h1, solveFor, DeRun.run, DeRun.step, Option.isSome_none, Bool.false_eq_true, if_false]
  split
  · exact ⟨_, rfl⟩
  · split
    · exact ⟨_, rfl⟩
    · rename_i hb
      simp [hp, h1, DeRun.suspect, DeRun.check]
      split <;> simp
/-- A candidate at its cut-over beat with a verdict. -/
def atCut (verdict : Nat) : State :=
  (dispatching 5 0 (fun d => { d with solve := some { solving with cut := 0 }, candidate := some (planOf 9), plan := some (planOf 8) })).setFld Reg.SOLVE_STATE 6 4 verdict
theorem test_premise_cutover :
    ∀ v ∈ [1, 2, 3, 5, 7], (atCut v).disp.solve = some { solving with cut := 0 } ∧ (atCut v).disp.candidate = some (planOf 9) ∧ (atCut v).beat = 0 ∧
      (atCut v).verdict = v ∧ (atCut v).blkState Head.pair ≠ 3 ∧ (atCut v).disp.copied = false := by decide +kernel
theorem test_cutover :
    (after .cutover (atCut 1)).rg Reg.PLAN_ID = 9 ∧ (after .cutover (atCut 7)).rg Reg.REJECT_CNT = 1 ∧ (after .cutover (atCut 5)).rg Reg.MISSED_CNT = 1 := by
  decide +kernel
/-- The plan in use (two steps of four beats) in a beat. -/
def inPlan (b : Nat) : State :=
  let s := dispatching 1 0 (fun d => { d with plan := some (planOf 8) })
  { s with time := { s.time with ns := b * 250000 } }
theorem test_premise_plan :
    (∀ b ∈ [4, 8], (inPlan b).disp.plan = some (planOf 8) ∧ (inPlan b).cutsNow = false ∧ (planOf 8).origin < (inPlan b).beat ∧
      ((inPlan b).beat - (planOf 8).origin) % (planOf 8).stepBeats = 0) ∧
    (inPlan 4).beat - 0 < 2 * 4 ∧ (inPlan 8).beat - (planOf 8).origin = (planOf 8).nsteps * (planOf 8).stepBeats := by decide +kernel
theorem test_plan_events :
    bit ((after .planStep (inPlan 4)).rg (Reg.evtRaw Head.dispatch)).toNat 6 = true ∧
    bit ((after .planFallback (inPlan 8)).rg (Reg.evtRaw Head.dispatch)).toNat 7 = true := by decide +kernel

/-! ### Metering and billing -/

/-- METER and THERM enabled with CAL_EN (and THERM_CTRL's REG_EN), METER in a state, in a beat; circuit 15 and meter 7 on. -/
def metering (st b : Nat) (f : MeterState → MeterState) : State :=
  let s := ((State.reset.setRg (Reg.ctrl Head.meter) 1).setRg (Reg.status Head.meter) (BitVec.ofNat 32 (16 * st))).setRg (Reg.ctrl Head.therm) 1
  let s := ((s.setRg Reg.METER_CTRL 1).setRg Reg.THERM_CTRL 3).setRg (Reg.CIR_CFG 15) 9
  let s := s.setRg (Reg.THP_CFG 7) 1
  { s with meter := f s.meter, time := { s.time with ns := b * 250000 } }
theorem test_meter_reads :
    let s := metering 2 4 id
    ended (.meterLatchRead (ask 0x0600 [15, 0, 0, 0])) s = (.done, 0) ∧ ended (.meterHarmRead (ask 0x0601 [15, 2, 64, 64])) s = (.done, 0) ∧
    ended (.meterHarmRead (ask 0x0601 [15, 2, 127, 1])) s = (.done, 0) ∧ ended (.meterEventRead (ask 0x0602 [0, 0, 0, 0, 64, 0, 0, 0])) s = (.done, 0) ∧
    ended (.thermLatchRead (ask 0x0610 [7, 0, 0, 0])) s = (.done, 0) ∧ ended (.thermCalRead (ask 0x0612 [15, 0, 0, 0])) s = (.done, 0) ∧
    (ended (.meterLatchRead (ask 0x0600 [14, 0, 0, 0])) s).1 = .failed := by decide +kernel
theorem test_premise_cal_read : OctahReady 0x0605 false (ask 0x0605 [31, 0, 0, 0]) State.reset ∧ Pkt.length (ask 0x0605 [31, 0, 0, 0]).packet = 4 := by
  unfold OctahReady; decide +kernel
/-- A finished capture of channel 31, of 65,536 samples. -/
def capDone : Capture := { mask := 0x80000000, count := 65536, start := 4, taken := List.replicate 32 [], done := true }
theorem test_premise_capture_read :
    let r := ask 0x0609 ([31, 0, 0, 0] ++ leBytes 4 64536 ++ leBytes 2 1000 ++ [0, 0])
    OctahReady 0x0609 false r (metering 2 4 (fun m => { m with capture := some capDone })) ∧ Pkt.length r.packet = 12 ∧ natAt r.pl 0 1 = 31 ∧
    natAt r.pl 1 3 = 0 ∧ natAt r.pl 10 2 = 0 ∧ bit capDone.mask (natAt r.pl 0 1) = true ∧ natAt r.pl 4 4 + natAt r.pl 8 2 = capDone.count := by
  unfold OctahReady; decide +kernel
/-- Billing record 15 and gap record 1 in their places. -/
def ringed : State :=
  seamWith (fun m => { m with sram := [(0x2900, 0x53), (0x2901, 0x45), (0x2902, 0x47), (0x2903, 0x50), (0x2904, 1), (0x2908, 1)] ++
    [(0x7B00, 0x53), (0x7B01, 0x45), (0x7B02, 0x42), (0x7B03, 0x4C), (0x7B04, 1), (0x7B08, 15)] })
theorem test_premise_records :
    (ringed.billNamed 15).map billSeq = some 15 ∧ (ringed.billNamed 0).map billSeq = some 15 ∧ (ringed.gapNamed 1).isSome = true ∧
    (ringed.gapNamed 0).isSome = true ∧ OctahReady 0x0617 false (ask 0x0617 (leBytes 4 15)) ringed ∧ OctahReady 0x0618 false (ask 0x0618 (leBytes 4 0)) ringed := by
  unfold OctahReady; decide +kernel
/-- METER_CAL_WRITE of all three words of channel 31, at a limit of the phase. -/
def calReq : OctahReq := ask 0x0603 ([31, 7, 0, 0] ++ leBytes 4 0x3F8CCCCD ++ leBytes 4 0 ++ leBytes 4 0xFFFFF800)
theorem test_premise_cal_write :
    let s := metering 2 5 id
    OctahReady 0x0603 false calReq s ∧ Pkt.length calReq.packet = 16 ∧ s.meter.chans.length = 32 ∧ natAt calReq.pl 0 1 = 31 ∧ natAt calReq.pl 1 1 = 7 ∧
    natAt calReq.pl 2 2 = 0 ∧ realIn (realAt calReq.pl 4) (9 / 10) (11 / 10) = true ∧ f32.finite (natAt calReq.pl 8 4) = true ∧
    sext 32 (natAt calReq.pl 12 4) = -2048 ∧ s.fld Reg.METER_CTRL 0 0 = 1 ∧ OctahReady 0x0604 false (ask 0x0604 (leBytes 4 0xFFFFFFFF)) s ∧
    OctahReady 0x0606 false (ask 0x0606 []) s ∧ OctahReady 0x0615 false (ask 0x0615 []) s := by unfold OctahReady; decide +kernel
/-- 2 beats ahead at least, on a quantum boundary. -/
theorem test_cal_beat : calBeat 5 = 8 ∧ calBeat 6 = 8 ∧ calBeat 7 = 12 := by decide +kernel
/-- A copy list of one record: the last word of the last circuit or meter. -/
def copyReq (op : Nat) (unit word : Byte) : OctahReq := ask op ([1, 0, 0, 0] ++ [unit, word, 1, 0] ++ leBytes 4 7 ++ leBytes 4 0)
theorem test_premise_copies :
    let s := metering 2 4 id
    OctahReady 0x0607 true (copyReq 0x0607 15 63) s ∧ Pkt.length (copyReq 0x0607 15 63).packet = 4 + 12 * natAt (copyReq 0x0607 15 63).pl 0 2 ∧
    copyArgs 256 16 64 (copyReq 0x0607 15 63).pl = none ∧ OctahReady 0x0614 true (copyReq 0x0614 7 31) s ∧
    Pkt.length (copyReq 0x0614 7 31).packet = 4 + 12 * natAt (copyReq 0x0614 7 31).pl 0 2 ∧ copyArgs 64 8 32 (copyReq 0x0614 7 31).pl = none := by
  unfold OctahReady; decide +kernel
/-- METER_CAPTURE of the most samples at the first beat allowed. -/
def captureReq : OctahReq := ask 0x0608 (leBytes 4 0x80000000 ++ leBytes 4 65536 ++ leBytes 8 8)
theorem test_premise_capture :
    ∀ c ∈ [none, some capDone], let s := metering 2 4 (fun m => { m with capture := c })
      OctahReady 0x0608 false captureReq s ∧ Pkt.length captureReq.packet = 16 ∧ natAt captureReq.pl 4 4 = 65536 ∧ s.beat + 4 = natAt captureReq.pl 8 8 ∧
      s.meter.capture = c := by unfold OctahReady; decide +kernel
theorem test_capture : (after (.meterCapture captureReq) (metering 2 4 id)).fld (Reg.status Head.meter) 1 1 = 1 := by decide +kernel
/-- THERM_CAL_WRITE of RTD 15 at its limit; a table of two rows; BILL_SAVE. -/
def rtdReq : OctahReq := ask 0x0611 ([15, 0, 0, 0] ++ leBytes 4 0xBF000000)
def tableReq : OctahReq := ask 0x0613 ([3, 2, 0, 0] ++ leBytes 4 0 ++ leBytes 8 0 ++ leBytes 4 0x3F800000 ++ leBytes 8 0)
theorem test_premise_therm :
    let s := metering 2 5 id
    OctahReady 0x0611 false rtdReq s ∧ Pkt.length rtdReq.packet = 8 ∧ natAt rtdReq.pl 0 1 = 15 ∧ s.meter.rtdNext.length = 16 ∧ natAt rtdReq.pl 1 3 = 0 ∧
    realIn (realAt rtdReq.pl 4) (-1 / 2) (1 / 2) = true ∧ s.fld Reg.THERM_CTRL 0 0 = 1 ∧ OctahReady 0x0613 false tableReq State.reset ∧
    Pkt.length tableReq.packet = 4 + 12 * natAt tableReq.pl 1 1 ∧ natAt tableReq.pl 0 1 = 3 ∧ natAt tableReq.pl 1 1 = 2 ∧ natAt tableReq.pl 2 2 = 0 ∧
    (∀ k < 2, rowOk (tableRows tableReq.pl) k = true) ∧ State.reset.enabled Head.therm = false ∧ State.reset.meter.tables.length = 4 ∧
    OctahReady 0x0616 true (ask 0x0616 []) s ∧ s.fld Reg.THERM_CTRL 1 1 = 1 ∧ s.meter.save = none ∧ s.meter.billAt = none := by
  unfold OctahReady; decide +kernel
theorem test_therm_cal : (after (.thermCalWrite rtdReq) (metering 2 5 id)).meter.rtdNext.getD 15 none = some (8, 0xBF000000) := by decide +kernel

/-! What happens in the ME -/

theorem test_premise_meter_tables :
    let s := metering 3 4 id
    s.meter.chans.length = 32 ∧ s.meter.circuits.length = 16 ∧ s.meter.therms.length = 8 ∧ s.meter.rtdUser.length = 16 ∧ s.meter.rtdNext.length = 16 ∧
    s.metersHere = true ∧ s.meterLive = true ∧ s.silent = false ∧ s.meter.booked < s.beat := by decide +kernel
theorem test_premise_resume :
    (metering 3 4 (fun m => { m with goodRun := 4 })).blkState Head.meter = 3 ∧ (metering 3 4 (fun m => { m with goodRun := 4 })).beat % 4 = 0 := by decide +kernel
/-- Channel 0 of circuit 15 last crossed at 1 ns, 10,000,000,000 / 425 ns before the end of the samples taken. -/
def crossed : State :=
  metering 2 96 (fun m => { m with taken := 96, chans := modifyNth (fun c => { c with validAt := some 470588 }) 0 m.chans })
theorem test_premise_no_sync :
    0 ∈ crossed.tracked ∧ (crossed.afe 0).validAt = some 470588 ∧ (crossed.afe 0).noSync = false ∧
    10000000000 ≤ 425 * (crossed.meter.taken * 250000 - 470588) ∧ ¬ 10000000000 ≤ 425 * (crossed.meter.taken * 250000 - 470589) ∧
    15 ∈ crossed.circuitsOn ∧ crossed.cirVa 15 = 0 := by decide +kernel
theorem test_no_sync : ((after (.noSyncTimeout 0) crossed).afe 0).noSync = true := by decide +kernel
/-- Accumulating, with the energy registers at their top. -/
def accumulating : State :=
  metering 2 8 (fun m => { m with acc := true, thermAcc := true, booked := 4
                                  circuits := modifyNth (fun c => { c with energy := List.replicate 6 (2 ^ 96 - 1) }) 15 m.circuits
                                  therms := modifyNth (fun c => { c with regs := List.replicate 5 (2 ^ 96 - 1) }) 7 m.therms })
theorem test_premise_quantum :
    let s := accumulating
    s.beat % 4 = 0 ∧ s.meter.booked < s.beat ∧ s.metersHere = true ∧ s.meterLive = true ∧ s.meter.acc = true ∧ 15 ∈ s.circuitsOn ∧
    (s.cir 15).energy.length = 6 ∧ (∀ e ∈ (s.cir 15).energy, e < 2 ^ 96) ∧ s.enabled Head.therm = true ∧ s.blkState Head.therm ≠ 4 ∧
    s.meter.thermAcc = true ∧ 7 ∈ s.thmsOn ∧ (s.thm 7).regs.length = 5 ∧ ∀ e ∈ (s.thm 7).regs, e < 2 ^ 96 := by decide +kernel
/-- Result sets due in this beat. -/
def readySets : State :=
  metering 2 4 (fun m => { m with circuits := modifyNth (fun c => { c with ready := [(4, List.replicate 51 9)] }) 15 m.circuits
                                  therms := modifyNth (fun c => { c with ready := [(4, List.replicate 32 8)] }) 7 m.therms })
theorem test_premise_publish :
    (readySets.cir 15).ready = [(4, List.replicate 51 9)] ∧ readySets.beat = 4 ∧ (readySets.cir 15).energy.length = 6 ∧
    (readySets.thm 7).ready = [(4, List.replicate 32 8)] ∧ readySets.metersHere = true ∧ readySets.meterLive = true ∧ readySets.blkState Head.therm ≠ 4 := by
  decide +kernel
theorem test_publish : (after .latchPublish readySets).rg (Reg.LATCH_SEQ 15) = 2 ∧ (after .thermLatchPublish readySets).thermWord 7 0 = 8 := by decide +kernel
/-- Calibration changes due in this beat. -/
def calDue : State :=
  metering 2 4 (fun m => { m with chans := modifyNth (fun c => { c with next := some (4, { gain := 1, ofs := 2, phase := -2048 }) }) 31 m.chans
                                  rtdNext := List.replicate 15 none ++ [some (4, 0x3F000000)] })
theorem test_premise_cal_due :
    (calDue.afe 31).next = some (4, { gain := 1, ofs := 2, phase := -2048 }) ∧ calDue.meter.rtdNext.getD 15 none = some (4, 0x3F000000) ∧ calDue.beat = 4 := by
  decide +kernel
/-- A capture of one sample of channel 31 that is complete. -/
def capFull : State :=
  metering 2 4 (fun m => { m with capture := some { mask := 0x80000000, count := 1, start := 0, taken := List.replicate 31 [] ++ [[1]], done := false } })
theorem test_premise_capture_done :
    capFull.meter.capture.map (fun c => (c.done, (List.range 32).all (fun n => !bit c.mask n || (c.taken.getD n []).length == c.count))) = some (false, true) := by
  decide +kernel
theorem test_capture_done : (after .captureDone capFull).meter.capture.map (·.done) = some true := by decide +kernel
theorem test_premise_no_flow : (metering 2 4 id).thmOn 7 = true ∧ (metering 2 4 id).lio.edges.getD ((metering 2 4 id).thmLio 7) 0 = 0 := by decide +kernel
theorem test_no_flow : ((after (.flowTimeout 7) (metering 2 4 id)).thm 7).noFlow = true := by decide +kernel
/-- A commanded save due in this beat, with a usable seal key in slot 255 or with none. -/
def billing (key : Bool) (f : MeterState → MeterState) : State :=
  let s := (metering 2 4 (fun m => f { m with billAt := some 4 })).setRg Reg.SEAL_SLOT 255
  if key then { s with keys := (keyState 2 0x20).keys } else s
theorem test_premise_bill_trigger :
    (billing true id).billTrigger = some (4, 2) ∧ (billing true id).fld Reg.THERM_CTRL 1 1 = 1 ∧ (billing true id).meter.save = none ∧
    (billing true id).sealRefused = none ∧ (billing false id).sealRefused = some 3 ∧ (billing true id).silent = false ∧
    (billing true (fun m => { m with save := some { b := 0, cause := 0, stored := false } })).meter.save = some { b := 0, cause := 0, stored := false } := by
  decide +kernel
theorem test_bill_trigger :
    (after .billSaveTrigger (billing true id)).meter.save = some { b := 4, cause := 2, stored := false } ∧
    (after .billSaveTrigger (billing false id)).rg Reg.SAVE_SKIP_CNT = 1 := by decide +kernel
/-- A save begun at the boundary before. -/
def saving : State := billing true (fun m => { m with save := some { b := 0, cause := 2, stored := false } })
theorem test_premise_snapshot :
    saving.meter.save = some { b := 0, cause := 2, stored := false } ∧ 0 < saving.beat ∧ saving.sealRefused = none ∧
    (saving.keySlot saving.sealSlot).limited = false ∧ saving.storing = false := by decide +kernel
/-- A gap record due. -/
def gapDue : State := metering 2 4 (fun m => { m with gapDue := true, acc := true })
theorem test_premise_gap : gapDue.meter.gapDue = true ∧ gapDue.meter.acc = true ∧ gapDue.silent = false := by decide +kernel

/-! ### Pair, banksman, cascade -/

/-- A unit of a role with the lease key in slot 255, PAIR_CFG with a lease of 10 beats and HB_MISS 2, FRAME RUNNING in a beat. -/
def unit (role : BitVec 32) (b : Nat) : State :=
  let s := ((State.reset.setRg Reg.DEV_CONFIG role).setRg Reg.PAIR_CFG 0xFF00040A).setRg (Reg.status Head.frame) 0x20
  { s with keys := (keyState 2 4).keys, time := { s.time with ns := b * 250000 } }
/-- A pair member in a state of PAIR. -/
def member (st b : Nat) (f : PairState → PairState) : State :=
  let s := ((unit 2 b).setRg (Reg.ctrl Head.pair) 1).setRg (Reg.status Head.pair) (BitVec.ofNat 32 (16 * st))
  { s with pair := f s.pair }
/-- A lease message: type, sender, BEAT, and the fields from 0x20 on; with its tag. -/
def leaseMsg (type sender b : Nat) (kind reason : Byte) (l epoch start stop : Nat) : List Byte :=
  let front := [0x53, 0x45, 0x42, 0x4B, 1] ++ leBytes 1 type ++ leBytes 1 sender ++ List.replicate 9 0 ++ leBytes 8 b ++ leBytes 4 1 ++ leBytes 4 0 ++
    [kind, reason] ++ leBytes 2 l ++ leBytes 4 epoch ++ leBytes 8 start ++ leBytes 8 stop ++ List.replicate 8 0
  front ++ (unit 2 0).leaseTag front
/-- What makes a message fresh. -/
theorem test_fresh (s : State) (m : List Byte) (acc : List (Nat × Nat × Nat))
    (h : m.length = 80 ∧ natAt m 0 4 = 0x4B424553 ∧ natAt m 4 1 = 1 ∧ s.leaseKeyOk = true ∧ bytesAt m 8 8 = s.pairName ∧
      acc.find? (fun x => x.1 == natAt m 6 1) = none) (ht : bytesAt m 64 16 = s.leaseTag m) : s.leaseFresh m acc = true := by
  simp [State.leaseFresh, h.1, h.2.1, h.2.2.1, h.2.2.2.1, h.2.2.2.2.1, h.2.2.2.2.2, ht]

/-! The banksman: TAKE of unit 0 in beat 100 with the shortest lease, and a handover to beat 200 of the longest. -/

/-- A banksman with what it keeps. -/
def banksman (f : Witness → Witness) : State :=
  let s := unit 5 0
  { s with pair := { s.pair with witness := f { s.pair.witness with quiet := none } } }
def takeMsg : List Byte := leaseMsg 1 0 100 1 0 4 0 0 0
def handMsg (h : Nat) : List Byte := leaseMsg 1 0 100 2 0 400 0 h 0
set_option maxRecDepth 100000 in
theorem test_premise_banksman_fresh : (banksman id).leaseFresh takeMsg [] = true := test_fresh _ _ _ (by decide +kernel) rfl
set_option maxRecDepth 100000 in
theorem test_premise_banksman_hand : (banksman id).leaseFresh (handMsg 200) [] = true := test_fresh _ _ _ (by decide +kernel) rfl
theorem test_premise_banksman :
    (banksman id).silent = false ∧ (banksman id).role = Role.witness ∧ natAt takeMsg 5 1 = 1 ∧ natAt takeMsg 0x20 1 = 1 ∧ natAt takeMsg 6 1 = 0 ∧
    natAt takeMsg 0x10 8 = 100 ∧ natAt takeMsg 0x22 2 = 4 ∧ natAt (handMsg 200) 0x20 1 = 2 ∧ natAt (handMsg 200) 0x28 8 = 200 ∧
    natAt (handMsg 200) 0x22 2 = 400 ∧ (banksman id).pair.witness.quiet = none ∧ (banksman id).pair.witness.accepted = [] ∧
    (banksman id).pair.witness.holder = none := by decide +kernel
/-- Held by unit 1 until after beat 100 with its last renewal 1 or 2 beats ago; held by the sender; in the quiet period, one beat before its end. -/
theorem test_premise_banksman_held :
    (∀ r ∈ [98, 99], let w := (banksman (fun w => { w with holder := some 1, stop := 101, lastRenew := r })).pair.witness
      w.holder = some 1 ∧ 100 < w.stop ∧ w.lastRenew = r ∧ w.quiet = none) ∧
    (banksman (fun w => { w with holder := some 1, stop := 100 })).pair.witness.stop ≤ 100 ∧
    (banksman (fun w => { w with holder := some 0, stop := 199 })).pair.witness.stop < 200 ∧
    (banksman (fun w => { w with quiet := some (none, 7) })).pair.witness.quiet = some (none, 7) ∧
    (banksman (fun w => { w with quiet := some (some 99, 7) })).pair.witness.quiet = some (some 99, 7) ∧ 100 < (some 99).getD 100 + 801 := by decide +kernel
theorem test_premise_banksman_stale : (banksman id).leaseFresh [] [] = false := by decide +kernel
theorem test_banksman_restart : (after .banksmanRestart (banksman (fun w => { w with holder := some 0 }))).pair.witness.holder = none := by decide +kernel

/-! Leases and handover -/

def grantMsg (to_ : Byte) : List Byte := leaseMsg 2 2 90 to_ 0 10 6 100 110
def heldMsg : List Byte := leaseMsg 3 2 90 0 1 0 0 0 0
set_option maxRecDepth 100000 in
theorem test_premise_grant_fresh : ∀ k ∈ [(0 : Byte), 1], (member 3 100 id).leaseFresh (grantMsg k) [] = true := by
  intro k hk
  simp only [List.mem_cons, List.mem_nil_iff, or_false] at hk
  rcases hk with rfl | rfl
  · exact test_fresh _ _ _ (by decide +kernel) rfl
  · exact test_fresh _ _ _ (by decide +kernel) rfl
set_option maxRecDepth 100000 in
theorem test_premise_refuse_fresh : (member 3 100 id).leaseFresh heldMsg [] = true := test_fresh _ _ _ (by decide +kernel) rfl
theorem test_premise_grant :
    let s := member 3 100 id
    s.silent = false ∧ s.inPair = true ∧ s.pairId = 0 ∧ s.pair.accepted = [] ∧ s.pair.handover = none ∧ s.pairOwner = false ∧ s.pairSt = Pair.standby ∧
    natAt (grantMsg 0) 6 1 = 2 ∧ natAt (grantMsg 0) 5 1 = 2 ∧ natAt (grantMsg 0) 0x20 1 = 0 ∧ natAt (grantMsg 1) 0x20 1 = 1 ∧ natAt heldMsg 5 1 = 3 ∧
    natAt heldMsg 0x20 1 = 0 ∧ natAt heldMsg 0x21 1 = 1 ∧ s.partnerLost = false ∧ (member 3 100 (fun p => { p with missed := 2 })).partnerLost = true := by
  decide +kernel
/-- An owner in beat 100 with its lease until a beat and consent until a beat. -/
def owner (st lease consent : Nat) (f : PairState → PairState) : State :=
  (member st 100 (fun p => f { p with peerConsent := consent })).setRg64 Reg.LEASE_END_LO lease
theorem test_premise_lease_end :
    (∀ st ∈ [1, 4], let s := owner st 100 100 id
      s.running = true ∧ s.inPair = true ∧ s.pairOwner = true ∧ s.leaseEnd = s.beat ∧ s.pair.peerConsent = s.beat) ∧
    (owner 4 101 0 id).beat < (owner 4 101 0 id).leaseEnd ∧ (owner 4 0 101 id).beat < (owner 4 0 101 id).pair.peerConsent := by decide +kernel
theorem test_lease_end :
    (after .leaseExpire (owner 4 100 100 id)).pairSt = Pair.joining ∧ (after .leaseExpire (owner 4 101 0 id)).pairSt = Pair.active := by decide +kernel
/-- h is this beat, or the next. -/
def hand (h : Nat) (known : Bool) : PairState → PairState := fun p => { p with handover := some { h := h, tag := none, known := known } }
theorem test_premise_handover_beat :
    ∀ k ∈ [false, true], let s := owner 4 101 0 (hand 100 k)
      s.pair.handover = some { h := 100, tag := none, known := k } ∧ s.beat = 100 ∧ s.pairOwner = true ∧ s.running = true ∧ s.inPair = true := by decide +kernel
theorem test_handover_beat :
    (after .handoverBeat (owner 4 101 0 (hand 100 true))).pairSt = Pair.standby ∧ (after .handoverBeat (owner 4 100 100 (hand 100 false))).pairSt = Pair.joining ∧
    (after .handoverBeat (owner 4 101 0 (hand 100 false))).pairSt = Pair.active := by decide +kernel
/-- A STANDBY unit with a notice for this beat (or the next) and a grant in force. -/
def noticed (h : Nat) : State := owner 3 0 0 (fun p => { p with notice := some (h, 90, false), grant := some (100, 101) })
theorem test_premise_notice :
    (noticed 100).pair.handover = none ∧ (noticed 100).pair.notice = some ((noticed 100).beat, 90, false) ∧ (noticed 100).pairSt = Pair.standby ∧
    (noticed 100).pair.grant = some (100, 101) ∧ (noticed 101).pair.notice = some ((noticed 101).beat + 1, 90, false) ∧ (noticed 101).frame.phase = .p0 ∧
    (noticed 101).leaseKeyOk = true ∧ ((noticed 101).keySlot (noticed 101).leaseSlot).limited = false ∧ (noticed 101).arbEn = false ∧
    (owner 4 101 0 (hand 101 false)).pair.handover = some { h := 101, tag := none, known := false } := by decide +kernel
theorem test_notice : (after .handoverBeat (noticed 100)).pairSt = Pair.active := by decide +kernel
theorem test_pair_reads :
    ended (.pairStatusRead (ask 0x0800 [])) (member 4 0 id) = (.done, 0) ∧ ended (.lampRead (ask 0x0804 [])) (member 4 0 id) = (.done, 0) ∧
    ended (.divLogRead (ask 0x0805 [])) (member 4 0 id) = (.done, 0) ∧ ended (.banksmanStatus (ask 0x0807 [])) (banksman id) = (.done, 0) := by decide +kernel
/-- An owner whose partner is STANDBY with PAIR_STATUS[5] set; PAIR_HANDOVER at the first and the last beat allowed. -/
def ready : State :=
  (owner 4 1000 0 (fun p => { p with hb := p.hb.set 0x18 3 })).setFld Reg.PAIR_STATUS 5 5 1
def handReq (h : Nat) : OctahReq := ask 0x0801 (leBytes 8 h)
theorem test_premise_pair_handover :
    ∀ h ∈ [111, 4100], OctahReady 0x0801 false (handReq h) ready ∧ Pkt.length (handReq h).packet = 8 ∧ natAt (handReq h).pl 0 8 = h ∧
      ready.role = Role.pairMember ∧ ready.pairOwner = true ∧ ready.peerState = Pair.standby ∧ ready.fld Reg.PAIR_STATUS 5 5 = 1 ∧
      ready.pair.handover = none ∧ ready.beat + max 8 (ready.leaseBeats + 1) ≤ h ∧ h ≤ ready.beat + 4000 := by unfold OctahReady; decide +kernel
theorem test_pair_handover : (after (.pairHandover (handReq 111)) ready).pair.handover = some { h := 111, tag := some 7, known := false } := by decide +kernel
theorem test_premise_detach :
    (∀ st ∈ [3, 5], OctahReady 0x0802 false (ask 0x0802 [] 192) (member st 0 id) ∧ (member st 0 id).lampRuns = true) ∧
    OctahReady 0x0803 false (ask 0x0803 [] 192) ((member 2 0 id).setFld Reg.PAIR_STATUS 12 12 1) ∧
    ((member 2 0 id).setFld Reg.PAIR_STATUS 12 12 1).heldOut = true := by unfold OctahReady; decide +kernel
theorem test_detach : (after (.pairDetach (ask 0x0802 [] 192)) (member 3 0 id)).pairSt = Pair.joining := by decide +kernel

/-! The mirror link -/

/-- A heartbeat of beat 0 that reports STANDBY. -/
def beatOf : List Byte := (List.replicate 64 0).set 0x18 3
def report : PeerReport := { normal := true, raftOk := true, locked := true, suspended := false, staged := false, role := none }
theorem test_heartbeat : (member 1 0 id).silent = false ∧ (member 1 0 id).inPair = true ∧ (after (.heartbeat true beatOf report) (member 1 0 id)).pairSt = Pair.active := by
  decide +kernel
/-- At the end of beat 9, one miss before. -/
def missing (n : Nat) : State :=
  let s := member 4 9 (fun p => { p with missed := n, judged := 8 })
  { s with frame := { s.frame with phase := .p3 } }
theorem test_premise_missed :
    (missing 1).running = true ∧ (missing 1).frame.phase = .p3 ∧ (missing 1).pairSt = Pair.active ∧ (missing 1).pair.judged < (missing 1).beat ∧
    (missing 1).pair.hbBeat ≠ some (missing 1).beat ∧ (missing 1).hbMiss = (missing 1).pair.missed + 1 ∧ (missing 0).pair.missed + 1 < (missing 0).hbMiss := by
  decide +kernel
theorem test_missed : (after .heartbeatMissed (missing 1)).pairSt = Pair.solo ∧ (after .heartbeatMissed (missing 0)).pairSt = Pair.active := by decide +kernel
/-- A standby that receives rafts; one that has written the last block itself since. -/
def receiving (w : List (Nat × Nat)) : State := member 3 9 (fun p => { p with wroteLog := [(9, w)] })
theorem test_premise_raft_block :
    (receiving []).takesRaft = true ∧ (receiving [(0, 32767)]).wroteSince (receiving [(0, 32767)]).openRaft.beat (0, 32767) = true ∧
    (receiving []).wroteSince (receiving []).openRaft.beat (0, 32767) = false ∧ 0 ≤ (receiving []).openRaft.got ∧
    (member 2 9 id).takesRaft = true := by decide +kernel
theorem test_premise_raft_deadline :
    (∀ d ∈ [7, 8], (member 3 9 (fun p => { p with raftDone := d, lateRun := 15 })).pair.rafts = []) ∧ (member 3 9 id).frame.phase ≠ .p3 ∧
    (member 3 9 id).running = true ∧ (member 3 9 id).pairSt = Pair.standby := by decide +kernel
theorem test_late_rafts :
    (after .raftDeadline (member 3 9 (fun p => { p with raftDone := 8, lateRun := 15 }))).pairSt = Pair.standby ∧
    (after .raftDeadline (member 3 9 (fun p => { p with raftDone := 7, lateRun := 15 }))).pairSt = Pair.joining := by decide +kernel
theorem test_premise_join :
    (member 4 9 id).pairOwner = true ∧ (member 2 9 id).pairSt = Pair.joining ∧ (member 2 9 id).joinedReady = false ∧ (member 2 9 id).heldOut = false ∧
    (member 2 9 id).scan.slots.length = 32 ∧ (member 2 9 id).pair.join = .idle := by decide +kernel
theorem test_join : (after (.joinRequest true) (member 4 9 id)).pair.copyNext = some 0 ∧ (after (.joinReady true 0) (member 2 9 id)).joinedReady = true := by
  decide +kernel
theorem test_premise_resend :
    (member 4 9 (fun p => { p with raftSent := [(0, 5, [])] })).pair.raftSent.find? (fun y => y.1 == 0 && y.2.1 == 5) = some (0, 5, []) ∧
    (member 4 9 id).lampRuns = false := by decide +kernel
/-- An owner whose candidate is VERIFIED. -/
def verified : State :=
  let s := (member 4 9 id).setFld Reg.SOLVE_STATE 6 4 1
  { s with disp := { s.disp with candidate := some (planOf 9) } }
theorem test_premise_candidate : verified.pairOwner = true ∧ verified.verdict = 1 ∧ verified.disp.candidate = some (planOf 9) := by decide +kernel
/-- A unit that follows a PARTNER base. -/
def follower : State := (member 3 9 id).setRg (Reg.TB_CFG 0) 3
theorem test_premise_timing : follower.baseWith 3 = some 0 ∧ follower.timingRole = false ∧ follower.time.follow.length = 8 := by decide +kernel
theorem test_premise_relay : natAt takeMsg 5 1 = 1 ∧ (member 4 9 id).silent = false := by decide +kernel
/-- Items but the last done, or all but two. -/
def lamps (m : Nat) : State := (member 3 9 id).setRg64 Reg.LAMP_DONE_LO m
theorem test_premise_lamps :
    (lamps 0).lampRuns = true ∧ (lamps (2 ^ 63 - 1)).lampRuns = true ∧ (∀ k < 64, k ≠ 63 → bit ((lamps (2 ^ 63 - 1)).rg64 Reg.LAMP_DONE_LO) k = true) ∧
    bit ((lamps (2 ^ 63 - 2)).rg64 Reg.LAMP_DONE_LO) 0 = false := by decide +kernel
theorem test_lamps :
    (after (.lampItemDone 63 true 10000) (lamps (2 ^ 63 - 1))).rg Reg.LAMP_PASS_CNT = 1 ∧
    bit ((after (.lampItemDone 63 true 10001) (lamps (2 ^ 63 - 2))).rg64 Reg.LAMP_DONE_LO) 63 = true := by decide +kernel
theorem test_bad_heartbeat : (after (.heartbeat false [] report) (member 4 9 id)).rg Reg.LINK_CRC_CNT = 1 := by decide +kernel

/-! Verification, samples, health -/

/-- A candidate without a verdict, three beats (or one) before its cut-over. -/
def verifying (cut : Nat) (lost : Bool) : State :=
  dispatching 4 0 (fun d => { d with solve := some { solving with cut := cut }, candidate := some (planOf 9), copyLost := lost })
theorem test_premise_verify :
    (∀ lost ∈ [false, true], let s := verifying 3 lost
      s.disp.solve = some { solving with cut := 3 } ∧ s.disp.candidate = some (planOf 9) ∧ s.verdict = 0 ∧ s.silent = false ∧ s.beat + 2 < 3 ∧
      s.disp.copyLost = lost ∧ s.inPair = false) ∧
    (∀ c ∈ [1, 2], c ≤ (verifying c false).beat + 2 ∧ (verifying c false).beat < c ∧ (verifying c false).disp.copied = false) := by decide +kernel
theorem test_verify :
    (after (.verifyDone 5) (verifying 3 true)).verdict = 7 ∧ (after .verifyMissed (verifying 2 false)).verdict = 5 := by decide +kernel
/-- Samples due: AFE_OK in PWR_STATUS, channel 31 on. -/
def sampled (f : MeterState → MeterState) : State := ((metering 2 1 f).setRg Reg.PWR_STATUS 4).setRg (Reg.CH_CFG 31) 1
theorem test_premise_samples :
    (sampled id).afeDue = true ∧ (sampled id).chanOn 31 = true ∧ (sampled (fun m => { m with failRun := 40 })).meterLive = true ∧
    (sampled (fun m => { m with failRun := 40 })).blkState Head.meter = 2 ∧ 40 ≤ (sampled (fun m => { m with failRun := 40 })).meter.failRun := by decide +kernel
theorem test_samples_lost : (after (.afeSamples false [] []) (sampled id)).rg Reg.SAMPLE_GAP_CNT = 1 := by decide +kernel
theorem test_degrade : (after .afeLinkDegrade (sampled (fun m => { m with failRun := 40 }))).blkState Head.meter = 3 := by decide +kernel
theorem test_degraded_owner :
    let s := { (owner 4 1000 0 id).setRg (Reg.ctrl Head.meter) 1 |>.setRg (Reg.status Head.meter) 0x20 with meter := { State.reset.meter with failRun := 40 } }
    s.meterLive = true ∧ s.inPair = true ∧ s.pairSt = Pair.active ∧ s.pair.handover = none := by decide +kernel
theorem test_premise_rng : State.reset.keys.rngOk = true := by decide +kernel

/-! The cascade -/

/-- A node of the cascade: the master of three extenders, or an extender of number 2. -/
def cascaded (role : BitVec 32) (f : CascadeState → CascadeState) : State :=
  let s := (((unit role 4).setRg (Reg.ctrl Head.cascade) 1).setRg Reg.CASC_CFG 3).setRg (Reg.status Head.cascade) 0x20
  { s with casc := f s.casc }
theorem test_cascade_status :
    ended (.cascadeStatus (ask 0x0806 [])) (cascaded 3 id) = (.done, 0) ∧ ended (.cascadeStatus (ask 0x0806 [])) (cascaded 4 id) = (.done, 0) := by decide +kernel
theorem test_premise_cascade :
    (cascaded 3 id).silent = false ∧ (cascaded 3 id).casc.lateRun.length = 3 ∧ (cascaded 3 id).cascMaster = true ∧ (cascaded 4 id).cascExt = true ∧
    (cascaded 3 id).extenders = [1, 2, 3] := by decide +kernel
theorem test_ring :
    (after (.ringTrainingDone 2) (cascaded 4 id)).cascPos = 2 ∧ (after .ringBreak (cascaded 3 id)).blkState Head.cascade = Casc.down ∧
    (after (.ringTrainingDone 2) (cascaded 3 id)).blkState Head.cascade = Casc.up := by decide +kernel
/-- A LIO record of one byte at the start of slot 31's I section, from extender 3. -/
def lioRec : List Byte := [1, 31, 0, 0, 0, 1, 0, 0, 0, 0, 0, 0]
def withRec : State :=
  let s := cascaded 3 (fun c => { c with cfg := [([], []), ([], []), ([], [lioRec])] })
  s.modSlot 31 (fun x => { x with image := tinyImage, mode := .run })
theorem test_premise_ext_input :
    withRec.running = true ∧ withRec.frame.phase = .p0 ∧ withRec.frame.latched = false ∧ 3 ∈ withRec.extenders ∧ 3 ∉ withRec.casc.got ∧
    withRec.time.ns + 250000 ≤ 2 ^ 64 ∧ (withRec.cascRecs 3).filter (fun r => !CRec.out r && schedAt (withRec.image (CRec.prog r)) withRec.beat) = [lioRec] ∧
    CRec.kind lioRec ≤ 3 ∧ withRec.beatOfs ≤ 20000 := by decide +kernel
theorem test_ext_input : (after (.extInput true 3 [1] 20000) withRec).scan.data.getN (withRec.secBase 31 0) 1 = [1] := by decide +kernel
/-- The third late beat of extender 2 before. -/
def lateExt : State := cascaded 3 (fun c => { c with got := [1], lateRun := [0, 3, 0] })
theorem test_ext_late : (after .extInputDeadline lateExt).casc.lost = [2] ∧ (after .extInputDeadline lateExt).casc.lateRun = [0, 4, 1] := by decide +kernel
/-- An extender that FRAME has stopped, and a configuration without content. -/
def stoppedExt : State := (cascaded 4 id).setRg (Reg.status Head.frame) 0
def emptyTally : List Byte := [0x53, 0x45, 0x54, 0x43, 1, 0, 0, 0] ++ List.replicate 32 0 ++ leBytes 4 320 ++ List.replicate 276 0
theorem test_premise_config :
    stoppedExt.cascExt = true ∧ stoppedExt.stopped = true ∧ tallyOk emptyTally (List.replicate 32 []) [] = true ∧ cfgCopies emptyTally = [] ∧
    ((List.range 32).map (fun p => (([] : List (Nat × Nat × Nat)).find? (fun x => x.1 == p)).map (fun x => extImage x.2.1 x.2.2 []))).all (· == none) = true ∧
    stoppedExt.scan.slots.length = 32 := by decide +kernel
theorem test_config : (after (.configBlock true 0 emptyTally [] []) stoppedExt).blkState Head.cascade = Casc.up := by decide +kernel
theorem test_premise_casc_time : ((cascaded 4 id).setRg Reg.DT_STATUS 0x20).fld Reg.DT_STATUS 5 5 = 1 ∧ (4 : Nat) ≤ (cascaded 4 (fun c => { c with timeMiss := 4 })).casc.timeMiss := by
  decide +kernel
/-- A LIO record for the outputs of this extender. -/
def outRec : List Byte := [6, 31, 4, 0, 0, 2, 0, 0, 0, 0, 0, 0]
def extWithRec : State := cascaded 4 (fun c => { c with cfg := [([], [outRec])], outMiss := 4, floating := true })
theorem test_premise_master_output :
    extWithRec.running = true ∧ (extWithRec.cascRecs 1).filter (fun r => CRec.out r && bit (natAt [0, 0, 0, 0x80] 0 4) (CRec.prog r)) = [outRec] ∧
    CRec.kind outRec = 6 ∧ extWithRec.cascPos = 0 := by decide +kernel
theorem test_master_output :
    (after (.masterOutput true 0 ([0, 0, 0, 0x80] ++ [1, 0])) extWithRec).casc.lioOut = [(4, true), (5, false)] ∧
    (after .masterOutputLost extWithRec).lio.hiZ = true := by decide +kernel
theorem test_bad_ext_input : (after (.extInput false 3 [] 0) (cascaded 3 id)).rg Reg.CASC_CRC_CNT = 1 := by decide +kernel

/-! ### The beat -/

/-- A beat of FRAME RUNNING in a phase; with the latch done or not. -/
def inBeat (ph : Phase) (latched withheld : Bool) : State :=
  let s := ((slot31 .run 0).setRg (Reg.status Head.frame) 0x20).setRg (Reg.ctrl Head.scan) 1
  { s with frame := { s.frame with phase := ph, latched := latched, withheld := withheld } }
theorem test_premise_boundary :
    State.reset.stump = false ∧ State.reset.boot.held = false ∧ State.reset.seam.pf ≠ some .held ∧
    (State.reset.elapse (250000 - State.reset.beatOfs)).dueNow = none ∧
    (State.reset.setRg (Reg.status Head.frame) 0x10).blkState Head.frame = 1 := by decide +kernel
theorem test_premise_latch :
    let s := inBeat .p0 false false
    s.silent = false ∧ s.running = true ∧ s.time.ns + 250000 ≤ 2 ^ 64 ∧ s.frame.phase = .p0 ∧ s.frame.latched = false ∧ s.fromRaft = false ∧
    s.works = true ∧ s.scan.slots.length = 32 ∧ s.starts 31 = true ∧ s.starts 30 = false ∧ s.frame.late = false ∧ 2 ≤ s.classReaction Cls.watchdog := by
  decide +kernel
theorem test_latch_end : (2 ^ 64 - 250000) % 250000 = 2 ^ 64 % 250000 ∧ (after (.p0Latch 25000) (inBeat .p0 false false)).frame.latched = true := by decide +kernel
theorem test_latch_late : (after .latchLate (inBeat .p0 false false)).rg Reg.LATCH_LATE_CNT = 1 := by decide +kernel
/-- A pair member in STANDBY that waits for its input raft. -/
def rafting : State :=
  ((inBeat .p0 false false).setRg Reg.DEV_CONFIG 2).setRg (Reg.ctrl Head.pair) 1 |>.setRg (Reg.status Head.pair) (BitVec.ofNat 32 (16 * Pair.standby))
theorem test_premise_raft :
    rafting.inPair = true ∧ rafting.fromRaft = true ∧ rafting.frame.phase = .p0 ∧ rafting.frame.latched = false ∧ rafting.beatOfs ≤ 25000 ∧
    rafting.silent = false ∧ rafting.running = true ∧ rafting.pairSt = Pair.standby ∧ rafting.pair.missAt ≠ some (rafting.beat - 1) := by decide +kernel
theorem test_raft_deadline : (after .inputRaftDeadline rafting).pairSt = Pair.joining := by decide +kernel
theorem test_premise_compute : (inBeat .p0 true true).frame.latched = true ∧ (inBeat .p0 true true).computes = false := by decide +kernel
/-- P1 over, with a cycle of slot 31 that has finished in its last beat. -/
def finishing (withheld : Bool) : State :=
  let s := (inBeat .p1 true withheld).modSlot 31 (fun x => { x with cycle := some { cycleWith [] [] with done := true } })
  { s with time := { s.time with ns := 750000 } }
theorem test_premise_commit :
    let s := finishing false
    s.frame.phase = .p1 ∧ s.frame.withheld = false ∧ s.works = true ∧ s.scan.slots.length = 32 ∧ s.scan.committed.length = 32 ∧
    (s.slot 31).cycle = some { cycleWith [] [] with done := true } ∧ (s.slot 31).suspended = false ∧ s.beat + 1 = 0 + Image.k (s.image 31) ∧
    s.running = true ∧ (finishing true).frame.withheld = true := by decide +kernel
theorem test_commit_withheld : (after (.p2Commit 200000) (finishing true)).rg Reg.COMMIT_HELD_CNT = 1 := by decide +kernel
/-- Slot 31 starts at the next beat, 4. -/
def starting : State :=
  let s := (inBeat .p2 true false).modSlot 31 (fun x => { x with mode := .stop, req := some (4, .start 1) })
  { s with time := { s.time with ns := 750000 } }
theorem test_premise_init :
    starting.frame.phase = .p2 ∧ (starting.slot 31).req = some (4, .start 1) ∧ 4 ≤ starting.beat + 1 ∧ schedAt (starting.image 31) (starting.beat + 1) = true ∧
    starting.role ≠ Role.pairMember ∧ starting.running = true := by decide +kernel

end Sys2Proof.Tests
end

section
namespace Sys2Proof.Machine

/-!
SUPPORT for O4: program data and the slot memory stay canonical, by one lemma for each operation that touches either.

Only `put`, `putN` and `clearN` and the writes built from them change these two memories, and each keeps the canonical form; every
other operation leaves them or empties them. So the lemmas here say of an operation `f` one of four things: `f_data` and
`f_slotMem`, the memory stays as it was; `f_data_wf` and `f_slotMem_wf`, it stays canonical; `f_frame`, `f_scan` and `f_host`, the
part of the state that holds it stays; `f_canonical`, both memories stay canonical. Those tagged `@[simp]` are applied to the
operations that call `f`; a chain of calls longer than the simplifier follows is cut by a `have` for a state in the middle.
-/

/-! ### How program data and the slot memory change: the rules the operations share -/

@[simp] theorem ite_scan_data (c : Prop) [Decidable c] (x y : ScanState) :
    (if c then x else y).data = if c then x.data else y.data := apply_ite ScanState.data c x y

@[simp] theorem ite_host_slotMem (c : Prop) [Decidable c] (x y : HostState) :
    (if c then x else y).slotMem = if c then x.slotMem else y.slotMem := apply_ite HostState.slotMem c x y

@[simp] theorem Memory.wf_ite (c : Prop) [Decidable c] (m n : Mem) :
    Memory.wf (if c then m else n) = true ↔ (c → Memory.wf m = true) ∧ (¬ c → Memory.wf n = true) := by
  split <;> simp [*]

@[simp] theorem foldl_data {α : Type} {f : State → α → State} (h : ∀ s a, (f s a).scan.data = s.scan.data) (l : List α) (s : State) :
    (l.foldl f s).scan.data = s.scan.data := by
  induction l generalizing s with
  | nil => rfl
  | cons a t ih => rw [List.foldl_cons, ih, h]

@[simp] theorem foldl_data_wf {α : Type} {f : State → α → State}
    (h : ∀ s a, Memory.wf s.scan.data = true → Memory.wf (f s a).scan.data = true) (l : List α) (s : State) (hs : Memory.wf s.scan.data = true) :
    Memory.wf (l.foldl f s).scan.data = true := by
  induction l generalizing s with
  | nil => exact hs
  | cons a t ih => exact ih _ (h s a hs)

@[simp] theorem foldl_slotMem_wf {α : Type} {f : State → α → State}
    (h : ∀ s a, Memory.wf s.host.slotMem = true → Memory.wf (f s a).host.slotMem = true) (l : List α) (s : State)
    (hs : Memory.wf s.host.slotMem = true) : Memory.wf (l.foldl f s).host.slotMem = true := by
  induction l generalizing s with
  | nil => exact hs
  | cons a t ih => exact ih _ (h s a hs)

@[simp] theorem memoriesCanonical_iff (s : State) :
    MemoriesCanonical s ↔ Memory.wf s.scan.data = true ∧ Memory.wf s.host.slotMem = true := Iff.rfl

theorem MemoriesCanonical.data {s : State} (h : MemoriesCanonical s) : Memory.wf s.scan.data = true := h.1

theorem MemoriesCanonical.slotMem {s : State} (h : MemoriesCanonical s) : Memory.wf s.host.slotMem = true := h.2

theorem foldl_canonical {α : Type} {f : State → α → State} (h : ∀ s a, MemoriesCanonical s → MemoriesCanonical (f s a)) (l : List α)
    {s : State} (hs : MemoriesCanonical s) : MemoriesCanonical (l.foldl f s) :=
  List.foldlRecOn l f hs fun s hs a _ => h s a hs

theorem canonical_ite {c : Prop} [Decidable c] {s t : State} (hs : c → MemoriesCanonical s) (ht : ¬ c → MemoriesCanonical t) :
    MemoriesCanonical (if c then s else t) := by
  split
  case isTrue hc => exact hs hc
  case isFalse hc => exact ht hc

theorem foldl_wf {α : Type} {f : Mem → α → Mem} (h : ∀ m a, Memory.wf m = true → Memory.wf (f m a) = true) (l : List α) {m : Mem}
    (hm : Memory.wf m = true) : Memory.wf (l.foldl f m) = true :=
  List.foldlRecOn (motive := fun m => Memory.wf m = true) l f hm fun m hm a _ => h m a hm

end Sys2Proof.Machine
end

section
namespace Sys2Proof.Machine

/-! ### Octah requests, Seam and the key store -/

@[simp] theorem State.noteRequest_slotMem (s : State) (req : OctahReq) :
    (s.noteRequest req).host.slotMem = s.host.slotMem := by
  simp [State.noteRequest]

@[simp] theorem State.sendBack_slotMem_wf (s : State) (src : ReqSource) (pkt : List Byte)
    (hm : Memory.wf s.host.slotMem = true) :
    Memory.wf (s.sendBack src pkt).host.slotMem = true := by
  unfold State.sendBack
  dsimp only
  repeat' split
  all_goals simp [hm, Memory.wf_putN]

@[simp] theorem State.countTx_slotMem (s : State) (sid : Word) (c : Nat) :
    (s.countTx sid c).host.slotMem = s.host.slotMem := by
  simp [State.countTx]

@[simp] theorem State.respPacket_slotMem (s : State) (req : OctahReq) (noAuth : Bool)
    (tag status opcode beat jseq : Nat) (payload : List Byte) :
    (s.respPacket req noAuth tag status opcode beat jseq payload).2.host.slotMem = s.host.slotMem := by
  unfold State.respPacket
  dsimp only
  repeat' split
  all_goals simp

@[simp] theorem State.respond_slotMem_wf (s : State) (req : OctahReq) (noAuth : Bool)
    (tag status opcode beat jseq : Nat) (payload : List Byte) (hm : Memory.wf s.host.slotMem = true) :
    Memory.wf (s.respond req noAuth tag status opcode beat jseq payload).host.slotMem = true := by
  simp [State.respond, hm]

@[simp] theorem State.dropInflight_slotMem (s : State) (tag : Nat) :
    (s.dropInflight tag).host.slotMem = s.host.slotMem := by
  simp [State.dropInflight]

@[simp] theorem State.opEnd_slotMem_wf (s : State) (tag code : Nat) (payload : List Byte) (progress : Nat)
    (hm : Memory.wf s.host.slotMem = true) :
    Memory.wf (s.opEnd tag code payload progress).host.slotMem = true := by
  unfold State.opEnd
  dsimp only
  split <;> simp [hm]

@[simp] theorem State.opOk_slotMem_wf (s : State) (tag : Nat) (payload : List Byte)
    (hm : Memory.wf s.host.slotMem = true) :
    Memory.wf (s.opOk tag payload).host.slotMem = true := by
  simp [State.opOk, hm]

@[simp] theorem State.opFail_slotMem_wf (s : State) (tag : Nat) (r : Refuse) (hm : Memory.wf s.host.slotMem = true) :
    Memory.wf (s.opFail tag r).host.slotMem = true := by
  simp [State.opFail, hm]

@[simp] theorem State.opStart_slotMem (s : State) (tag : Nat) :
    (s.opStart tag).host.slotMem = s.host.slotMem := by
  simp [State.opStart]

@[simp] theorem State.opDue_slotMem (s : State) (beat tag : Nat) (payload : List Byte) :
    (s.opDue beat tag payload).host.slotMem = s.host.slotMem := by
  simp [State.opDue]

@[simp] theorem State.runDue_slotMem_wf (s : State) (hm : Memory.wf s.host.slotMem = true) :
    Memory.wf s.runDue.host.slotMem = true := by
  simp +contextual [State.runDue, hm]

@[simp] theorem State.respondAway_slotMem_wf (s : State) (req : OctahReq) (code : Nat)
    (hm : Memory.wf s.host.slotMem = true) :
    Memory.wf (s.respondAway req code).host.slotMem = true := by
  simp [State.respondAway, hm]

@[simp] theorem State.journalAccept_slotMem (s : State) (req : OctahReq) (opcode : Nat) :
    (s.journalAccept req opcode).host.slotMem = s.host.slotMem := by
  simp [State.journalAccept]

/-- The window write as a function of its offset in Seam. -/
def State.seamPageWrite (s : State) (addr : Nat) (value : Word) (a : Nat) : State :=
  match s.pageRefused (a / 256) with
  | some code => s.err Head.seam addr true code value
  | none => s.seamPut (a / 4 * 4) (leBytes 4 value.toNat) true

theorem State.seamWindow_eq (s : State) (addr : Nat) (value : Word) :
    s.seamWindow addr value = s.seamPageWrite addr value (addr - 0x00800000) := rfl

theorem State.seamPageWrite_frame (s : State) (addr : Nat) (value : Word) (a : Nat) :
    (s.seamPageWrite addr value a).scan = s.scan ∧ (s.seamPageWrite addr value a).host = s.host := by
  unfold State.seamPageWrite
  split <;> simp

@[simp] theorem State.seamWindow_frame (s : State) (addr : Nat) (value : Word) :
    (s.seamWindow addr value).scan = s.scan ∧ (s.seamWindow addr value).host = s.host := by
  rw [State.seamWindow_eq]
  exact s.seamPageWrite_frame addr value _

@[simp] theorem State.keyDone_slotMem_wf (s : State) (tag n : Nat) (payload : List Byte)
    (hm : Memory.wf s.host.slotMem = true) :
    Memory.wf (s.keyDone tag n payload).host.slotMem = true := by
  simp [State.keyDone, hm]

@[simp] theorem State.kuReject_slotMem_wf (s : State) (tag : Nat) (r : Refuse) (hm : Memory.wf s.host.slotMem = true) :
    Memory.wf (s.kuReject tag r).host.slotMem = true := by
  simp [State.kuReject, hm]

@[simp] theorem State.keyUpdate_slotMem_wf (s : State) (req : OctahReq) (hm : Memory.wf s.host.slotMem = true) :
    Memory.wf (s.keyUpdate req).host.slotMem = true := by
  unfold State.keyUpdate
  dsimp only
  repeat' split
  all_goals simp [hm]

@[simp] theorem State.kuSealed_slotMem_wf (s : State) (hm : Memory.wf s.host.slotMem = true) :
    Memory.wf s.kuSealed.host.slotMem = true := by
  unfold State.kuSealed
  split <;> simp [hm]

@[simp] theorem State.kuFailed_slotMem_wf (s : State) (hm : Memory.wf s.host.slotMem = true) :
    Memory.wf s.kuFailed.host.slotMem = true := by
  unfold State.kuFailed
  split <;> simp [hm]

@[simp] theorem State.attestGo_slotMem_wf (s : State) (tag : Nat) (hm : Memory.wf s.host.slotMem = true) :
    Memory.wf (s.attestGo tag).host.slotMem = true := by
  simp [State.attestGo, hm]

end Sys2Proof.Machine
end

section
namespace Sys2Proof.Machine

/-! ### Program slots, forces and exchanges -/

@[simp] theorem State.setMode_data (s : State) (p : Nat) (m : ProgMode) :
    (s.setMode p m).scan.data = s.scan.data := by
  simp [State.setMode]

@[simp] theorem State.exchFail_data (s : State) (cause : Nat) : (s.exchFail cause).scan.data = s.scan.data := by
  unfold State.exchFail
  split <;> simp

@[simp] theorem State.exchFail_slotMem_wf (s : State) (cause : Nat) (hm : Memory.wf s.host.slotMem = true) :
    Memory.wf (s.exchFail cause).host.slotMem = true := by
  unfold State.exchFail
  split <;> simp [hm]

@[simp] theorem State.exchFailOf_data (s : State) (p cause : Nat) :
    (s.exchFailOf p cause).scan.data = s.scan.data := by
  unfold State.exchFailOf
  split <;> simp

@[simp] theorem State.exchFailOf_slotMem_wf (s : State) (p cause : Nat) (hm : Memory.wf s.host.slotMem = true) :
    Memory.wf (s.exchFailOf p cause).host.slotMem = true := by
  unfold State.exchFailOf
  split <;> simp [hm]

@[simp] theorem State.stopProg_data (s : State) (p cause : Nat) :
    (s.stopProg p cause).scan.data = s.scan.data := by
  simp [State.stopProg]

@[simp] theorem State.setCycle_data (s : State) (p : Nat) (c : Cycle) :
    (s.setCycle p c).scan.data = s.scan.data := by
  simp [State.setCycle]

@[simp] theorem State.trap_data (s : State) (p : Nat) (c : Cycle) (code detail : Nat) :
    (s.trap p c code detail).scan.data = s.scan.data := by
  simp [State.trap]

@[simp] theorem State.trap_slotMem_wf (s : State) (p : Nat) (c : Cycle) (code detail : Nat)
    (hm : Memory.wf s.host.slotMem = true) :
    Memory.wf (s.trap p c code detail).host.slotMem = true := by
  simp [State.trap, hm]

@[simp] theorem State.breakHit_data (s : State) (p : Nat) (c : Cycle) (idx : Nat) :
    (s.breakHit p c idx).scan.data = s.scan.data := by
  simp [State.breakHit]

@[simp] theorem State.breakHit_slotMem_wf (s : State) (p : Nat) (c : Cycle) (idx : Nat)
    (hm : Memory.wf s.host.slotMem = true) :
    Memory.wf (s.breakHit p c idx).host.slotMem = true := by
  simp [State.breakHit, hm]

@[simp] theorem State.useEngine_data (s : State) (e n : Nat) : (s.useEngine e n).scan.data = s.scan.data := by
  simp [State.useEngine]

@[simp] theorem State.endCycle_data_wf (s : State) (p : Nat) (c : Cycle) (hd : Memory.wf s.scan.data = true) :
    Memory.wf (s.endCycle p c).scan.data = true := by
  simp [State.endCycle, hd, Memory.wf_putN]

@[simp] theorem State.missDeadline_data (s : State) (p : Nat) (c : Cycle) :
    (s.missDeadline p c).scan.data = s.scan.data := by
  simp [State.missDeadline]

@[simp] theorem State.missDeadline_slotMem_wf (s : State) (p : Nat) (c : Cycle) (hm : Memory.wf s.host.slotMem = true) :
    Memory.wf (s.missDeadline p c).host.slotMem = true := by
  simp [State.missDeadline, hm]

@[simp] theorem State.deadline_data (s : State) (p : Nat) : (s.deadline p).scan.data = s.scan.data := by
  unfold State.deadline
  split <;> simp

@[simp] theorem State.deadline_slotMem_wf (s : State) (p : Nat) (hm : Memory.wf s.host.slotMem = true) :
    Memory.wf (s.deadline p).host.slotMem = true := by
  unfold State.deadline
  split <;> simp [hm]

@[simp] theorem State.request_data (s : State) (p at_ : Nat) (r : ModeReq) :
    (s.request p at_ r).scan.data = s.scan.data := by
  simp [State.request]

@[simp] theorem State.freeForce_data (s : State) (k : Nat) :
    (s.freeForce k).scan.data = s.scan.data.clearN (forceArea + 32 * k) 32 := by
  simp [State.freeForce]

@[simp] theorem State.applyForce_data_wf (s : State) (c : ForceChange) (hd : Memory.wf s.scan.data = true) :
    Memory.wf (s.applyForce c).scan.data = true := by
  unfold State.applyForce
  split
  · simp only [State.forceCount_frame]
    exact foldl_data_wf (fun s e hs => by simp [Memory.wf_clearN, hs]) _ _ hd
  · extract_lets s₁ s₂
    have h₂ : Memory.wf s₂.scan.data = true := by simp [s₂, s₁, Memory.wf_putN, hd]
    repeat' split
    all_goals simp [Memory.wf_putN, h₂]

@[simp] theorem State.runSymReads_data (s : State) : s.runSymReads.scan.data = s.scan.data := by
  simp [State.runSymReads]

@[simp] theorem State.runSymReads_slotMem_wf (s : State) (hm : Memory.wf s.host.slotMem = true) :
    Memory.wf s.runSymReads.host.slotMem = true := by
  simp +contextual [State.runSymReads, hm]

@[simp] theorem State.applyHostQ_data_wf (s : State) (hd : Memory.wf s.scan.data = true) :
    Memory.wf s.applyHostQ.scan.data = true := by
  unfold State.applyHostQ
  refine foldl_data_wf (fun s w hs => ?_) _ _ hd
  extract_lets s₁
  split <;> simp [s₁, Memory.wf_putN, hs]

@[simp] theorem State.applyHostQ_slotMem_wf (s : State) (hm : Memory.wf s.host.slotMem = true) :
    Memory.wf s.applyHostQ.host.slotMem = true := by
  unfold State.applyHostQ
  refine foldl_slotMem_wf (fun s w hs => ?_) _ _ hm
  extract_lets s₁
  split <;> simp [s₁, hs]

theorem migrate_wf {d : Mem} (h : Memory.wf d = true) (old new : List Image) (mask : Nat) (ms : List Migr) :
    Memory.wf (migrate old new mask ms d) = true := by
  unfold migrate
  extract_lets kept moved d₁
  have h₁ : Memory.wf d₁ = true := foldl_wf (fun x w hx => Memory.wf_putN _ _ hx) _ h
  refine foldl_wf (fun x e hx => ?_) _ h₁
  repeat' split
  all_goals simp [Memory.wf_putN, hx]

@[simp] theorem State.exchangeMigrate_data_wf (s : State) (hd : Memory.wf s.scan.data = true) :
    Memory.wf s.exchangeMigrate.scan.data = true := by
  unfold State.exchangeMigrate
  split
  · exact hd
  split
  · exact hd
  split
  · simp [hd]
  extract_lets bs old new orphans s₁ data slots sc s₂ s₃
  have h₁ : Memory.wf s₁.scan.data = true := by
    unfold s₁
    exact foldl_data_wf (fun s x hs => by simp [Memory.wf_clearN, hs]) _ _ hd
  have h₂ : Memory.wf data = true := migrate_wf h₁ _ _ _ _
  simp [s₃, s₂, h₂]

@[simp] theorem State.exchangeMigrate_slotMem_wf (s : State) (hm : Memory.wf s.host.slotMem = true) :
    Memory.wf s.exchangeMigrate.host.slotMem = true := by
  unfold State.exchangeMigrate
  split <;> simp [hm]

@[simp] theorem State.exchangeBoundary_data (s : State) : s.exchangeBoundary.scan.data = s.scan.data := by
  unfold State.exchangeBoundary
  split <;> simp

@[simp] theorem State.exchangeBoundary_slotMem_wf (s : State) (hm : Memory.wf s.host.slotMem = true) :
    Memory.wf s.exchangeBoundary.host.slotMem = true := by
  unfold State.exchangeBoundary
  split <;> simp [hm]

end Sys2Proof.Machine
end

section
namespace Sys2Proof.Machine

/-! ### Device time, the field buses, the loops and the dispatch engine -/

@[simp] theorem State.busError_frame (s : State) (ch : Nat) (kind : BusErr) (collide dominant exempt : Bool) :
    (s.busError ch kind collide dominant exempt).scan = s.scan ∧ (s.busError ch kind collide dominant exempt).host = s.host := by
  unfold State.busError
  split
  · simp
  split
  · simp
  extract_lets s₁ s₂ s₃ s₄ kept s₅
  have h₃ : s₃.scan = s.scan ∧ s₃.host = s.host := by simp [s₃, s₂, s₁]
  have h₄ : s₄.scan = s.scan ∧ s₄.host = s.host := by unfold s₄; split <;> simp [h₃]
  have h₅ : s₅.scan = s.scan ∧ s₅.host = s.host := by simp [s₅, h₄]
  simp [h₅]

@[simp] theorem State.roundCutoff_frame (s : State) (ch ofs : Nat) :
    (s.roundCutoff ch ofs).scan = s.scan ∧ (s.roundCutoff ch ofs).host = s.host := by
  simp [State.roundCutoff]

@[simp] theorem State.busBoundary_frame (s : State) : s.busBoundary.scan = s.scan ∧ s.busBoundary.host = s.host := by
  unfold State.busBoundary
  extract_lets s₁ b done b₁ s₂ begins s₃
  have h₂ : s₂.scan = s.scan ∧ s₂.host = s.host := by simp [s₂, s₁]
  have h₃ : s₃.scan = s.scan ∧ s₃.host = s.host := by simp [s₃, h₂]
  rw [← h₃.1, ← h₃.2]
  refine ⟨foldl_scan (fun s ch => ?_) _ _, foldl_host (fun s ch => ?_) _ _⟩
  all_goals split <;> simp

@[simp] theorem State.latchCopies_data_wf (s : State) (p : Nat) (hd : Memory.wf s.scan.data = true) :
    Memory.wf (s.latchCopies p).scan.data = true := by
  simp +contextual [State.latchCopies, hd, Memory.wf_putN]

@[simp] theorem State.runTallyReads_slotMem_wf (s : State) (hm : Memory.wf s.host.slotMem = true) :
    Memory.wf s.runTallyReads.host.slotMem = true := by
  simp +contextual [State.runTallyReads, hm]

@[simp] theorem State.evalLoop_frame (s : State) (n : Nat) :
    (s.evalLoop n).scan = s.scan ∧ (s.evalLoop n).host = s.host := by
  unfold State.evalLoop
  extract_lets y bad act s₁ f₀ f s₂ mode sp₀ spBad sp s₃ f' entering first o s₄
  have h₂ : s₂.scan = s.scan ∧ s₂.host = s.host := by simp [s₂, s₁]
  have h₃ : s₃.scan = s.scan ∧ s₃.host = s.host := by
    unfold s₃
    generalize y = v
    cases v <;> simp [h₂]
  have h₄ : s₄.scan = s.scan ∧ s₄.host = s.host := by simp [s₄, h₃]
  have h₅ : (s₄.putStages n o).1.scan = s.scan ∧ (s₄.putStages n o).1.host = s.host := by simp [h₄]
  generalize s₄.putStages n o = q at h₅ ⊢
  obtain ⟨s₅, f₅⟩ := q
  dsimp only at h₅ ⊢
  generalize act = a
  split
  · simp
  cases a with
  | off => exact h₂
  | held => simp [h₂]
  | _ => simp [h₅]

@[simp] theorem State.runLoops_frame (s : State) (hung : List Nat) :
    (s.runLoops hung).scan = s.scan ∧ (s.runLoops hung).host = s.host := by
  simp [State.runLoops]

@[simp] theorem State.postLoops_data_wf (s : State) (hd : Memory.wf s.scan.data = true) :
    Memory.wf s.postLoops.scan.data = true := by
  unfold State.postLoops
  refine foldl_data_wf (fun s n hs => ?_) _ _ hd
  extract_lets a s₁ ref
  split <;> simp [s₁, Memory.wf_putN, hs]

@[simp] theorem State.postLoops_host (s : State) : s.postLoops.host = s.host := by
  unfold State.postLoops
  refine foldl_host (fun s n => ?_) _ _
  extract_lets a s₁ ref
  split <;> simp [s₁]

@[simp] theorem State.applyLoopChanges_scan (s : State) : s.applyLoopChanges.scan = s.scan := by
  unfold State.applyLoopChanges
  extract_lets ws l₁ s₁ s₂ due l₂ s₃
  have h₃ : s₃.scan = s.scan := by simp [s₃, s₂, s₁]
  rw [← h₃]
  exact foldl_scan (fun s c => by split <;> simp) _ _

@[simp] theorem State.applyLoopChanges_slotMem_wf (s : State) (hm : Memory.wf s.host.slotMem = true) :
    Memory.wf s.applyLoopChanges.host.slotMem = true := by
  unfold State.applyLoopChanges
  extract_lets ws l₁ s₁ s₂ due l₂ s₃
  have h₃ : Memory.wf s₃.host.slotMem = true := by simp [s₃, s₂, s₁, hm]
  exact foldl_slotMem_wf (fun s c hs => by split <;> simp [hs]) _ _ h₃

@[simp] theorem State.runLoopReads_slotMem_wf (s : State) (hm : Memory.wf s.host.slotMem = true) :
    Memory.wf s.runLoopReads.host.slotMem = true := by
  simp +contextual [State.runLoopReads, hm]

@[simp] theorem State.queueLoop_slotMem (s : State) (tag : Nat) (c : LoopChange) :
    (s.queueLoop tag c).host.slotMem = s.host.slotMem := by
  simp [State.queueLoop]

@[simp] theorem State.applyHostData_slotMem_wf (s : State) (hm : Memory.wf s.host.slotMem = true) :
    Memory.wf s.applyHostData.host.slotMem = true := by
  simp +contextual [State.applyHostData, hm]

end Sys2Proof.Machine
end

section
namespace Sys2Proof.Machine

/-! ### Metering and billing -/

@[simp] theorem State.scaleAll_frame (s : State) (beat : Nat) (codes : List Int) :
    (s.scaleAll beat codes).1.scan = s.scan ∧ (s.scaleAll beat codes).1.host = s.host := by
  unfold State.scaleAll
  refine List.foldlRecOn (motive := fun r : State × List Rat => r.1.scan = s.scan ∧ r.1.host = s.host) _ _ ⟨rfl, rfl⟩ fun r hr n _ => ?_
  split <;> simp [hr]

theorem State.trackAll_frame (s : State) (t : Nat) (xs : List Rat) (l : List Nat) :
    let r := l.foldl (fun (r : State × List (Nat × CycleEnd)) n =>
      let q := r.1.trackChan n t (xs.getD n 0)
      (q.1, match q.2 with
        | some e => r.2 ++ [(n, e)]
        | none => r.2)) (s, ([] : List (Nat × CycleEnd)))
    r.1.scan = s.scan ∧ r.1.host = s.host :=
  List.foldlRecOn (motive := fun r : State × List (Nat × CycleEnd) => r.1.scan = s.scan ∧ r.1.host = s.host) _ _ ⟨rfl, rfl⟩
    fun r hr n _ => by simp [hr]

@[simp] theorem State.meterInstant_frame (s : State) (beat k : Nat) (codes : List Int) :
    (s.meterInstant beat k codes).scan = s.scan ∧ (s.meterInstant beat k codes).host = s.host := by
  unfold State.meterInstant
  extract_lets t
  have h₁ := s.scaleAll_frame beat codes
  generalize s.scaleAll beat codes = q at h₁ ⊢
  obtain ⟨s₁, xs⟩ := q
  dsimp only at h₁ ⊢
  have h₂ := (s₁.captureAdd beat xs).trackAll_frame t xs (s₁.captureAdd beat xs).tracked
  generalize List.foldl _ _ (s₁.captureAdd beat xs).tracked = q at h₂ ⊢
  obtain ⟨s₂, ends⟩ := q
  simp [h₁] at h₂
  rw [← h₂.1, ← h₂.2]
  refine ⟨foldl_scan (fun s c => ?_) _ _, foldl_host (fun s c => ?_) _ _⟩
  all_goals repeat' split
  all_goals simp

@[simp] theorem State.afeBeat_frame (s : State) (crcOk : Bool) (codes : List (List Int)) (clips : List Nat) :
    (s.afeBeat crcOk codes clips).scan = s.scan ∧ (s.afeBeat crcOk codes clips).host = s.host := by
  simp [State.afeBeat]

@[simp] theorem State.copyRecords_data_wf (s : State) (p : Nat) (rs : List (List Byte)) (off : List Nat) (word : State → Nat → Nat → Word)
    (hd : Memory.wf s.scan.data = true) : Memory.wf (s.copyRecords p rs off word).scan.data = true := by
  unfold State.copyRecords
  refine foldl_data_wf (fun s x hs => ?_) _ _ hd
  repeat' split
  all_goals simp [Memory.wf_putN, hs]

@[simp] theorem State.copyRecords_host (s : State) (p : Nat) (rs : List (List Byte)) (off : List Nat) (word : State → Nat → Nat → Word) :
    (s.copyRecords p rs off word).host = s.host := by
  unfold State.copyRecords
  refine foldl_host (fun s x => ?_) _ _
  repeat' split
  all_goals simp

@[simp] theorem State.meterCopies_data_wf (s : State) (p : Nat) (hd : Memory.wf s.scan.data = true) :
    Memory.wf (s.meterCopies p).scan.data = true := by
  simp [State.meterCopies, hd]

@[simp] theorem State.meterCopies_host (s : State) (p : Nat) : (s.meterCopies p).host = s.host := by
  simp [State.meterCopies]

@[simp] theorem State.calEffect_frame (s : State) : s.calEffect.scan = s.scan ∧ s.calEffect.host = s.host := by
  unfold State.calEffect
  refine ⟨foldl_scan (fun s n => ?_) _ _, foldl_host (fun s n => ?_) _ _⟩
  all_goals split <;> simp

@[simp] theorem State.thermCalEffect_frame (s : State) :
    s.thermCalEffect.scan = s.scan ∧ s.thermCalEffect.host = s.host := by
  unfold State.thermCalEffect
  refine ⟨foldl_scan (fun s n => ?_) _ _, foldl_host (fun s n => ?_) _ _⟩
  all_goals split <;> simp

end Sys2Proof.Machine
end

section
namespace Sys2Proof.Machine

/-! ### The pair, faults and the cascade -/

@[simp] theorem State.journalFailover_slotMem (s : State) :
    s.journalFailover.host.slotMem = s.host.slotMem := by
  simp [State.journalFailover]

@[simp] theorem State.progWarm_data (s : State) : s.progWarm.scan.data = s.scan.data := by
  simp [State.progWarm]

@[simp] theorem State.endHandover_slotMem_wf (s : State) (code : Nat) (hm : Memory.wf s.host.slotMem = true) :
    Memory.wf (s.endHandover code).host.slotMem = true := by
  unfold State.endHandover
  dsimp only
  repeat' split
  all_goals simp [hm]

@[simp] theorem State.takeOwnership_data (s : State) : s.takeOwnership.scan.data = s.scan.data := by
  simp [State.takeOwnership]

@[simp] theorem State.takeOwnership_slotMem_wf (s : State) (hm : Memory.wf s.host.slotMem = true) :
    Memory.wf s.takeOwnership.host.slotMem = true := by
  simp [State.takeOwnership, hm]

@[simp] theorem State.handoverBeat_slotMem_wf (s : State) (hm : Memory.wf s.host.slotMem = true) :
    Memory.wf s.handoverBeat.host.slotMem = true := by
  unfold State.handoverBeat
  repeat' split
  all_goals simp [hm]

@[simp] theorem State.pairBoundary_canonical (s : State) (arbIn : Bool) (h : MemoriesCanonical s) :
    Memory.wf (s.pairBoundary arbIn).scan.data = true ∧ Memory.wf (s.pairBoundary arbIn).host.slotMem = true := by
  change MemoriesCanonical (s.pairBoundary arbIn)
  unfold State.pairBoundary
  split
  · exact h
  extract_lets s₁ s₂ s₃ s₄ s₅ s₆ s₇ s₈
  have h₃ : MemoriesCanonical s₃ := by simp [s₃, s₂, s₁, h.data, h.slotMem]
  have h₄ : MemoriesCanonical s₄ := by simp [s₄, h₃.data, h₃.slotMem]
  have h₇ : MemoriesCanonical s₇ := by simp [s₇, s₆, s₅, h₄.data, h₄.slotMem]
  have h₈ : MemoriesCanonical s₈ := by
    unfold s₈
    split
    · split <;> simp [h₇.data, h₇.slotMem]
    · exact h₇
  simp [h₈.data, h₈.slotMem]

@[simp] theorem State.handoverRefused_slotMem_wf (s : State) (hm : Memory.wf s.host.slotMem = true) :
    Memory.wf s.handoverRefused.host.slotMem = true := by
  simp [State.handoverRefused, hm]

@[simp] theorem State.leaseAnswer_slotMem_wf (s : State) (m : List Byte) (hm : Memory.wf s.host.slotMem = true) :
    Memory.wf (s.leaseAnswer m).host.slotMem = true := by
  simp [State.leaseAnswer, hm]

@[simp] theorem State.leaseReceive_slotMem_wf (s : State) (m : List Byte) (relayed : Bool)
    (hm : Memory.wf s.host.slotMem = true) :
    Memory.wf (s.leaseReceive m relayed).host.slotMem = true := by
  simp [State.leaseReceive, hm]

@[simp] theorem State.putBlock_data_wf (s : State) (region k : Nat) (bs : List Byte)
    (hd : Memory.wf s.scan.data = true) :
    Memory.wf (s.putBlock region k bs).scan.data = true := by
  unfold State.putBlock
  split <;> simp [hd, Memory.wf_putN]

@[simp] theorem State.putBlock_slotMem (s : State) (region k : Nat) (bs : List Byte) :
    (s.putBlock region k bs).host.slotMem = s.host.slotMem := by
  unfold State.putBlock
  split <;> simp

/-- What of a beat's bytes is left for copied blocks (R391). -/
def copyRoom (bytes : Nat) : Nat := (1250000 - bytes - 65536 - 192) / blockLink

/-- The copy of the parts' blocks that `raftSend` adds to a beat. -/
def State.copySend (s : State) (free : Nat) : State :=
  match s.pair.copyNext with
  | none => s
  | some k =>
    let n := min free (50625 - k)
    let s := (List.range n).foldl (fun s j =>
      match copyBlockAt (k + j) regionBlocks 0 with
      | some (r, b) => s.send (.mirror 0x08 r b (s.blockBytes r b))
      | none => s) s
    if k + n < 50625 then s.modPair (fun p => { p with copyNext := some (k + n) })
    else (s.modPair (fun p => { p with copyNext := none })).send (.control (.joinReady s.runMask))

theorem State.copySend_frame (s : State) (free : Nat) :
    (s.copySend free).scan = s.scan ∧ (s.copySend free).host = s.host := by
  unfold State.copySend
  split
  · exact ⟨rfl, rfl⟩
  extract_lets n s₅
  have h₅ : s₅.scan = s.scan ∧ s₅.host = s.host := by
    refine ⟨foldl_scan (fun s j => ?_) _ _, foldl_host (fun s j => ?_) _ _⟩
    all_goals split <;> simp
  split <;> simp [h₅]

@[simp] theorem State.raftSend_frame (s : State) : s.raftSend.scan = s.scan ∧ s.raftSend.host = s.host := by
  unfold State.raftSend
  split
  · exact ⟨rfl, rfl⟩
  · change (State.copySend _ (copyRoom _)).scan = s.scan ∧ (State.copySend _ (copyRoom _)).host = s.host
    simp [State.copySend_frame]

@[simp] theorem State.joinReady_data (s : State) (run : Nat) : (s.joinReady run).scan.data = s.scan.data := by
  simp [State.joinReady]

@[simp] theorem State.scanEngineFault_data (s : State) (e : Nat) :
    (s.scanEngineFault e).scan.data = s.scan.data := by
  simp [State.scanEngineFault]

@[simp] theorem State.scanEngineFault_slotMem_wf (s : State) (e : Nat) (hm : Memory.wf s.host.slotMem = true) :
    Memory.wf (s.scanEngineFault e).host.slotMem = true := by
  simp +contextual [State.scanEngineFault, hm]

@[simp] theorem State.blockFault_data (s : State) (f : FaultReport) :
    (s.blockFault f).scan.data = s.scan.data := by
  unfold State.blockFault
  split <;> simp

@[simp] theorem State.blockFault_slotMem_wf (s : State) (f : FaultReport) (hm : Memory.wf s.host.slotMem = true) :
    Memory.wf (s.blockFault f).host.slotMem = true := by
  unfold State.blockFault
  split <;> simp [hm]

@[simp] theorem State.oneFault_data (s : State) (f : FaultReport) : (s.oneFault f).scan.data = s.scan.data := by
  unfold State.oneFault
  dsimp only
  repeat' split
  all_goals simp

@[simp] theorem State.oneFault_slotMem_wf (s : State) (f : FaultReport) (hm : Memory.wf s.host.slotMem = true) :
    Memory.wf (s.oneFault f).host.slotMem = true := by
  unfold State.oneFault
  dsimp only
  repeat' split
  all_goals simp [hm]

@[simp] theorem State.faults_data (s : State) (fs : List FaultReport) :
    (s.faults fs).scan.data = s.scan.data := by
  simp [State.faults]

@[simp] theorem State.faults_slotMem_wf (s : State) (fs : List FaultReport) (hm : Memory.wf s.host.slotMem = true) :
    Memory.wf (s.faults fs).host.slotMem = true := by
  simp +contextual [State.faults, hm]

@[simp] theorem State.fault_data (s : State) (cls head : Nat) (info0 info1 : Word) :
    (s.fault cls head info0 info1).scan.data = s.scan.data := by
  simp [State.fault]

@[simp] theorem State.fault_slotMem_wf (s : State) (cls head : Nat) (info0 info1 : Word)
    (hm : Memory.wf s.host.slotMem = true) :
    Memory.wf (s.fault cls head info0 info1).host.slotMem = true := by
  simp [State.fault, hm]

@[simp] theorem State.faultInfo_data (s : State) (cls head : Nat) (info0 info1 : Option Word) :
    (s.faultInfo cls head info0 info1).scan.data = s.scan.data := by
  simp [State.faultInfo]

@[simp] theorem State.faultInfo_slotMem_wf (s : State) (cls head : Nat) (info0 info1 : Option Word)
    (hm : Memory.wf s.host.slotMem = true) :
    Memory.wf (s.faultInfo cls head info0 info1).host.slotMem = true := by
  simp [State.faultInfo, hm]

@[simp] theorem State.watchdog_data (s : State) (e : Engine) : (s.watchdog e).scan.data = s.scan.data := by
  simp [State.watchdog]

@[simp] theorem State.watchdog_slotMem_wf (s : State) (e : Engine) (hm : Memory.wf s.host.slotMem = true) :
    Memory.wf (s.watchdog e).host.slotMem = true := by
  simp [State.watchdog, hm]

@[simp] theorem State.linkCrcFault_data (s : State) (head : Nat) :
    (s.linkCrcFault head).scan.data = s.scan.data := by
  simp [State.linkCrcFault]

@[simp] theorem State.linkCrcFault_slotMem_wf (s : State) (head : Nat) (hm : Memory.wf s.host.slotMem = true) :
    Memory.wf (s.linkCrcFault head).host.slotMem = true := by
  simp [State.linkCrcFault, hm]

@[simp] theorem State.diverge_data (s : State) (kind idx own owner : Nat) :
    (s.diverge kind idx own owner).scan.data = s.scan.data := by
  simp [State.diverge]

@[simp] theorem State.diverge_slotMem_wf (s : State) (kind idx own owner : Nat) (hm : Memory.wf s.host.slotMem = true) :
    Memory.wf (s.diverge kind idx own owner).host.slotMem = true := by
  simp [State.diverge, hm]

@[simp] theorem State.judgeDigest_data (s : State) : s.judgeDigest.scan.data = s.scan.data := by
  unfold State.judgeDigest
  split <;> simp

@[simp] theorem State.judgeDigest_slotMem_wf (s : State) (hm : Memory.wf s.host.slotMem = true) :
    Memory.wf s.judgeDigest.host.slotMem = true := by
  unfold State.judgeDigest
  split <;> simp [hm]

@[simp] theorem State.judgeTwins_data (s : State) : s.judgeTwins.scan.data = s.scan.data := by
  simp [State.judgeTwins]

@[simp] theorem State.judgeTwins_slotMem_wf (s : State) (hm : Memory.wf s.host.slotMem = true) :
    Memory.wf s.judgeTwins.host.slotMem = true := by
  simp +contextual [State.judgeTwins, hm]

@[simp] theorem State.heartbeatRx_canonical (s : State) (data : List Byte) (peer : PeerReport) (h : MemoriesCanonical s) :
    Memory.wf (s.heartbeatRx data peer).scan.data = true ∧ Memory.wf (s.heartbeatRx data peer).host.slotMem = true := by
  change MemoriesCanonical (s.heartbeatRx data peer)
  unfold State.heartbeatRx
  extract_lets d n s₁ tm s₂ s₃ s₄ s₅ s₆ s₇ s₈
  have h₄ : MemoriesCanonical s₄ := by simp [s₄, s₃, s₂, s₁, h.data, h.slotMem]
  have h₅ : MemoriesCanonical s₅ := by simp [s₅, h₄.data, h₄.slotMem]
  have h₆ : MemoriesCanonical s₆ := by simp [s₆, h₅.data, h₅.slotMem]
  have h₇ : MemoriesCanonical s₇ := by simp [s₇, h₆.data, h₆.slotMem]
  have h₈ : MemoriesCanonical s₈ := by simp [s₈, h₇.data, h₇.slotMem]
  simp [h₈.data, h₈.slotMem]

@[simp] theorem State.stateBlock_data_wf (s : State) (region block : Nat) (data : List Byte)
    (hd : Memory.wf s.scan.data = true) :
    Memory.wf (s.stateBlock region block data).scan.data = true := by
  simp [State.stateBlock, hd]

@[simp] theorem State.stateBlock_slotMem (s : State) (region block : Nat) (data : List Byte) :
    (s.stateBlock region block data).host.slotMem = s.host.slotMem := by
  simp [State.stateBlock]

@[simp] theorem State.copyBlock_data_wf (s : State) (region block : Nat) (data : List Byte)
    (hd : Memory.wf s.scan.data = true) :
    Memory.wf (s.copyBlock region block data).scan.data = true := by
  simp [State.copyBlock, hd]

@[simp] theorem State.copyBlock_slotMem (s : State) (region block : Nat) (data : List Byte) :
    (s.copyBlock region block data).host.slotMem = s.host.slotMem := by
  simp [State.copyBlock]

@[simp] theorem State.judgeCandidate_data (s : State) : s.judgeCandidate.scan.data = s.scan.data := by
  unfold State.judgeCandidate
  split <;> simp

@[simp] theorem State.judgeCandidate_slotMem_wf (s : State) (hm : Memory.wf s.host.slotMem = true) :
    Memory.wf s.judgeCandidate.host.slotMem = true := by
  unfold State.judgeCandidate
  split <;> simp [hm]

@[simp] theorem State.candidateDigest_data (s : State) (digest : List Byte) (verified : Bool) :
    (s.candidateDigest digest verified).scan.data = s.scan.data := by
  unfold State.candidateDigest
  dsimp only
  repeat' split
  all_goals simp

@[simp] theorem State.candidateDigest_slotMem_wf (s : State) (digest : List Byte) (verified : Bool)
    (hm : Memory.wf s.host.slotMem = true) :
    Memory.wf (s.candidateDigest digest verified).host.slotMem = true := by
  unfold State.candidateDigest
  dsimp only
  repeat' split
  all_goals simp [hm]

@[simp] theorem State.extConfig_data (s : State) (tally : List Byte) (recs : List (List Byte)) (progs : List
    (Nat × Nat × Nat)) :
    (s.extConfig tally recs progs).scan.data = s.scan.data := by
  simp [State.extConfig]

@[simp] theorem State.putExt_data_wf (s : State) (rs : List (List Byte)) (data : List Byte) (hd : Memory.wf s.scan.data = true) :
    Memory.wf (s.putExt rs data).scan.data = true := by
  induction rs generalizing s data with
  | nil => exact hd
  | cons r t ih => simp [State.putExt, ih, Memory.wf_putN, hd]

@[simp] theorem State.putExt_host (s : State) (rs : List (List Byte)) (data : List Byte) :
    (s.putExt rs data).host = s.host := by
  induction rs generalizing s data with
  | nil => rfl
  | cons r t ih => simp [State.putExt, ih]

@[simp] theorem State.extInput_data_wf (s : State) (e : Nat) (data : List Byte) (ofs : Nat) (hd : Memory.wf s.scan.data = true) :
    Memory.wf (s.extInput e data ofs).scan.data = true := by
  unfold State.extInput
  split
  · exact hd
  extract_lets s₁ n s₂ s₃ s₄ s₅ s₆ rs
  have h₃ : s₃.scan = s.scan := by simp [s₃, s₂, s₁]
  have h₅ : s₅.scan = s.scan := by simp [s₅, s₄, h₃]
  have h₆ : s₆.scan = s.scan := by simp [s₆, h₅]
  simp [h₆, hd]

@[simp] theorem State.extInput_host (s : State) (e : Nat) (data : List Byte) (ofs : Nat) :
    (s.extInput e data ofs).host = s.host := by
  unfold State.extInput
  split
  · rfl
  extract_lets s₁ n s₂ s₃ s₄ s₅ s₆ rs
  have h₃ : s₃.host = s.host := by simp [s₃, s₂, s₁]
  have h₅ : s₅.host = s.host := by simp [s₅, s₄, h₃]
  have h₆ : s₆.host = s.host := by simp [s₆, h₅]
  simp [h₆]

@[simp] theorem State.takeOutput_frame (s : State) (rs : List (List Byte)) (data : List Byte) :
    (s.takeOutput rs data).scan = s.scan ∧ (s.takeOutput rs data).host = s.host := by
  induction rs generalizing s data with
  | nil => exact ⟨rfl, rfl⟩
  | cons r t ih => simp [State.takeOutput, ih]

@[simp] theorem State.masterOutput_frame (s : State) (data : List Byte) :
    (s.masterOutput data).scan = s.scan ∧ (s.masterOutput data).host = s.host := by
  simp [State.masterOutput]

end Sys2Proof.Machine
end

section
namespace Sys2Proof.Machine

/-! ### Stores, updates and starts -/

@[simp] theorem State.sealServes_slotMem_wf (s : State) (gen : Nat) (f : StoreFor)
    (hm : Memory.wf s.host.slotMem = true) :
    Memory.wf (s.sealServes gen f).host.slotMem = true := by
  unfold State.sealServes
  split <;> simp [hm]

@[simp] theorem State.storeFails_slotMem_wf (s : State) (f : StoreFor) (hm : Memory.wf s.host.slotMem = true) :
    Memory.wf (s.storeFails f).host.slotMem = true := by
  unfold State.storeFails
  repeat' split
  all_goals simp [hm]

@[simp] theorem State.keepingEntries_scan (s t : State) : (s.keepingEntries t).scan = t.scan := by
  simp [State.keepingEntries]

@[simp] theorem State.keepingEntries_slotMem_wf (s t : State) (hs : Memory.wf s.host.slotMem = true)
    (ht : Memory.wf t.host.slotMem = true) : Memory.wf (s.keepingEntries t).host.slotMem = true := by
  simp [State.keepingEntries, hs, ht]

@[simp] theorem State.closeFail_slotMem_wf (s : State) (tag code : Nat) (hm : Memory.wf s.host.slotMem = true) :
    Memory.wf (s.closeFail tag code).host.slotMem = true := by
  simp [State.closeFail, hm]

@[simp] theorem State.stumpClose_slotMem_wf (s : State) (tag : Nat) (x : UpdSession)
    (hm : Memory.wf s.host.slotMem = true) :
    Memory.wf (s.stumpClose tag x).host.slotMem = true := by
  unfold State.stumpClose
  dsimp only
  split <;> simp [hm]

theorem initShared_wf {d : Mem} (h : Memory.wf d = true) (images : List Image) : Memory.wf (initShared images d) = true :=
  foldl_wf (fun m x hm => foldl_wf (fun m y hm => by split <;> simp [Memory.wf_putN, hm]) _ hm) _ h

@[simp] theorem State.loadPrograms_data_wf (s : State) (images : List Image) :
    Memory.wf (s.loadPrograms images).scan.data = true := by
  simp [State.loadPrograms, initShared_wf Memory.wf_nil]

@[simp] theorem State.loadBundle_data_wf (s : State) (b : List Byte) (hd : Memory.wf s.scan.data = true) :
    Memory.wf (s.loadBundle b).scan.data = true := by
  unfold State.loadBundle
  extract_lets s₁ role s₂ s₃ s₄ s₅ s₆ recs s₇ s₈ s₉
  have h₂ : Memory.wf s₂.scan.data = true := by simp [s₂, s₁, hd]
  have h₄ : Memory.wf s₄.scan.data = true := by simp [s₄]
  have h₅ : Memory.wf s₅.scan.data = true := by
    unfold s₅
    split <;> simp [h₄]
  have h₆ : Memory.wf s₆.scan.data = true := by
    unfold s₆
    split <;> simp [h₅]
  have h₇ : Memory.wf s₇.scan.data = true := by simp [s₇, h₂, h₆]
  have h₈ : Memory.wf s₈.scan.data = true := by
    unfold s₈
    split
    · split <;> simp [h₇]
    · exact h₇
  simp [s₉, h₈]

@[simp] theorem State.blank_data (s : State) (pairId : Bool) : (s.blank pairId).scan.data = [] := by
  unfold State.blank
  extract_lets t reg keys lio boot t₁ t₂
  have h₁ : t₁.scan.data = [] := rfl
  simp [t₂, h₁]

@[simp] theorem State.blank_slotMem (s : State) (pairId : Bool) : (s.blank pairId).host.slotMem = s.host.slotMem := by
  unfold State.blank
  extract_lets t reg keys lio boot t₁ t₂
  have h₁ : t₁.host.slotMem = s.host.slotMem := rfl
  simp [t₂, h₁]

@[simp] theorem State.coldLoad_data_wf (s : State) (hd : Memory.wf s.scan.data = true) :
    Memory.wf s.coldLoad.scan.data = true := by
  unfold State.coldLoad
  extract_lets s₁ s₂ s₃ s₄ b s₅ s₆
  have h₄ : Memory.wf s₄.scan.data = true := by simp [s₄, s₃, s₂, s₁, hd]
  have h₅ : Memory.wf s₅.scan.data = true := by
    unfold s₅
    split
    · exact h₄
    · split <;> simp [h₄]
  simp [s₆, h₅]

@[simp] theorem State.coldFrom3_data_wf (s : State) (stump : Bool) (hd : Memory.wf s.scan.data = true) :
    Memory.wf (s.coldFrom3 stump).scan.data = true := by
  simp [State.coldFrom3, hd]

@[simp] theorem State.coldStart_canonical (s : State) (kind : Nat) (pairId stump : Bool) (h : MemoriesCanonical s) :
    Memory.wf (s.coldStart kind pairId stump).scan.data = true ∧ Memory.wf (s.coldStart kind pairId stump).host.slotMem = true := by
  simp [State.coldStart, Memory.wf_nil, h.slotMem]

@[simp] theorem State.escalate_canonical (s : State) (pairId : Bool) (h : MemoriesCanonical s) :
    Memory.wf (s.escalate pairId).scan.data = true ∧ Memory.wf (s.escalate pairId).host.slotMem = true := by
  simp [State.escalate, Memory.wf_nil, h.slotMem]

@[simp] theorem State.blocksWarm_data (s : State) : s.blocksWarm.scan.data = s.scan.data := by
  simp [State.blocksWarm]

@[simp] theorem State.blocksWarm_slotMem (s : State) : s.blocksWarm.host.slotMem = s.host.slotMem := by
  simp [State.blocksWarm]

@[simp] theorem State.warmStart_canonical (s : State) (kind : Nat) (pairId crcOk partsOk : Bool) (h : MemoriesCanonical s) :
    Memory.wf (s.warmStart kind pairId crcOk partsOk).scan.data = true ∧
      Memory.wf (s.warmStart kind pairId crcOk partsOk).host.slotMem = true := by
  change MemoriesCanonical (s.warmStart kind pairId crcOk partsOk)
  unfold State.warmStart
  extract_lets exch lost reg upd boot s₁ s₂ s₃ s₄ s₅ s₆ s₇ s₈
  have h₁ : MemoriesCanonical s₁ := h
  have h₅ : MemoriesCanonical s₅ := by simp [s₅, s₄, s₃, s₂, h₁.data, h₁.slotMem]
  have h₆ : MemoriesCanonical s₆ := by
    unfold s₆
    split <;> simp [h₅.data, h₅.slotMem]
  have h₇ : MemoriesCanonical s₇ := by simp [s₇, h₆.data, h₆.slotMem]
  repeat' split
  · simp [h₇.slotMem, Memory.wf_nil]
  · simp [h₇.data, h₇.slotMem]
  · simp [s₈, h₇.data, h₇.slotMem]

@[simp] theorem State.autoRestart_canonical (s : State) (pairId crcOk partsOk : Bool) (h : MemoriesCanonical s) :
    Memory.wf (s.autoRestart pairId crcOk partsOk).scan.data = true ∧ Memory.wf (s.autoRestart pairId crcOk partsOk).host.slotMem = true := by
  unfold State.autoRestart
  split
  · split <;> simp [h.data, h.slotMem]
  · exact h

end Sys2Proof.Machine
end

section
namespace Sys2Proof.Machine

/-! ### Register writes and the host paths -/

@[simp] theorem State.abortTags_slotMem_wf (s : State) (tags : List Nat) (hm : Memory.wf s.host.slotMem = true) :
    Memory.wf (s.abortTags tags).host.slotMem = true := by
  simp +contextual [State.abortTags, hm]

@[simp] theorem State.discardInternal_canonical (s : State) (head : Nat) (h : MemoriesCanonical s) :
    Memory.wf (s.discardInternal head).scan.data = true ∧ Memory.wf (s.discardInternal head).host.slotMem = true := by
  change MemoriesCanonical (s.discardInternal head)
  unfold State.discardInternal
  refine canonical_ite (fun _ => ?_) fun _ => ?_
  · simp [h.data, h.slotMem]
  refine canonical_ite (fun _ => ?_) fun _ => ?_
  · simp [h.data, h.slotMem]
  refine canonical_ite (fun _ => ?_) fun _ => ?_
  · simp [h.data, h.slotMem]
  iterate 7
    refine canonical_ite (fun _ => ?_) fun _ => ?_
    · simp [h.data, h.slotMem]
  refine canonical_ite (fun _ => ?_) fun _ => ?_
  · split <;> simp [h.data, h.slotMem]
  refine canonical_ite (fun _ => ?_) fun _ => ?_
  · simp [h.data, h.slotMem]
  · exact h

@[simp] theorem State.softReset_canonical (s : State) (head : Nat) (h : MemoriesCanonical s) :
    Memory.wf (s.softReset head).scan.data = true ∧ Memory.wf (s.softReset head).host.slotMem = true := by
  simp [State.softReset, h.data, h.slotMem]

@[simp] theorem State.softResetWrite_canonical (s : State) (head : Nat) (v : Word) (h : MemoriesCanonical s) :
    Memory.wf (s.softResetWrite head v).scan.data = true ∧ Memory.wf (s.softResetWrite head v).host.slotMem = true := by
  simp [State.softResetWrite, h.data, h.slotMem]

@[simp] theorem State.commonWrite_canonical (s : State) (head ofs : Nat) (old : Option ProtStage) (v : Word) (h : MemoriesCanonical s) :
    Memory.wf (s.commonWrite head ofs old v).scan.data = true ∧ Memory.wf (s.commonWrite head ofs old v).host.slotMem = true := by
  simp [State.commonWrite, h.data, h.slotMem]

@[simp] theorem State.debugOff_data (s : State) : s.debugOff.scan.data = s.scan.data := by
  simp [State.debugOff]

@[simp] theorem State.slotCtrl_slotMem (s : State) (p : HostPath) (n : Nat) (v : Word) :
    (s.slotCtrl p n v).host.slotMem = s.host.slotMem := by
  unfold State.slotCtrl
  split <;> simp

@[simp] theorem State.regStore_canonical (s : State) (p : HostPath) (a : Nat) (opened : Bool) (v : Word) (d : RegDef)
    (h : MemoriesCanonical s) : Memory.wf (s.regStore p a opened v d).scan.data = true ∧
      Memory.wf (s.regStore p a opened v d).host.slotMem = true := by
  change MemoriesCanonical (s.regStore p a opened v d)
  unfold State.regStore
  extract_lets head tb cur
  refine canonical_ite (fun _ => ?_) fun _ => canonical_ite (fun _ => ?_) fun _ => ?_
  · simp [h.data, h.slotMem]
  · simp [h.data, h.slotMem]
  obtain ⟨w, st, bad⟩ := s.fieldWrite a opened cur v d.fields
  dsimp -zeta only
  generalize tb = tb
  split
  · simp [h.data, h.slotMem]
  extract_lets s₁ s₂ s₃
  have h₁ : MemoriesCanonical s₁ := by simp [s₁, h.data, h.slotMem]
  have h₂ : MemoriesCanonical s₂ := by
    unfold s₂
    split <;> simp [h₁.data, h₁.slotMem]
  have h₃ : MemoriesCanonical s₃ := by simp [s₃, h₂.data, h₂.slotMem]
  repeat' split
  all_goals simp [h₂.data, h₂.slotMem, h₃.data, h₃.slotMem]

@[simp] theorem State.pageWrite_canonical (s : State) (p : HostPath) (a : Nat) (opened : Bool) (v : Word) (h : MemoriesCanonical s) :
    Memory.wf (s.pageWrite p a opened v).scan.data = true ∧ Memory.wf (s.pageWrite p a opened v).host.slotMem = true := by
  unfold State.pageWrite
  split
  · exact h
  · simp [h.data, h.slotMem]

@[simp] theorem State.regPut_canonical (s : State) (p : HostPath) (a : Nat) (v : Word) (h : MemoriesCanonical s) :
    Memory.wf (s.regPut p a v).scan.data = true ∧ Memory.wf (s.regPut p a v).host.slotMem = true := by
  simp [State.regPut, h.data, h.slotMem]

@[simp] theorem State.imageWindow_data (s : State) (addr : Nat) (v : Word) :
    (s.imageWindow addr v).scan.data = s.scan.data := by
  simp [State.imageWindow]

@[simp] theorem State.windowWrite_canonical (s : State) (a : Nat) (v : Word) (h : MemoriesCanonical s) :
    Memory.wf (s.windowWrite a v).scan.data = true ∧ Memory.wf (s.windowWrite a v).host.slotMem = true := by
  simp [State.windowWrite, h.data, h.slotMem]

@[simp] theorem State.regWrite_canonical (s : State) (p : HostPath) (a width : Nat) (v : Word) (h : MemoriesCanonical s) :
    Memory.wf (s.regWrite p a width v).scan.data = true ∧ Memory.wf (s.regWrite p a width v).host.slotMem = true := by
  simp [State.regWrite, h.data, h.slotMem]

@[simp] theorem State.slotWrite_slotMem_wf (s : State) (p : HostPath) (ofs : Nat) (data : List Byte)
    (hm : Memory.wf s.host.slotMem = true) :
    Memory.wf (s.slotWrite p ofs data).host.slotMem = true := by
  simp [State.slotWrite, hm, Memory.wf_putN]

@[simp] theorem State.qspiDiscard_slotMem (s : State) (addr code : Nat) :
    (s.qspiDiscard addr code).host.slotMem = s.host.slotMem := by
  simp [State.qspiDiscard]

@[simp] theorem State.ethTake_slotMem (s : State) (f : EthFrame) :
    (s.ethTake f).2.host.slotMem = s.host.slotMem := by
  unfold State.ethTake
  dsimp only
  repeat' split
  all_goals simp

@[simp] theorem State.packetIn_slotMem (s : State) (req : OctahReq) :
    (s.packetIn req).host.slotMem = s.host.slotMem := by
  simp [State.packetIn]

@[simp] theorem State.datagram_slotMem (s : State) (g : EthFragment) :
    (s.datagram g).host.slotMem = s.host.slotMem := by
  unfold State.datagram
  dsimp only
  repeat' split
  all_goals simp

@[simp] theorem State.endSession_slotMem (s : State) (id : Word) :
    (s.endSession id).host.slotMem = s.host.slotMem := by
  simp [State.endSession]

end Sys2Proof.Machine
end

section
namespace Sys2Proof.Machine

/-! ### The mode requests, the forces and the copies of a latch -/

@[simp] theorem State.goOn_data (s : State) (p : Nat) : (s.goOn p).scan.data = s.scan.data := by
  simp [State.goOn]

@[simp] theorem State.applyReq_data (s : State) (p : Nat) : (s.applyReq p).scan.data = s.scan.data := by
  unfold State.applyReq
  dsimp only
  repeat' split
  all_goals simp

@[simp] theorem State.applyReq_slotMem_wf (s : State) (p : Nat) (hm : Memory.wf s.host.slotMem = true) :
    Memory.wf (s.applyReq p).host.slotMem = true := by
  unfold State.applyReq
  dsimp only
  repeat' split
  all_goals simp [hm]

@[simp] theorem State.applyAbort_data (s : State) (p : Nat) : (s.applyAbort p).scan.data = s.scan.data := by
  unfold State.applyAbort
  split <;> simp

@[simp] theorem State.modeChanges_data (s : State) : s.modeChanges.scan.data = s.scan.data := by
  simp [State.modeChanges]

@[simp] theorem State.modeChanges_slotMem_wf (s : State) (hm : Memory.wf s.host.slotMem = true) :
    Memory.wf s.modeChanges.host.slotMem = true := by
  simp +contextual [State.modeChanges, hm]

@[simp] theorem State.forceChanges_data_wf (s : State) (hd : Memory.wf s.scan.data = true) : Memory.wf s.forceChanges.scan.data = true :=
  foldl_data_wf (fun s c hs => s.applyForce_data_wf c hs) _ _ hd

@[simp] theorem State.lioCopies_data_wf (s : State) (p : Nat) (hd : Memory.wf s.scan.data = true) :
    Memory.wf (s.lioCopies p).scan.data = true := by
  simp +contextual [State.lioCopies, hd, Memory.wf_putN]

@[simp] theorem State.inputForces_data_wf (s : State) (p : Nat) (hd : Memory.wf s.scan.data = true) :
    Memory.wf (s.inputForces p).scan.data = true := by
  unfold State.inputForces
  refine foldl_data_wf (fun s e hs => ?_) _ _ hd
  repeat' split
  all_goals simp [Memory.wf_putN, hs]

@[simp] theorem State.inputForces_host (s : State) (p : Nat) : (s.inputForces p).host = s.host := by
  unfold State.inputForces
  refine foldl_host (fun s e => ?_) _ _
  repeat' split
  all_goals simp

@[simp] theorem State.latchProgram_data_wf (s : State) (p : Nat) (hd : Memory.wf s.scan.data = true) :
    Memory.wf (s.latchProgram p).scan.data = true := by
  have h₂ : Memory.wf ((s.latchCopies p).lioCopies p).scan.data = true := by simp [hd]
  simp [State.latchProgram, h₂]

@[simp] theorem State.latchProgram_host (s : State) (p : Nat) : (s.latchProgram p).host = s.host := by
  simp [State.latchProgram]

@[simp] theorem State.beginCycle_data (s : State) (p : Nat) : (s.beginCycle p).scan.data = s.scan.data := by
  simp [State.beginCycle]

end Sys2Proof.Machine
end

section
namespace Sys2Proof.Machine

/-! ### Scan instructions -/

theorem ScanFrame.host_eq {s t : State} (h : ScanFrame s t) : t.host = s.host := by rw [h]

theorem blockWrite_wf {d : Mem} (h : Memory.wf d = true) (a kind k : Nat) (r : BlockRec) : Memory.wf (blockWrite d a kind k r) = true :=
  Memory.wf_putNat _ _ _ <| Memory.wf_putNat _ _ _ <| Memory.wf_putNat _ _ _ <| Memory.wf_putNat _ _ _ h

theorem scanStore_data_wf {s t : State} {p : Nat} {c c' : Cycle} {k : Access} {a : SReg} {ar : BitVec 3} {disp : BitVec 13}
    {bs : List Byte} {held : Nat → Nat → Bool} (hd : Memory.wf s.scan.data = true) (h : scanStore s p c k a ar disp bs held = .ok t c') :
    Memory.wf t.scan.data = true := by
  rcases (scanStore_ok h).2.2 with rfl | rfl
  · exact hd
  · simp [hd, Memory.wf_putN]

theorem scanBlock_data_wf {kind : Nat} {s t : State} {p : Nat} {c c' : Cycle} {d a x : SReg} {vp rs : Bool} {num : BitVec 9}
    (hd : Memory.wf s.scan.data = true) (h : scanBlock kind s p c d a x vp rs num = .ok t c') : Memory.wf t.scan.data = true := by
  unfold scanBlock at h
  dsimp only at h
  generalize (if rs = true then Image.instR (s.image p) else Image.instN (s.image p)) = count at h
  generalize s.secBase p (if rs = true then 7 else 6) = base at h
  split at h
  · cases h
  split at h
  · cases h
  split at h
  · cases h
  · rw [(writeNext_ok h).1]
    simp [blockWrite_wf hd]

/-- The stores, the blocks, LOUT and END write program data, each through `putN`; every other instruction leaves it. -/
theorem scanEffect_data_wf {i : Instr} {s t : State} {p : Nat} {c c' : Cycle} (hd : Memory.wf s.scan.data = true)
    (h : scanEffect i s p c = .ok t c') : Memory.wf t.scan.data = true := by
  cases i
  all_goals simp only [scanEffect] at h
  case opStb | opStw | opStd | opStfb | opStfw | opStfd => exact scanStore_data_wf hd h
  case opTon | opTof | opTp | opCtu | opCtd | opCtud | opRTrig | opFTrig => exact scanBlock_data_wf hd h
  case opEnd => cases h; simp [hd]
  case opLout =>
    split at h
    · cases h
    split at h
    · cases h
    · cases h
      simp [hd, Memory.wf_putN]
  case opLin =>
    split at h
    · cases h
    · rwa [(writeNext_ok h).1]
  case opRet =>
    split at h
    · cases h
    · cases h
      exact hd
  case opCall =>
    split at h
    · cases h
    · rwa [(branchTo_ok h).2.2.1]
  case opSpra =>
    split at h
    · cases h
    · rwa [(chanOp_ok h).2.1]
  case opDiv | opRem => rwa [(divOp_ok h).2.1]
  case opBr => rwa [(branchTo_ok h).2.2.1]
  case opBt | opBf => rwa [branchIf_ok h]
  case opSpr | opSps => rwa [(chanOp_ok h).2.1]
  case opLdb | opLdw | opLdd => rwa [(scanLoad_ok h).1]
  case opNop => cases h; exact hd
  case opAdd | opSub | opMul | opAbs | opMin | opMax | opAnd | opOr | opXor | opNot | opShl | opShr | opSar | opSel
    | opFadd | opFsub | opFmul | opFdiv | opFma | opFneg | opFabs | opFsqrt | opFmin | opFmax | opCeq | opCne | opClt
    | opCle | opFceq | opFclt | opFcle | opFcun | opItof | opFtoi | opFrnd | opSatw | opFwid | opFnar | opAddiw
    | opAddil | opAndi | opOri | opXori | opLui | opBtst | opBset | opBclr => rwa [(writeNext_ok h).1]
  all_goals cases h

end Sys2Proof.Machine
end

section
namespace Sys2Proof.Machine

/-! ### Slices, engines, the commit and the start of a program -/

theorem State.scanApply_canonical (p : Nat) (c : Cycle) (i : Instr) {s : State} (h : MemoriesCanonical s) :
    MemoriesCanonical (s.scanApply p c i) := by
  unfold State.scanApply
  split
  next t c' hok => simp [(scanEffect_frame hok).host_eq, scanEffect_data_wf h.data hok, h.slotMem]
  · simp [h.data, h.slotMem]

theorem State.scanInstr_canonical (p : Nat) (i : Instr) {s : State} (h : MemoriesCanonical s) :
    MemoriesCanonical (s.scanInstr p i) := by
  unfold State.scanInstr
  split
  · exact h
  · exact scanApply_canonical p _ i (by simp [h.data, h.slotMem])

theorem State.slice_canonical (p n left : Nat) {s : State} (h : MemoriesCanonical s) :
    MemoriesCanonical (s.slice p n left).1 := by
  induction n generalizing s left with
  | zero => exact h
  | succ n ih =>
    unfold State.slice
    split
    · exact h
    split
    · simp [h.data, h.slotMem]
    extract_lets i need
    split
    · exact ih _ (State.scanInstr_canonical p _ h)
    · simp [h.data, h.slotMem]

theorem State.runEngine_canonical (cycles e : Nat) {s : State} (h : MemoriesCanonical s) :
    MemoriesCanonical (s.runEngine cycles e) := by
  unfold State.runEngine
  split
  · exact h
  have hrun : MemoriesCanonical ((s.runOrder e).foldl (fun x p => State.slice p x.2 x.1 x.2) (s, cycles)).1 :=
    List.foldlRecOn (motive := fun x : State × Nat => MemoriesCanonical x.1) _ _ h fun x hx p _ => slice_canonical p _ _ hx
  simp [hrun.data, hrun.slotMem]

theorem State.runEngines_canonical (cycles : Nat) {s : State} (h : MemoriesCanonical s) : MemoriesCanonical (s.runEngines cycles) :=
  foldl_canonical (fun _ e ht => runEngine_canonical cycles e ht) _ h

@[simp] theorem State.latchTimeout_data (s : State) : s.latchTimeout.scan.data = s.scan.data := by
  simp [State.latchTimeout]

@[simp] theorem State.latchTimeout_slotMem_wf (s : State) (hm : Memory.wf s.host.slotMem = true) :
    Memory.wf s.latchTimeout.host.slotMem = true := by
  simp [State.latchTimeout, hm]

@[simp] theorem State.postQ_data (s : State) (p : Nat) (q : List Byte) :
    (s.postQ p q).scan.data = s.scan.data := by
  simp [State.postQ]

@[simp] theorem State.commitL_data (s : State) (p : Nat) : (s.commitL p).scan.data = s.scan.data := by
  simp [State.commitL]

@[simp] theorem State.closeCycle_data (s : State) (p : Nat) : (s.closeCycle p).scan.data = s.scan.data := by
  simp [State.closeCycle]

@[simp] theorem State.postSlot_data (s : State) (p : Nat) : (s.postSlot p).scan.data = s.scan.data := by
  unfold State.postSlot
  split <;> simp

@[simp] theorem State.withhold_data (s : State) : s.withhold.scan.data = s.scan.data := by
  simp [State.withhold]

@[simp] theorem State.withhold_slotMem_wf (s : State) (hm : Memory.wf s.host.slotMem = true) :
    Memory.wf s.withhold.host.slotMem = true := by
  simp +contextual [State.withhold, hm]

theorem State.commit_canonical {s : State} (h : MemoriesCanonical s) : MemoriesCanonical s.commit := by
  simp [State.commit, h.data, h.slotMem]

theorem initProgram_wf (images : List Image) (p : Nat) (warm : Bool) {d : Mem} (h : Memory.wf d = true) :
    Memory.wf (initProgram images p warm d) = true := by
  unfold initProgram
  extract_lets m base clr d₁ d₂ d₃
  have hclr : ∀ d a, Memory.wf d = true → Memory.wf (clr d a) = true := fun d a hd => Memory.wf_clearN _ _ hd
  have h₁ : Memory.wf d₁ = true := foldl_wf hclr _ h
  have h₂ : Memory.wf d₂ = true := by
    unfold d₂
    split
    · exact h₁
    · exact hclr _ _ (hclr _ _ h₁)
  have h₃ : Memory.wf d₃ = true := foldl_wf (fun d y hd => by split <;> simp [Memory.wf_putN, hd]) _ h₂
  refine foldl_wf (fun d y hd => ?_) _ h₃
  dsimp only
  split
  · exact Memory.wf_put _ _ hd
  · exact Memory.wf_putN _ _ hd

theorem State.initSlot_canonical (p : Nat) {s : State} (h : MemoriesCanonical s) :
    MemoriesCanonical (s.initSlot p) := by
  unfold State.initSlot
  split
  · split <;> simp [initProgram_wf, h.data, h.slotMem]
  · exact h

end Sys2Proof.Machine
end

section
namespace Sys2Proof.Machine

/-! ### Commands: what they share -/

/-- The next state of an outcome, where it has one, has both memories in canonical form. -/
def LeavesCanonical (o : Host.Outcome State Fault Refusal) : Prop := ∀ t, o = .next t → MemoriesCanonical t

@[simp] theorem leavesCanonical_next (t : State) : LeavesCanonical (.next t) ↔ MemoriesCanonical t := by
  simp [LeavesCanonical]

theorem MemoriesCanonical.next {t : State} (h : MemoriesCanonical t) : LeavesCanonical (.next t) :=
  (leavesCanonical_next t).2 h

/-- A request's row keeps the memories when what it runs does; a request turned away or refused writes a response alone. -/
theorem octah_canonical {row : OpRow} {s : State} (req : OctahReq) (h : MemoriesCanonical s)
    (hrun : ∀ t, MemoriesCanonical t → MemoriesCanonical (row.run t req)) : MemoriesCanonical (octah row req s) := by
  unfold octah
  refine canonical_ite (fun _ => h) fun _ => canonical_ite (fun _ => hrun s h) fun _ => ?_
  extract_lets host s₁ p tag t
  have h₁ : MemoriesCanonical s₁ := by simp [s₁, host, h.data, h.slotMem]
  split
  · simp [h₁.data, h₁.slotMem]
  have ht : MemoriesCanonical t := by simp [t, h₁.data, h₁.slotMem]
  have hfail : ∀ r, MemoriesCanonical (t.opFail tag r) := fun r => by simp [ht.data, ht.slotMem]
  refine canonical_ite (fun _ => hfail _) fun _ => canonical_ite (fun _ => hfail _) fun _ =>
    canonical_ite (fun _ => hfail _) fun _ => ?_
  split
  · exact hfail _
  split
  · exact hfail _
  · exact hrun _ (by simp [ht.data, ht.slotMem])

theorem octah_leavesCanonical {row : OpRow} {s : State} {req : OctahReq} (h : MemoriesCanonical s)
    (hrun : ∀ t, MemoriesCanonical t → MemoriesCanonical (row.run t req)) : LeavesCanonical (.next (octah row req s)) :=
  (octah_canonical req h hrun).next

theorem State.linkMsg_canonical {s : State} {f : State → State} (crcOk : Bool) (again : Option (Nat × Nat))
    (h : MemoriesCanonical s) (hf : MemoriesCanonical (f s)) : MemoriesCanonical (s.linkMsg crcOk again f) := by
  unfold State.linkMsg
  refine canonical_ite (fun _ => h) fun _ => canonical_ite (fun _ => hf) fun _ => ?_
  extract_lets s₁
  have h₁ : MemoriesCanonical s₁ := by simp [s₁, h.data, h.slotMem]
  split
  · simp [h₁.data, h₁.slotMem]
  · exact h₁

theorem State.cascMsg_canonical {s : State} {f : State → State} (crcOk : Bool)
    (h : MemoriesCanonical s) (hf : MemoriesCanonical (f s)) : MemoriesCanonical (s.cascMsg crcOk f) := by
  unfold State.cascMsg
  refine canonical_ite (fun _ => h) fun _ => canonical_ite (fun _ => hf) fun _ => ?_
  simp [h.data, h.slotMem]

theorem State.readWords_frame (s : State) (p : HostPath) (a n : Nat) :
    (s.readWords p a n).2.scan = s.scan ∧ (s.readWords p a n).2.host = s.host := by
  induction n generalizing s a with
  | zero => exact ⟨rfl, rfl⟩
  | succ n ih =>
    have h := ih (s.readWord p a).2 (a + 4)
    exact ⟨h.1.trans (by simp), h.2.trans (by simp)⟩

theorem State.qspiWords_frame (s : State) (a n : Nat) :
    (s.qspiWords a n).2.scan = s.scan ∧ (s.qspiWords a n).2.host = s.host := by
  induction n generalizing s a with
  | zero => exact ⟨rfl, rfl⟩
  | succ n ih =>
    have h := ih (s.qspiWord a).2 (a + 4)
    exact ⟨h.1.trans (by simp), h.2.trans (by simp)⟩

theorem State.writeWords_canonical (s : State) (p : HostPath) (a done : Nat) (ws : List Word) (h : MemoriesCanonical s) :
    MemoriesCanonical (s.writeWords p a done ws).1 := by
  induction ws generalizing s a done with
  | nil => exact h
  | cons w ws ih =>
    have hw : MemoriesCanonical (s.regWrite p a 4 w) := s.regWrite_canonical p a 4 w h
    unfold State.writeWords
    dsimp only
    split
    · exact ih _ _ _ hw
    · exact hw

theorem State.qspiApply_canonical (s : State) (a : Nat) (ws : List Word) (h : MemoriesCanonical s) :
    MemoriesCanonical (s.qspiApply a ws) := by
  induction ws generalizing s a with
  | nil => exact h
  | cons w ws ih =>
    unfold State.qspiApply
    refine ih _ _ ?_
    split <;> simp [h.data, h.slotMem]

theorem modeRow_canonical (opcode : Nat) (m : ProgMode) (dbg : Bool) (r : ModeReq) (req : OctahReq) {t : State}
    (h : MemoriesCanonical t) : MemoriesCanonical ((modeRow opcode m dbg r).run t req) := by
  simp [modeRow, h.data, h.slotMem]

end Sys2Proof.Machine
end

section
namespace Sys2Proof.Machine

/-! ### Commands, one by one -/

theorem execSeamStoreBegin_canonical {s : State} (h : MemoriesCanonical s) :
    LeavesCanonical (execSeamStoreBegin s) := by
  unfold execSeamStoreBegin
  split
  · split <;> simp [h.data, h.slotMem]
  · exact h.next

theorem execBracketTimeout_canonical {s : State} (h : MemoriesCanonical s) :
    LeavesCanonical (execBracketTimeout s) := by
  unfold execBracketTimeout
  split <;> simp [h.data, h.slotMem]

theorem execVholdOkChange_canonical (ok : Bool) {s : State} (h : MemoriesCanonical s) :
    LeavesCanonical (execVholdOkChange ok s) := by
  unfold execVholdOkChange
  dsimp only
  repeat' split
  all_goals simp [h.data, h.slotMem]

theorem execXmssReady_canonical {s : State} (h : MemoriesCanonical s) : LeavesCanonical (execXmssReady s) := by
  unfold execXmssReady
  split
  · exact h.next
  · refine (foldl_canonical (fun t tag ht => ?_) _ ?_).next
    · simp [ht.data, ht.slotMem]
    · simp [h.data, h.slotMem]

theorem execKeyMac_canonical (req : OctahReq) {s : State} (h : MemoriesCanonical s) : LeavesCanonical (execKeyMac req s) :=
  octah_leavesCanonical h fun t ht => by
    dsimp only
    split <;> simp [ht.data, ht.slotMem]

theorem execKeyCrypt_canonical (req : OctahReq) {s : State} (h : MemoriesCanonical s) : LeavesCanonical (execKeyCrypt req s) :=
  octah_leavesCanonical h fun t ht => by
    dsimp only
    repeat' split
    all_goals simp [ht.data, ht.slotMem]

theorem execPtpSync_canonical (m : PtpMsg) {s : State} (h : MemoriesCanonical s) :
    LeavesCanonical (execPtpSync m s) := by
  unfold execPtpSync
  dsimp only
  repeat' split
  all_goals simp [h.data, h.slotMem]

theorem execPtpFollowUp_canonical (m : PtpMsg) {s : State} (h : MemoriesCanonical s) :
    LeavesCanonical (execPtpFollowUp m s) := by
  unfold execPtpFollowUp
  split
  · exact h.next
  split
  · split <;> simp [h.data, h.slotMem]
  · exact h.next

theorem execPtpDelayReq_canonical (m : PtpMsg) {s : State} (h : MemoriesCanonical s) :
    LeavesCanonical (execPtpDelayReq m s) := by
  unfold execPtpDelayReq
  dsimp only
  repeat' split
  all_goals simp [h.data, h.slotMem]

theorem execPtpDelayResp_canonical (m : PtpMsg) {s : State} (h : MemoriesCanonical s) :
    LeavesCanonical (execPtpDelayResp m s) := by
  unfold execPtpDelayResp
  dsimp only
  repeat' split
  all_goals simp [h.data, h.slotMem]

theorem execPtpPdelayReq_canonical (m : PtpMsg) {s : State} (h : MemoriesCanonical s) :
    LeavesCanonical (execPtpPdelayReq m s) := by
  unfold execPtpPdelayReq
  dsimp only
  repeat' split
  all_goals simp [h.data, h.slotMem]

theorem execPtpPdelayResp_canonical (m : PtpMsg) {s : State} (h : MemoriesCanonical s) :
    LeavesCanonical (execPtpPdelayResp m s) := by
  unfold execPtpPdelayResp
  dsimp only
  repeat' split
  all_goals simp [h.data, h.slotMem]

theorem execPtpPdelayRespFollowUp_canonical (m : PtpMsg) {s : State} (h : MemoriesCanonical s) :
    LeavesCanonical (execPtpPdelayRespFollowUp m s) := by
  unfold execPtpPdelayRespFollowUp
  dsimp only
  repeat' split
  all_goals simp [h.data, h.slotMem]

theorem execPtpAnnounce_canonical (m : PtpMsg) (a : PtpAnnounce) {s : State} (h : MemoriesCanonical s) :
    LeavesCanonical (execPtpAnnounce m a s) := by
  unfold execPtpAnnounce
  dsimp only
  repeat' split
  all_goals simp [h.data, h.slotMem]

theorem execPtpMasterTx_canonical (base port : Nat) {s : State} (h : MemoriesCanonical s) :
    LeavesCanonical (execPtpMasterTx base port s) := by
  unfold execPtpMasterTx
  split <;> simp [h.data, h.slotMem]

theorem execPtpSourceLost_canonical (base : Nat) {s : State} (h : MemoriesCanonical s) :
    LeavesCanonical (execPtpSourceLost base s) := by
  unfold execPtpSourceLost
  split <;> simp [h.data, h.slotMem]

theorem execPtpAnnounceTimeout_canonical (base port : Nat) {s : State} (h : MemoriesCanonical s) :
    LeavesCanonical (execPtpAnnounceTimeout base port s) := by
  unfold execPtpAnnounceTimeout
  split <;> simp [h.data, h.slotMem]

theorem execPtpDelayReqTx_canonical (base port : Nat) {s : State} (h : MemoriesCanonical s) :
    LeavesCanonical (execPtpDelayReqTx base port s) := by
  unfold execPtpDelayReqTx
  dsimp only
  repeat' split
  all_goals simp [h.data, h.slotMem]

theorem execPpsInEdge_canonical (q : Nat) {s : State} (h : MemoriesCanonical s) :
    LeavesCanonical (execPpsInEdge q s) := by
  unfold execPpsInEdge
  dsimp only
  repeat' split
  all_goals simp [h.data, h.slotMem]

theorem execPpsInLost_canonical {s : State} (h : MemoriesCanonical s) : LeavesCanonical (execPpsInLost s) := by
  unfold execPpsInLost
  split <;> simp [h.data, h.slotMem]

theorem execPpsOutPulse_canonical {s : State} (h : MemoriesCanonical s) : LeavesCanonical (execPpsOutPulse s) := by
  unfold execPpsOutPulse
  split <;> simp [h.data, h.slotMem]

theorem execRtcMeasureDone_canonical (err : Word) {s : State} (h : MemoriesCanonical s) :
    LeavesCanonical (execRtcMeasureDone err s) := by
  unfold execRtcMeasureDone
  split <;> simp [h.data, h.slotMem]

theorem execArbitrationLost_canonical (ch : Nat) {s : State} (h : MemoriesCanonical s) :
    LeavesCanonical (execArbitrationLost ch s) := by
  unfold execArbitrationLost
  split
  · exact h.next
  split
  · exact h.next
  · split <;> simp [h.data, h.slotMem]

theorem execReceiveError_canonical (ch : Nat) (kind : BusErr) (eight : Bool) {s : State} (h : MemoriesCanonical s) :
    LeavesCanonical (execReceiveError ch kind eight s) := by
  unfold execReceiveError
  dsimp only
  repeat' split
  all_goals simp [h.data, h.slotMem]

theorem execAloneDetect_canonical (ch : Nat) {s : State} (h : MemoriesCanonical s) :
    LeavesCanonical (execAloneDetect ch s) := by
  unfold execAloneDetect
  split <;> simp [h.data, h.slotMem]

theorem execBusIntegrationDone_canonical (ch : Nat) {s : State} (h : MemoriesCanonical s) :
    LeavesCanonical (execBusIntegrationDone ch s) := by
  unfold execBusIntegrationDone
  split <;> simp [h.data, h.slotMem]

theorem execBusRecoveryDone_canonical (ch : Nat) {s : State} (h : MemoriesCanonical s) :
    LeavesCanonical (execBusRecoveryDone ch s) := by
  unfold execBusRecoveryDone
  split <;> simp [h.data, h.slotMem]

theorem execTxdTimeout_canonical (ch : Nat) {s : State} (h : MemoriesCanonical s) :
    LeavesCanonical (execTxdTimeout ch s) := by
  unfold execTxdTimeout
  split <;> simp [h.data, h.slotMem]

theorem execFollowDue_canonical (ch : Nat) {s : State} (h : MemoriesCanonical s) :
    LeavesCanonical (execFollowDue ch s) := by
  unfold execFollowDue
  dsimp only
  repeat' split
  all_goals simp [h.data, h.slotMem]

theorem execSchedRead_canonical (req : OctahReq) {s : State} (h : MemoriesCanonical s) :
    LeavesCanonical (execSchedRead req s) :=
  octah_leavesCanonical h fun t ht => by
    dsimp only
    split <;> simp [ht.data, ht.slotMem]

theorem execLoopLate_canonical {s : State} (h : MemoriesCanonical s) : LeavesCanonical (execLoopLate s) := by
  unfold execLoopLate
  split <;> simp [h.data, h.slotMem]

theorem execSolveStart_canonical {s : State} (h : MemoriesCanonical s) : LeavesCanonical (execSolveStart s) := by
  unfold execSolveStart
  split
  · exact h.next
  split
  · exact h.next
  · split <;> simp [h.data, h.slotMem]

theorem execHostDataOpenExpire_canonical {s : State} (h : MemoriesCanonical s) :
    LeavesCanonical (execHostDataOpenExpire s) := by
  unfold execHostDataOpenExpire
  split
  · exact h.next
  split
  · split <;> simp [h.data, h.slotMem]
  · exact h.next

theorem execSolveEnd_canonical (us : Nat) {s : State} (h : MemoriesCanonical s) :
    LeavesCanonical (execSolveEnd us s) := by
  unfold execSolveEnd
  dsimp only
  repeat' split
  all_goals simp [h.data, h.slotMem]

theorem execSolveDeadline_canonical (iters us : Nat) {s : State} (h : MemoriesCanonical s) :
    LeavesCanonical (execSolveDeadline iters us s) := by
  unfold execSolveDeadline
  dsimp only
  repeat' split
  all_goals simp [h.data, h.slotMem]

theorem execPlanStep_canonical {s : State} (h : MemoriesCanonical s) : LeavesCanonical (execPlanStep s) := by
  unfold execPlanStep
  split
  · split <;> simp [h.data, h.slotMem]
  · exact h.next

theorem execPlanFallback_canonical {s : State} (h : MemoriesCanonical s) : LeavesCanonical (execPlanFallback s) := by
  unfold execPlanFallback
  split
  · split <;> simp [h.data, h.slotMem]
  · exact h.next

theorem execCaptureDone_canonical {s : State} (h : MemoriesCanonical s) : LeavesCanonical (execCaptureDone s) := by
  unfold execCaptureDone
  split
  · split <;> simp [h.data, h.slotMem]
  · exact h.next

theorem execMeterCaptureRead_canonical (req : OctahReq) {s : State} (h : MemoriesCanonical s) :
    LeavesCanonical (execMeterCaptureRead req s) :=
  octah_leavesCanonical h fun t ht => by
    dsimp only
    split <;> simp [ht.data, ht.slotMem]

theorem execXtStopped_canonical {s : State} (h : MemoriesCanonical s) : LeavesCanonical (execXtStopped s) := by
  unfold execXtStopped
  split <;> simp [h.data, h.slotMem]

theorem execLeaseRelay_canonical (crcOk : Bool) (msg : List Byte) {s : State} (h : MemoriesCanonical s) :
    LeavesCanonical (execLeaseRelay crcOk msg s) :=
  (State.linkMsg_canonical _ _ h (by simp [h.data, h.slotMem])).next

theorem execTiming_canonical (crcOk : Bool) (t1 t2 t3 t4 : Rat) {s : State} (h : MemoriesCanonical s) :
    LeavesCanonical (execTiming crcOk t1 t2 t3 t4 s) :=
  (State.linkMsg_canonical _ _ h (by simp [h.data, h.slotMem])).next

theorem execFollowValue_canonical (crcOk : Bool) (values : List (Nat × Int)) {s : State} (h : MemoriesCanonical s) :
    LeavesCanonical (execFollowValue crcOk values s) :=
  (State.linkMsg_canonical _ _ h (by simp [h.data, h.slotMem])).next

theorem execHeartbeat_canonical (crcOk : Bool) (data : List Byte) (peer : PeerReport) {s : State} (h : MemoriesCanonical s) :
    LeavesCanonical (execHeartbeat crcOk data peer s) :=
  (State.linkMsg_canonical _ _ h (by simp [h.data, h.slotMem])).next

theorem execStateBlock_canonical (crcOk : Bool) (region block : Nat) (data : List Byte) {s : State} (h : MemoriesCanonical s) :
    LeavesCanonical (execStateBlock crcOk region block data s) :=
  (State.linkMsg_canonical _ _ h (by simp [h.data, h.slotMem])).next

theorem execStateEnd_canonical (crcOk : Bool) (beat blocks : Nat) {s : State} (h : MemoriesCanonical s) :
    LeavesCanonical (execStateEnd crcOk beat blocks s) :=
  (State.linkMsg_canonical _ _ h (by simp [h.data, h.slotMem])).next

theorem execJoinRequest_canonical (crcOk : Bool) {s : State} (h : MemoriesCanonical s) :
    LeavesCanonical (execJoinRequest crcOk s) :=
  (State.linkMsg_canonical _ _ h (by simp [h.data, h.slotMem])).next

theorem execCopyBlock_canonical (crcOk : Bool) (region block : Nat) (data : List Byte) {s : State} (h : MemoriesCanonical s) :
    LeavesCanonical (execCopyBlock crcOk region block data s) :=
  (State.linkMsg_canonical _ _ h (by simp [h.data, h.slotMem])).next

theorem execJoinReady_canonical (crcOk : Bool) (run : Nat) {s : State} (h : MemoriesCanonical s) :
    LeavesCanonical (execJoinReady crcOk run s) :=
  (State.linkMsg_canonical _ _ h (by simp [h.data, h.slotMem])).next

theorem execExchangeConfirm_canonical (crcOk : Bool) (beat : Nat) {s : State} (h : MemoriesCanonical s) :
    LeavesCanonical (execExchangeConfirm crcOk beat s) :=
  (State.linkMsg_canonical _ _ h (by simp [h.data, h.slotMem])).next

theorem execHandoverNotice_canonical (crcOk : Bool) (at_ : Nat) {s : State} (h : MemoriesCanonical s) :
    LeavesCanonical (execHandoverNotice crcOk at_ s) :=
  (State.linkMsg_canonical _ _ h (by split <;> simp [h.data, h.slotMem])).next

theorem execBlockResend_canonical (crcOk : Bool) (region block : Nat) {s : State} (h : MemoriesCanonical s) :
    LeavesCanonical (execBlockResend crcOk region block s) := by
  refine (State.linkMsg_canonical _ _ h ?_).next
  repeat' split
  all_goals simp [h.data, h.slotMem]

theorem execLampPattern_canonical (crcOk : Bool) (lane pattern : Nat) (data : List Byte) {s : State} (h : MemoriesCanonical s) :
    LeavesCanonical (execLampPattern crcOk lane pattern data s) :=
  (State.linkMsg_canonical _ _ h (by simp [h.data, h.slotMem])).next

theorem execCandidateDigest_canonical (crcOk : Bool) (digest : List Byte) (verified : Bool) {s : State} (h : MemoriesCanonical s) :
    LeavesCanonical (execCandidateDigest crcOk digest verified s) :=
  (State.linkMsg_canonical _ _ h (by simp [h.data, h.slotMem])).next

theorem execVerifyDone_canonical (us : Nat) {s : State} (h : MemoriesCanonical s) :
    LeavesCanonical (execVerifyDone us s) := by
  unfold execVerifyDone
  dsimp only
  repeat' split
  all_goals simp [h.data, h.slotMem]

theorem execVerifyMissed_canonical {s : State} (h : MemoriesCanonical s) : LeavesCanonical (execVerifyMissed s) := by
  unfold execVerifyMissed
  dsimp only
  repeat' split
  all_goals simp [h.data, h.slotMem]

theorem execRingTrainingDone_canonical (position : Nat) {s : State} (h : MemoriesCanonical s) :
    LeavesCanonical (execRingTrainingDone position s) := by
  unfold execRingTrainingDone
  dsimp only
  repeat' split
  all_goals simp [h.data, h.slotMem]

theorem execRingBreak_canonical {s : State} (h : MemoriesCanonical s) : LeavesCanonical (execRingBreak s) := by
  unfold execRingBreak
  split <;> simp [h.data, h.slotMem]

theorem execConfigBlock_canonical (crcOk : Bool) (ext : Nat) (tally : List Byte) (recs : List (List Byte)) (progs : List (Nat × Nat × Nat))
    {s : State} (h : MemoriesCanonical s) : LeavesCanonical (execConfigBlock crcOk ext tally recs progs s) :=
  (State.cascMsg_canonical _ h (by simp [h.data, h.slotMem])).next

theorem execCascTiming_canonical (crcOk : Bool) (ns : Rat) (rxQ : Nat) (delay : Rat) {s : State} (h : MemoriesCanonical s) :
    LeavesCanonical (execCascTiming crcOk ns rxQ delay s) :=
  (State.cascMsg_canonical _ h (by simp [h.data, h.slotMem])).next

theorem execExtInput_canonical (crcOk : Bool) (ext : Nat) (data : List Byte) (ofs : Nat) {s : State} (h : MemoriesCanonical s) :
    LeavesCanonical (execExtInput crcOk ext data ofs s) :=
  (State.cascMsg_canonical _ h (by simp [h.data, h.slotMem])).next

theorem execMasterOutput_canonical (crcOk : Bool) (ext : Nat) (data : List Byte) {s : State} (h : MemoriesCanonical s) :
    LeavesCanonical (execMasterOutput crcOk ext data s) :=
  (State.cascMsg_canonical _ h (by simp [h.data, h.slotMem])).next

theorem execSeamStoreDone_canonical (ok : Bool) (page us : Nat) {s : State} (h : MemoriesCanonical s) :
    LeavesCanonical (execSeamStoreDone ok page us s) := by
  unfold execSeamStoreDone
  split
  next r _ =>
    extract_lets s₁ gen s₂ s₃ s₄
    have h₂ : MemoriesCanonical s₂ := by simp [s₂, s₁, h.data, h.slotMem]
    have h₄ : MemoriesCanonical s₄ := by simp [s₄, s₃, h.data, h.slotMem]
    have served : MemoriesCanonical (r.fors.foldl (fun s f => s.sealServes gen f) s₂) :=
      foldl_canonical (fun t f ht => by simp [ht.data, ht.slotMem]) _ h₂
    have failed : MemoriesCanonical (r.fors.foldl (fun s f => s.storeFails f) s₄) :=
      foldl_canonical (fun t f ht => by simp [ht.data, ht.slotMem]) _ h₄
    split
    · simp [served.slotMem, h₂.data, h₂.slotMem]
    · simp [failed.slotMem, h₄.data, h₄.slotMem]
  · exact h.next

theorem execPfiBracketWaitEnd_canonical {s : State} (h : MemoriesCanonical s) :
    LeavesCanonical (execPfiBracketWaitEnd s) := by
  unfold execPfiBracketWaitEnd
  split <;> simp [h.data, h.slotMem]

theorem execPowerFailSeal_canonical (ok : Bool) {s : State} (h : MemoriesCanonical s) :
    LeavesCanonical (execPowerFailSeal ok s) := by
  unfold execPowerFailSeal
  split <;> simp [h.data, h.slotMem]

theorem execVholdCollapse_canonical {s : State} (h : MemoriesCanonical s) :
    LeavesCanonical (execVholdCollapse s) := by
  unfold execVholdCollapse
  split <;> simp [h.data, h.slotMem]

theorem execUpdateOpen_canonical (req : OctahReq) {s : State} (h : MemoriesCanonical s) :
    LeavesCanonical (execUpdateOpen req s) :=
  octah_leavesCanonical h fun t ht => by
    dsimp only
    split <;> simp [ht.data, ht.slotMem]

theorem execUpdateClose_canonical (req : OctahReq) {s : State} (h : MemoriesCanonical s) :
    LeavesCanonical (execUpdateClose req s) :=
  octah_leavesCanonical h fun t ht => by
    dsimp only
    repeat' split
    all_goals simp [ht.data, ht.slotMem]

theorem execUpdateCloseDone_canonical {s : State} (h : MemoriesCanonical s) :
    LeavesCanonical (execUpdateCloseDone s) := by
  unfold execUpdateCloseDone
  dsimp only
  repeat' split
  all_goals simp [h.data, h.slotMem]

theorem execUpdateOrphanTimeout_canonical {s : State} (h : MemoriesCanonical s) :
    LeavesCanonical (execUpdateOrphanTimeout s) := by
  unfold execUpdateOrphanTimeout
  repeat' split
  all_goals simp [h.data, h.slotMem]

theorem execStartConfirm_canonical {s : State} (h : MemoriesCanonical s) : LeavesCanonical (execStartConfirm s) := by
  unfold execStartConfirm
  dsimp only
  repeat' split
  all_goals simp [h.data, h.slotMem]

theorem execStartEnable_canonical (ms : Nat) {s : State} (h : MemoriesCanonical s) :
    LeavesCanonical (execStartEnable ms s) := by
  unfold execStartEnable
  dsimp only
  repeat' split
  all_goals simp [h.data, h.slotMem]

theorem execColdStart_canonical (pairId : Bool) {s : State} (h : MemoriesCanonical s) :
    LeavesCanonical (execColdStart pairId s) := by
  unfold execColdStart
  split <;> simp [h.data, h.slotMem]

theorem execWarmStart_canonical (pairId crcOk partsOk : Bool) {s : State} (h : MemoriesCanonical s) :
    LeavesCanonical (execWarmStart pairId crcOk partsOk s) := by
  unfold execWarmStart
  split <;> simp [h.data, h.slotMem]

theorem execEngineWatchdogExpire_canonical (engine : Engine) (pairId crcOk partsOk : Bool) {s : State} (h : MemoriesCanonical s) :
    LeavesCanonical (execEngineWatchdogExpire engine pairId crcOk partsOk s) := by
  unfold execEngineWatchdogExpire
  dsimp only
  repeat' split
  all_goals simp [h.data, h.slotMem]

theorem execFreezeExpire_canonical (head : Nat) {s : State} (h : MemoriesCanonical s) :
    LeavesCanonical (execFreezeExpire head s) := by
  unfold execFreezeExpire
  split <;> simp [h.data, h.slotMem]

theorem execQspiRead_canonical (addr count : Nat) (stop : QspiEnd) {s : State} (h : MemoriesCanonical s) :
    LeavesCanonical (execQspiRead addr count stop s) := by
  unfold execQspiRead
  split
  · exact h.next
  cases stop <;> simp [h.data, h.slotMem]
  split <;> simp [State.qspiWords_frame, h.data, h.slotMem]

theorem execQspiWrite_canonical (addr count : Nat) (words : List Word) (crcOk busy : Bool) {s : State} (h : MemoriesCanonical s) :
    LeavesCanonical (execQspiWrite addr count words crcOk busy s) := by
  unfold execQspiWrite
  split
  · exact h.next
  extract_lets s₁ 
  have h₁ : MemoriesCanonical s₁ := by simp [s₁, h.data, h.slotMem]
  split
  · simp [h₁.data, h₁.slotMem]
  split
  · simp [h₁.data, h₁.slotMem]
  split
  · simp [h₁.data, h₁.slotMem]
  split
  · simp [h₁.data, h₁.slotMem]
  · exact (s₁.qspiApply_canonical addr words h₁).next

theorem execQspiStatus_canonical (busy : Bool) {s : State} (h : MemoriesCanonical s) :
    LeavesCanonical (execQspiStatus busy s) := by
  unfold execQspiStatus
  split <;> simp [h.data, h.slotMem]

theorem execLinkChange_canonical (port : Nat) (up gbit : Bool) {s : State} (h : MemoriesCanonical s) :
    LeavesCanonical (execLinkChange port up gbit s) := by
  unfold execLinkChange
  split <;> simp [h.data, h.slotMem]

theorem execOctahUndefinedOpcode_canonical (req : OctahReq) {s : State} (h : MemoriesCanonical s) :
    LeavesCanonical (execOctahUndefinedOpcode req s) :=
  (canonical_ite (fun _ => h) fun _ => octah_canonical req h fun _ ht => ht).next

theorem execSessionOpen_canonical (req : OctahReq) {s : State} (h : MemoriesCanonical s) :
    LeavesCanonical (execSessionOpen req s) :=
  octah_leavesCanonical h fun t ht => by
    dsimp only
    split <;> simp [ht.data, ht.slotMem]

theorem execSessionTimeout_canonical (id : Word) {s : State} (h : MemoriesCanonical s) :
    LeavesCanonical (execSessionTimeout id s) := by
  unfold execSessionTimeout
  split <;> simp [h.data, h.slotMem]

theorem execRegRead_canonical (req : OctahReq) {s : State} (h : MemoriesCanonical s) : LeavesCanonical (execRegRead req s) :=
  octah_leavesCanonical h fun t ht => by simp [State.readWords_frame, ht.data, ht.slotMem]

theorem execRegWrite_canonical (req : OctahReq) {s : State} (h : MemoriesCanonical s) : LeavesCanonical (execRegWrite req s) :=
  octah_leavesCanonical h fun t ht => by
    have hs : MemoriesCanonical (t.opStart req.tag) := by simp [ht.data, ht.slotMem]
    dsimp only
    generalize hw : State.writeWords _ _ _ _ _ = r
    have hr : MemoriesCanonical r.1 := hw ▸ State.writeWords_canonical _ _ _ _ _ hs
    split
    · simp [hr.data, hr.slotMem]
    · split <;> simp [hr.data, hr.slotMem]

theorem execJournalRelease_canonical (req : OctahReq) {s : State} (h : MemoriesCanonical s) :
    LeavesCanonical (execJournalRelease req s) :=
  octah_leavesCanonical h fun t ht => by
    have hr : MemoriesCanonical (((List.range 256).filter (fun g => bit (natAt req.pl 0 32) g && (t.jentry g).state.final)).foldl
        (fun s g => s.modJ g (fun _ => JEntry.free)) (t.opStart req.tag)) :=
      foldl_canonical (fun u g hu => by simp [hu.data, hu.slotMem]) _ (by simp [ht.data, ht.slotMem])
    simp [ht.data, hr.slotMem]

theorem execInputSection_canonical (crcOk : Bool) (kind : Nat) (arg : Nat) (data : List Byte) {s : State} (h : MemoriesCanonical s) :
    LeavesCanonical (execInputSection crcOk kind arg data s) :=
  (State.linkMsg_canonical _ _ h (by simp [h.data, h.slotMem])).next

theorem execBeatMatch_canonical {s : State} (h : MemoriesCanonical s) : LeavesCanonical (execBeatMatch s) := by
  unfold execBeatMatch
  split <;> simp [h.data, h.slotMem]

end Sys2Proof.Machine
end

section
namespace Sys2Proof.Machine

/-! ### HOST records in the standby, the latch and the beat boundary -/

theorem nextOr_canonical {s : State} {o : Host.Outcome State Fault Refusal} (h : MemoriesCanonical s) (ho : LeavesCanonical o) :
    MemoriesCanonical (nextOr s o) := by
  unfold nextOr
  split
  next t => exact ho t rfl
  · exact h

theorem mirrorExec_leavesCanonical (opcode : Nat) (req : OctahReq) {s : State} (h : MemoriesCanonical s) :
    LeavesCanonical (mirrorExec opcode req s) := by
  unfold mirrorExec
  split
  case h_3 | h_4 => exact octah_leavesCanonical h fun _ ht => modeRow_canonical _ _ _ _ _ ht
  case h_27 => exact h.next
  all_goals exact octah_leavesCanonical h fun t ht => by simp [ht.data, ht.slotMem]

theorem State.hostRecord_canonical (opcode : Nat) (payload : List Byte) {s : State} (h : MemoriesCanonical s) :
    MemoriesCanonical (s.hostRecord opcode payload) := by
  unfold State.hostRecord
  split
  · exact s.windowWrite_canonical _ _ h
  · exact nextOr_canonical h (mirrorExec_leavesCanonical _ _ h)

theorem State.hostRecords_canonical (n : Nat) (bs : List Byte) {s : State} (h : MemoriesCanonical s) :
    MemoriesCanonical (s.hostRecords n bs) := by
  induction n generalizing s bs with
  | zero => exact h
  | succ n ih =>
    cases bs with
    | nil => exact h
    | cons b bs => exact ih _ (hostRecord_canonical _ _ h)

@[simp] theorem State.takeRecords_canonical (bs : List Byte) {s : State} (h : MemoriesCanonical s) :
    Memory.wf (s.takeRecords bs).scan.data = true ∧ Memory.wf (s.takeRecords bs).host.slotMem = true := by
  unfold State.takeRecords
  extract_lets ns st recs time s₁ s₂
  have h₁ : MemoriesCanonical s₁ := by simp [s₁, h.data, h.slotMem]
  have h₂ : MemoriesCanonical s₂ := hostRecords_canonical _ _ h₁
  simp [h₂.data, h₂.slotMem]

theorem State.latchInputs_canonical (raft : Bool) (ps : List Nat) {s : State} (h : MemoriesCanonical s) :
    MemoriesCanonical (s.latchInputs raft ps) := by
  unfold State.latchInputs
  extract_lets s₁
  refine foldl_canonical (fun t p ht => by simp [ht.data, ht.slotMem]) _ ?_
  unfold s₁
  split
  · exact foldl_canonical (fun t x ht => by simp [Memory.wf_putN, ht.data, ht.slotMem]) _ h
  · have hps : MemoriesCanonical (ps.foldl State.latchProgram (s.setLogging (s.inPair && s.pairOwner))) :=
      foldl_canonical (fun t p ht => by simp [ht.data, ht.slotMem]) _ (by simp [h.data, h.slotMem])
    simp [hps.data, h.slotMem]

theorem State.latchWork_canonical (raft : Bool) {s : State} (h : MemoriesCanonical s) :
    MemoriesCanonical (s.latchWork raft) := by
  unfold State.latchWork
  extract_lets s₁ s₂ ps s₃ s₄ s₅
  have h₁ : MemoriesCanonical s₁ := by
    refine canonical_ite (fun _ => ?_) fun _ => h
    have hrec : MemoriesCanonical ((s.sectionsOf 4).foldl (fun s x => s.takeRecords x.2.2) s) :=
      foldl_canonical (fun t x ht => State.takeRecords_canonical _ ht) _ h
    simp [hrec.data, hrec.slotMem]
  have h₂ : MemoriesCanonical s₂ := by simp [s₂, h₁.data, h₁.slotMem]
  have h₃ : MemoriesCanonical s₃ := by
    have hin := latchInputs_canonical raft ps h₂
    simp [s₃, hin.data, hin.slotMem]
  have h₄ : MemoriesCanonical s₄ := by
    refine canonical_ite (fun _ => foldl_canonical (fun t x ht => ?_) _ h₃) fun _ => h₃
    simp [ht.data, ht.slotMem]
  have h₅ : MemoriesCanonical s₅ := by simp [s₅, h₄.data, h₄.slotMem]
  simp [h₅.data, h₅.slotMem]

theorem State.latch_canonical (raft : Bool) (ofs : Nat) {s : State} (h : MemoriesCanonical s) :
    MemoriesCanonical (s.latch raft ofs) := by
  unfold State.latch
  refine canonical_ite (fun _ => h) fun _ => ?_
  extract_lets s₁ s₂ s₃ s₄ s₅
  have h₁ : MemoriesCanonical s₁ := canonical_ite (fun _ => by simp [h.data, h.slotMem]) fun _ => h
  have h₂ : MemoriesCanonical s₂ := canonical_ite (fun _ => by simp [h₁.data, h₁.slotMem]) fun _ => h₁
  have h₃ : MemoriesCanonical s₃ := by simp [s₃, h₂.data, h₂.slotMem]
  have h₄ : MemoriesCanonical s₄ := canonical_ite (fun _ => latchWork_canonical raft h₃) fun _ => h₃
  refine canonical_ite (fun _ => h₃) fun _ => ?_
  simp [s₅, h₄.data, h₄.slotMem]

theorem State.workBoundary_canonical (env : BoundaryEnv) {s : State} (h : MemoriesCanonical s) :
    MemoriesCanonical (s.workBoundary env) := by
  unfold State.workBoundary
  extract_lets s₁ s₂ scan s₃ s₄ s₅
  have h₁ : MemoriesCanonical s₁ := by simp [s₁, h.data, h.slotMem]
  have h₃ : MemoriesCanonical s₃ := by simp [s₃, scan, s₂, h₁.data, h₁.slotMem]
  have h₄ : MemoriesCanonical s₄ := canonical_ite (fun _ => by simp [h₃.data, h₃.slotMem]) fun _ => h₃
  have h₅ : MemoriesCanonical s₅ := by simp [s₅, h₄.data, h₄.slotMem]
  refine canonical_ite (fun _ => ?_) fun _ => h₅
  simp [h₅.data, h₅.slotMem]

theorem State.boundary_canonical (env : BoundaryEnv) {s : State} (h : MemoriesCanonical s) :
    MemoriesCanonical (s.boundary env) := by
  unfold State.boundary
  refine canonical_ite (fun _ => h) fun _ => ?_
  extract_lets was s₁ s₂ reg s₃ s₄ s₅ s₆ s₇ s₈
  have h₁ : MemoriesCanonical s₁ := by simp [s₁, h.data, h.slotMem]
  refine canonical_ite (fun _ => h₁) fun _ => ?_
  have h₂ : MemoriesCanonical s₂ := by simp [s₂, h₁.data, h₁.slotMem]
  have h₅ : MemoriesCanonical s₅ := by simp [s₅, s₄, s₃, reg, h₂.data, h₂.slotMem]
  have h₆ : MemoriesCanonical s₆ := canonical_ite (fun _ => h₅) fun _ => by simp [h₅.data, h₅.slotMem]
  have h₇ : MemoriesCanonical s₇ := by simp [s₇, h₆.data, h₆.slotMem]
  have h₈ : MemoriesCanonical s₈ := canonical_ite (fun _ => workBoundary_canonical env h₇) fun _ => h₇
  simp [h₈.data, h₈.slotMem]

end Sys2Proof.Machine
end

section
namespace Sys2Proof.Machine

/-! ### The commands of the beat -/

theorem execP0Latch_canonical (ofs : Nat) {s : State} (h : MemoriesCanonical s) :
    LeavesCanonical (execP0Latch ofs s) := by
  refine (canonical_ite (fun _ => h) fun _ => ?_).next
  exact State.latch_canonical false ofs h

theorem execLatchLate_canonical {s : State} (h : MemoriesCanonical s) : LeavesCanonical (execLatchLate s) := by
  simp [execLatchLate, h.data, h.slotMem]

theorem execLatchTimeout_canonical {s : State} (h : MemoriesCanonical s) : LeavesCanonical (execLatchTimeout s) := by
  simp [execLatchTimeout, h.data, h.slotMem]

theorem execInputEnd_canonical (crcOk : Bool) (beat sections bytes : Nat) {s : State} (h : MemoriesCanonical s) :
    LeavesCanonical (execInputEnd crcOk beat sections bytes s) := by
  refine (State.linkMsg_canonical _ _ h ?_).next
  have hl := State.latch_canonical true s.beatOfs h
  refine canonical_ite (fun _ => ?_) fun _ => h
  simp [hl.data, hl.slotMem]

theorem execInputRaftDeadline_canonical {s : State} (h : MemoriesCanonical s) :
    LeavesCanonical (execInputRaftDeadline s) := by
  refine (canonical_ite (fun _ => h) fun _ => ?_).next
  extract_lets s₁
  have h₁ : MemoriesCanonical s₁ := State.latch_canonical false 25000 (by simp [h.data, h.slotMem])
  refine canonical_ite (fun _ => h₁) fun _ => ?_
  simp [h₁.data, h₁.slotMem]

theorem execBeatBoundary_canonical (env : BoundaryEnv) {s : State} (h : MemoriesCanonical s) : LeavesCanonical (execBeatBoundary env s) :=
  (State.boundary_canonical env h).next

theorem execP1Compute_canonical (hung : List Nat) {s : State} (h : MemoriesCanonical s) :
    LeavesCanonical (execP1Compute hung s) := by
  refine (canonical_ite (fun _ => h) fun _ => ?_).next
  extract_lets s₁
  have h₁ : MemoriesCanonical s₁ := by simp [s₁, h.data, h.slotMem]
  refine canonical_ite (fun _ => ?_) fun _ => h₁
  have hrun := State.runEngines_canonical 167000 h₁
  simp [hrun.data, hrun.slotMem]

theorem execP2Commit_canonical (ofs : Nat) {s : State} (h : MemoriesCanonical s) :
    LeavesCanonical (execP2Commit ofs s) := by
  refine (canonical_ite (fun _ => h) fun _ => ?_).next
  extract_lets s₁ s₂ s₃ s₄
  have h₁ : MemoriesCanonical s₁ := by simp [s₁, h.data, h.slotMem]
  have h₂ : MemoriesCanonical s₂ :=
    canonical_ite (fun _ => foldl_canonical (fun t p ht => by simp [ht.data, ht.slotMem]) _ h₁) fun _ => h₁
  have h₃ : MemoriesCanonical s₃ := by simp [s₃, h₂.data, h₂.slotMem]
  have h₄ : MemoriesCanonical s₄ := by
    refine canonical_ite (fun _ => by simp [h₃.data, h₃.slotMem]) fun _ => canonical_ite (fun _ => ?_) fun _ => h₃
    have hc := State.commit_canonical h₃
    simp [hc.data, hc.slotMem]
  have hsym : MemoriesCanonical s₄.runSymReads := by simp [h₄.data, h₄.slotMem]
  simp [h₄.data, hsym.slotMem]

theorem execP3Raft_canonical {s : State} (h : MemoriesCanonical s) : LeavesCanonical (execP3Raft s) := by
  refine (canonical_ite (fun _ => h) fun _ => ?_).next
  extract_lets s₁ s₂ s₃
  have h₂ : MemoriesCanonical s₂ := by simp [s₂, s₁, h.data, h.slotMem]
  have h₃ : MemoriesCanonical s₃ := canonical_ite (fun _ => State.runEngines_canonical _ h₂) fun _ => h₂
  exact canonical_ite (fun _ => foldl_canonical (fun t p ht => State.initSlot_canonical p ht) _ h₃) fun _ => h₃

end Sys2Proof.Machine
end

section
namespace Sys2Proof.Machine

/-! ### The invariant -/

/-- Every command leaves both memories canonical. A command that writes one register goes through `regWrite`, a scan instruction
through `scanInstr`; a request's row has to keep the memories in what it runs; the others have their lemmas above. -/
theorem exec_leavesCanonical (i : Instr) {s : State} (h : MemoriesCanonical s) : LeavesCanonical (exec i s) := by
  cases i
  case flogSelWrite | softReset | freeze | blockEnable | busChannelEnable | meterEnable | thermEnable | errClear
    | protKeyWrite | evtRawClear | evtMaskWrite | frameRun | frameStop | clrMax | beatAlarmArm | tbCfgWrite
    | rtcMeasure | scanCtrlWrite | clrCnt | seamCmdStore | seamHoldWrite | slotPost | slotRelease | pathErrClear =>
    exact MemoriesCanonical.next (State.regWrite_canonical _ _ _ _ _ h)
  case opNop | opEnd | opRet | opTrap | opIllegalInstruction | opAdd | opSub | opMul | opDiv | opRem | opAbs | opMin
    | opMax | opAnd | opOr | opXor | opNot | opShl | opShr | opSar | opSel | opFadd | opFsub | opFmul | opFdiv | opFma
    | opFneg | opFabs | opFsqrt | opFmin | opFmax | opCeq | opCne | opClt | opCle | opFceq | opFclt | opFcle | opFcun
    | opItof | opFtoi | opFrnd | opSatw | opFwid | opFnar | opAddiw | opAddil | opAndi | opOri | opXori | opLui
    | opBtst | opBset | opBclr | opLdb | opLdw | opLdd | opStb | opStw | opStd | opStfb | opStfw | opStfd | opBr
    | opCall | opBt | opBf | opSpr | opSpra | opSps | opLin | opLout | opTon | opTof | opTp | opCtu | opCtd | opCtud
    | opRTrig | opFTrig =>
    exact (State.scanInstr_canonical _ _ h).next
  case timeRead | timeSet | todSet | baseReacquire | ptpDatasetRead | utcSet | progList | progStart | progStop
    | progStep | breakSet | breakClear | forceSet | forceClear | forceList | symRead | symWrite | stageOpen
    | stageWrite | stageCheck | exchange | stageDiscard | exchangeStatus | loopList | loopRead | loopMode
    | loopParamSet | loopClear | dispStatus | dispParamSet | dispSchedSet | dispSolve | dispAbort | dispDataWrite
    | dispDataRead | planRead | dispResultRead | dispBindRead | dispLogRead | busStatus | tallyRead | tallyWrite
    | catchRead | busRecover | tallyFind | meterLatchRead | meterHarmRead | meterEventRead | meterCalWrite
    | meterCalRestore | meterCalRead | meterSetupSave | meterCopySet | meterCapture | thermLatchRead | thermCalWrite
    | thermCalRead | thermTableWrite | thermCopySet | thermSetupSave | billSave | billRead | gapRead | seamStatus
    | seamRead | seamWrite | seamStore | seamLock | seamBankInfo | pairStatusRead | pairHandover | pairDetach
    | pairRejoin | lampRead | divLogRead | cascadeStatus | banksmanStatus | devInfo | sessionClose | echo
    | journalRead | keyList | keyPublicRead | keyUpdate | attest | updateWrite | updateStatus | updateAbort | activate
    | slotCancel | bootInfo | bootReset =>
    exact octah_leavesCanonical h fun t ht => by simp [ht.data, ht.slotMem]
  case progHold | progResume =>
    exact octah_leavesCanonical h fun _ ht => modeRow_canonical _ _ _ _ _ ht
  case registerWrite | lowWordRead | flogData0Read | faultDetected | autoRestart | safetyCtrlWrite | programDeadline
    | revertHoldExpire | ptpManagement | clockLoss | rtcSnapshot | processImageWrite | exchangeMigrate | lioPulseEdge
    | loopWindowWrite | cutover | busFrameRx | tallyWindowWrite | slotDue | busFrameTxDone | busError | roundCutoff
    | afeSamples | afeLinkDegrade | afeLinkResume | noSyncTimeout | latchPublish | energyQuantum | calTakeEffect
    | flowTimeout | thermLatchPublish | thermCalEffect | billSaveTrigger | billSnapshot | gapRecord | seamWindowWrite
    | pfiAccepted | powerRestore | grant | refuse | leaseExpire | banksmanRenew | banksmanTake | banksmanHandover
    | banksmanRestart | raftDeadline | heartbeatMissed | handoverBeat | handoverNoAnswer | lampItemDone
    | listenOnlyTimeout | lampFullExpire | cascTimingLost | extInputDeadline | masterOutputLost | commandWindowWrite
    | octahDatagramRx | reassemblyTimeout | arpRequest | icmpEcho | neighborDiscovery | prpSupervision | rngHealthFail
    | resetNRelease | powerUp | supplyOutOfRange | pcieReset | backupPor | bkCntSet | bkAlarmArm | bkAlarmDisarm
    | alarmReached | pwrAssert | pwrRelease | wakeIn | pwrOnPulseEnd | bkTick | tclkInOkChange | referenceClockReturn
    | supplyReturn | resetNAssert | pcieLinkChange =>
    exact MemoriesCanonical.next (by simp [h.data, h.slotMem])
  case freezeExpire head => exact execFreezeExpire_canonical head h
  case engineWatchdogExpire engine pairId crcOk partsOk => exact execEngineWatchdogExpire_canonical engine pairId crcOk partsOk h
  case beatBoundary env => exact execBeatBoundary_canonical env h
  case p0Latch ofs => exact execP0Latch_canonical ofs h
  case p1Compute hung => exact execP1Compute_canonical hung h
  case p2Commit ofs => exact execP2Commit_canonical ofs h
  case p3Raft => exact execP3Raft_canonical h
  case latchLate => exact execLatchLate_canonical h
  case latchTimeout => exact execLatchTimeout_canonical h
  case loopLate => exact execLoopLate_canonical h
  case beatMatch => exact execBeatMatch_canonical h
  case ptpSync m => exact execPtpSync_canonical m h
  case ptpFollowUp m => exact execPtpFollowUp_canonical m h
  case ptpDelayReq m => exact execPtpDelayReq_canonical m h
  case ptpDelayResp m => exact execPtpDelayResp_canonical m h
  case ptpPdelayReq m => exact execPtpPdelayReq_canonical m h
  case ptpPdelayResp m => exact execPtpPdelayResp_canonical m h
  case ptpPdelayRespFollowUp m => exact execPtpPdelayRespFollowUp_canonical m h
  case ptpAnnounce m a => exact execPtpAnnounce_canonical m a h
  case ptpMasterTx base port => exact execPtpMasterTx_canonical base port h
  case ptpSourceLost base => exact execPtpSourceLost_canonical base h
  case ppsInEdge q => exact execPpsInEdge_canonical q h
  case ppsInLost => exact execPpsInLost_canonical h
  case ppsOutPulse => exact execPpsOutPulse_canonical h
  case rtcMeasureDone err => exact execRtcMeasureDone_canonical err h
  case timing crcOk t1 t2 t3 t4 => exact execTiming_canonical crcOk t1 t2 t3 t4 h
  case followDue ch => exact execFollowDue_canonical ch h
  case followValue crcOk values => exact execFollowValue_canonical crcOk values h
  case solveStart => exact execSolveStart_canonical h
  case hostDataOpenExpire => exact execHostDataOpenExpire_canonical h
  case solveEnd us => exact execSolveEnd_canonical us h
  case solveDeadline iters us => exact execSolveDeadline_canonical iters us h
  case verifyDone us => exact execVerifyDone_canonical us h
  case verifyMissed => exact execVerifyMissed_canonical h
  case planStep => exact execPlanStep_canonical h
  case planFallback => exact execPlanFallback_canonical h
  case candidateDigest crcOk digest verified => exact execCandidateDigest_canonical crcOk digest verified h
  case arbitrationLost ch => exact execArbitrationLost_canonical ch h
  case aloneDetect ch => exact execAloneDetect_canonical ch h
  case busIntegrationDone ch => exact execBusIntegrationDone_canonical ch h
  case busRecoveryDone ch => exact execBusRecoveryDone_canonical ch h
  case txdTimeout ch => exact execTxdTimeout_canonical ch h
  case schedRead req => exact execSchedRead_canonical req h
  case captureDone => exact execCaptureDone_canonical h
  case meterCaptureRead req => exact execMeterCaptureRead_canonical req h
  case bracketTimeout => exact execBracketTimeout_canonical h
  case seamStoreBegin => exact execSeamStoreBegin_canonical h
  case seamStoreDone ok page us => exact execSeamStoreDone_canonical ok page us h
  case pfiBracketWaitEnd => exact execPfiBracketWaitEnd_canonical h
  case powerFailSeal ok => exact execPowerFailSeal_canonical ok h
  case vholdCollapse => exact execVholdCollapse_canonical h
  case vholdOkChange ok => exact execVholdOkChange_canonical ok h
  case leaseRelay crcOk msg => exact execLeaseRelay_canonical crcOk msg h
  case inputSection crcOk kind arg data => exact execInputSection_canonical crcOk kind arg data h
  case inputEnd crcOk beat sections bytes => exact execInputEnd_canonical crcOk beat sections bytes h
  case inputRaftDeadline => exact execInputRaftDeadline_canonical h
  case stateBlock crcOk region block data => exact execStateBlock_canonical crcOk region block data h
  case stateEnd crcOk beat blocks => exact execStateEnd_canonical crcOk beat blocks h
  case heartbeat crcOk data peer => exact execHeartbeat_canonical crcOk data peer h
  case joinRequest crcOk => exact execJoinRequest_canonical crcOk h
  case copyBlock crcOk region block data => exact execCopyBlock_canonical crcOk region block data h
  case joinReady crcOk run => exact execJoinReady_canonical crcOk run h
  case exchangeConfirm crcOk beat => exact execExchangeConfirm_canonical crcOk beat h
  case handoverNotice crcOk at_ => exact execHandoverNotice_canonical crcOk at_ h
  case blockResend crcOk region block => exact execBlockResend_canonical crcOk region block h
  case lampPattern crcOk lane pattern data => exact execLampPattern_canonical crcOk lane pattern data h
  case ringTrainingDone position => exact execRingTrainingDone_canonical position h
  case ringBreak => exact execRingBreak_canonical h
  case configBlock crcOk ext tally recs progs => exact execConfigBlock_canonical crcOk ext tally recs progs h
  case cascTiming crcOk ns rxQ delay => exact execCascTiming_canonical crcOk ns rxQ delay h
  case extInput crcOk ext data ofs => exact execExtInput_canonical crcOk ext data ofs h
  case masterOutput crcOk ext data => exact execMasterOutput_canonical crcOk ext data h
  case qspiRead addr count stop => exact execQspiRead_canonical addr count stop h
  case qspiWrite addr count words crcOk busy => exact execQspiWrite_canonical addr count words crcOk busy h
  case qspiStatus busy => exact execQspiStatus_canonical busy h
  case linkChange port up gbit => exact execLinkChange_canonical port up gbit h
  case octahUndefinedOpcode req => exact execOctahUndefinedOpcode_canonical req h
  case sessionOpen req => exact execSessionOpen_canonical req h
  case sessionTimeout id => exact execSessionTimeout_canonical id h
  case regRead req => exact execRegRead_canonical req h
  case regWrite req => exact execRegWrite_canonical req h
  case journalRelease req => exact execJournalRelease_canonical req h
  case keyMac req => exact execKeyMac_canonical req h
  case keyCrypt req => exact execKeyCrypt_canonical req h
  case xmssReady => exact execXmssReady_canonical h
  case updateOpen req => exact execUpdateOpen_canonical req h
  case updateClose req => exact execUpdateClose_canonical req h
  case updateCloseDone => exact execUpdateCloseDone_canonical h
  case updateOrphanTimeout => exact execUpdateOrphanTimeout_canonical h
  case coldStart pairId => exact execColdStart_canonical pairId h
  case warmStart pairId crcOk partsOk => exact execWarmStart_canonical pairId crcOk partsOk h
  case startEnable ms => exact execStartEnable_canonical ms h
  case startConfirm => exact execStartConfirm_canonical h
  case xtStopped => exact execXtStopped_canonical h
  case receiveError ch kind eight => exact execReceiveError_canonical ch kind eight h
  case ptpAnnounceTimeout base port => exact execPtpAnnounceTimeout_canonical base port h
  case ptpDelayReqTx base port => exact execPtpDelayReqTx_canonical base port h

theorem step_leavesCanonical {s : State} (h : MemoriesCanonical s) : LeavesCanonical (step s) := by
  unfold step
  split
  · exact h.next
  · exact exec_leavesCanonical _ h

/-- Settles O4: by cases on the command in front of the queue; each keeps the canonical form of both memories. -/
theorem memoriesStayCanonical : Obligations.MemoriesStayCanonical :=
  fun _ t h ht => step_leavesCanonical h t ht

end Sys2Proof.Machine
end

section
namespace Sys2Proof.Machine

/-! ### Reset -/

theorem getD_replicate_same {α : Type} (n i : Nat) (x : α) : (List.replicate n x).getD i x = x := by
  rw [List.getD_eq_getElem?_getD, List.getElem?_replicate]
  split <;> rfl

theorem State.reset_jentry (g : Nat) : State.reset.jentry g = JEntry.free :=
  getD_replicate_same 256 g JEntry.free

theorem State.reset_slot (p : Nat) : State.reset.slot p = ProgSlot.empty :=
  getD_replicate_same 32 p ProgSlot.empty

theorem State.reset_cmdSlot {x : CmdSlot} (hx : x ∈ State.reset.host.slots) : x = { mode := .free, len := 0, rlen := 0 } :=
  List.eq_of_mem_replicate hx

theorem State.reset_tablesSized : TablesSized State.reset := by
  have hslots : State.reset.scan.slots.length = 32 := List.length_replicate
  have hcmd : State.reset.host.slots.length = 16 := List.length_replicate
  have hjournal : State.reset.host.journal.length = 256 := List.length_replicate
  have hbases : State.reset.time.bases.length = 4 := List.length_replicate
  have hports : State.reset.time.ports.length = 8 := List.length_replicate
  exact ⟨hslots, hcmd, hjournal, Nat.zero_le _, Nat.zero_le _, fun _ => rfl, Nat.zero_le _, rfl, hbases, hports⟩

/-- Settles O2: the parts of reset by computation, the tables as the lists of equal entries they are. That the memories list no byte
and every other part stands as when nothing has happened is the model's choice at reset (notes/assumptions/2.md and 8.md). -/
theorem resetMeetsTheInvariants : Obligations.ResetMeetsTheInvariants := by
  have hregs : ∀ a, State.reset.rg a = regReset a := fun _ => rfl
  have hbytes : ∀ a, State.reset.scan.data.get a = 0 ∧ State.reset.seam.sram.get a = 0 := fun _ => ⟨rfl, rfl⟩
  have hjournal : ∀ g < 256, (State.reset.jentry g).state = .free := fun g _ => by rw [State.reset_jentry]; rfl
  have hcmd : ∀ x ∈ State.reset.host.slots, x.mode = .free := fun x hx => by rw [State.reset_cmdSlot hx]
  have hslots : ∀ p < 32, (State.reset.slot p).mode = .empty := fun p _ => by rw [State.reset_slot]; rfl
  have hframe : State.reset.blkState Head.frame = 0 := by decide
  have hmems : MemoriesCanonical State.reset := ⟨rfl, rfl⟩
  exact ⟨hregs, hbytes, rfl, rfl, rfl, rfl, rfl, hjournal, hcmd, hslots, hframe, rfl, hmems, State.reset_tablesSized, fun _ => rfl⟩

end Sys2Proof.Machine
end

section
/-!
What a missed deadline and a pulse edge leave (O48): each register and each slot a miss touches, and the counts an edge moves.
-/
namespace Sys2Proof.Machine

/-! ### Registers and slots that the parts of a missed deadline leave alone -/

/-- A slot reads as before in any state whose slots are as before. -/
theorem State.slot_congr {s t : State} (h : t.scan.slots = s.scan.slots) (q : Nat) : t.slot q = s.slot q := by
  unfold State.slot; rw [h]

theorem State.rg_setStatus_other (s : State) (head : Nat) (w : Word) {a : Nat} (h : a ∉ [Reg.status head, Reg.beatStamp head]) :
    (s.setStatus head w).rg a = s.rg a := by
  simp only [List.mem_cons, List.not_mem_nil, or_false, not_or] at h
  rw [State.rg_setStatus _ _ _ _ h.2, if_neg h.1]

/-- The registers in which SCAN shows its state and its events. -/
abbrev scanShown : List Nat := [Reg.status Head.scan, Reg.beatStamp Head.scan, Reg.evtRaw Head.scan]

theorem State.rg_scanRefresh_other (s : State) {a : Nat} (h : a ∉ scanShown) : s.scanRefresh.rg a = s.rg a := by
  have hs : a ∉ [Reg.status Head.scan, Reg.beatStamp Head.scan] := fun m => h (List.mem_append_left [Reg.evtRaw Head.scan] m)
  unfold State.scanRefresh State.setReady State.setBlkState
  rw [State.rg_setStatus_other _ _ _ hs, State.rg_setStatus_other _ _ _ hs]

theorem State.rg_setMode_other (s : State) (p : Nat) (m : ProgMode) {a : Nat} (h : a ∉ scanShown) : (s.setMode p m).rg a = s.rg a := by
  have he : a ≠ Reg.evtRaw Head.scan := fun e => h (by simp [e])
  unfold State.setMode
  split
  · rfl
  · rw [State.rg_scanRefresh_other _ h, State.rg_evt_other _ _ he]; rfl

/-- A stop shows in SCAN's status and event registers and in no other. -/
theorem State.rg_stopProg_other (s : State) (p cause : Nat) {a : Nat} (h : a ∉ scanShown) : (s.stopProg p cause).rg a = s.rg a := by
  unfold State.stopProg
  exact State.rg_setMode_other _ _ _ h

theorem State.rg_sendBack_other (s : State) (src : ReqSource) (pkt : List Byte) {a : Nat} (h : a ≠ Reg.evtRaw Head.host) :
    (s.sendBack src pkt).rg a = s.rg a := by
  unfold State.sendBack
  split
  · rfl
  · cases src with
    | eth addr port => rfl
    | mirror => rfl
    | slot link n =>
      dsimp only
      split
      · exact State.rg_evt_other _ _ h
      · rfl

/-- The response of a command moves no register but HOST's EVT_RAW. -/
theorem State.rg_opEnd_other (s : State) (tag code : Nat) (pl : List Byte) (pr : Nat) {a : Nat} (h : a ≠ Reg.evtRaw Head.host) :
    (s.opEnd tag code pl pr).rg a = s.rg a := by
  unfold State.opEnd
  dsimp only
  split
  · rfl
  · unfold State.respond
    rw [State.rg_sendBack_other _ _ _ h]
    exact State.rg_congr (by simp) a

/-- The registers a failing exchange moves. -/
abbrev exchShown : List Nat := Reg.EXCH_STATUS :: Reg.evtRaw Head.host :: scanShown

theorem State.rg_exchFail_other (s : State) (cause : Nat) {a : Nat} (h : a ∉ exchShown) : (s.exchFail cause).rg a = s.rg a := by
  have hx : a ≠ Reg.EXCH_STATUS := fun e => h (by simp [e])
  have hh : a ≠ Reg.evtRaw Head.host := fun e => h (by simp [e])
  have hs : a ∉ scanShown := fun m => h (List.mem_cons_of_mem _ (List.mem_cons_of_mem _ m))
  have he : a ≠ Reg.evtRaw Head.scan := fun e => hs (by simp [e])
  unfold State.exchFail
  split
  · rfl
  · split
    · rfl
    · dsimp only
      rw [State.rg_scanRefresh_other _ hs, State.rg_opEnd_other _ _ _ _ _ hh, State.rg_evt_other _ _ he]
      change ((s.setFld Reg.EXCH_STATUS 2 0 5).setFld Reg.EXCH_STATUS 15 8 cause).rg a = s.rg a
      rw [State.rg_setFld, if_neg hx, State.rg_setFld, if_neg hx]

theorem State.exchFail_slots (s : State) (cause : Nat) : (s.exchFail cause).scan.slots = s.scan.slots := by
  unfold State.exchFail
  split
  · rfl
  · split
    · rfl
    · simp

theorem State.rg_exchFailOf_other (s : State) (p cause : Nat) {a : Nat} (h : a ∉ exchShown) : (s.exchFailOf p cause).rg a = s.rg a := by
  unfold State.exchFailOf
  repeat' split
  · exact State.rg_exchFail_other s cause h
  · rfl
  · rfl

theorem State.exchFailOf_slots (s : State) (p cause : Nat) : (s.exchFailOf p cause).scan.slots = s.scan.slots := by
  unfold State.exchFailOf
  repeat' split
  · exact s.exchFail_slots cause
  · rfl
  · rfl

/-! ### A missed deadline (R64, R142) -/

/-- What a miss counts and reports before the program stops or goes on. -/
def State.missReported (s : State) (p : Nat) : State :=
  (((((s.incSat Reg.OVERRUN_CNT).evt Head.frame 3).incSat (Reg.PROG_OVERRUNS p)).evt Head.scan 2).exchFailOf p 1)

/-- A missed deadline: the report, then the stop or the extension by one period. -/
theorem State.missDeadline_eq (s : State) (p : Nat) (c : Cycle) :
    s.missDeadline p c = if Image.overrunStop ((s.missReported p).image p) || c.late then (s.missReported p).stopProg p 3
      else (s.missReported p).modSlot p (fun x => { x with cycle := some { c with late := true, f0 := c.f0 + Image.k (s.image p) },
                                                           resumeAt := c.f0 + 2 * Image.k (s.image p) }) := rfl

theorem State.missReported_slots (s : State) (p : Nat) : (s.missReported p).scan.slots = s.scan.slots := by
  unfold State.missReported
  rw [State.exchFailOf_slots]
  simp

/-- The two counts go up; no other register outside those in which the miss is shown moves. -/
theorem State.rg_missReported (s : State) (p : Nat) {a : Nat} (h : a ∉ Reg.evtRaw Head.frame :: exchShown) :
    (s.missReported p).rg a = ((s.incSat Reg.OVERRUN_CNT).incSat (Reg.PROG_OVERRUNS p)).rg a := by
  have hx : a ∉ exchShown := fun m => h (List.mem_cons_of_mem _ m)
  have hf : a ≠ Reg.evtRaw Head.frame := fun e => h (by simp [e])
  have he : a ≠ Reg.evtRaw Head.scan := fun e => h (by simp [e])
  have hp : Reg.PROG_OVERRUNS p ≠ Reg.evtRaw Head.frame := by simp only [Reg.PROG_OVERRUNS, Reg.evtRaw]; omega
  unfold State.missReported
  rw [State.rg_exchFailOf_other _ _ _ hx, State.rg_evt_other _ _ he, State.rg_incSat, State.rg_incSat, State.rg_evt_other _ _ hf,
    State.rg_evt_other _ _ hp]

theorem State.rg_missDeadline (s : State) (p : Nat) (c : Cycle) {a : Nat} (h : a ∉ Reg.evtRaw Head.frame :: exchShown) :
    (s.missDeadline p c).rg a = ((s.incSat Reg.OVERRUN_CNT).incSat (Reg.PROG_OVERRUNS p)).rg a := by
  have hs : a ∉ scanShown := fun m => h (List.mem_cons_of_mem _ (List.mem_cons_of_mem _ (List.mem_cons_of_mem _ m)))
  rw [State.missDeadline_eq, ← State.rg_missReported s p h]
  split
  · exact State.rg_stopProg_other _ _ _ hs
  · rfl

theorem State.overruns_missDeadline (s : State) (p : Nat) (c : Cycle) :
    (s.missDeadline p c).rg (Reg.PROG_OVERRUNS p) = satInc (s.rg (Reg.PROG_OVERRUNS p)) ∧
      (s.missDeadline p c).rg Reg.OVERRUN_CNT = satInc (s.rg Reg.OVERRUN_CNT) := by
  have hp : Reg.PROG_OVERRUNS p ∉ Reg.evtRaw Head.frame :: exchShown := by
    simp only [List.mem_cons, List.not_mem_nil, or_false, not_or, Reg.PROG_OVERRUNS, Reg.evtRaw, Reg.status, Reg.beatStamp, Reg.EXCH_STATUS]
    omega
  have hne : Reg.OVERRUN_CNT ≠ Reg.PROG_OVERRUNS p := by simp only [Reg.OVERRUN_CNT, Reg.PROG_OVERRUNS]; omega
  constructor
  · rw [State.rg_missDeadline _ _ _ hp, State.rg_incSat, if_pos rfl, State.rg_incSat, if_neg hne.symm]
  · rw [State.rg_missDeadline _ _ _ (by decide), State.rg_incSat, if_neg hne, State.rg_incSat, if_pos rfl]

/-- The slot stops, or its cycle goes on late by one period; every other slot stays. -/
theorem State.slot_missDeadline (s : State) (p q : Nat) (c : Cycle) (h : p < s.scan.slots.length) :
    (s.missDeadline p c).slot q =
      if q = p then
        (if Image.overrunStop (s.image p) || c.late then
          { s.slot p with mode := .stop, cause := 3, suspended := false, stepping := false, cycle := none, req := none, abortAt := none,
                          safeDue := Image.stopSafe (s.slot p).image }
        else { s.slot p with cycle := some { c with late := true, f0 := c.f0 + Image.k (s.image p) },
                             resumeAt := c.f0 + 2 * Image.k (s.image p) })
      else s.slot q := by
  have hslot (q : Nat) : (s.missReported p).slot q = s.slot q := State.slot_congr (s.missReported_slots p) q
  have himage : (s.missReported p).image p = s.image p := congrArg ProgSlot.image (hslot p)
  have hlen : p < (s.missReported p).scan.slots.length := by rwa [State.missReported_slots]
  rw [State.missDeadline_eq, himage]
  split
  · rw [State.slot_stopProg _ _ _ _ hlen, hslot, hslot]
  · rw [State.slot_modSlot _ _ _ _ hlen, hslot, hslot]

/-- A deadline passes with a cycle of the slot not finished. -/
theorem State.deadline_of_unfinished {s : State} {p : Nat} {c : Cycle} (hc : (s.slot p).cycle = some c) (hd : c.done = false)
    (hs : (s.slot p).suspended = false) (hr : s.running = true) (hf : s.frame.phase = .p1) (hb : s.beat + 1 = c.f0 + Image.k (s.image p)) :
    s.deadline p = s.missDeadline p c := by
  unfold State.deadline
  simp [hc, hd, hs, hr, hf, hb]

/-! ### An edge of a pulse input (R151) -/

/-- An edge counts backward: the line has a direction line, and that stands at its backward level. -/
def State.edgeBack (s : State) (n : Nat) (dir : Bool) : Bool := s.fld (Reg.LIO_PCFG n) 5 5 == 1 && (dir != (s.fld (Reg.LIO_PCFG n) 12 12 == 1))

theorem State.edgeBack_iff (s : State) (n : Nat) (dir : Bool) :
    s.edgeBack n dir = true ↔ s.fld (Reg.LIO_PCFG n) 5 5 = 1 ∧ (dir = true ↔ s.fld (Reg.LIO_PCFG n) 12 12 ≠ 1) := by
  unfold State.edgeBack
  cases dir <;> simp

/-- An edge that passes the checks of R151 is stamped and counted. -/
theorem State.pulseEdge_counted {s : State} {n : Nat} {rising : Bool} {prevNs : Nat} (dir : Bool) (q : Nat) (hn : n < 32)
    (hv : bit s.boot.vio (n / 24) = true) (hon : s.fld (Reg.LIO_PCFG n) 0 0 = 1)
    (hmode : s.fld (Reg.LIO_PCFG n) 2 1 = 2 ∨ s.fld (Reg.LIO_PCFG n) 2 1 = (if rising then 0 else 1))
    (hfilter : filterNs (s.fld (Reg.LIO_PCFG n) 4 3) ≤ prevNs) :
    let st : Word := BitVec.ofNat 32 (shortStamp (s.stampQ q))
    s.pulseEdge n rising prevNs dir q =
      { s.setRg (Reg.LIO_PTS n) st with lio :=
          { s.lio with stamp := modifyNth (fun _ => st) n s.lio.stamp
                       stampPrev := modifyNth (fun _ => s.lio.stamp.getD n 0) n s.lio.stampPrev
                       edges := modifyNth (fun k => min 2 (k + 1)) n s.lio.edges
                       fwd := if s.edgeBack n dir then s.lio.fwd else modifyNth (· + 1) n s.lio.fwd
                       rev := if s.edgeBack n dir then modifyNth (· + 1) n s.lio.rev else s.lio.rev } } := by
  unfold State.pulseEdge
  exact if_pos ⟨hn, hv, hon, hmode, hfilter⟩

/-- A table of counts with one counted up reads one more there, and as before elsewhere. -/
theorem getD_countUp (l : List Word) {n : Nat} (hn : n < l.length) :
    (modifyNth (· + 1) n l).getD n 0 = l.getD n 0 + 1 ∧ ∀ k, k ≠ n → (modifyNth (· + 1) n l).getD k 0 = l.getD k 0 :=
  ⟨getD_modifyNth_same _ n l 0 hn, fun _ hk => getD_modifyNth_other _ l 0 hk⟩

theorem programDeadline_completes {s : State} {p : Nat} {c : Cycle} (hlen : p < s.scan.slots.length) (hc : (s.slot p).cycle = some c)
    (hd : c.done = false) (hs : (s.slot p).suspended = false) (hr : s.running = true) (hf : s.frame.phase = .p1)
    (hb : s.beat + 1 = c.f0 + Image.k (s.image p)) :
    Completes (.programDeadline p) s (fun t => t.rg (Reg.PROG_OVERRUNS p) = satInc (s.rg (Reg.PROG_OVERRUNS p)) ∧
      t.rg Reg.OVERRUN_CNT = satInc (s.rg Reg.OVERRUN_CNT) ∧ (∀ q, q ≠ p → t.slot q = s.slot q) ∧
      (Image.overrunStop (s.image p) = true ∨ c.late = true → (t.slot p).mode = .stop ∧ (t.slot p).cause = 3 ∧ (t.slot p).cycle = none) ∧
      (Image.overrunStop (s.image p) = false → c.late = false →
        (t.slot p).cycle = some { c with late := true, f0 := c.f0 + Image.k (s.image p) } ∧ (t.slot p).mode = (s.slot p).mode)) := by
  have hexec : exec (.programDeadline p) s = .next (s.missDeadline p c) :=
    congrArg Host.Outcome.next (State.deadline_of_unfinished hc hd hs hr hf hb)
  obtain ⟨hown, hall⟩ := s.overruns_missDeadline p c
  refine ⟨_, hexec, hown, hall, ?_, ?_, ?_⟩
  · intro q hq
    rw [State.slot_missDeadline _ _ _ _ hlen, if_neg hq]
  · intro hstop
    rw [State.slot_missDeadline _ _ _ _ hlen, if_pos rfl, if_pos (by simpa using hstop)]
    exact ⟨rfl, rfl, rfl⟩
  · intro hgo hlate
    rw [State.slot_missDeadline _ _ _ _ hlen, if_pos rfl, if_neg (by simp [hgo, hlate])]
    exact ⟨rfl, rfl⟩

/-- An edge that is counted is stamped, and one entry of one of the two tables goes up by one. -/
theorem lioPulseEdge_completes {s : State} {n : Nat} {rising : Bool} {prevNs : Nat} (dir : Bool) (q : Nat) (hn : n < 32)
    (hfwd : n < s.lio.fwd.length) (hrev : n < s.lio.rev.length)
    (hv : bit s.boot.vio (n / 24) = true) (hon : s.fld (Reg.LIO_PCFG n) 0 0 = 1)
    (hmode : s.fld (Reg.LIO_PCFG n) 2 1 = 2 ∨ s.fld (Reg.LIO_PCFG n) 2 1 = (if rising then 0 else 1))
    (hfilter : filterNs (s.fld (Reg.LIO_PCFG n) 4 3) ≤ prevNs) :
    Completes (.lioPulseEdge n rising prevNs dir q) s (fun t => t.rg (Reg.LIO_PTS n) = BitVec.ofNat 32 (shortStamp (s.stampQ q)) ∧
      (s.edgeBack n dir = false → t.lio.fwd.getD n 0 = s.lio.fwd.getD n 0 + 1 ∧ t.lio.rev = s.lio.rev) ∧
      (s.edgeBack n dir = true → t.lio.rev.getD n 0 = s.lio.rev.getD n 0 + 1 ∧ t.lio.fwd = s.lio.fwd) ∧
      (∀ k, k ≠ n → t.lio.fwd.getD k 0 = s.lio.fwd.getD k 0 ∧ t.lio.rev.getD k 0 = s.lio.rev.getD k 0) ∧
      t = { s with reg := t.reg, lio := t.lio }) := by
  have hexec : exec (.lioPulseEdge n rising prevNs dir q) s = .next _ :=
    congrArg Host.Outcome.next (State.pulseEdge_counted dir q hn hv hon hmode hfilter)
  obtain ⟨hf, hfOther⟩ := getD_countUp s.lio.fwd hfwd
  obtain ⟨hr, hrOther⟩ := getD_countUp s.lio.rev hrev
  refine ⟨_, hexec, s.rg_setRg_same _ _, ?_, ?_, ?_, rfl⟩
  · intro h
    simp only [h]
    exact ⟨hf, rfl⟩
  · intro h
    simp only [h]
    exact ⟨hr, rfl⟩
  · intro k hk
    cases s.edgeBack n dir with
    | true => exact ⟨rfl, hrOther k hk⟩
    | false => exact ⟨hfOther k hk, rfl⟩

/-- Settles O48: a deadline that passes with an unfinished cycle is a miss, whose counts and slots `State.overruns_missDeadline` and
`State.slot_missDeadline` give; a counted edge adds one to one entry of one of the two tables. -/
theorem deadlinesAndPulseEdges : Obligations.DeadlinesAndPulseEdges := by
  refine ⟨fun s p c hp hlen hc hd hs hr hf hb => programDeadline_completes (hlen ▸ hp) hc hd hs hr hf hb, ?_⟩
  intro s n rising dir prevNs q hn hfwd hrev hv hon hmode hfilter back
  obtain ⟨t, hexec, hstamp, hahead, hbackward, hkept⟩ :=
    lioPulseEdge_completes dir q hn (hfwd ▸ hn) (hrev ▸ hn) hv hon hmode hfilter
  have hback : s.edgeBack n dir = true ↔ back := s.edgeBack_iff n dir
  exact ⟨t, hexec, hstamp, fun h => hahead (by simpa using mt hback.mp h), fun h => hbackward (hback.mpr h), hkept⟩

end Sys2Proof.Machine
end

section
/-!
What the Octah commands share: a word of a memory after a write, the fields of a payload, what acceptance leaves alone, and a
command that is a row of the table.
-/
namespace Sys2Proof.Machine

/-! ### Words of a memory after a write -/

theorem length_leBytes (n v : Nat) : (leBytes n v).length = n := by
  induction n generalizing v with
  | zero => rfl
  | succ n ih => simp [leBytes, ih]

/-- The bytes that spell a number spell its part below 256^n. -/
theorem leNat_leBytes (n v : Nat) : leNat (leBytes n v) = v % 256 ^ n := by
  induction n generalizing v with
  | zero => simp [leBytes, leNat, Nat.mod_one]
  | succ n ih =>
    rw [leBytes, leNat, ih, BitVec.toNat_ofNat, Nat.pow_succ' (m := 256)]
    exact Nat.mod_mul.symm

theorem Mem.length_getN (m : Mem) (a n : Nat) : (m.getN a n).length = n := by
  induction n generalizing a with
  | zero => rfl
  | succ n ih => simp [Mem.getN, ih]

theorem Mem.getElem_getN (m : Mem) (a n k : Nat) (h : k < (m.getN a n).length) : (m.getN a n)[k] = m.get (a + k) := by
  induction n generalizing a k with
  | zero => exact absurd h (Nat.not_lt_zero k)
  | succ n ih =>
    cases k with
    | zero => rfl
    | succ k =>
      simp only [Mem.getN, List.getElem_cons_succ, ih]
      exact congrArg m.get (by omega)

/-- A run of bytes reads back as written. -/
theorem Mem.getN_putN_same (m : Mem) (a : Nat) (bs : List Byte) : (m.putN a bs).getN a bs.length = bs :=
  List.ext_getElem (Mem.length_getN _ _ _) fun k hk hb => by rw [Mem.getElem_getN, Mem.get_putN_inside _ _ _ _ hb]

/-- A run of bytes beside the one written reads as before. -/
theorem Mem.getN_putN_beside (m : Mem) {a b n : Nat} (bs : List Byte) (h : b + n ≤ a ∨ a + bs.length ≤ b) :
    (m.putN a bs).getN b n = m.getN b n :=
  List.ext_getElem (by rw [Mem.length_getN, Mem.length_getN]) fun k hk hb => by
    rw [Mem.length_getN] at hb
    rw [Mem.getElem_getN, Mem.getElem_getN, Mem.get_putN_outside _ _ _ _ (by omega)]

/-- A word reads back as written. -/
theorem Mem.word_putWord_same (m : Mem) (a : Nat) (w : Word) : (m.putWord a w).word a = w := by
  have hbytes : (m.putWord a w).getN a 4 = leBytes 4 w.toNat := Mem.getN_putN_same m a (leBytes 4 w.toNat)
  unfold Mem.word Mem.nat
  rw [hbytes, leNat_leBytes, Nat.mod_eq_of_lt (show w.toNat < 256 ^ 4 from w.isLt), BitVec.ofNat_toNat, BitVec.setWidth_eq]

/-- A word beside the one written reads as before. -/
theorem Mem.word_putWord_beside (m : Mem) {a b : Nat} (w : Word) (h : b + 4 ≤ a ∨ a + 4 ≤ b) : (m.putWord a w).word b = m.word b := by
  unfold Mem.word Mem.nat Mem.putWord Mem.putNat
  rw [Mem.getN_putN_beside _ _ (by rwa [length_leBytes])]

/-! ### Payloads -/

theorem length_bytesAt (bs : List Byte) (o n : Nat) : (bytesAt bs o n).length = n := by
  unfold bytesAt
  simp only [List.length_append, List.length_replicate, List.length_take]
  omega

/-- No field is refused where every condition holds. -/
theorem firstBad_eq_none {l : List (Nat × Bool)} (h : ∀ x ∈ l, x.2 = true) : firstBad l = none := by
  induction l with
  | nil => rfl
  | cons x t ih =>
    rw [firstBad, if_pos (h x (List.mem_cons_self ..)), ih fun y hy => h y (List.mem_cons_of_mem _ hy)]

theorem zeroAt_of_eq {p : List Byte} {o n : Nat} (h : natAt p o n = 0) : zeroAt p o n = true := beq_iff_eq.mpr h

theorem bits_eq_zero_of_lt {v hi lo : Nat} (h : v < 2 ^ lo) : bits v hi lo = 0 := by
  unfold bits; rw [Nat.div_eq_of_lt h, Nat.zero_mod]

/-! ### Acceptance leaves the loops, the buses, the programs and device time -/

theorem State.acceptedReq_keeps (s : State) (op : Nat) (req : OctahReq) :
    (s.acceptedReq op req).loop = s.loop ∧ (s.acceptedReq op req).bus = s.bus ∧ (s.acceptedReq op req).scan = s.scan ∧
      (s.acceptedReq op req).time = s.time := by
  unfold State.acceptedReq
  split <;> simp

theorem State.taken_keeps (s : State) (op : Nat) (owner : Bool) (req : OctahReq) :
    (s.taken op owner req).loop = s.loop ∧ (s.taken op owner req).scan = s.scan ∧ (s.taken op owner req).time = s.time := by
  unfold State.taken
  split <;> simp [State.acceptedReq_keeps]

/-! ### A row that answers -/

/-- A command that is a row of the Octah table completes where the request is ready and its row refuses nothing. -/
theorem completes_of_row {i : Instr} {row : OpRow} {req : OctahReq} {s : State} {P : State → Prop}
    (he : exec i s = .next (octah row req s)) (hr : OctahReady row.opcode row.owner req s)
    (hl : row.len (Pkt.length req.packet) = true) (hf : row.fits req.pl = true)
    (ha : row.args (s.acceptedReq row.opcode req) req.pl = none) (hg : row.legal (s.acceptedReq row.opcode req) req = none)
    (hP : P (row.run (s.taken row.opcode row.owner req) req)) : Completes i s P :=
  ⟨_, he.trans (congrArg Host.Outcome.next (octah_answers hr hl hf ha hg)), hP⟩

end Sys2Proof.Machine
end

section
/-!
Host access to the loop blocks (R66, R199 to R204): what a word written to a block reads as, what the checks of the opcodes read, and
what each command leaves.
-/
namespace Sys2Proof.Machine

/-! ### Words of a loop block -/

/-- A block word reads as before in any state whose loop blocks are as before. -/
theorem State.lw_congr {s t : State} (h : t.loop = s.loop) (n o : Nat) : t.lw n o = s.lw n o := by
  unfold State.lw; rw [h]

theorem State.lbits_congr {s t : State} (h : t.loop = s.loop) (n o hi lo : Nat) : t.lbits n o hi lo = s.lbits n o hi lo := by
  unfold State.lbits; rw [State.lw_congr h]

theorem State.setLw_loop (s : State) (n o : Nat) (w : Word) :
    (s.setLw n o w).loop = { s.loop with blocks := s.loop.blocks.putWord (256 * n + o) w } := by
  simp [State.setLw]

theorem State.lw_setLw_same (s : State) (n o : Nat) (w : Word) : (s.setLw n o w).lw n o = w := by
  unfold State.lw
  rw [State.setLw_loop]
  exact Mem.word_putWord_same _ _ _

theorem State.lw_setLw_beside (s : State) (n : Nat) {o o' : Nat} (w : Word) (h : o' + 4 ≤ o ∨ o + 4 ≤ o') :
    (s.setLw n o w).lw n o' = s.lw n o' := by
  unfold State.lw
  rw [State.setLw_loop]
  exact Mem.word_putWord_beside _ _ (by omega)

/-! ### The checks of the loop opcodes read the loops, the buses and the engines' faults -/

theorem State.loopDead_congr {s t : State} (h : t.loop = s.loop) (hr : t.rg Reg.LE_FAULT_MAP = s.rg Reg.LE_FAULT_MAP) (n : Nat) :
    t.loopDead n = s.loopDead n := by
  unfold State.loopDead State.loopEngine
  rw [hr, State.lbits_congr h]

theorem State.modeSel_congr {s t : State} (h : t.loop = s.loop) (n : Nat) : t.modeSel n = s.modeSel n := State.lbits_congr h n _ _ _

theorem State.outRefOk_congr {s t : State} (h : t.loop = s.loop) (hb : t.bus = s.bus) (n : Nat) (f : Nat × Nat × Nat) :
    t.outRefOk n f = s.outRefOk n f := by
  unfold State.outRefOk State.entryValid State.entryTx State.entrySched State.tf State.tw State.loopExists
  simp only [hb, State.lbits_congr h, State.lw_congr h]

theorem State.loopRelations_congr {s t : State} (h : t.loop = s.loop) (hb : t.bus = s.bus) (n : Nat) (ws : List (Nat × Word)) :
    t.loopRelations n ws = s.loopRelations n ws := by
  have hnew : ∀ o, loopNew t n ws o = loopNew s n ws o := fun o => by
    unfold loopNew
    rw [State.lw_congr h]
  unfold State.loopRelations
  simp only [hnew, State.outRefOk_congr h hb]

theorem State.acceptedReq_loopDead (s : State) (op : Nat) (req : OctahReq) (n : Nat) : (s.acceptedReq op req).loopDead n = s.loopDead n :=
  State.loopDead_congr (s.acceptedReq_keeps op req).1 (s.acceptedReq_rg op req (by decide)) n

/-! ### The words of LOOP_PARAM_SET -/

theorem length_paramWords (p : List Byte) : (paramWords p).length = ((List.range 32).filter (fun b => bit (natAt p 4 4) b)).length :=
  List.length_mapIdx

/-- A mask bit brings its word. -/
theorem mem_paramWords {p : List Byte} {b : Nat} (hb : b < 32) (h : bit (natAt p 4 4) b = true) : ∃ w, (4 * b, w) ∈ paramWords p := by
  have hm : b ∈ (List.range 32).filter (fun b => bit (natAt p 4 4) b) := List.mem_filter.mpr ⟨List.mem_range.mpr hb, h⟩
  obtain ⟨k, hk, he⟩ := List.getElem_of_mem hm
  exact ⟨_, List.mem_mapIdx.mpr ⟨k, hk, by rw [he]⟩⟩

/-! ### The loop opcodes (R204) -/

section
variable {s : State} {req : OctahReq}

theorem loopList_reads : Reads 0x0300 .loopList
    (fun _ r => Pkt.length r.packet = 4 ∧ 1 ≤ natAt r.pl 2 2 ∧ natAt r.pl 2 2 ≤ 256 ∧ natAt r.pl 0 2 + natAt r.pl 2 2 ≤ 1024)
    (fun s r => leBytes 8 s.beat ++ (List.range (natAt r.pl 2 2)).flatMap (fun k => let n := natAt r.pl 0 2 + k
      leBytes 1 (s.modeSel n) ++ leBytes 1 (s.modeAct n) ++ leBytes 1 (s.lbits n 0x94 7 0) ++ leBytes 1 0 ++ leBytes 4 (s.lw n 0xBC).toNat)) := by
  have hrow : ∀ s req, exec (.loopList req) s = .next (octah _ req s) := fun _ _ => rfl
  refine answers_of_row hrow rfl fun s req hok => ?_
  obtain ⟨hlen, hlo, hhi, hend⟩ := hok
  have hfirst : natAt req.pl 0 2 < 1024 := by omega
  exact ⟨by simp [hlen], rfl, firstBad_eq_none (by simp [hfirst, hlo, hhi, hend]), rfl⟩

theorem loopRead_completes (hr : OctahReady 0x0301 false req s) (hlen : Pkt.length req.packet = 4) (hn : natAt req.pl 0 2 < 1024)
    (hz : natAt req.pl 2 2 = 0) :
    Completes (.loopRead req) s (fun t =>
      t.loop = { s.loop with reads := s.loop.reads ++ [(req.tag, natAt req.pl 0 2)] } ∧ t.scan = s.scan) := by
  obtain ⟨hloop, hscan, -⟩ := s.taken_keeps 0x0301 false req
  refine completes_of_row rfl hr (by simp [hlen]) rfl (firstBad_eq_none (by simp [hn, zeroAt_of_eq hz])) rfl ⟨?_, hscan⟩
  dsimp only
  rw [hloop]

/-- A change of a loop that is accepted waits with the beat of acceptance (R200). -/
theorem State.queueLoop_taken (s : State) (req : OctahReq) (op tag : Nat) (owner : Bool) (c : LoopChange) :
    ((s.taken op owner req).queueLoop tag c).loop = { s.loop with changes := s.loop.changes ++ [(s.beat, tag, c)] } ∧
      ((s.taken op owner req).queueLoop tag c).scan = s.scan := by
  obtain ⟨hloop, hscan, htime⟩ := s.taken_keeps op owner req
  have hbeat : ((s.taken op owner req).opStart tag).beat = s.beat := by simp [State.beat, State.nsCount, htime]
  unfold State.queueLoop
  exact ⟨by simp [hbeat, hloop], by simp [hscan]⟩

theorem loopMode_completes (hr : OctahReady 0x0302 true req s) (hlen : Pkt.length req.packet = 8) (hn : natAt req.pl 0 2 < 1024)
    (hm : natAt req.pl 2 1 ≤ 3) (hcasc : natAt req.pl 2 1 = 3 → s.lbits (natAt req.pl 0 2) 0 11 10 ≠ 0) (hflag : natAt req.pl 3 1 ≤ 1)
    (hman : natAt req.pl 3 1 = 1 → f32.finite (natAt req.pl 4 4) = true) (hdead : s.loopDead (natAt req.pl 0 2) = false) :
    Completes (.loopMode req) s (fun t => t.loop = { s.loop with changes := s.loop.changes ++ [(s.beat, req.tag, .mode (natAt req.pl 0 2)
      (natAt req.pl 2 1) (if natAt req.pl 3 1 = 1 then some (BitVec.ofNat 32 (natAt req.pl 4 4)) else none))] } ∧ t.scan = s.scan) := by
  have hbits := State.lbits_congr (s.acceptedReq_keeps 0x0302 req).1 (natAt req.pl 0 2) 0 11 10
  have hcasc' : natAt req.pl 2 1 ≠ 3 ∨ s.lbits (natAt req.pl 0 2) 0 11 10 ≠ 0 := Decidable.or_iff_not_imp_left.mpr fun h => hcasc (Decidable.of_not_not h)
  have hman' : natAt req.pl 3 1 = 0 ∨ f32.finite (natAt req.pl 4 4) = true := Decidable.or_iff_not_imp_left.mpr fun h => hman (by omega)
  refine completes_of_row rfl hr (by simp [hlen]) rfl (firstBad_eq_none ?_) ?_ (s.queueLoop_taken req 0x0302 req.tag true _)
  · simp [hn, hm, hflag, hbits, hcasc', hman']
  · simp [State.acceptedReq_loopDead, hdead]

theorem loopParamSet_completes {o : Nat} {w : Word} (hr : OctahReady 0x0303 true req s) (hlen : Pkt.length req.packet = 12)
    (hn : natAt req.pl 0 2 < 1024) (hz : natAt req.pl 2 2 = 0) (hws : paramWords req.pl = [(o, w)]) (hmask : natAt req.pl 4 4 < 2 ^ 24)
    (ho : o ≠ 4) (hok : loopWordOk o w = true) (hrel : s.loopRelations (natAt req.pl 0 2) [(o, w)] = true)
    (hdead : s.loopDead (natAt req.pl 0 2) = false) (hstruct : loopStructural o = true → s.modeSel (natAt req.pl 0 2) < 2) :
    Completes (.loopParamSet req) s (fun t =>
      t.loop = { s.loop with changes := s.loop.changes ++ [(s.beat, req.tag, .params (natAt req.pl 0 2) [(o, w)])] }) := by
  obtain ⟨hloop, hbus, -⟩ := s.acceptedReq_keeps 0x0303 req
  have hfits : req.pl.length = 8 + 4 * ((List.range 32).filter (fun b => bit (natAt req.pl 4 4) b)).length := by
    rw [← length_paramWords, hws]
    exact (length_bytesAt _ _ _).trans hlen
  have hbit1 : bit (natAt req.pl 4 4) 1 = false := by
    rw [← Bool.not_eq_true]
    intro h
    obtain ⟨w', hw'⟩ := mem_paramWords (by decide) h
    rw [hws, List.mem_singleton] at hw'
    exact ho (congrArg Prod.fst hw').symm
  have hlegal : ¬ (loopStructural o = true ∧ 2 ≤ s.modeSel (natAt req.pl 0 2)) := fun h => absurd (hstruct h.1) (Nat.not_lt.mpr h.2)
  refine completes_of_row rfl hr (by simp [hlen]) (beq_iff_eq.mpr hfits) (firstBad_eq_none ?_) ?_ ?_
  · simp [hws, hn, zeroAt_of_eq hz, hbit1, bits_eq_zero_of_lt hmask, hok, State.loopRelations_congr hloop hbus, hrel]
  · simpa [hws, State.acceptedReq_loopDead, hdead, State.modeSel_congr hloop] using hlegal
  · dsimp only
    rw [hws]
    exact (s.queueLoop_taken req 0x0303 req.tag true _).1

/-- What LOOP_CLEAR does to one loop: FLAGS_STICKY, OVF_COUNT and BAD_PV_COUNT, and its bit of the map of overflows. -/
def State.clearLoop (s : State) (n : Nat) : State := (((s.setLw n 0x98 0).setLw n 0xD0 0).setLw n 0xD4 0).setMapBit Reg.OVF_MAP n false

theorem State.lw_clearLoop (s : State) (n : Nat) :
    (s.clearLoop n).lw n 0x98 = 0 ∧ (s.clearLoop n).lw n 0xD0 = 0 ∧ (s.clearLoop n).lw n 0xD4 = 0 := by
  have hlw (o : Nat) : (s.clearLoop n).lw n o = (((s.setLw n 0x98 0).setLw n 0xD0 0).setLw n 0xD4 0).lw n o :=
    State.lw_congr (by simp [State.clearLoop]) n o
  refine ⟨?_, ?_, ?_⟩
  · rw [hlw, State.lw_setLw_beside _ _ _ (by decide), State.lw_setLw_beside _ _ _ (by decide), State.lw_setLw_same]
  · rw [hlw, State.lw_setLw_beside _ _ _ (by decide), State.lw_setLw_same]
  · rw [hlw, State.lw_setLw_same]

theorem loopClear_completes (hr : OctahReady 0x0304 true req s) (hlen : Pkt.length req.packet = 4) (hn : natAt req.pl 0 2 < 1024)
    (hz : natAt req.pl 2 2 = 0) :
    Completes (.loopClear req) s (fun t => t.lw (natAt req.pl 0 2) 0x98 = 0 ∧ t.lw (natAt req.pl 0 2) 0xD0 = 0 ∧
      t.lw (natAt req.pl 0 2) 0xD4 = 0 ∧ t.scan = s.scan) := by
  have hone : natAt req.pl 0 2 ≠ 0xFFFF := by omega
  refine completes_of_row rfl hr (by simp [hlen]) rfl (firstBad_eq_none (by simp [hn, zeroAt_of_eq hz])) rfl ?_
  dsimp only
  rw [if_neg hone]
  generalize natAt req.pl 0 2 = n
  obtain ⟨-, hscan, -⟩ := s.taken_keeps 0x0304 true req
  obtain ⟨hflags, hovf, hbad⟩ := ((s.taken 0x0304 true req).opStart req.tag).lw_clearLoop n
  have hlw (o : Nat) : ((((s.taken 0x0304 true req).opStart req.tag).clearLoop n).opOk req.tag []).lw n o =
      (((s.taken 0x0304 true req).opStart req.tag).clearLoop n).lw n o := State.lw_congr (by simp) n o
  exact ⟨(hlw _).trans hflags, (hlw _).trans hovf, (hlw _).trans hbad, by simp [hscan]⟩

end

/-! ### The window (R200) -/

/-- A write to the loop block window that R200 does not refuse is queued, and in a pair noted for the input raft. -/
theorem State.loopWindow_queued {s : State} {a : Nat} {v : Word} (ha : a < 0x40000) (hword : loopWindowWord (a % 256) = true)
    (hok : loopWordOk (a % 256) v = true) (howns : s.owns = true) (hen : s.fld Reg.LOOP_CTRL 0 0 = 1) (hroom : s.loop.winQ.length < 64) :
    s.loopWindow (0x500000 + a) v =
      ({ s with loop := { s.loop with winQ := s.loop.winQ ++ [(a, v)] } } : State).noteWindow (0x500000 + a) v := by
  have hofs : 0x500000 + a - 0x500000 = a := by omega
  unfold State.loopWindow
  dsimp only
  rw [hofs, if_neg (by simp [howns]), if_neg (by simp [ha, hword]), if_neg (by simp [hen]), if_neg (by simp [hok]), if_neg (by omega)]

/-- A word written at an address of the loop block window reaches it, unless the device is held, in power failure or in stump mode. -/
theorem State.putWord_loopWindow {s : State} {path : HostPath} {a : Nat} {v : Word} (ha : a < 0x40000) (halign : a % 4 = 0)
    (hheld : s.boot.held = false) (hpf : s.seam.pf ≠ some .held) (hstump : s.stump = false) :
    s.putWord path (0x500000 + a) v = s.loopWindow (0x500000 + a) v := by
  have hserved : ¬ (s.boot.held = true ∨ s.seam.pf = some .held ∨ 0x1000000 ≤ 0x500000 + a) := by
    rintro (h | h | h)
    · exact Bool.noConfusion (hheld.symm.trans h)
    · exact hpf h
    · omega
  unfold State.putWord State.regWrite State.windowWrite
  rw [if_neg hserved, if_neg (by omega), if_pos (by omega), if_neg (by simp [hstump]), if_neg (by omega),
    if_pos (by omega)]

theorem loopWindowWord_aligned {a : Nat} (h : loopWindowWord (a % 256) = true) : a % 4 = 0 := by
  simp only [loopWindowWord, Bool.and_eq_true, beq_iff_eq] at h
  omega

theorem loopWindowWrite_completes {s : State} (path : HostPath) {a : Nat} {v : Word} (ha : a < 0x40000)
    (hword : loopWindowWord (a % 256) = true) (hok : loopWordOk (a % 256) v = true) (hheld : s.boot.held = false)
    (hpf : s.seam.pf ≠ some .held) (hstump : s.stump = false) (howns : s.owns = true) (hen : s.fld Reg.LOOP_CTRL 0 0 = 1)
    (hroom : s.loop.winQ.length < 64) :
    Completes (.loopWindowWrite path (0x500000 + a) v) s (fun t =>
      t.loop = { s.loop with winQ := s.loop.winQ ++ [(a, v)] } ∧ t = { s with loop := t.loop, pair := t.pair }) := by
  have hexec : exec (.loopWindowWrite path (0x500000 + a) v) s = .next (s.putWord path (0x500000 + a) v) :=
    congrArg Host.Outcome.next (if_pos ⟨by omega, by omega⟩)
  rw [State.putWord_loopWindow ha (loopWindowWord_aligned hword) hheld hpf hstump, State.loopWindow_queued ha hword hok howns hen hroom] at hexec
  refine ⟨_, hexec, by simp, ?_⟩
  unfold State.noteWindow
  split <;> rfl

/-! ### Late loops (R66) -/

theorem bit_eq_testBit (v n : Nat) : bit v n = v.testBit n := by
  rw [Nat.testBit_eq_decide_div_mod_eq]
  rfl

/-- An event's bit of EVT_RAW reads 1 after it (R35). -/
theorem State.bit_evt (s : State) (head : Nat) {n : Nat} (hn : n < 32) : bit ((s.evt head n).rg (Reg.evtRaw head)).toNat n = true := by
  have hlt : 2 ^ n < 2 ^ 32 := Nat.pow_lt_pow_right (by decide) hn
  rw [State.rg_evt, if_pos rfl, bit_eq_testBit, BitVec.toNat_or, Nat.testBit_or, BitVec.toNat_ofNat, Nat.mod_eq_of_lt hlt,
    Nat.testBit_two_pow_self, Bool.or_true]

theorem loopLate_completes {s : State} (h : s.loop.late ≠ []) :
    Completes .loopLate s (fun t => t.loop = { s.loop with late := [] } ∧ t.rg Reg.LOOP_LATE_CNT = satInc (s.rg Reg.LOOP_LATE_CNT) ∧
      bit (t.rg (Reg.evtRaw Head.frame)).toNat 2 = true) := by
  have hexec : exec .loopLate s = .next ({ ((s.incSat Reg.LOOP_LATE_CNT).evt Head.frame 2) with loop := { s.loop with late := [] } }) := by
    refine (if_neg h).trans ?_
    simp
  refine ⟨_, hexec, rfl, ?_, ?_⟩
  · change ((s.incSat Reg.LOOP_LATE_CNT).evt Head.frame 2).rg Reg.LOOP_LATE_CNT = _
    rw [State.rg_evt_other _ _ (by decide), State.rg_incSat, if_pos rfl]
  · change bit (((s.incSat Reg.LOOP_LATE_CNT).evt Head.frame 2).rg (Reg.evtRaw Head.frame)).toNat 2 = true
    exact State.bit_evt _ _ (by decide)

/-- Settles O47: each opcode is a row whose checks the premises meet and whose effect is read off its run; the window write passes
the checks of R200 in their order. -/
theorem loopCommandsComplete : Obligations.LoopCommandsComplete := by
  refine ⟨loopList_reads, fun s req => ⟨loopRead_completes, loopMode_completes, fun o w => loopParamSet_completes, loopClear_completes,
    fun path a v => loopWindowWrite_completes path, loopLate_completes⟩⟩

end Sys2Proof.Machine
end
